-- ==== Sys2Proof/Word.lean ====
section
/-!
DEFINITION. Sys2Proof/Word.lean: the word types of the RZ-6480 and their plainest arithmetic.
Registers are 32 bits wide (R6, the register index), memory is byte addressed and little-endian (R6),
engine data words are 24 bits (R3).  Field values, counts, addresses and times are natural numbers.
-/
namespace Sys2Proof

/-- A register or bus word: 32 bits (chapter 20: "All registers are 32 bits wide"). -/
abbrev Word := BitVec 32

/-- One byte of memory. -/
abbrev Byte := BitVec 8

/-- The native 24-bit word of the sample paths and the engines (R3). -/
abbrev Sample := BitVec 24

/-- An engine accumulator: 56 bits (R3, R292). -/
abbrev Acc := BitVec 56

/-- The unsigned value of bits `[lo + w - 1 : lo]` of a natural number (R6 bit numbering). -/
def bits (v lo w : Nat) : Nat := v / 2 ^ lo % 2 ^ w

/-- Bit `i` of a natural number as a Boolean. -/
def bit (v i : Nat) : Bool := v / 2 ^ i % 2 == 1

/-- 1 for true, 0 for false. -/
def b2n (b : Bool) : Nat := if b then 1 else 0

/-- The two's complement reading of the low `w` bits of `v`. -/
def sext (w v : Nat) : Int :=
  let m := v % 2 ^ w
  if m < 2 ^ (w - 1) then (m : Int) else (m : Int) - (2 ^ w : Nat)

/-- The low `w` bits of an integer in two's complement. -/
def trunc (w : Nat) (x : Int) : Nat := (x % (2 ^ w : Nat)).toNat

/-- `x` limited to `lo … hi`. -/
def clampI (lo hi x : Int) : Int := if x < lo then lo else if hi < x then hi else x

/-- The number of bits set among the low `n` bits of `v`. -/
def popcount : Nat → Nat → Nat
  | 0, _ => 0
  | n + 1, v => v % 2 + popcount n (v / 2)

/-- `v` with bit `i` set. -/
def setBit (v i : Nat) : Nat := if bit v i then v else v + 2 ^ i

/-- `v` with bit `i` cleared. -/
def clrBit (v i : Nat) : Nat := if bit v i then v - 2 ^ i else v

/-- The indices below `n` at which `p` holds, rising. -/
def idxWhere (n : Nat) (p : Nat → Bool) : List Nat := (List.range n).filter p

end Sys2Proof
 
end

