-- ==== Sys2Proof/Syntax.lean ====
section
/-!
DEFINITION. Sys2Proof/Syntax.lean: the commands of the RZ-6480, one constructor of `Instr` per row of
spec/opcode_table.json, and the operand types they carry.  The table gives no bits, so the operands are what the
rules of spec/ give each step: the unit it concerns, the value written, and the facts of the outside world
(analogue results, arriving packets, regulator answers) that the rule decides on.
-/
namespace Sys2Proof

/-- Fabric initiators (R323) with the service port and JTAG (R477, R478) and the boot ROM (R444). -/
inductive Initiator where
  | lanternM | lanternU | engine (n : Fin 16) | dma | link (p : Fin 4) | svc | jtag | rom
  deriving DecidableEq, Repr

/-- The kind of a fabric access (R327). -/
inductive AccKind where
  | read | write | fetch
  deriving DecidableEq, Repr

/-- Who reads a register, with its own holding register: an initiator or a DMA channel (R398). -/
inductive Reader where
  | ini (i : Initiator) | dma (c : Fin 32)
  deriving DecidableEq, Repr

/-- The functions a GPIO ball can carry (R54). -/
inductive GpioFunc where
  | pa | lna | tr
  deriving DecidableEq, Repr

/-- How a calibration step came out (R63). -/
inductive CalResult where
  | pass | outside
  deriving DecidableEq, Repr

/-- What reaches the sample datapaths from outside in one tick: eight quantiser pairs of receive paths (levels −7 to +7, R76,
R77; a path not named takes zeros), four samples of observation receivers in Q1.15 after their down-converter, oldest
first (R163, R166; one not named takes zeros), the layers whose buffer word cannot be corrected (R472), and the mismatches that
pattern checkers find (R283). -/
structure TickIn where
  adc : List (Fin 64 × List (Int × Int)) := []
  obs : List (Fin 8 × List (Int × Int)) := []
  bad : List (Fin 512) := []
  errors : List (Fin 16 × Nat) := []
  deriving DecidableEq, Repr

/-- Why a capture is discarded (R167). -/
inductive DiscardCause where
  | beam | zs | lo | clip | align
  deriving DecidableEq, Repr

/-- A clock source with a lock bit: the three PLLs, the lane PLL of a port, an LO synthesiser (R380, R400). -/
inductive Pll where
  | ref | sys | core | lane (p : Fin 4) | lo (m : Fin 4)
  deriving DecidableEq, Repr

/-- How a bring-up stage ends (R271): stages 1 to 5 of a receive lane, then stages 6 and 7 of a lane. -/
inductive StageEnd where
  | idleExit | cdr | comma
  | polarity (inverted : Bool)
  | laneId (k : Fin 4) (width rate : Fin 4)
  | deskew (skew : Fin 4096)
  | eq
  deriving DecidableEq, Repr

/-- Causes 1 to 4 of R278, which the receiver sees. -/
inductive DownCause where
  | signal | errors | noSkp | partner
  deriving DecidableEq, Repr

/-- The result of a margin measurement (R285). -/
inductive EyeResult where
  | point (errors : Word)
  | scan (left right up down : Nat)
  deriving DecidableEq, Repr

/-- What the decoding of a bundle tells beyond R299, whose operation encodings the spec does not give: a reserved opcode, a
branch, the registers its operations write (R292: D0–15 as 0–15, A0–3 16–19, P0–7 20–27, B 28–35, L 36–43, M 44–51, LC
52–53, CC 54, WB 55–56, RA 57); and what the fetch and the loads of the bundle meet in memory (R471, R472): words
corrected, a fetch that could not be, a local word that cannot be. Log entry 48 (DESIGN CHOICE). -/
structure BundleInfo where
  reserved : Bool := false
  branch : Bool := false
  writes : List (Fin 58) := []
  corrected : Nat := 0
  fetchBad : Bool := false
  loadBad : Option (Fin 65536) := none
  deriving DecidableEq, Repr

/-- One product of a real multiply slot: accumulator and the two data registers (R302). -/
structure MulTerm where
  acc : Fin 4
  x : Fin 16
  y : Fin 16
  deriving DecidableEq, Repr

/-- Where an operation of the control slot takes a value: a data register, a pointer or an immediate. -/
inductive EVal where
  | d (j : Fin 16) | p (k : Fin 8) | imm (v : BitVec 32)
  deriving DecidableEq, Repr

/-- The addressing modes of R297. -/
inductive AddrMode where
  | ind | off (imm : BitVec 8) | postM | postImm (imm : BitVec 8) | idx (j : Fin 16)
  deriving DecidableEq, Repr

/-- A pointer with its mode. -/
structure Addr where
  p : Fin 8
  mode : AddrMode
  deriving DecidableEq, Repr

/-- The condition flags of BRcc. -/
inductive Cond where
  | neg | zero | carry | over
  deriving DecidableEq, Repr

/-- An image as the ROM finds it in one half of the flash: its words from the start, reads that time out (the header's, the
whole image's; R443), a PLL that does not lock (R442, step 4), and how each poll of its REGWRITE sections comes out
(R452). -/
structure FlashImage where
  words : List Word
  headerLate : Bool := false
  imageLate : Bool := false
  noLock : Bool := false
  polls : List Bool := []
  deriving DecidableEq, Repr

/-- What discovery reads of the flash by JESD216 (R443): the SFDP signature is there, the density in bytes, fast read 1-4-4
offered with its opcode and quad-enable requirement, and a 4-byte addressing method offered. -/
structure FlashPart where
  sfdp : Bool
  density : Nat
  quad : Bool := false
  opcode : Fin 256 := 0xEB
  qer : Fin 8 := 0
  addr4 : Bool := false
  deriving DecidableEq, Repr

/-- The commands: one constructor per row of spec/opcode_table.json, in its order. -/
inductive Instr where
  /-- R15. A write to a register field that has no step of its own is applied field by field according to each field's change class. -/
  | registerWrite (ini : Initiator) (a w : Word)
  /-- R11. A read of an RC register by any initiator returns its value and clears it. -/
  | readClear (rd : Reader) (a : Word)
  /-- R398. A read of the low word of a 64-bit register pair latches the high word of the same instant into the reader's holding register. -/
  | lowWordRead (rd : Reader) (a : Word)
  /-- R398. A holding register that was not read empties 1 µs after its latch. -/
  | holdingRegisterExpire (rd : Reader)
  /-- R507. An access through the RZ-3220 window is translated to its native address and then acts as the native access. -/
  | compatWindowAccess (ini : Initiator) (k : AccKind) (w : Fin 1048576) (data : Word)
  /-- R25. Device time advances by one at each tick of FS_P. -/
  | deviceTimeTick (x : TickIn)
  /-- R31. A write to SYS.TL_CFG[k].EN enables the timeline, or disables it unless a block still follows it, in which case the write is discarded. -/
  | timelineEnableWrite (k : Fin 4) (w : Word)
  /-- R34. The tagged first sample of a symbol reaches a stage, and that stage switches its boundary-class state. -/
  | taggedSampleStage (n : Fin 64) (g : Fin 10)
  /-- R64. At the air boundary at a tile's RF balls, the tile checks bursts, turns halves on and off, and applies automatic return. -/
  | tileBoundary (t : Fin 16)
  /-- R161. At the TX path boundary the datapath does its cluster lookup, blend steps, REF update and pending class B transfers. -/
  | txPathBoundary (n : Fin 64) (bad : Option (Fin 128))
  /-- R86. At the RX path boundary, class B changes such as bank swaps, SKEW and AGC settings land on the tagged sample. -/
  | rxPathBoundary (n : Fin 64)
  /-- R138. At a layer's Prism transmit boundary the shadow entry becomes active, the layer samples are read and the next preload begins. -/
  | prismTxBoundary (f : Fin 512)
  /-- R134. At the Prism receive boundary the layer's new weights apply from its first sample of the symbol. -/
  | prismRxBoundary (f : Fin 512)
  /-- R138. A preload completes and copies the checked entry into the shadow bank. -/
  | preloadComplete (f : Fin 512) (bad : Option (Fin 64))
  /-- R138. 984 ticks before the Prism boundary the shadow bank freezes, and spent ranges retire. -/
  | preloadCutoff (f : Fin 512)
  /-- R42. A write to RFC.LOS_FREQ is refused outside the range or the permitted windows, and otherwise starts a relock. -/
  | loFrequencyWrite (m : Fin 4) (w : Word)
  /-- R43. A write of RFC.LOS_CTRL.EN = 1 with a frequency in effect starts a relock. -/
  | synthEnableWrite (m : Fin 4) (w : Word)
  /-- R41. A relock of oscillator calibration and loop settling completes, and LOCKED reads 1. -/
  | synthLock (m : Fin 4)
  /-- R45. A write of HOP = 1 arms a hop on a synthesiser pair, unless it is discarded for a timeline conflict. -/
  | hopArm (g : Fin 2) (w : Word)
  /-- R45. At the first qualifying boundary the synthesisers of the pair exchange roles. -/
  | hopLand (g : Fin 2)
  /-- R48. A write of RFC.TILE_CTRL.EN = 1 starts the 40 µs OFF to IDLE transition once both conditions hold. -/
  | tileEnable (t : Fin 16) (w : Word)
  /-- R512. A write of EN = 0 takes the tile toward OFF at once, stopping its halves and any foreground run. -/
  | tileDisable (t : Fin 16) (w : Word)
  /-- R48. The OFF to IDLE transition completes. -/
  | tileIdleReached (t : Fin 16)
  /-- R48. The IDLE to OFF transition completes. -/
  | tileOffReached (t : Fin 16)
  /-- R47. A burst request reaches the tile 2,048 ticks before its first boundary, and the TX half enters prep or is refused in CAL. -/
  | burstRequest (t : Fin 16) (len : Nat)
  /-- R47. An RX run request reaches the tile, and the RX half enters prep or the run is blanked in CAL. -/
  | rxRunRequest (t : Fin 16) (len : Nat)
  /-- R48. The converter clock tree to the TX half runs, and the half goes from prep to on. -/
  | txHalfOn (t : Fin 16)
  /-- R48. The driver ramp-down completes, and the TX half goes from stop to off. -/
  | txHalfOff (t : Fin 16)
  /-- R48. The converter clock tree to the RX half runs, and the half goes from prep to on. -/
  | rxHalfOn (t : Fin 16)
  /-- R54. A PA_EN, TR_SW or LNA_EN ball changes at its lead or lag time, with the orders of R55 kept. -/
  | gpioEdge (t : Fin 16) (fn : GpioFunc) (level : Bool)
  /-- R59. A write to RFC.TILE_CAL.REQ requests foreground calibrations. -/
  | calRequest (t : Fin 16) (w : Word)
  /-- R59. A foreground run starts when both halves are off, and the tile enters CAL. -/
  | calStart (t : Fin 16)
  /-- R59. A foreground calibration ends, its REQ bit clears, and the run continues or the tile returns to IDLE. -/
  | calEnd (t : Fin 16) (r : CalResult)
  /-- R62. The tile's background timer starts a pass of the enabled calibrations. -/
  | bgPassTimer (t : Fin 16)
  /-- R62. A 2 µs background calibration step completes in an idle symbol, or yields to a request. -/
  | bgCalStep (t : Fin 16) (r : CalResult)
  /-- R71. The tile's duty count reaches its limit, and TX is forced to zero scale for the rest of the slice. -/
  | dutyLimit (t : Fin 16)
  /-- R71. A 1 ms slice ends, and the ten-slice duty window moves on. -/
  | dutySliceEnd (t : Fin 16)
  /-- R74. A write of FUSE.REG_PROG.GO = 1 blows the named regulatory fuse bit, or is refused with ERR. -/
  | fuseProgram (w : Word)
  /-- R74. Fuse programming ends, BUSY falls, and the blown bit is enforced. -/
  | fuseProgramDone (key : Bool)
  /-- R76. A quantiser held at ±7 for 16 cycles resets its modulator and zeroes 4 ticks of output. -/
  | adcOverload (n : Fin 64) (q : Bool)
  /-- R91. The coarse power exceeds T_HIGH, the attenuation rises by ATTACK_STEP, and a hold starts. -/
  | agcAttack (n : Fin 64)
  /-- R91. The attack hold expires. -/
  | agcHoldEnd (n : Fin 64)
  /-- R89. A fine-power window completes, and PWR_FINE is updated. -/
  | finePowerWindow (n : Fin 64)
  /-- R85. A write to a channel-filter coefficient is discarded for the bank in effect of an enabled path and is applied otherwise. -/
  | cfirCoefWrite (tx : Bool) (n : Fin 64) (b : Fin 2) (ix : Fin 96) (w : Word)
  /-- R84. A write of RXP.CTRL.EN = 1 enables the path, unless it breaks the timeline rule, and computes the alignment. -/
  | rxPathEnable (n : Fin 64) (w : Word)
  /-- R104. A write of TXP.CTRL.EN = 1 enables the path, unless it breaks the timeline rule, and computes the alignment. -/
  | txPathEnable (n : Fin 64) (w : Word)
  /-- R120. A write of TXP.CTRL.EN = 0 forces zero scale within 4 ticks. -/
  | txPathDisable (n : Fin 64) (w : Word)
  /-- R116. The noise shaper overloads, clears its loop, and holds both I and Q at zero scale for 4 ticks. -/
  | nsOverload (n : Fin 64)
  /-- R116. The 4-tick zero scale after a shaper overload ends. -/
  | nsOverloadEnd (n : Fin 64)
  /-- R327. An initiator's access is checked against its firewall regions and then goes to its arbitration point. -/
  | fabricAccess (ini : Initiator) (k : AccKind) (a : Word) (n : Fin 65) (data : Nat) (ecc : Fin 3)
  /-- R324. An arbitration point grants the highest waiting class, or a starved C2 or C3 request. -/
  | fabricGrant (p : Fin 38)
  /-- R136. A section descriptor enters a layer's control queue, or is refused when the queue is full. -/
  | controlRangeAccept (f : Fin 512) (frame : Fin 1024) (sym : Fin 2048) (count : Fin 2048) (entry : Option (Fin 8192))
  /-- R143. A write of PRISM.CORR_COMMIT.GO = 1 or a PRISM target pulse arms a correction commit. -/
  | corrCommitArm (w : Word)
  /-- R143. At the qualifying frame boundary the pending vectors are copied to the active vectors. -/
  | corrCommitLand
  /-- R144. A firmware write to PRISM.CORR_PEND is discarded while a commit is armed. -/
  | corrPendWrite (d : Fin 2) (a : Fin 64) (w : Word)
  /-- R147. A write to PRISM.CFG.EN enables the Prism after the turnaround check, or disables it and lands any armed commit at once. -/
  | prismEnableWrite (w : Word)
  /-- R149. A write of LAYER_CFG.LEN = 1 is admitted only within the Prism capacity. -/
  | layerEnableWrite (f : Fin 512) (w : Word)
  /-- R170. A write of TXP.DPD_UPDATE.GO = 1 hands over the candidate slot, or is refused. -/
  | dpdGo (n : Fin 64) (w : Word)
  /-- R170. The copy of the candidate slot into the staging store completes. -/
  | dpdStagingDone (n : Fin 64)
  /-- R171. At the first qualifying TX path boundary the staged coefficients are blended into the set, and TRIAL is set. -/
  | dpdInstall (n : Fin 64) (bad : Option (Fin 128))
  /-- R172. At the end of the trial symbol the stability monitor accepts the install, or rolls it back at the next boundary. -/
  | dpdTrialVerdict (n : Fin 64)
  /-- R171. No trial symbol occurs by the second frame boundary after the install, and the trial lapses. -/
  | dpdTrialLapse (n : Fin 64)
  /-- R174. A write of 1 to a FROZEN bit unfreezes the set and restarts its rollback count. -/
  | dpdUnfreeze (n : Fin 64) (w : Word)
  /-- R175. After FAIL_LIMIT consecutive failing symbols the path is bypassed from the next boundary. -/
  | dpdBypass (n : Fin 64)
  /-- R175. A write of 1 to BYPASSED ends the bypass at the next TX path boundary. -/
  | dpdBypassEndRequest (n : Fin 64) (w : Word)
  /-- R157. A write to a descriptor table is discarded while the path is enabled. -/
  | dpdDescriptorWrite (n : Fin 64) (ix : Fin 64) (w : Word)
  /-- R159. A write to a set in use, to a held result buffer, or to a candidate slot during staging is discarded. -/
  | dpdSetWrite (a : Fin 262144) (w : Word)
  /-- R179. At the end of a refresh period, pairs in use that had no accepted capture are marked stale. -/
  | dpdRefreshEnd
  /-- R166. An idle observation receiver starts one capture chosen under R177 at a path boundary. -/
  | orxCaptureStart (k : Fin 8)
  /-- R167. A beam, zero-scale, LO, clip or alignment event during the span discards the capture. -/
  | orxCaptureDiscard (k : Fin 8) (c : DiscardCause)
  /-- R168. An accepted capture ends, and its statistics are accumulated. -/
  | orxCaptureEnd (k : Fin 8) (st : Unit)
  /-- R169. The correlator writes its result buffer, marks it held and raises event line 320 + k. -/
  | orxResultWrite (k : Fin 8)
  /-- R177. A write of ORX.REQ.GO = 1 requests one capture of a path. -/
  | orxRequest (k : Fin 8) (w : Word)
  /-- R169. A write of 1 to an ORX.BUF.HELD bit frees the result buffer. -/
  | orxBufferRelease (k : Fin 8) (w : Word)
  /-- R181. A write to MIR.CFG.EN enables Mirror, unless two present elements share a position, or disables it and abandons a running round. -/
  | mirEnableWrite (w : Word)
  /-- R192. A write of MIR.ROUND.START = 1 requests a round. -/
  | mirStartWrite (w : Word)
  /-- R192. At a Mirror boundary after a trigger a round starts and its number increments. -/
  | mirRoundStart
  /-- R185. In a guard symbol one element transmits the probe chirp as a one-symbol burst, and its neighbours receive it. -/
  | mirProbe
  /-- R190. The capture window closes, and each capture is kept or lost. -/
  | mirCaptureWindowEnd (ovl clip : Unit)
  /-- R191. The Mirror correlator writes the records of a probe into the round buffer. -/
  | mirRecordsWrite (vs : Unit)
  /-- R193. The round ends, its header is written, and event line 336 is raised. -/
  | mirRoundEnd
  /-- R196. A write of MIR.SOLVE.GO = 1 hands over a solution, which is refused, rejected, committed or taken as a baseline. -/
  | mirSolveGo (w : Word)
  /-- R197. Once ARMED = 0 the Mirror block writes the result to CORR_PEND and arms the commit. -/
  | mirCommitArm
  /-- R203. A write of FLW.CTRL.REQ = 1 moves the flow to ADMITTING and starts an event epoch. -/
  | admitRequest (f : Fin 512) (w : Word)
  /-- R203. A write of REQ = 2 moves the flow to RELEASING and starts an event epoch. -/
  | releaseRequest (f : Fin 512) (w : Word)
  /-- R203. A write of REQ = 3 suspends the flow and starts an event epoch. -/
  | suspendRequest (f : Fin 512) (w : Word)
  /-- R213. A write of PLC.EPOCH.GO = 1 requests an event epoch, or sets RERUN during a walk. -/
  | epochGo (w : Word)
  /-- R214. At a PLC boundary a frame epoch walks the flows, re-places suspended flows, rebalances and lays out the next frame plan. -/
  | frameEpoch
  /-- R214. An event epoch walk repairs, sheds and admits without rebalancing. -/
  | eventEpoch
  /-- R213. The walk ends, COUNT increments, event line 344 is raised, and a rerun starts if one is set. -/
  | epochWalkEnd
  /-- R211. An admitted flow reaches its start symbol and begins to carry traffic. -/
  | flowStart (f : Fin 512)
  /-- R220. At the effective symbol E a move hands the flow over to its new lanes, port, engine or buffer. -/
  | moveEffective (f : Fin 512)
  /-- R203. The last symbol of a releasing flow is delivered or abandoned, and the flow returns to FREE. -/
  | flowReleaseDone (f : Fin 512)
  /-- R209. A receive symbol's measured latency exceeds LAT_MAX, and the violation is recorded. -/
  | flowLatency (f : Fin 512)
  /-- R224. A write to a word of the selected pattern bank is discarded while placement runs. -/
  | patternWrite (b : Fin 2) (k : Fin 4) (ix : Fin 70) (w : Word)
  /-- R244. An inbound IQ packet is checked and written to the flow buffer inside its receive window. -/
  | iqDataReceive (l : Fin 16) (age : Nat) (ws : List Word)
  /-- R249. A control packet delivers its section descriptors in order to the named flows' control queues. -/
  | realTimeControlReceive (l : Fin 16) (age : Nat) (ws : List Word)
  /-- R250. A BEAM_WRITE packet writes its data into weight memory, or is refused whole. -/
  | beamWriteReceive (l : Fin 16) (age : Nat) (ws : List Word)
  /-- R252. An MGMT_REQ body is written into the request ring, or BUSY is answered when the ring is full. -/
  | mgmtReqReceive (l : Fin 16) (age : Nat) (ws : List Word)
  /-- R260. A received TIME_SYNC is timestamped, and a follower sends a delay Request. -/
  | timeSyncReceive (l : Fin 16) (age : Nat) (ws : List Word)
  /-- R259. A type 5 Request is answered with a Response carrying the receive timestamp. -/
  | delayRequestReceive (l : Fin 16) (age : Nat) (ws : List Word)
  /-- R259. A type 5 Remote Request makes the port send a Request. -/
  | remoteRequestReceive (l : Fin 16) (age : Nat) (ws : List Word)
  /-- R260. A Response within 100 µs gives DELAY and OFFSET, sets VALID and raises event line 352 + p. -/
  | delayResponseReceive (l : Fin 16) (age : Nat) (ws : List Word)
  /-- R262. A packet of an unsupported version, kind, type or direction is refused at check 2. -/
  | unsupportedPacketReceive (l : Fin 16) (age : Nat) (ws : List Word)
  /-- R253. A write of LNK.MGMT_POST.GO = 1 sends the response slot as an MGMT_RSP. -/
  | mgmtPost (p : Fin 4) (w : Word)
  /-- R242. A write of LNK.CAP_POST.GO = 1 sends the first COUNT samples of a capture flow's buffer. -/
  | capturePost (p : Fin 4) (w : Word)
  /-- R260. A write of DM_CTRL.GO = 1 sends a delay Request. -/
  | delayMeasureGo (p : Fin 4) (w : Word)
  /-- R258. A master port sends a TIME_SYNC every SYNC_INT ms. -/
  | timeSyncTimer (p : Fin 4)
  /-- R254. A PLACEMENT_NOTICE copy is sent for a port move of an inbound flow. -/
  | placementNoticeSend (f : Fin 512)
  /-- R255. A port's event moderation timer expires, and EVENT messages with the pending lines are sent. -/
  | eventModTimer (p : Fin 4)
  /-- R247. A receive IQ packet leaves the port once all its samples are in the flow buffer. -/
  | rxIqPacketSend (f : Fin 512) (bad : Option (Fin 1024))
  /-- R264. At a packet boundary an outbound lane picks the next packet by priority and sends it whole. -/
  | packetTransmit (l : Fin 16)
  /-- R271. A write of LNK.CFG.EN = 1 clears pattern testing and starts bring-up on the port's lanes. -/
  | portEnable (p : Fin 4) (w : Word)
  /-- R278. A write of LNK.CFG.EN = 0 takes every lane of the port out of ready with cause 7. -/
  | portDisable (p : Fin 4) (w : Word)
  /-- R271. A lane meets the ending condition of its bring-up stage and enters the next one. -/
  | laneStageEnd (l : Fin 16) (x : StageEnd)
  /-- R277. A bring-up stage exceeds its limit, and the lane holds electrical idle and retries. -/
  | laneTrainFail (l : Fin 16) (rx : Bool)
  /-- R277. The 20 µs electrical-idle hold ends, and the lane returns to stage 1. -/
  | laneIdleHoldEnd (l : Fin 16)
  /-- R276. The READY handshake completes, the lane becomes ready, and event line 360 + l is raised. -/
  | laneReady (l : Fin 16)
  /-- R278. A ready lane leaves ready on one of its causes, and packets in flight are lost. -/
  | laneDown (l : Fin 16) (c : DownCause)
  /-- R278. A write of LANE.CTRL.RETRAIN = 1 returns the lane to stage 1. -/
  | laneRetrain (l : Fin 16) (w : Word)
  /-- R281. A write to LANE.CTRL freezes or resumes the CTLE and DFE, and sets the CTLE value while frozen. -/
  | equaliserFreezeWrite (l : Fin 16) (w : Word)
  /-- R281. A write to a DFE tap sets the value in use only while the DFE is frozen. -/
  | dfeTapWrite (l : Fin 16) (j : Fin 9) (w : Word)
  /-- R282. With the port disabled, setting GEN or CHK starts the pattern generator or checker. -/
  | prbsCtrlWrite (l : Fin 16) (w : Word)
  /-- R283. 64 consecutive bits agree, and the checker locks. -/
  | prbsLock (l : Fin 16)
  /-- R283. 64 mismatches within 1,024 bits drop the checker's lock. -/
  | prbsLockLoss (l : Fin 16)
  /-- R284. A write of LANE.INJECT.ONE = 1 inverts the next transmitted bit. -/
  | injectOne (l : Fin 16) (w : Word)
  /-- R284. One bit is inverted every 2^RATE_LOG2 bits. -/
  | injectRate (l : Fin 16)
  /-- R285. A write of EYE_CTRL.GO = 1 starts a point or scan margin measurement. -/
  | eyeMeasureGo (l : Fin 16) (w : Word)
  /-- R285. A margin measurement completes and writes EYE_POINT or EYE_SCAN. -/
  | eyeMeasureDone (l : Fin 16) (r : EyeResult)
  /-- R287. After LPI_DELAY µs with nothing queued, the transmit direction sends LPI and enters electrical idle. -/
  | lpiEntry (l : Fin 16)
  /-- R287. A received LPI sets RX_LPI, holds the receiver state and suspends causes 1 and 3. -/
  | lpiReceive (l : Fin 16)
  /-- R288. Something queued for a lane in low-power idle wakes its transmit direction. -/
  | lpiWake (l : Fin 16)
  /-- R288. After 10 µs of IDLE the queued packet is sent. -/
  | lpiWakeDone (l : Fin 16)
  /-- R288. The receiver fails to realign after the partner's wake, and the lane leaves ready with cause 6. -/
  | laneWakeFail (l : Fin 16)
  /-- R299. An engine fetches and issues one 64-bit bundle, and raises ILLEGAL_BUNDLE on a collision or reserved opcode. -/
  | bundleIssue (n : Fin 16) (b : BundleInfo)
  /-- R301. An operation's result is written at the end of bundle k + n − 1. -/
  | resultWriteback (n : Fin 16)
  /-- R302. Real multiply into one or two accumulators. -/
  | mpy (n : Fin 16) (sl : Fin 2) (t : MulTerm) (u : Option MulTerm)
  /-- R302. Real multiply-accumulate. -/
  | mac (n : Fin 16) (sl : Fin 2) (t : MulTerm) (u : Option MulTerm)
  /-- R302. Real multiply-subtract. -/
  | msu (n : Fin 16) (sl : Fin 2) (t : MulTerm) (u : Option MulTerm)
  /-- R302. Complex multiply into an accumulator pair. -/
  | cmpy (n : Fin 16) (k : Fin 2) (x y : Fin 8)
  /-- R302. Complex multiply-accumulate. -/
  | cmac (n : Fin 16) (k : Fin 2) (x y : Fin 8)
  /-- R302. Complex multiply-accumulate conjugating the second operand. -/
  | cmacj (n : Fin 16) (k : Fin 2) (x y : Fin 8)
  /-- R302. Clear an accumulator. -/
  | clra (n : Fin 16) (sl : Fin 2) (k : Fin 4)
  /-- R296. Move a data register into an accumulator, shifted left 23 places. -/
  | movda (n : Fin 16) (sl : Fin 2) (k : Fin 4) (j : Fin 16)
  /-- R302. Accumulator add. -/
  | adda (n : Fin 16) (sl : Fin 2) (k j : Fin 4)
  /-- R302. Accumulator subtract. -/
  | suba (n : Fin 16) (sl : Fin 2) (k j : Fin 4)
  /-- R302. Accumulator negate. -/
  | nega (n : Fin 16) (sl : Fin 2) (k : Fin 4)
  /-- R302. Accumulator shift by −32 to +31. -/
  | sha (n : Fin 16) (sl : Fin 2) (k : Fin 4) (sh : BitVec 6)
  /-- R294. Load a 24-bit value from a 32-bit container. -/
  | ld (n : Fin 16) (j : Fin 16) (a : Addr)
  /-- R294. Load a 16-bit value into bits [23:8]. -/
  | ldh (n : Fin 16) (j : Fin 16) (a : Addr)
  /-- R294. Load two words. -/
  | ld2 (n : Fin 16) (k : Fin 8) (a : Addr)
  /-- R294. Load one packed 6-byte complex sample. -/
  | ldk (n : Fin 16) (k : Fin 8) (a : Addr)
  /-- R297. Dual load through one pointer from each half. -/
  | ldx (n : Fin 16) (k l : Fin 8) (a b : Addr)
  /-- R302. Local load of the LDP form. -/
  | ldp (n : Fin 16) (k : Fin 8) (a : Addr)
  /-- R302. The data of a window load arrive, and the stalled engine continues. -/
  | windowLoadData (n : Fin 16) (ecc : Fin 3)
  /-- R294. Store a sign-extended 24-bit value. -/
  | st (n : Fin 16) (j : Fin 16) (a : Addr)
  /-- R294. Store bits [23:8] rounded and saturated to 16 bits. -/
  | sth (n : Fin 16) (j : Fin 16) (a : Addr)
  /-- R294. Store two words. -/
  | st2 (n : Fin 16) (k : Fin 8) (a : Addr)
  /-- R294. Store one packed complex sample. -/
  | stk (n : Fin 16) (k : Fin 8) (a : Addr)
  /-- R296. Store an accumulator scaled, rounded and saturated. -/
  | sta (n : Fin 16) (k : Fin 4) (a : Addr)
  /-- R302. Register move. -/
  | movOp (n : Fin 16) (j a : Fin 16)
  /-- R302. Register add. -/
  | addOp (n : Fin 16) (j a b : Fin 16)
  /-- R302. Register subtract. -/
  | subOp (n : Fin 16) (j a b : Fin 16)
  /-- R302. Saturating register add. -/
  | adds (n : Fin 16) (j a b : Fin 16)
  /-- R302. Bitwise and. -/
  | andOp (n : Fin 16) (j a b : Fin 16)
  /-- R302. Bitwise or. -/
  | orOp (n : Fin 16) (j a b : Fin 16)
  /-- R302. Bitwise exclusive or. -/
  | xorOp (n : Fin 16) (j a b : Fin 16)
  /-- R302. Shift left. -/
  | shl (n : Fin 16) (j a : Fin 16) (k : EVal)
  /-- R302. Shift right. -/
  | shr (n : Fin 16) (j a : Fin 16) (k : EVal)
  /-- R302. Compare and set N, Z, C and V. -/
  | cmp (n : Fin 16) (a b : Fin 16)
  /-- R296. Count the redundant sign bits of an accumulator above bit 46. -/
  | normOp (n : Fin 16) (j : Fin 16) (k : Fin 4)
  /-- R299. Move an immediate, in the LONG form. -/
  | movi (n : Fin 16) (j : Fin 16) (v : BitVec 24)
  /-- R296. Move an accumulator to a data register, scaled and saturated. -/
  | mva (n : Fin 16) (j : Fin 16) (k : Fin 4)
  /-- R302. Pointer move. -/
  | movp (n : Fin 16) (k : Fin 8) (v : EVal)
  /-- R298. Set the circular base of a pointer. -/
  | setb (n : Fin 16) (k : Fin 8) (v : EVal)
  /-- R298. Set the circular length of a pointer. -/
  | setl (n : Fin 16) (k : Fin 8) (v : EVal)
  /-- R297. Set the modifier of a pointer. -/
  | setm (n : Fin 16) (k : Fin 8) (v : EVal)
  /-- R293. Write CC fields [31:15] and clear the sticky flags. -/
  | setcc (n : Fin 16) (v : EVal)
  /-- R290. Set a window base. -/
  | setwin (n : Fin 16) (w : Fin 2) (v : EVal)
  /-- R305. Branch after two delay slots. -/
  | br (n : Fin 16) (t : Fin 65536)
  /-- R305. Conditional branch on N, Z, C or V. -/
  | brcc (n : Fin 16) (c : Cond) (want : Bool) (t : Fin 65536)
  /-- R305. Branch and write the return index to RA. -/
  | call (n : Fin 16) (t : Fin 65536)
  /-- R305. Branch to RA. -/
  | retOp (n : Fin 16)
  /-- R306. Start a zero-overhead loop on LC0 or LC1, or fault with LOOP_NEST. -/
  | loopOp (n : Fin 16)
  /-- R311. Stall until every earlier store has retired and been acknowledged. -/
  | fence (n : Fin 16)
  /-- R316. Drain, then write the step to the checkpoint word. -/
  | ckpt (n : Fin 16) (step : Fin 256)
  /-- R316. Drain, then end the job and set STATE to DONE. -/
  | jobend (n : Fin 16)
  /-- R319. Raise event line 400 + n. -/
  | sig (n : Fin 16)
  /-- R357. The engine claims its highest-priority deliverable line. -/
  | claimOp (n : Fin 16) (j : Fin 16)
  /-- R358. The engine ends the service of a line. -/
  | complete (n : Fin 16) (j : Fin 16)
  /-- R309. Wait for shadow results, then return to the main set. -/
  | reti (n : Fin 16)
  /-- R310. The write buffer retires a store in issue order. -/
  | storeRetire (n : Fin 16)
  /-- R311. Every store before a FENCE, CKPT or JOBEND is acknowledged, and the stalled engine continues. -/
  | drainComplete (n : Fin 16)
  /-- R307. A pending event is taken at a bundle boundary, and the engine switches to the shadow set. -/
  | engineEventEntry (n : Fin 16)
  /-- R314. A flow job falls due at its trigger and joins the engine's queue, or is aborted when the queue is full or the engine stopped. -/
  | flowJobDue (f : Fin 512)
  /-- R318. A write of SEn.POST.GO = 1 queues a host job, or is discarded when the queue is full. -/
  | hostJobPost (n : Fin 16) (w : Word)
  /-- R313. An idle engine starts its next queued job with its initial registers. -/
  | jobStart (n : Fin 16)
  /-- R317. A flow job exceeding its watchdog is aborted. -/
  | jobWatchdog (n : Fin 16)
  /-- R317. A write of SEn.CTRL.ABORT = 1 aborts the running job. -/
  | engineAbort (n : Fin 16) (w : Word)
  /-- R319. An error response to a window store arrives and stops the engine with BUS_ERROR. -/
  | storeErrorResponse (n : Fin 16)
  /-- R319. A write of 1 to STATUS.FAULTED restarts the engine with its next queued job. -/
  | engineRestart (n : Fin 16) (w : Word)
  /-- R325. A Lantern FENCE completes when every earlier access has been acknowledged. -/
  | lanternFence
  /-- R332. Write back the dirty lines of a range. -/
  | dclean (a : Word) (n : Fin 1048576)
  /-- R332. Discard the lines of a range. -/
  | dinv (a : Word) (n : Fin 1048576)
  /-- R332. Clean, then invalidate the lines of a range. -/
  | dflush (a : Word) (n : Fin 1048576)
  /-- R332. Clean every data-cache line. -/
  | dcleanAll
  /-- R332. Flush every data-cache line. -/
  | dflushAll
  /-- R332. Invalidate every instruction-cache line. -/
  | icinvAll
  /-- R330. A write to FAB.PROXY by LANTERN_M sets proxy checking; a write by any other initiator is denied. -/
  | proxyWrite (ini : Initiator) (w : Word)
  /-- R339. An MRAM read returns data, corrected or with an error response. -/
  | mramRead (ecc : Fin 3)
  /-- R336. An MRAM write is merged into its word and acknowledged once in the array. -/
  | mramWrite
  /-- R337. A worn page is copied to a spare and remapped, and the move completes. -/
  | mramPageMove
  /-- R340. A doorbell write joins the channel queue, or is dropped when the queue is full. -/
  | dmaDoorbell (c : Fin 32) (w : Word)
  /-- R343. An idle channel reads and checks its next descriptor and starts the transfer. -/
  | dmaDescriptorStart (c : Fin 32) (bad : Bool)
  /-- R347. The data writes are acknowledged, W7 is written, the completion line is pulsed and the next descriptor is taken. -/
  | dmaDescriptorEnd (c : Fin 32)
  /-- R349. An error stops the channel inside its descriptor and is recorded. -/
  | dmaError (c : Fin 32) (bad : Option Nat)
  /-- R348. A write of CH_CTRL.STOP = 1 stops the channel at its descriptor boundary. -/
  | dmaStop (c : Fin 32) (w : Word)
  /-- R348. A write of CH_CTRL.RESUME = 1 restarts a stopped channel. -/
  | dmaResume (c : Fin 32) (w : Word)
  /-- R350. A channel still busy 50 µs after a quiesce request refuses the power-down with DMA_ACTIVE. -/
  | dmaQuiesceTimeout
  /-- R353. A pulse source sets its line's pending bit in every target for which the line is enabled. -/
  | eventPulse (l : Fin 1024)
  /-- R353. A level source asserts and sets its pending bits. -/
  | eventLevelAssert (l : Fin 1024)
  /-- R511. A level source de-asserts, which re-arms the non-claiming targets. -/
  | eventLevelDeassert (l : Fin 1024)
  /-- R353. A write to EVC.EN enables lines and sets pending bits for asserted level sources. -/
  | eventEnableWrite (t : Fin 23) (wd : Fin 32) (w : Word)
  /-- R355. A target's moderation timer expires, and presentation begins. -/
  | moderationTimerExpiry (t : Fin 17)
  /-- R357. A Lantern read of EVC.CLAIM returns and claims the best deliverable line, or 1023. -/
  | eventClaim
  /-- R358. A write to EVC.COMPLETE ends a line's service and resamples a level source. -/
  | eventComplete (w : Word)
  /-- R360. A write to EVC.CTRL.GDIS holds or releases presentation. -/
  | gdisWrite (w : Word)
  /-- R361. A write to EVC.SWSET pulses a software line. -/
  | softwareLineSet (w : Word)
  /-- R363. A write to EVC.ALERT_CLR clears a line in the ALERT target. -/
  | alertClear (w : Word)
  /-- R372. A write of HKA.CTRL.EN = 1 enables the converter and runs a calibration first. -/
  | hkEnable (k : Fin 2) (w : Word)
  /-- R368. A software regular trigger starts a pass, or is dropped as an overrun. -/
  | seqGo (k : Fin 2) (w : Word)
  /-- R368. The timer or the delay after a PWM edge gives a regular trigger. -/
  | hkTriggerTimer (k : Fin 2)
  /-- R370. An injected trigger occupies the slot and starts, abandoning a regular conversion, or is dropped. -/
  | injGo (k : Fin 2) (w : Word)
  /-- R370. The delay after a PWM edge gives an injected trigger. -/
  | hkInjTriggerTimer (k : Fin 2)
  /-- R367. A regular conversion completes and writes its RESULT; at the last entry the pass ends. -/
  | conversionComplete (k : Fin 2) (c1 : Fin 4096) (c2 : Fin 4096)
  /-- R370. An injected conversion or cross-check completes and writes INJ_RESULT. -/
  | injectedComplete (k : Fin 2) (c1 : Fin 4096) (c2 : Fin 4096) (other : Fin 4096)
  /-- R372. A write of HKA.CTRL.CAL_GO = 1 requests a converter calibration. -/
  | calGo (k : Fin 2) (w : Word)
  /-- R372. A calibration falls due every PERIOD_MS ms. -/
  | hkCalTimer (k : Fin 2)
  /-- R373. A converter calibration ends and keeps or replaces its trims. -/
  | hkCalEnd (k : Fin 2) (ok : Bool)
  /-- R378. A PWM generator's output changes level at a count. -/
  | pwmEdge (n : Fin 8)
  /-- R378. A PWM period ends, PERIOD and DUTY are loaded, and event line 32 + n is pulsed. -/
  | pwmPeriodEnd (n : Fin 8)
  /-- R381. A write of CLK.CFG.PLL_EN = 1 starts the PLLs. -/
  | pllStart (w : Word)
  /-- R381. A PLL locks, and the logic clocks move to it. -/
  | pllLock (u : Pll)
  /-- R388. A SYNC_IN edge is captured and gives a one-shot load or a discipline measurement. -/
  | syncEdge (rising : Bool) (frac : Fin 64)
  /-- R388. An expected edge passes WIN ticks without an edge. -/
  | syncMissed
  /-- R390. The discipline moves the phase of PLL_REF by 1/1,024 tick. -/
  | slewStep
  /-- R393. HOLD_MS ms pass without a measurement, and the discipline enters HOLDOVER. -/
  | holdover
  /-- R396. A write to CLK.CLKOUT_CFG takes effect at the next falling edge of the output. -/
  | clkoutCfgWrite (w : Word)
  /-- R407. A write to PWR.MODE is discarded when no armed wake source acts in that state. -/
  | powerModeWrite (w : Word)
  /-- R409. Lantern's WFI waits, enters Dim, or starts the Dusk or Dark entry checks. -/
  | wfi
  /-- R411. At the point of no return the core domain switches open, and the device is in Dusk or Dark. -/
  | powerSwitchesOpen
  /-- R411. An armed wake source is latched, and either aborts an entry or starts a wake. -/
  | wakeEvent (src : Fin 6)
  /-- R422. The wake steps finish, banks are restored, and Lantern starts at PWR.RESUME. -/
  | wakeComplete (bad : Fin 65536)
  /-- R424. A wake step exceeds its limit, and the sequencer retries or returns to Dark. -/
  | wakeStepTimeout (step : Fin 8)
  /-- R418. A write of 1 to WAKE_STATUS.HOLD ends the hold on the restored enables. -/
  | holdRelease (w : Word)
  /-- R424. A write of 1 to WAKE_FAIL_SEEN releases ALERT_N. -/
  | wakeFailAck (w : Word)
  /-- R420. PWR.TIMER reaches TIMER_CMP, raising wake source 0 and line 10. -/
  | pwrTimerMatch
  /-- R429. A write of PWR.PERF.REQ starts a change of performance level, or is refused. -/
  | perfLevelRequest (w : Word)
  /-- R429. The regulator reports its target reached, and the level change or loop step continues. -/
  | avsTargetReached
  /-- R429. A regulator that has not reported within 4 ms ends the change and records AVS_BUS_ERROR. -/
  | avsTimeout
  /-- R430. An AVSBus frame fails three times. -/
  | avsBusError (rail : Fin 16)
  /-- R431. At each loop interval VDD_CORE is raised, lowered or held from the monitor slack. -/
  | avsLoopInterval (m : Fin 64)
  /-- R495. VDD_AO crosses its threshold, which asserts or releases the power-on reset. -/
  | powerOnReset (release : Bool)
  /-- R439. RESET_N held low resets the whole device. -/
  | pinReset (release : Bool)
  /-- R438. A write to SYS.RESET_CTRL with KEY = 0xA5 and WHOLE = 1 resets the whole device. -/
  | softwareReset (w : Word)
  /-- R442. After reset release the boot ROM discovers the flash, checks and applies an image, and seals. -/
  | bootSequence (sel : Fin 4) (found : Bool) (flash : FlashPart) (a b : FlashImage)
  /-- R454. A write of 1 to SYS.SEAL.SEAL seals the device. -/
  | sealWrite (w : Word)
  /-- R455. SEAL_MS ms after a deferred-seal jump the device sets the seal itself. -/
  | sealForced
  /-- R458. The ROM routine RELOAD re-reads the booted image and restores what Dark lost. -/
  | reload (x : FlashImage)
  /-- R461. A write of FUSE.KEY_PROG.GO = 1 blows a key fuse bit, or is refused. -/
  | keyFuseProgram (w : Word)
  /-- R465. A write of an entry's SEQ to FLT.ACK removes the entry. -/
  | ledgerAck (w : Word)
  /-- R474. A write of FLT.DOM_RESET.GO = 1 makes one domain absent and resets it. -/
  | domainReset (w : Word) (ini : Initiator)
  /-- R474. A domain reset ends, and the domain is present again. -/
  | domainResetDone (d : Fin 21)
  /-- R476. Service-port command 0x03 reads words into the read buffer. -/
  | readReq (a : Word) (n : Fin 64)
  /-- R476. Service-port command 0x0B returns the status byte and the buffered words. -/
  | readData
  /-- R477. Service-port command 0x02 writes words, subject to the seal rules. -/
  | svcWrite (a : Word) (ws : List Word)
  /-- R476. Service-port command 0x05 returns the status byte. -/
  | svcStatus
  /-- R476. An unknown service-port command sets RESULT to BAD_COMMAND. -/
  | svcBadCommand
  /-- R476. A service-port word access completes, and BUSY clears after the last word. -/
  | svcWordDone (ecc : Fin 3)
  /-- R478. A JTAG access reaches registers and memory under the service-port rules as initiator 24. -/
  | jtagAccess (wr : Bool) (a w : Word) (ecc : Fin 3)
  /-- R478. The boundary-scan instruction EXTEST, accepted only while boot is halted or failed. -/
  | extest
  /-- R478. The boundary-scan instruction CLAMP, accepted only while boot is halted or failed. -/
  | clamp
  /-- R478. A write to FLT.MBOX_DOOR pulses the mailbox software line. -/
  | mailboxDoor (w : Word)
  /-- R480. A write of PTB.CTRL.EN = 1 with KEY = 0x3C loads the seed and enables the injectors. -/
  | ptbEnable (w : Word)
  /-- R480. A write of PTB.CTRL.EN = 0 stops every injector. -/
  | ptbDisable (w : Word)
  /-- R482. A back-pressure hold starts at the beginning of each period. -/
  | bpHoldStart (b : Fin 4)
  /-- R482. A back-pressure hold ends, and the held packets are released. -/
  | bpHoldEnd (b : Fin 4)
  /-- R287. The receive direction of a ready lane leaves low-power idle when the partner wakes: RX_LPI clears, the held receiver relocks, causes 1 and 3 of R278 resume, and the LINK_RX wake source acts. -/
  | rxLpiExit (l : Fin 16)
  /-- R409. A Dusk or Dark entry is refused with LINK_ACTIVE when a port's lanes have not reached transmit low-power idle, or its outbound queue has not emptied, within 20 µs. -/
  | linkIdleTimeout
  /-- R408. An entry to Dim, Dusk or Dark is refused with BUS_BUSY when Lantern or a core block does not acknowledge bus idle within 256 cycles of its clock. -/
  | busIdleTimeout (b : Fin 256)
  /-- R260. When 100 µs pass after a delay Request with no Response, the port stops awaiting it, so that DM_CTRL.BUSY can be left and any later Response is discarded. -/
  | delayResponseTimeout (p : Fin 4)
  /-- R267. A received character that is not a valid code group, or is a control character other than K28.5 or K28.1, increments LANE[l].ERR.CHAR_ERR. -/
  | characterError (l : Fin 16)
  /-- R400. A PLL or LO synthesiser loses lock, its lock bit falls, and only the burst check of R64 and the capture discard of R167 act on it. -/
  | pllLockLoss (u : Pll)
  /-- R401. REFCLK stops or leaves its limits, every PLL drifts, and every block outside the always-on domain may stop or misbehave, undetected by the device. -/
  | refclkLoss
  /-- R402. The 32.768 kHz crystal stops, every CLK_AO function stops, and a device in Dim, Dusk or Dark can no longer wake except through RESET_N. -/
  | crystalStop
  deriving DecidableEq, Repr

end Sys2Proof
end

