-- ==== Sys2Proof/Decode.lean ====
section
/-!
DEFINITION. Sys2Proof/Decode.lean: the command a word spells by the table's bits.
No row of spec/opcode_table.json carries bits: the block's commands come from outside as they are, and no word spells
one.
-/
namespace Sys2Proof

/-- The command a word spells by the table's bits: none, as the table gives no row any bits. -/
def decodeTableWord (_nbits _w : Nat) : Option Instr := none

end Sys2Proof
end

