-- ==== Sys2Proof/Machine/Crypto.lean ====
section
/-!
DEFINITION. Sys2Proof/Machine/Crypto.lean: the digest and the signature check of R449.  The spec names SHA-256 and ECDSA
P-256 and does not spell them out: both are written here from general knowledge (PRESUMED, log entry 70).
-/
namespace Sys2Proof.Machine

/-! ### SHA-256 -/

/-- The round constants: the first 32 fraction bits of the cube roots of the first 64 primes. -/
def shaK : List Nat := [
  0x428A2F98, 0x71374491, 0xB5C0FBCF, 0xE9B5DBA5, 0x3956C25B, 0x59F111F1, 0x923F82A4, 0xAB1C5ED5,
  0xD807AA98, 0x12835B01, 0x243185BE, 0x550C7DC3, 0x72BE5D74, 0x80DEB1FE, 0x9BDC06A7, 0xC19BF174,
  0xE49B69C1, 0xEFBE4786, 0x0FC19DC6, 0x240CA1CC, 0x2DE92C6F, 0x4A7484AA, 0x5CB0A9DC, 0x76F988DA,
  0x983E5152, 0xA831C66D, 0xB00327C8, 0xBF597FC7, 0xC6E00BF3, 0xD5A79147, 0x06CA6351, 0x14292967,
  0x27B70A85, 0x2E1B2138, 0x4D2C6DFC, 0x53380D13, 0x650A7354, 0x766A0ABB, 0x81C2C92E, 0x92722C85,
  0xA2BFE8A1, 0xA81A664B, 0xC24B8B70, 0xC76C51A3, 0xD192E819, 0xD6990624, 0xF40E3585, 0x106AA070,
  0x19A4C116, 0x1E376C08, 0x2748774C, 0x34B0BCB5, 0x391C0CB3, 0x4ED8AA4A, 0x5B9CCA4F, 0x682E6FF3,
  0x748F82EE, 0x78A5636F, 0x84C87814, 0x8CC70208, 0x90BEFFFA, 0xA4506CEB, 0xBEF9A3F7, 0xC67178F2]

/-- The first chaining value: the first 32 fraction bits of the square roots of the first eight primes. -/
def shaInit : List Nat := [0x6A09E667, 0xBB67AE85, 0x3C6EF372, 0xA54FF53A,
  0x510E527F, 0x9B05688C, 0x1F83D9AB, 0x5BE0CD19]

/-- A 32-bit word rotated right. -/
def rotr (x n : Nat) : Nat := (x / 2 ^ n + x * 2 ^ (32 - n)) % 2 ^ 32

/-- One round: `w` is the window of the sixteen message words from this round's on, `v` the eight working words. -/
def shaRound (st : List Nat × List Nat) (k : Nat) : List Nat × List Nat :=
  let (w, v) := st
  let x (i : Nat) : Nat := v.getD i 0
  let y (i : Nat) : Nat := w.getD i 0
  let ch := Nat.xor (Nat.land (x 4) (x 5)) (Nat.land (2 ^ 32 - 1 - x 4) (x 6))
  let maj := Nat.xor (Nat.xor (Nat.land (x 0) (x 1)) (Nat.land (x 0) (x 2))) (Nat.land (x 1) (x 2))
  let t1 := x 7 + Nat.xor (Nat.xor (rotr (x 4) 6) (rotr (x 4) 11)) (rotr (x 4) 25) + ch + k + y 0
  let t2 := Nat.xor (Nat.xor (rotr (x 0) 2) (rotr (x 0) 13)) (rotr (x 0) 22) + maj
  let s0 := Nat.xor (Nat.xor (rotr (y 1) 7) (rotr (y 1) 18)) (y 1 / 2 ^ 3)
  let s1 := Nat.xor (Nat.xor (rotr (y 14) 17) (rotr (y 14) 19)) (y 14 / 2 ^ 10)
  (w.drop 1 ++ [(s1 + y 9 + s0 + y 0) % 2 ^ 32],
    [(t1 + t2) % 2 ^ 32, x 0, x 1, x 2, (x 3 + t1) % 2 ^ 32, x 4, x 5, x 6])

/-- One block of sixteen words into the chaining value. -/
def shaBlock (h w : List Nat) : List Nat :=
  List.zipWith (fun a b => (a + b) % 2 ^ 32) h (shaK.foldl shaRound (w, h)).2

/-- `n` blocks of a list of words. -/
def shaBlocks : Nat → List Nat → List Nat → List Nat
  | 0, h, _ => h
  | n + 1, h, ws => shaBlocks n (shaBlock h (ws.take 16)) (ws.drop 16)

/-- A number from its bytes, the first the most significant. -/
def beNum (l : List Byte) : Nat := l.foldl (fun a b => a * 256 + b.toNat) 0

/-- The big-endian words of `n` groups of four bytes. -/
def beWords : Nat → List Byte → List Nat
  | 0, _ => []
  | n + 1, l => beNum (l.take 4) :: beWords n (l.drop 4)

/-- The message with its padding: a one bit, zeros, and the length in bits as 64 bits. -/
def shaPad (m : List Byte) : List Byte :=
  m ++ [0x80] ++ List.replicate ((119 - m.length % 64) % 64) 0 ++
    (List.range 8).map (fun i => BitVec.ofNat 8 (8 * m.length / 256 ^ (7 - i)))

/-- The SHA-256 digest as a number, its first byte the most significant. Log entry 70 (PRESUMED). -/
def sha256 (m : List Byte) : Nat :=
  let p := shaPad m
  (shaBlocks (p.length / 64) shaInit (beWords (p.length / 4) p)).foldl (fun a w => a * 2 ^ 32 + w) 0

/-! ### ECDSA P-256 -/

def p256P : Nat := 2 ^ 256 - 2 ^ 224 + 2 ^ 192 + 2 ^ 96 - 1
def p256B : Nat := 0x5AC635D8AA3A93E7B3EBBD55769886BC651D06B0CC53B0F63BCE3C3E27D2604B
def p256N : Nat := 0xFFFFFFFF00000000FFFFFFFFFFFFFFFFBCE6FAADA7179E84F3B9CAC2FC632551
def p256G : Nat × Nat :=
  (0x6B17D1F2E12C4247F8BCE6E563A440F277037D812DEB33A0F4A13945D898C296,
    0x4FE342E2FE1A7F9B8EE7EB4A7C0F9E162BCE33576B315ECECBB6406837BF51F5)

/-- `x ^ e` modulo `m`, for exponents of up to `k` bits. -/
def powMod (m : Nat) : Nat → Nat → Nat → Nat
  | 0, _, _ => 1 % m
  | k + 1, x, e => (if e % 2 = 1 then x else 1) * powMod m k (x * x % m) (e / 2) % m

/-- The inverse modulo a prime. -/
def invMod (m x : Nat) : Nat := powMod m 256 (x % m) (m - 2)

/-- The third point of a line of slope `l` through `a` and a point at `x2`, reflected. -/
def p256Line (l : Nat) (a : Nat × Nat) (x2 : Nat) : Nat × Nat :=
  let x3 := (l * l + 2 * p256P - a.1 - x2) % p256P
  (x3, (l * (a.1 + p256P - x3) + p256P - a.2) % p256P)

/-- The sum of two points; none is the point at infinity. Log entry 70 (PRESUMED). -/
def p256Add (a b : Option (Nat × Nat)) : Option (Nat × Nat) :=
  match a, b with
  | none, q => q
  | q, none => q
  | some p, some q =>
    if p.1 = q.1 then
      if (p.2 + q.2) % p256P = 0 then none
      else some (p256Line ((3 * p.1 * p.1 + p256P - 3) * invMod p256P (2 * p.2) % p256P) p p.1)
    else some (p256Line ((q.2 + p256P - p.2) * invMod p256P (q.1 + p256P - p.1) % p256P) p q.1)

/-- The multiple `e` of a point, for `e` of up to `k` bits. -/
def p256Mul : Nat → Nat → Option (Nat × Nat) → Option (Nat × Nat)
  | 0, _, _ => none
  | k + 1, e, q =>
    let r := p256Mul k (e / 2) (p256Add q q)
    if e % 2 = 1 then p256Add r q else r

/-- A point of the curve. -/
def p256On (q : Nat × Nat) : Bool :=
  decide (q.1 < p256P) && decide (q.2 < p256P) &&
    q.2 * q.2 % p256P == (q.1 * q.1 * q.1 + (p256P - 3) * q.1 + p256B) % p256P

/-- The signature of a digest verifies with a public key: both are pairs of 256-bit numbers, most significant byte first.
Log entry 70 (PRESUMED). -/
def ecdsaOk (key : List Byte) (digest : Nat) (sig : List Byte) : Bool :=
  let q := (beNum (key.take 32), beNum (key.drop 32))
  let r := beNum (sig.take 32)
  let w := invMod p256N (beNum (sig.drop 32))
  p256On q && decide (0 < r ∧ r < p256N) && decide (0 < beNum (sig.drop 32) ∧ beNum (sig.drop 32) < p256N) &&
    (match p256Add (p256Mul 256 (digest * w % p256N) (some p256G)) (p256Mul 256 (r * w % p256N) (some q)) with
    | some v => v.1 % p256N == r
    | none => false)

end Sys2Proof.Machine
end

