-- ==== Sys2Proof/Config.lean ====
section
/-!
DEFINITION. Sys2Proof/Config.lean: the values the spec leaves open, as constants without a body.
Nothing in Lean can evaluate one or prove a value of it: a statement holds whatever they are.  Each takes the
model's free counter (a fresh argument at each use) and the operands it depends on.
-/
namespace Sys2Proof.Config

/-- A field value the spec calls undefined (R401, R385, R412); also bytes of the boot ROM by address.
Log entry 81 (DESIGN CHOICE). -/
opaque freeField : Nat → Nat → Nat

/-- The contents of the boot ROM, which the spec does not give, by address. Log entry 63 (DESIGN CHOICE). -/
opaque romByte : Nat → Byte

/-- The error, in units of the last place, of a cosine and a sine as a mixer or a table holds them (R82, R103, R118,
R183: the spec fixes the angle, not the rounding): which circuit, and the 32-bit phase. `phasor` limits it to one unit.
Log entry 17 (UNVERIFIED). -/
opaque trigErr : Nat → Nat → Int × Int

/-- The taps, in Q2.22, of a fixed filter that the spec does not give (R78, R102, R131): filter and tap number.  The
filters that use them impose symmetry, the half-band form and the gain. Log entry 17 (UNVERIFIED). -/
opaque tap : Nat → Nat → Int

/-- The error of a magnitude |x| in units of 2^−23, which `magnitude` keeps within the ±2^−20 of R154.
Log entry 17 (UNVERIFIED). -/
opaque magErr : Int × Int → Int

/-- The difference from 10^(x/20) of a gain that the spec gives with a tolerance (R94), in its last places: x in dB.
`compStep` keeps it within ±0.01 dB. Log entry 17 (UNVERIFIED). -/
opaque gainErr : Int → Int

/-- The noise shaper's two pairs of zeros, as cosines of their angles, and its four pole coefficients (R115), in Q20.
Log entry 17 (UNVERIFIED). -/
opaque nsZero : Nat → Nat
opaque nsPole : Nat → Int

/-- The pseudo-random sequence of the element matching and the permutation it chooses (R117: the spec gives neither its
polynomial nor the rule): the next value, and the pick of each cell. Log entry 17 (UNVERIFIED). -/
opaque demNext : Nat → Nat
opaque demPick : Nat → Nat → Nat

/-- Ticks by which a read of device time lags the tick in progress (R387: 0, 1 or 2). Log entry 58 (DESIGN CHOICE). -/
opaque timeLag : Nat → Nat

/-- Bytes of memory lost or undefined after a power state, a failed bank or a page fault (R404, R339). -/
opaque freeByte : Nat → Nat → Byte

/-- A choice the spec leaves between several behaviours, by occasion. -/
opaque choice : Nat → Nat → Nat

/-- Register contents after REFCLK is lost, which the spec calls undefined (R401): field keys and stored values.
Log entry 60 (DESIGN CHOICE). -/
opaque freeRegs : Nat → List (Nat × Nat)

/-- What a draw of the perturbation generator makes of its 32 bits, by bound (R481: the spec gives the generator's
polynomial and the probability of a draw, not the bits a draw takes). Log entry 50 (DESIGN CHOICE). -/
opaque draw : Nat → Nat → Nat

/-- The phase of CLK_AO against the tick count, in ticks: the crystal and REFCLK are independent (R380, R383).
Log entry 58 (DESIGN CHOICE). -/
opaque aoPhase : Nat

end Sys2Proof.Config
end

