-- ==== Sys2Proof/Machine/Operands.lean ====
section
/-!
DEFINITION. Sys2Proof/Machine/Operands.lean: the operand forms the commands share.
Fabric initiators (R323), symbol arithmetic on a timeline (R26), and the rounding and saturation of the fixed-point
formats (R5).  Times are device times in ticks; an interval in microseconds is held in 1/25 tick, because one
microsecond is exactly 12,288/25 ticks of FS_P = 491.52 MHz.
-/
namespace Sys2Proof.Machine

/-- Ticks in a frame (R26). -/
def frameTicks : Nat := 4915200

/-- Ticks in a half-subframe (R26). -/
def halfTicks : Nat := 245760

/-- Symbols in a half-subframe at numerology `mu` (R26). -/
def symPerHalf (mu : Nat) : Nat := 7 * 2 ^ mu

/-- Symbols in a frame. -/
def symPerFrame (mu : Nat) : Nat := 20 * symPerHalf mu

/-- Ticks of a symbol other than symbol 0 of its half-subframe (R26, R27). -/
def symTicks (mu : Nat) : Nat := 35072 / 2 ^ mu

/-- Start of symbol `j` of a half-subframe, in ticks from its start (R26, last column). -/
def symStart (mu j : Nat) : Nat := if j = 0 then 0 else 256 + symTicks mu * j

/-- Ticks since a frame boundary one frame before the offset, so that times before the first frame are covered. -/
def tlPhase (off t : Nat) : Nat := t + frameTicks - off

/-- The symbol of its half-subframe that holds tick `y` of the half-subframe. -/
def symAt (mu y : Nat) : Nat := if y < 256 + symTicks mu then 0 else (y - 256) / symTicks mu

/-- The symbol number within the frame at time `t` (R26). -/
def symbolOf (mu off t : Nat) : Nat :=
  let y := tlPhase off t % frameTicks
  symPerHalf mu * (y / halfTicks) + symAt mu (y % halfTicks)

/-- The frame number at time `t` with base `fn` (SYS.TL_STATUS.FRAME). -/
def frameOf (off fn t : Nat) : Nat := (tlPhase off t / frameTicks + 1023 + fn) % 1024

/-- Time `t` is an air symbol boundary (R26): the first tick of a symbol. -/
def isSymBoundary (mu off t : Nat) : Bool :=
  let y := tlPhase off t % halfTicks
  y == 0 || (256 + symTicks mu ≤ y && (y - 256) % symTicks mu == 0)

/-- Time `t` is a frame boundary (R28). -/
def isFrameBoundary (off t : Nat) : Bool := tlPhase off t % frameTicks == 0

/-- The start of the symbol that holds time `t`. -/
def symFloor (mu off t : Nat) : Nat :=
  let y := tlPhase off t % halfTicks
  t - (y - symStart mu (symAt mu y))

/-- The first symbol boundary after time `t`. -/
def nextSym (mu off t : Nat) : Nat :=
  let y := tlPhase off t % halfTicks
  let j := symAt mu y
  if j + 1 < symPerHalf mu then t + (symStart mu (j + 1) - y) else t + (halfTicks - y)

/-- The first frame boundary at or after time `t`. -/
def frameCeil (off t : Nat) : Nat :=
  let y := tlPhase off t % frameTicks
  if y = 0 then t else t + (frameTicks - y)

/-- The start of the frame that holds time `t`. -/
def frameFloor (off t : Nat) : Nat := t - tlPhase off t % frameTicks

/-- Slot boundary: symbol numbers that are multiples of 14 (R26). -/
def isSlotStart (mu off t : Nat) : Bool := isSymBoundary mu off t && symbolOf mu off t % 14 == 0

/-- 1/25 ticks in `us` microseconds. Log entry 8 (DESIGN CHOICE). -/
def us25 (us : Nat) : Nat := us * 12288

/-- Whole ticks covering `us` microseconds, rounded up. -/
def usTicks (us : Nat) : Nat := (us * 12288 + 24) / 25

/-- Ticks in a millisecond. -/
def msTicks : Nat := 491520

/-- Ticks in one CLK_AO period (32.768 kHz). -/
def aoTicks : Nat := 15000

/-- Rounded arithmetic right shift: half is rounded up (added before the shift). -/
def rshr (x : Int) (n : Nat) : Int := if n = 0 then x else (x + (2 ^ (n - 1) : Nat)) / (2 ^ n : Nat)

/-- `x` saturated to a two's complement number of `w` bits. -/
def satW (w : Nat) (x : Int) : Int := clampI (-((2 ^ (w - 1) : Nat) : Int)) ((2 ^ (w - 1) : Nat) - 1) x

/-- Whether `x` lies outside a two's complement number of `w` bits. -/
def overW (w : Nat) (x : Int) : Bool := satW w x != x

/-- Ceiling division. -/
def cdiv (a b : Nat) : Nat := (a + b - 1) / b

end Sys2Proof.Machine
end

