-- ==== Sys2Proof/Machine/Num.lean ====
section
/-!
DEFINITION. Sys2Proof/Machine/Num.lean: the arithmetic the sample datapaths share: decibels and roots by integer
comparison, cosines and sines, the fixed filters, and complex values.
Every filter and mixer keeps its products whole; a stage rounds once, at its end (R80, R105).
-/
namespace Sys2Proof.Machine

/-! ### Complex values -/

/-- Sum of two complex values. -/
def addC (a b : Int × Int) : Int × Int := (a.1 + b.1, a.2 + b.2)

/-- Sum of complex values. -/
def sumC (l : List (Int × Int)) : Int × Int := l.foldl addC (0, 0)

/-- A complex value times a real one. -/
def scaleC (k : Int) (x : Int × Int) : Int × Int := (k * x.1, k * x.2)

/-- Complex product of two pairs, kept whole. -/
def cmul (a b : Int × Int) : Int × Int := (a.1 * b.1 - a.2 * b.2, a.1 * b.2 + a.2 * b.1)

/-- Square magnitude as a natural number. -/
def magSq (x : Int × Int) : Nat := (x.1 * x.1 + x.2 * x.2).toNat

/-- A stage's shift, rounding and saturation of one complex value (R80), and whether it saturated. Log entry 18 (DEDUCED). -/
def stageOut (x : Int × Int) (sh : Nat) : (Int × Int) × Bool :=
  let i := rshr x.1 sh
  let q := rshr x.2 sh
  ((satW 24 i, satW 24 q), overW 24 i || overW 24 q)

/-- Add and saturate to 24 bits. -/
def addSat (a b : Int × Int) : (Int × Int) × Bool := stageOut (addC a b) 0

/-! ### Roots and decibels -/

/-- The largest number of `n` bits above `g` at which `p` holds, where `p` holds up to some number. -/
def largest (p : Nat → Bool) : Nat → Nat → Nat
  | 0, g => g
  | n + 1, g => largest p n (if p (g + 2 ^ n) then g + 2 ^ n else g)

/-- The whole part of the `k`-th root of num/den, below 2^n. -/
def rootOf (k num den n : Nat) : Nat := largest (fun g => decide (g ^ k * den ≤ num)) n 0

/-- 10^x. -/
def tenTo (x : Nat) : Nat := (10 ^ (x / 16)) ^ 16 * 10 ^ (x % 16)

/-- The whole part of 2^frac × 10^(x/k), below 2^n. -/
def pow10 (frac : Nat) (x : Int) (k n : Nat) : Nat := rootOf k ((2 ^ frac) ^ k * tenTo x.toNat) (tenTo (-x).toNat) n

/-- The code, of `n` bits, of the power num/den in steps of 10/k dB below 1: its whole part or the next, where the spec
gives the unit and not the rounding; the largest code at lower levels. Log entry 17 (UNVERIFIED). -/
def dbCode (k num den n : Nat) : Nat :=
  let c := largest (fun c => decide (num ^ k * tenTo c ≤ den ^ k)) n 0
  if num ^ k * tenTo c = den ^ k then c else min (2 ^ n - 1) (c + Config.choice 0x80 (num + den) % 2)

/-- 10 log10(num/den) in 1/64 dB (R172): its whole part or the next away from 0; free where the ratio has no logarithm.
Log entry 17 (UNVERIFIED). -/
def dbRatio (num den : Nat) : Int :=
  let step := Config.choice 0x81 (num + den) % 2
  if num = 0 ∨ den = 0 then sext 16 (Config.choice 0x82 (num + den))
  else
    let up := decide (den ≤ num)
    let a := if up then num else den
    let b := if up then den else num
    let to640 (v : Nat) : Nat := (v ^ 64) ^ 10
    let c := largest (fun c => decide (to640 b * tenTo c ≤ to640 a)) 15 0
    let m : Int := if to640 b * tenTo c = to640 a then c else c + step
    if up then m else -m

/-- |x| of a Q1.23 value within ±2^−20 (R154). -/
def magnitude (x : Int × Int) : Nat :=
  ((rootOf 2 (magSq x) 1 25 : Int) + clampI (-7) 8 (Config.magErr x)).toNat

/-- The Q6.18 gain 10^(x/20) for x in dB within ±0.01 dB (R94): a part in 870 is 0.00998 dB. -/
def compStep (x : Int) : Int :=
  let g : Int := pow10 18 x 20 24
  g + clampI (-(g / 870)) (g / 870) (Config.gainErr x)

/-! ### Cosines and sines -/

/-- 2^48. -/
def one48 : Int := 2 ^ 48

/-- One step of a series: 1 − x²/(d (d + 1)) × acc. -/
def seriesStep (x2 : Int) (acc : Int) (d : Nat) : Int := one48 - x2 * acc / (one48 * (d * (d + 1) : Nat))

/-- Cosine and sine of a quarter turn's part `r`/2^30, scaled by 2^48. -/
def quarter (r : Nat) : Int × Int :=
  let x : Int := (r : Int) * 442139859501777 / 2 ^ 30
  let x2 := x * x / one48
  ([17, 15, 13, 11, 9, 7, 5, 3, 1].foldl (seriesStep x2) one48,
    x * [18, 16, 14, 12, 10, 8, 6, 4, 2].foldl (seriesStep x2) one48 / one48)

/-- Cosine and sine of the phase `p`/2^32 of a turn, scaled by 2^48. -/
def circle (p : Nat) : Int × Int :=
  let v := quarter (p % 2 ^ 30)
  match p / 2 ^ 30 % 4 with
  | 0 => v
  | 1 => (-v.2, v.1)
  | 2 => (-v.1, -v.2)
  | _ => (v.2, -v.1)

/-- Cosine and sine with `frac` fraction bits as circuit `site` holds them: to the nearest, within one unit. -/
def phasor (site frac p : Nat) : Int × Int :=
  let v := circle p
  let e := Config.trigErr site p
  (rshr v.1 (48 - frac) + clampI (-1) 1 e.1, rshr v.2 (48 - frac) + clampI (-1) 1 e.2)

/-- The NCO phase of R82, R103 and R118 at a time in 1/64 tick. -/
def ncoPhase (phase ftw : Nat) (t64 : Int) : Nat := trunc 32 ((phase * 65536 : Nat) + sext 32 ftw * t64 / 64)

/-! ### Fixed filters -/

/-- The taps of half-band filter `k` at its odd distances 1, 3, … from the centre, `pairs` of them, in Q2.22: the first
makes the gain at zero frequency 1 with the centre tap of 1/2 (R78, R79). -/
def hbTaps (k pairs : Nat) : List Int :=
  let rest := (List.range (pairs - 1)).map (fun i => Config.tap k (i + 1))
  (2 ^ 20 - rest.foldl (· + ·) 0) :: rest

/-- The half-band filter `k` of 4 × pairs − 1 taps over a line, newest first, in units of 2^−22. -/
def halfBand (k pairs : Nat) (line : List (Int × Int)) : Int × Int :=
  let x (i : Nat) : Int × Int := line.getD i (0, 0)
  let c := 2 * pairs - 1
  (hbTaps k pairs).zipIdx.foldl (fun acc e => addC acc (scaleC e.1 (addC (x (c - (2 * e.2 + 1))) (x (c + (2 * e.2 + 1))))))
    (scaleC (2 ^ 21) (x c))

/-- The output of an interpolating half-band filter between samples, newest first, in units of 2^−22: two sides of
`pairs` taps with gain 1. -/
def between (k pairs : Nat) (line : List (Int × Int)) : Int × Int :=
  let x (i : Nat) : Int × Int := line.getD i (0, 0)
  (hbTaps k pairs).zipIdx.foldl (fun acc e => addC acc (scaleC (2 * e.1) (addC (x (pairs - 1 - e.2)) (x (pairs + e.2))))) (0, 0)

/-- The 8-tap fractional delay of filter `k` by 3 samples and `num`/`den` of one, in units of 2^−22: gain 1 at zero
frequency, and the sample itself where the fraction is 0 (R77, R100, R131). -/
def fracDelay (k num den : Nat) (line : List (Int × Int)) : Int × Int :=
  let x (i : Nat) : Int × Int := line.getD i (0, 0)
  if num = 0 then scaleC (2 ^ 22) (x 3)
  else
    let h (i : Nat) : Int := Config.tap k (8 * (1024 * num / den) + i)
    let others := [0, 1, 2, 4, 5, 6, 7]
    others.foldl (fun acc i => addC acc (scaleC (h i) (x i)))
      (scaleC (2 ^ 22 - others.foldl (fun a i => a + h i) 0) (x 3))

/-- A line delayed by 4 samples and `pad`/(64 r) more, as the alignment stages do it (R98, R109). -/
def padded (k r pad : Nat) (line : List (Int × Int)) : (Int × Int) × Bool :=
  stageOut (fracDelay k (pad % (64 * r)) (64 * r) (line.drop (pad / (64 * r) + 1))) 22

/-- Every second element. -/
def everySecond : List (Int × Int) → List (Int × Int)
  | x :: _ :: l => x :: everySecond l
  | l => l

end Sys2Proof.Machine
end

