-- ==== Sys2Proof/Machine/Regs.lean ====
section
/-!
DEFINITION. Sys2Proof/Machine/Regs.lean: every register and field of the register maps of spec/00 to spec/18,
one constant per field, with its place, access code (R9), change class (R15 to R19), reset value (R8) and the
replacement its map gives a written value (R510).  Block bases and strides are R505's.
A field the map marks RO holds the block's status; reserved bits are not held and read 0 (R13).
-/
namespace Sys2Proof.Machine

/-- The access codes of R9. -/
inductive Access where
  | ro | rw | w1c | w1s | wo | rc
  deriving DecidableEq, Repr

/-- The change classes of chapter 0: S, B, L, or none for a status field. -/
inductive ChClass where
  | none | s | b | l
  deriving DecidableEq, Repr

/-- One field of a register map: the byte address of its register's first instance, the strides of up to three
indices, its lowest bit and width, access, class, reset value by instance, and the replacement of R510. -/
structure Fld where
  base : Nat
  s0 : Nat
  s1 : Nat
  s2 : Nat
  lo : Nat
  w : Nat
  acc : Access
  cls : ChClass
  reset : Nat → Nat → Nat
  norm : Nat → Nat

/-- The register address of an instance. -/
def Fld.addr (x : Fld) (i j k : Nat) : Nat := x.base + i * x.s0 + j * x.s1 + k * x.s2

/-- The key under which a field's instance is stored: register address times 32 plus its lowest bit.
Log entry 3 (DESIGN CHOICE). -/
def Fld.key (x : Fld) (i j k : Nat) : Nat := x.addr i j k * 32 + x.lo

/-- `a` replaced by `b`, other values kept. -/
def eqTo (a b v : Nat) : Nat := if v = a then b else v

/-- Values outside `lo … hi` replaced by the nearer end. -/
def clampN (lo hi v : Nat) : Nat := if v < lo then lo else if hi < v then hi else v

/-- LANE.INJECT.RATE_LOG2: 1–9 are replaced by 10, 31 by 30 (chapter 10). -/
def rateNorm (v : Nat) : Nat := if v = 0 then 0 else clampN 10 30 v

/-! One constant per field. -/

/-! SYS.DEVICE_ID (00_scope.md) -/
def F.SYS_DEVICE_ID_PART : Fld := ⟨0x40000000, 0x0, 0x0, 0x0, 16, 16, .ro, .none, fun _ _ => 25728, id⟩
def F.SYS_DEVICE_ID_MAJOR : Fld := ⟨0x40000000, 0x0, 0x0, 0x0, 12, 4, .ro, .none, fun _ _ => 1, id⟩
def F.SYS_DEVICE_ID_MINOR : Fld := ⟨0x40000000, 0x0, 0x0, 0x0, 8, 4, .ro, .none, fun _ _ => 1, id⟩
def F.SYS_DEVICE_ID_GRADE : Fld := ⟨0x40000000, 0x0, 0x0, 0x0, 4, 4, .ro, .none, fun _ _ => 2, id⟩
/-! SYS.TL_CFG[k] (01_architecture.md) -/
def F.SYS_TL_CFG_EN : Fld := ⟨0x40000200, 0x10, 0x0, 0x0, 31, 1, .rw, .l, fun _ _ => 0, id⟩
def F.SYS_TL_CFG_FN_BASE : Fld := ⟨0x40000200, 0x10, 0x0, 0x0, 2, 10, .rw, .s, fun _ _ => 0, id⟩
def F.SYS_TL_CFG_MU : Fld := ⟨0x40000200, 0x10, 0x0, 0x0, 0, 2, .rw, .s, fun _ _ => 0, id⟩
/-! SYS.TL_OFFSET[k] (01_architecture.md) -/
def F.SYS_TL_OFFSET_OFFSET : Fld := ⟨0x40000204, 0x10, 0x0, 0x0, 0, 23, .rw, .s, fun _ _ => 0, fun v => min v 4915199⟩
/-! SYS.TL_STATUS[k] (01_architecture.md) -/
def F.SYS_TL_STATUS_FRAME : Fld := ⟨0x40000208, 0x10, 0x0, 0x0, 16, 10, .ro, .none, fun _ _ => 0, id⟩
def F.SYS_TL_STATUS_SYMBOL : Fld := ⟨0x40000208, 0x10, 0x0, 0x0, 0, 11, .ro, .none, fun _ _ => 0, id⟩
/-! RFC.LOS_FREQ[m] (02_radio_frontend.md) -/
def F.RFC_LOS_FREQ_FREQ_KHZ : Fld := ⟨0x40400000, 0x40, 0x0, 0x0, 0, 24, .rw, .s, fun _ _ => 0, id⟩
/-! RFC.LOS_CTRL[m] (02_radio_frontend.md) -/
def F.RFC_LOS_CTRL_EN : Fld := ⟨0x40400004, 0x40, 0x0, 0x0, 31, 1, .rw, .l, fun _ _ => 0, id⟩
/-! RFC.LOS_STATUS[m] (02_radio_frontend.md) -/
def F.RFC_LOS_STATUS_LOCKED : Fld := ⟨0x40400008, 0x40, 0x0, 0x0, 31, 1, .ro, .none, fun _ _ => 0, id⟩
def F.RFC_LOS_STATUS_OSC_BUSY : Fld := ⟨0x40400008, 0x40, 0x0, 0x0, 30, 1, .ro, .none, fun _ _ => 0, id⟩
def F.RFC_LOS_STATUS_ACTIVE : Fld := ⟨0x40400008, 0x40, 0x0, 0x0, 29, 1, .ro, .none, fun m _ => if m = 0 ∨ m = 2 then 1 else 0, id⟩
def F.RFC_LOS_STATUS_REFUSED : Fld := ⟨0x40400008, 0x40, 0x0, 0x0, 28, 1, .ro, .none, fun _ _ => 0, id⟩
def F.RFC_LOS_STATUS_FREQ_IN_EFFECT : Fld := ⟨0x40400008, 0x40, 0x0, 0x0, 0, 24, .ro, .none, fun _ _ => 0, id⟩
/-! RFC.LOP_CTRL[g] (02_radio_frontend.md) -/
def F.RFC_LOP_CTRL_HOP : Fld := ⟨0x40400100, 0x10, 0x0, 0x0, 31, 1, .wo, .none, fun _ _ => 0, id⟩
def F.RFC_LOP_CTRL_TL : Fld := ⟨0x40400100, 0x10, 0x0, 0x0, 0, 2, .rw, .s, fun _ _ => 0, id⟩
/-! RFC.LOP_STATUS[g] (02_radio_frontend.md) -/
def F.RFC_LOP_STATUS_HOP_PENDING : Fld := ⟨0x40400104, 0x10, 0x0, 0x0, 31, 1, .ro, .none, fun _ _ => 0, id⟩
def F.RFC_LOP_STATUS_ACTIVE_SEL : Fld := ⟨0x40400104, 0x10, 0x0, 0x0, 16, 1, .ro, .none, fun _ _ => 0, id⟩
def F.RFC_LOP_STATUS_HOP_COUNT : Fld := ⟨0x40400104, 0x10, 0x0, 0x0, 0, 16, .ro, .none, fun _ _ => 0, id⟩
/-! RFC.GPIO_CFG[g] (02_radio_frontend.md) -/
def F.RFC_GPIO_CFG_EN : Fld := ⟨0x40400200, 0x4, 0x0, 0x0, 31, 1, .rw, .s, fun _ _ => 0, id⟩
def F.RFC_GPIO_CFG_POL : Fld := ⟨0x40400200, 0x4, 0x0, 0x0, 7, 1, .rw, .s, fun _ _ => 0, id⟩
def F.RFC_GPIO_CFG_FUNC : Fld := ⟨0x40400200, 0x4, 0x0, 0x0, 4, 3, .rw, .s, fun _ _ => 0, id⟩
def F.RFC_GPIO_CFG_TILE : Fld := ⟨0x40400200, 0x4, 0x0, 0x0, 0, 4, .rw, .s, fun _ _ => 0, id⟩
/-! RFC.TILE_CTRL[t] (02_radio_frontend.md) -/
def F.RFC_TILE_CTRL_EN : Fld := ⟨0x40401000, 0x400, 0x0, 0x0, 31, 1, .rw, .l, fun _ _ => 0, id⟩
def F.RFC_TILE_CTRL_TL : Fld := ⟨0x40401000, 0x400, 0x0, 0x0, 26, 2, .rw, .s, fun _ _ => 0, id⟩
def F.RFC_TILE_CTRL_RETURN : Fld := ⟨0x40401000, 0x400, 0x0, 0x0, 24, 2, .rw, .b, fun _ _ => 0, eqTo 3 0⟩
def F.RFC_TILE_CTRL_DUPLEX : Fld := ⟨0x40401000, 0x400, 0x0, 0x0, 23, 1, .rw, .s, fun _ _ => 0, id⟩
def F.RFC_TILE_CTRL_BG_EN : Fld := ⟨0x40401000, 0x400, 0x0, 0x0, 16, 3, .rw, .l, fun _ _ => 0, id⟩
/-! RFC.TILE_TIMING[t] (02_radio_frontend.md) -/
def F.RFC_TILE_TIMING_PA_LEAD : Fld := ⟨0x40401004, 0x400, 0x0, 0x0, 24, 8, .rw, .s, fun _ _ => 0, id⟩
def F.RFC_TILE_TIMING_PA_LAG : Fld := ⟨0x40401004, 0x400, 0x0, 0x0, 16, 8, .rw, .s, fun _ _ => 0, id⟩
def F.RFC_TILE_TIMING_TR_LEAD : Fld := ⟨0x40401004, 0x400, 0x0, 0x0, 8, 8, .rw, .s, fun _ _ => 0, id⟩
def F.RFC_TILE_TIMING_TR_LAG : Fld := ⟨0x40401004, 0x400, 0x0, 0x0, 0, 8, .rw, .s, fun _ _ => 0, id⟩
/-! RFC.TILE_STATE[t] (02_radio_frontend.md) -/
def F.RFC_TILE_STATE_TILE : Fld := ⟨0x40401008, 0x400, 0x0, 0x0, 26, 2, .ro, .none, fun _ _ => 0, id⟩
def F.RFC_TILE_STATE_TXH : Fld := ⟨0x40401008, 0x400, 0x0, 0x0, 24, 2, .ro, .none, fun _ _ => 0, id⟩
def F.RFC_TILE_STATE_RXH : Fld := ⟨0x40401008, 0x400, 0x0, 0x0, 22, 2, .ro, .none, fun _ _ => 0, id⟩
def F.RFC_TILE_STATE_LO_LOCKED : Fld := ⟨0x40401008, 0x400, 0x0, 0x0, 21, 1, .ro, .none, fun _ _ => 0, id⟩
def F.RFC_TILE_STATE_DUTY_GATE : Fld := ⟨0x40401008, 0x400, 0x0, 0x0, 20, 1, .ro, .none, fun _ _ => 0, id⟩
def F.RFC_TILE_STATE_CAL_RUN : Fld := ⟨0x40401008, 0x400, 0x0, 0x0, 17, 3, .ro, .none, fun _ _ => 0, id⟩
def F.RFC_TILE_STATE_CAL_FG : Fld := ⟨0x40401008, 0x400, 0x0, 0x0, 16, 1, .ro, .none, fun _ _ => 0, id⟩
/-! RFC.TILE_CAL[t] (02_radio_frontend.md) -/
def F.RFC_TILE_CAL_FG_BUSY : Fld := ⟨0x4040100C, 0x400, 0x0, 0x0, 31, 1, .ro, .none, fun _ _ => 0, id⟩
def F.RFC_TILE_CAL_FAIL : Fld := ⟨0x4040100C, 0x400, 0x0, 0x0, 28, 3, .w1c, .none, fun _ _ => 0, id⟩
def F.RFC_TILE_CAL_REQ : Fld := ⟨0x4040100C, 0x400, 0x0, 0x0, 16, 3, .w1s, .none, fun _ _ => 0, id⟩
def F.RFC_TILE_CAL_BG_PERIOD : Fld := ⟨0x4040100C, 0x400, 0x0, 0x0, 0, 16, .rw, .l, fun _ _ => 1000, id⟩
/-! RFC.TX_ATT[n] (02_radio_frontend.md) -/
def F.RFC_TX_ATT_ATT : Fld := ⟨0x40401020, 0x400, 0x4, 0x0, 0, 7, .rw, .b, fun _ _ => 126, fun v => min v 126⟩
/-! RFC.RX_ATT[n] (02_radio_frontend.md) -/
def F.RFC_RX_ATT_MAN : Fld := ⟨0x40401030, 0x400, 0x4, 0x0, 31, 1, .rw, .s, fun _ _ => 0, id⟩
def F.RFC_RX_ATT_IN_EFFECT : Fld := ⟨0x40401030, 0x400, 0x4, 0x0, 8, 5, .ro, .none, fun _ _ => 30, id⟩
def F.RFC_RX_ATT_ATT : Fld := ⟨0x40401030, 0x400, 0x4, 0x0, 0, 5, .rw, .b, fun _ _ => 30, fun v => min v 30⟩
/-! RFC.TILE_COUNT[t] (02_radio_frontend.md) -/
def F.RFC_TILE_COUNT_LATE_LOCK : Fld := ⟨0x40401040, 0x400, 0x0, 0x0, 24, 8, .rc, .none, fun _ _ => 0, id⟩
def F.RFC_TILE_COUNT_TX_BLOCKED : Fld := ⟨0x40401040, 0x400, 0x0, 0x0, 16, 8, .rc, .none, fun _ _ => 0, id⟩
def F.RFC_TILE_COUNT_RX_BLOCKED : Fld := ⟨0x40401040, 0x400, 0x0, 0x0, 8, 8, .rc, .none, fun _ _ => 0, id⟩
def F.RFC_TILE_COUNT_DUTY_GATED : Fld := ⟨0x40401040, 0x400, 0x0, 0x0, 0, 8, .rc, .none, fun _ _ => 0, id⟩
/-! RFC.TILE_DUTY[t] (02_radio_frontend.md) -/
def F.RFC_TILE_DUTY_TX_TICKS : Fld := ⟨0x40401044, 0x400, 0x0, 0x0, 0, 23, .ro, .none, fun _ _ => 0, id⟩
/-! FUSE.REG_PMAX[n] (02_radio_frontend.md) -/
def F.FUSE_REG_PMAX_VIEW : Fld := ⟨0x400A0100, 0x4, 0x0, 0x0, 8, 8, .rw, .s, fun _ _ => 0, id⟩
def F.FUSE_REG_PMAX_FUSE : Fld := ⟨0x400A0100, 0x4, 0x0, 0x0, 0, 8, .ro, .none, fun _ _ => 0, id⟩
/-! FUSE.REG_LOWIN[w] (02_radio_frontend.md) -/
def F.FUSE_REG_LOWIN_VALID : Fld := ⟨0x400A0200, 0x4, 0x0, 0x0, 31, 1, .ro, .none, fun _ _ => 0, id⟩
def F.FUSE_REG_LOWIN_HI_MHZ : Fld := ⟨0x400A0200, 0x4, 0x0, 0x0, 14, 14, .ro, .none, fun _ _ => 0, id⟩
def F.FUSE_REG_LOWIN_LO_MHZ : Fld := ⟨0x400A0200, 0x4, 0x0, 0x0, 0, 14, .ro, .none, fun _ _ => 0, id⟩
/-! FUSE.REG_VIEW (02_radio_frontend.md) -/
def F.FUSE_REG_VIEW_DUTY_VIEW : Fld := ⟨0x400A0300, 0x0, 0x0, 0x0, 8, 8, .rw, .s, fun _ _ => 0, id⟩
def F.FUSE_REG_VIEW_WIN_OFF : Fld := ⟨0x400A0300, 0x0, 0x0, 0x0, 0, 8, .rw, .s, fun _ _ => 0, id⟩
/-! FUSE.REG_DUTY (02_radio_frontend.md) -/
def F.FUSE_REG_DUTY_CLOSED : Fld := ⟨0x400A0304, 0x0, 0x0, 0x0, 31, 1, .ro, .none, fun _ _ => 0, id⟩
def F.FUSE_REG_DUTY_DUTY : Fld := ⟨0x400A0304, 0x0, 0x0, 0x0, 0, 8, .ro, .none, fun _ _ => 0, id⟩
/-! FUSE.REG_PROG (02_radio_frontend.md) -/
def F.FUSE_REG_PROG_GO : Fld := ⟨0x400A0400, 0x0, 0x0, 0x0, 31, 1, .wo, .none, fun _ _ => 0, id⟩
def F.FUSE_REG_PROG_BUSY : Fld := ⟨0x400A0400, 0x0, 0x0, 0x0, 30, 1, .ro, .none, fun _ _ => 0, id⟩
def F.FUSE_REG_PROG_ERR : Fld := ⟨0x400A0400, 0x0, 0x0, 0x0, 29, 1, .ro, .none, fun _ _ => 0, id⟩
def F.FUSE_REG_PROG_BIT : Fld := ⟨0x400A0400, 0x0, 0x0, 0x0, 0, 10, .rw, .l, fun _ _ => 0, id⟩
/-! FUSE.TX_TRIM[n] (02_radio_frontend.md) -/
def F.FUSE_TX_TRIM_COLD : Fld := ⟨0x400A0600, 0x4, 0x0, 0x0, 16, 8, .ro, .none, fun _ _ => 0, id⟩
def F.FUSE_TX_TRIM_ROOM : Fld := ⟨0x400A0600, 0x4, 0x0, 0x0, 8, 8, .ro, .none, fun _ _ => 0, id⟩
def F.FUSE_TX_TRIM_HOT : Fld := ⟨0x400A0600, 0x4, 0x0, 0x0, 0, 8, .ro, .none, fun _ _ => 0, id⟩
/-! RXP[n].CTRL (03_receive_chain.md) -/
def F.RXP_CTRL_EN : Fld := ⟨0x41080000, 0x1000, 0x0, 0x0, 31, 1, .rw, .l, fun _ _ => 0, id⟩
def F.RXP_CTRL_LEN_A : Fld := ⟨0x41080000, 0x1000, 0x0, 0x0, 8, 7, .rw, .s, fun _ _ => 4, clampN 2 64⟩
/-! RXP[n].SHIFT (03_receive_chain.md) -/
def F.RXP_SHIFT_SHIFT_D1 : Fld := ⟨0x41080004, 0x1000, 0x0, 0x0, 16, 4, .rw, .b, fun _ _ => 0, id⟩
def F.RXP_SHIFT_SHIFT_D0 : Fld := ⟨0x41080004, 0x1000, 0x0, 0x0, 12, 4, .rw, .b, fun _ _ => 0, id⟩
def F.RXP_SHIFT_SHIFT_C : Fld := ⟨0x41080004, 0x1000, 0x0, 0x0, 8, 4, .rw, .b, fun _ _ => 0, id⟩
def F.RXP_SHIFT_SHIFT_B : Fld := ⟨0x41080004, 0x1000, 0x0, 0x0, 4, 4, .rw, .b, fun _ _ => 0, id⟩
def F.RXP_SHIFT_SHIFT_A : Fld := ⟨0x41080004, 0x1000, 0x0, 0x0, 0, 4, .rw, .b, fun _ _ => 0, id⟩
/-! RXP[n].SAT (03_receive_chain.md) -/
def F.RXP_SAT_ADC_OVL : Fld := ⟨0x41080008, 0x1000, 0x0, 0x0, 8, 1, .w1c, .none, fun _ _ => 0, id⟩
def F.RXP_SAT_D1 : Fld := ⟨0x41080008, 0x1000, 0x0, 0x0, 5, 1, .w1c, .none, fun _ _ => 0, id⟩
def F.RXP_SAT_D0 : Fld := ⟨0x41080008, 0x1000, 0x0, 0x0, 4, 1, .w1c, .none, fun _ _ => 0, id⟩
def F.RXP_SAT_COMP : Fld := ⟨0x41080008, 0x1000, 0x0, 0x0, 3, 1, .w1c, .none, fun _ _ => 0, id⟩
def F.RXP_SAT_C : Fld := ⟨0x41080008, 0x1000, 0x0, 0x0, 2, 1, .w1c, .none, fun _ _ => 0, id⟩
def F.RXP_SAT_B : Fld := ⟨0x41080008, 0x1000, 0x0, 0x0, 1, 1, .w1c, .none, fun _ _ => 0, id⟩
def F.RXP_SAT_A : Fld := ⟨0x41080008, 0x1000, 0x0, 0x0, 0, 1, .w1c, .none, fun _ _ => 0, id⟩
/-! RXP[n].SAT_COUNT (03_receive_chain.md) -/
def F.RXP_SAT_COUNT_SAT_SYMBOLS : Fld := ⟨0x4108000C, 0x1000, 0x0, 0x0, 16, 16, .rc, .none, fun _ _ => 0, id⟩
def F.RXP_SAT_COUNT_ADC_OVL_COUNT : Fld := ⟨0x4108000C, 0x1000, 0x0, 0x0, 0, 16, .rc, .none, fun _ _ => 0, id⟩
/-! RXP[n].CFIR_CTRL (03_receive_chain.md) -/
def F.RXP_CFIR_CTRL_BANK : Fld := ⟨0x41080010, 0x1000, 0x0, 0x0, 31, 1, .rw, .b, fun _ _ => 0, id⟩
def F.RXP_CFIR_CTRL_ACTIVE : Fld := ⟨0x41080010, 0x1000, 0x0, 0x0, 30, 1, .ro, .none, fun _ _ => 0, id⟩
def F.RXP_CFIR_CTRL_GD : Fld := ⟨0x41080010, 0x1000, 0x0, 0x0, 0, 13, .rw, .s, fun _ _ => 3040, id⟩
/-! RXP[n].ALIGN[c] (03_receive_chain.md) -/
def F.RXP_ALIGN_TARGET : Fld := ⟨0x41080014, 0x1000, 0x8, 0x0, 24, 8, .rw, .s, fun _ _ => 0, id⟩
/-! RXP[n].ALIGN_STATUS[c] (03_receive_chain.md) -/
def F.RXP_ALIGN_STATUS_RANGE_ERR : Fld := ⟨0x41080018, 0x1000, 0x8, 0x0, 31, 1, .ro, .none, fun _ _ => 0, id⟩
def F.RXP_ALIGN_STATUS_G_FIXED : Fld := ⟨0x41080018, 0x1000, 0x8, 0x0, 16, 14, .ro, .none, fun _ _ => 0, id⟩
def F.RXP_ALIGN_STATUS_PAD : Fld := ⟨0x41080018, 0x1000, 0x8, 0x0, 0, 10, .ro, .none, fun _ _ => 0, id⟩
/-! RXP[n].SKEW (03_receive_chain.md) -/
def F.RXP_SKEW_SKEW : Fld := ⟨0x41080024, 0x1000, 0x0, 0x0, 0, 9, .rw, .b, fun _ _ => 0, id⟩
/-! RXP[n].DDC[c] (03_receive_chain.md) -/
def F.RXP_DDC_CEN : Fld := ⟨0x41080040, 0x1000, 0x10, 0x0, 31, 1, .rw, .s, fun _ _ => 0, id⟩
def F.RXP_DDC_TL : Fld := ⟨0x41080040, 0x1000, 0x10, 0x0, 2, 2, .rw, .s, fun _ _ => 0, id⟩
def F.RXP_DDC_DEC : Fld := ⟨0x41080040, 0x1000, 0x10, 0x0, 0, 2, .rw, .s, fun _ _ => 0, fun v => min v 2⟩
/-! RXP[n].NCO_FTW[c] (03_receive_chain.md) -/
def F.RXP_NCO_FTW_FTW : Fld := ⟨0x41080044, 0x1000, 0x10, 0x0, 0, 32, .rw, .b, fun _ _ => 0, id⟩
/-! RXP[n].NCO_PHASE[c] (03_receive_chain.md) -/
def F.RXP_NCO_PHASE_PHASE : Fld := ⟨0x41080048, 0x1000, 0x10, 0x0, 16, 16, .rw, .b, fun _ _ => 0, id⟩
/-! RXP[n].AGC_CFG (03_receive_chain.md) -/
def F.RXP_AGC_CFG_ATTACK_STEP : Fld := ⟨0x41080080, 0x1000, 0x0, 0x0, 28, 4, .rw, .b, fun _ _ => 3, clampN 1 8⟩
def F.RXP_AGC_CFG_HOLD : Fld := ⟨0x41080080, 0x1000, 0x0, 0x0, 16, 10, .rw, .b, fun _ _ => 64, id⟩
def F.RXP_AGC_CFG_ATT_MIN : Fld := ⟨0x41080080, 0x1000, 0x0, 0x0, 8, 5, .rw, .b, fun _ _ => 0, id⟩
def F.RXP_AGC_CFG_ADAPT : Fld := ⟨0x41080080, 0x1000, 0x0, 0x0, 7, 1, .rw, .b, fun _ _ => 1, id⟩
def F.RXP_AGC_CFG_COMP_EN : Fld := ⟨0x41080080, 0x1000, 0x0, 0x0, 6, 1, .rw, .s, fun _ _ => 1, id⟩
def F.RXP_AGC_CFG_COMP_REF : Fld := ⟨0x41080080, 0x1000, 0x0, 0x0, 0, 5, .rw, .s, fun _ _ => 0, id⟩
/-! RXP[n].AGC_THR (03_receive_chain.md) -/
def F.RXP_AGC_THR_THR_TOP : Fld := ⟨0x41080084, 0x1000, 0x0, 0x0, 24, 8, .rw, .b, fun _ _ => 4, id⟩
def F.RXP_AGC_THR_THR_BOTTOM : Fld := ⟨0x41080084, 0x1000, 0x0, 0x0, 16, 8, .rw, .b, fun _ _ => 40, id⟩
def F.RXP_AGC_THR_HYST : Fld := ⟨0x41080084, 0x1000, 0x0, 0x0, 8, 8, .rw, .b, fun _ _ => 24, id⟩
def F.RXP_AGC_THR_T_INIT : Fld := ⟨0x41080084, 0x1000, 0x0, 0x0, 0, 8, .rw, .b, fun _ _ => 12, id⟩
/-! RXP[n].AGC_ADAPT (03_receive_chain.md) -/
def F.RXP_AGC_ADAPT_CLIP_TARGET : Fld := ⟨0x41080088, 0x1000, 0x0, 0x0, 16, 16, .rw, .b, fun _ _ => 16, id⟩
def F.RXP_AGC_ADAPT_WIN : Fld := ⟨0x41080088, 0x1000, 0x0, 0x0, 0, 4, .rw, .b, fun _ _ => 4, fun v => min v 10⟩
/-! RXP[n].AGC_STATUS (03_receive_chain.md) -/
def F.RXP_AGC_STATUS_T_HIGH : Fld := ⟨0x4108008C, 0x1000, 0x0, 0x0, 24, 8, .ro, .none, fun _ _ => 0, id⟩
def F.RXP_AGC_STATUS_T_LOW : Fld := ⟨0x4108008C, 0x1000, 0x0, 0x0, 16, 8, .ro, .none, fun _ _ => 0, id⟩
def F.RXP_AGC_STATUS_LAST_SYM : Fld := ⟨0x4108008C, 0x1000, 0x0, 0x0, 0, 11, .ro, .none, fun _ _ => 0, id⟩
/-! RXP[n].AGC_COUNT (03_receive_chain.md) -/
def F.RXP_AGC_COUNT_ATTACKS : Fld := ⟨0x41080090, 0x1000, 0x0, 0x0, 16, 16, .rc, .none, fun _ _ => 0, id⟩
def F.RXP_AGC_COUNT_DECAYS : Fld := ⟨0x41080090, 0x1000, 0x0, 0x0, 0, 16, .rc, .none, fun _ _ => 0, id⟩
/-! RXP[n].PWR_COARSE (03_receive_chain.md) -/
def F.RXP_PWR_COARSE_VALID : Fld := ⟨0x410800A0, 0x1000, 0x0, 0x0, 31, 1, .ro, .none, fun _ _ => 0, id⟩
def F.RXP_PWR_COARSE_CODE : Fld := ⟨0x410800A0, 0x1000, 0x0, 0x0, 0, 8, .ro, .none, fun _ _ => 0, id⟩
/-! RXP[n].PWR_FINE_CFG (03_receive_chain.md) -/
def F.RXP_PWR_FINE_CFG_WIN_LOG2 : Fld := ⟨0x410800A4, 0x1000, 0x0, 0x0, 0, 5, .rw, .b, fun _ _ => 10, clampN 4 16⟩
/-! RXP[n].PWR_FINE (03_receive_chain.md) -/
def F.RXP_PWR_FINE_VALID : Fld := ⟨0x410800A8, 0x1000, 0x0, 0x0, 31, 1, .ro, .none, fun _ _ => 0, id⟩
def F.RXP_PWR_FINE_CODE : Fld := ⟨0x410800A8, 0x1000, 0x0, 0x0, 0, 10, .ro, .none, fun _ _ => 0, id⟩
/-! RXP[n].CFIR_COEF[b][i] (03_receive_chain.md) -/
def F.RXP_CFIR_COEF_COEF : Fld := ⟨0x41080400, 0x1000, 0x200, 0x4, 0, 24, .rw, .l, fun _ _ => 0, id⟩
/-! TXP[n].CTRL (04_transmit_chain.md) -/
def F.TXP_CTRL_EN : Fld := ⟨0x41000000, 0x1000, 0x0, 0x0, 31, 1, .rw, .l, fun _ _ => 0, id⟩
def F.TXP_CTRL_LEN_A : Fld := ⟨0x41000000, 0x1000, 0x0, 0x0, 8, 7, .rw, .s, fun _ _ => 4, clampN 4 64⟩
/-! TXP[n].SHIFT (04_transmit_chain.md) -/
def F.TXP_SHIFT_SHIFT_D1 : Fld := ⟨0x41000004, 0x1000, 0x0, 0x0, 16, 4, .rw, .b, fun _ _ => 0, id⟩
def F.TXP_SHIFT_SHIFT_D0 : Fld := ⟨0x41000004, 0x1000, 0x0, 0x0, 12, 4, .rw, .b, fun _ _ => 0, id⟩
def F.TXP_SHIFT_SHIFT_C : Fld := ⟨0x41000004, 0x1000, 0x0, 0x0, 8, 4, .rw, .b, fun _ _ => 0, id⟩
def F.TXP_SHIFT_SHIFT_B : Fld := ⟨0x41000004, 0x1000, 0x0, 0x0, 4, 4, .rw, .b, fun _ _ => 0, id⟩
def F.TXP_SHIFT_SHIFT_A : Fld := ⟨0x41000004, 0x1000, 0x0, 0x0, 0, 4, .rw, .b, fun _ _ => 0, id⟩
/-! TXP[n].SAT (04_transmit_chain.md) -/
def F.TXP_SAT_NS_OVL : Fld := ⟨0x41000008, 0x1000, 0x0, 0x0, 8, 1, .w1c, .none, fun _ _ => 0, id⟩
def F.TXP_SAT_SUM : Fld := ⟨0x41000008, 0x1000, 0x0, 0x0, 6, 1, .w1c, .none, fun _ _ => 0, id⟩
def F.TXP_SAT_D1 : Fld := ⟨0x41000008, 0x1000, 0x0, 0x0, 5, 1, .w1c, .none, fun _ _ => 0, id⟩
def F.TXP_SAT_D0 : Fld := ⟨0x41000008, 0x1000, 0x0, 0x0, 4, 1, .w1c, .none, fun _ _ => 0, id⟩
def F.TXP_SAT_C : Fld := ⟨0x41000008, 0x1000, 0x0, 0x0, 3, 1, .w1c, .none, fun _ _ => 0, id⟩
def F.TXP_SAT_ALN : Fld := ⟨0x41000008, 0x1000, 0x0, 0x0, 2, 1, .w1c, .none, fun _ _ => 0, id⟩
def F.TXP_SAT_B : Fld := ⟨0x41000008, 0x1000, 0x0, 0x0, 1, 1, .w1c, .none, fun _ _ => 0, id⟩
def F.TXP_SAT_A : Fld := ⟨0x41000008, 0x1000, 0x0, 0x0, 0, 1, .w1c, .none, fun _ _ => 0, id⟩
/-! TXP[n].SAT_COUNT (04_transmit_chain.md) -/
def F.TXP_SAT_COUNT_SAT_SYMBOLS : Fld := ⟨0x4100000C, 0x1000, 0x0, 0x0, 16, 16, .rc, .none, fun _ _ => 0, id⟩
/-! TXP[n].CFIR_CTRL (04_transmit_chain.md) -/
def F.TXP_CFIR_CTRL_BANK : Fld := ⟨0x41000010, 0x1000, 0x0, 0x0, 31, 1, .rw, .b, fun _ _ => 0, id⟩
def F.TXP_CFIR_CTRL_ACTIVE : Fld := ⟨0x41000010, 0x1000, 0x0, 0x0, 30, 1, .ro, .none, fun _ _ => 0, id⟩
def F.TXP_CFIR_CTRL_GD : Fld := ⟨0x41000010, 0x1000, 0x0, 0x0, 0, 13, .rw, .s, fun _ _ => 3040, id⟩
/-! TXP[n].ALIGN (04_transmit_chain.md) -/
def F.TXP_ALIGN_TARGET : Fld := ⟨0x41000014, 0x1000, 0x0, 0x0, 24, 8, .rw, .s, fun _ _ => 0, id⟩
/-! TXP[n].ALIGN_STATUS (04_transmit_chain.md) -/
def F.TXP_ALIGN_STATUS_RANGE_ERR : Fld := ⟨0x41000018, 0x1000, 0x0, 0x0, 31, 1, .ro, .none, fun _ _ => 0, id⟩
def F.TXP_ALIGN_STATUS_G_FIXED : Fld := ⟨0x41000018, 0x1000, 0x0, 0x0, 16, 14, .ro, .none, fun _ _ => 0, id⟩
def F.TXP_ALIGN_STATUS_PAD : Fld := ⟨0x41000018, 0x1000, 0x0, 0x0, 0, 10, .ro, .none, fun _ _ => 0, id⟩
/-! TXP[n].SKEW (04_transmit_chain.md) -/
def F.TXP_SKEW_SKEW : Fld := ⟨0x41000024, 0x1000, 0x0, 0x0, 0, 9, .rw, .b, fun _ _ => 0, id⟩
/-! TXP[n].DUC[c] (04_transmit_chain.md) -/
def F.TXP_DUC_CEN : Fld := ⟨0x41000040, 0x1000, 0x10, 0x0, 31, 1, .rw, .s, fun _ _ => 0, id⟩
def F.TXP_DUC_TL : Fld := ⟨0x41000040, 0x1000, 0x10, 0x0, 2, 2, .rw, .s, fun _ _ => 0, id⟩
def F.TXP_DUC_INT : Fld := ⟨0x41000040, 0x1000, 0x10, 0x0, 0, 2, .rw, .s, fun _ _ => 0, fun v => min v 2⟩
/-! TXP[n].NCO_FTW[c] (04_transmit_chain.md) -/
def F.TXP_NCO_FTW_FTW : Fld := ⟨0x41000044, 0x1000, 0x10, 0x0, 0, 32, .rw, .b, fun _ _ => 0, id⟩
/-! TXP[n].NCO_PHASE[c] (04_transmit_chain.md) -/
def F.TXP_NCO_PHASE_PHASE : Fld := ⟨0x41000048, 0x1000, 0x10, 0x0, 16, 16, .rw, .b, fun _ _ => 0, id⟩
/-! TXP[n].CAR_GAIN[c] (04_transmit_chain.md) -/
def F.TXP_CAR_GAIN_GAIN : Fld := ⟨0x4100004C, 0x1000, 0x10, 0x0, 0, 24, .rw, .b, fun _ _ => 4194304, id⟩
/-! TXP[n].PLIM_CFG (04_transmit_chain.md) -/
def F.TXP_PLIM_CFG_PEAK : Fld := ⟨0x41000080, 0x1000, 0x0, 0x0, 0, 8, .rw, .b, fun _ _ => 8, fun v => max v 8⟩
/-! TXP[n].PLIM_COUNT (04_transmit_chain.md) -/
def F.TXP_PLIM_COUNT_DIP_SYMBOLS : Fld := ⟨0x41000084, 0x1000, 0x0, 0x0, 16, 16, .rc, .none, fun _ _ => 0, id⟩
def F.TXP_PLIM_COUNT_DIPS : Fld := ⟨0x41000084, 0x1000, 0x0, 0x0, 0, 16, .rc, .none, fun _ _ => 0, id⟩
/-! TXP[n].NS_CFG (04_transmit_chain.md) -/
def F.TXP_NS_CFG_DEM : Fld := ⟨0x41000090, 0x1000, 0x0, 0x0, 0, 2, .rw, .s, fun _ _ => 0, eqTo 3 0⟩
/-! TXP[n].NS_STATUS (04_transmit_chain.md) -/
def F.TXP_NS_STATUS_OVL_COUNT : Fld := ⟨0x41000094, 0x1000, 0x0, 0x0, 0, 16, .rc, .none, fun _ _ => 0, id⟩
/-! TXP[n].ZS_STATUS (04_transmit_chain.md) -/
def F.TXP_ZS_STATUS_ZERO : Fld := ⟨0x41000098, 0x1000, 0x0, 0x0, 31, 1, .ro, .none, fun _ _ => 1, id⟩
def F.TXP_ZS_STATUS_CAUSE : Fld := ⟨0x41000098, 0x1000, 0x0, 0x0, 0, 9, .ro, .none, fun _ _ => 3, id⟩
/-! TXP[n].TONE_CFG (04_transmit_chain.md) -/
def F.TXP_TONE_CFG_MODE : Fld := ⟨0x410000A0, 0x1000, 0x0, 0x0, 30, 2, .rw, .b, fun _ _ => 0, eqTo 3 0⟩
def F.TXP_TONE_CFG_AMP : Fld := ⟨0x410000A0, 0x1000, 0x0, 0x0, 0, 24, .rw, .b, fun _ _ => 0, id⟩
/-! TXP[n].TONE_FTW (04_transmit_chain.md) -/
def F.TXP_TONE_FTW_FTW : Fld := ⟨0x410000A4, 0x1000, 0x0, 0x0, 0, 32, .rw, .b, fun _ _ => 0, id⟩
/-! TXP[n].TONE_PHASE (04_transmit_chain.md) -/
def F.TXP_TONE_PHASE_PHASE : Fld := ⟨0x410000A8, 0x1000, 0x0, 0x0, 16, 16, .rw, .b, fun _ _ => 0, id⟩
/-! TXP[n].CFIR_COEF[b][i] (04_transmit_chain.md) -/
def F.TXP_CFIR_COEF_COEF : Fld := ⟨0x41000400, 0x1000, 0x200, 0x4, 0, 24, .rw, .l, fun _ _ => 0, id⟩
/-! PRISM.CFG (05_prism.md) -/
def F.PRISM_CFG_EN : Fld := ⟨0x40300000, 0x0, 0x0, 0x0, 31, 1, .rw, .l, fun _ _ => 0, id⟩
def F.PRISM_CFG_DUPLEX : Fld := ⟨0x40300000, 0x0, 0x0, 0x0, 30, 1, .rw, .s, fun _ _ => 0, id⟩
def F.PRISM_CFG_SPLIT : Fld := ⟨0x40300000, 0x0, 0x0, 0x0, 23, 7, .rw, .s, fun _ _ => 32, fun v => min v 64⟩
def F.PRISM_CFG_TL : Fld := ⟨0x40300000, 0x0, 0x0, 0x0, 21, 2, .rw, .s, fun _ _ => 0, id⟩
/-! PRISM.CAR[d][c] (05_prism.md) -/
def F.PRISM_CAR_CEN : Fld := ⟨0x40300010, 0x8, 0x4, 0x0, 31, 1, .rw, .s, fun _ _ => 0, id⟩
def F.PRISM_CAR_RATE : Fld := ⟨0x40300010, 0x8, 0x4, 0x0, 29, 2, .rw, .s, fun _ _ => 0, fun v => min v 2⟩
def F.PRISM_CAR_TL : Fld := ⟨0x40300010, 0x8, 0x4, 0x0, 27, 2, .rw, .s, fun _ _ => 0, id⟩
def F.PRISM_CAR_SHIFT : Fld := ⟨0x40300010, 0x8, 0x4, 0x0, 23, 4, .rw, .b, fun _ _ => 0, id⟩
def F.PRISM_CAR_CAP_MAX : Fld := ⟨0x40300010, 0x8, 0x4, 0x0, 0, 9, .rw, .b, fun _ _ => 256, fun v => min v 256⟩
/-! PRISM.USED[d] (05_prism.md) -/
def F.PRISM_USED_LAYERS : Fld := ⟨0x40300020, 0x4, 0x0, 0x0, 16, 9, .ro, .none, fun _ _ => 0, id⟩
def F.PRISM_USED_UNITS : Fld := ⟨0x40300020, 0x4, 0x0, 0x0, 0, 9, .ro, .none, fun _ _ => 0, id⟩
/-! PRISM.SAT (05_prism.md) -/
def F.PRISM_SAT_CORR : Fld := ⟨0x40300030, 0x0, 0x0, 0x0, 4, 4, .w1c, .none, fun _ _ => 0, id⟩
def F.PRISM_SAT_SUM : Fld := ⟨0x40300030, 0x0, 0x0, 0x0, 0, 4, .w1c, .none, fun _ _ => 0, id⟩
/-! PRISM.CORR_COMMIT (05_prism.md) -/
def F.PRISM_CORR_COMMIT_GO : Fld := ⟨0x40300040, 0x0, 0x0, 0x0, 31, 1, .wo, .none, fun _ _ => 0, id⟩
def F.PRISM_CORR_COMMIT_ARMED : Fld := ⟨0x40300040, 0x0, 0x0, 0x0, 30, 1, .ro, .none, fun _ _ => 0, id⟩
def F.PRISM_CORR_COMMIT_COMMITS : Fld := ⟨0x40300040, 0x0, 0x0, 0x0, 0, 16, .ro, .none, fun _ _ => 0, id⟩
/-! PRISM.CORR_PEND[d][a] (05_prism.md) -/
def F.PRISM_CORR_PEND_I : Fld := ⟨0x40300800, 0x100, 0x4, 0x0, 16, 16, .rw, .l, fun _ _ => 16384, id⟩
def F.PRISM_CORR_PEND_Q : Fld := ⟨0x40300800, 0x100, 0x4, 0x0, 0, 16, .rw, .l, fun _ _ => 0, id⟩
/-! PRISM.CORR_ACT[d][a] (05_prism.md) -/
def F.PRISM_CORR_ACT_I : Fld := ⟨0x40300A00, 0x100, 0x4, 0x0, 16, 16, .ro, .none, fun _ _ => 16384, id⟩
def F.PRISM_CORR_ACT_Q : Fld := ⟨0x40300A00, 0x100, 0x4, 0x0, 0, 16, .ro, .none, fun _ _ => 0, id⟩
/-! PRISM.LAYER_CFG[f] (05_prism.md) -/
def F.PRISM_LAYER_CFG_LEN : Fld := ⟨0x40301000, 0x10, 0x0, 0x0, 31, 1, .rw, .b, fun _ _ => 0, id⟩
def F.PRISM_LAYER_CFG_DIR : Fld := ⟨0x40301000, 0x10, 0x0, 0x0, 30, 1, .rw, .s, fun _ _ => 0, id⟩
def F.PRISM_LAYER_CFG_CAR : Fld := ⟨0x40301000, 0x10, 0x0, 0x0, 29, 1, .rw, .s, fun _ _ => 0, id⟩
def F.PRISM_LAYER_CFG_DEF_EN : Fld := ⟨0x40301000, 0x10, 0x0, 0x0, 28, 1, .rw, .s, fun _ _ => 0, id⟩
def F.PRISM_LAYER_CFG_DEF_ENTRY : Fld := ⟨0x40301000, 0x10, 0x0, 0x0, 0, 13, .rw, .s, fun _ _ => 0, id⟩
/-! PRISM.LAYER_STATE[f] (05_prism.md) -/
def F.PRISM_LAYER_STATE_ACT_VALID : Fld := ⟨0x40301004, 0x10, 0x0, 0x0, 31, 1, .ro, .none, fun _ _ => 0, id⟩
def F.PRISM_LAYER_STATE_SHD_VALID : Fld := ⟨0x40301004, 0x10, 0x0, 0x0, 30, 1, .ro, .none, fun _ _ => 0, id⟩
def F.PRISM_LAYER_STATE_PENDING : Fld := ⟨0x40301004, 0x10, 0x0, 0x0, 26, 4, .ro, .none, fun _ _ => 0, id⟩
def F.PRISM_LAYER_STATE_SHADOW_ENTRY : Fld := ⟨0x40301004, 0x10, 0x0, 0x0, 13, 13, .ro, .none, fun _ _ => 0, id⟩
def F.PRISM_LAYER_STATE_ACTIVE_ENTRY : Fld := ⟨0x40301004, 0x10, 0x0, 0x0, 0, 13, .ro, .none, fun _ _ => 0, id⟩
/-! PRISM.LAYER_COUNT[f] (05_prism.md) -/
def F.PRISM_LAYER_COUNT_LATE : Fld := ⟨0x40301008, 0x10, 0x0, 0x0, 24, 8, .rc, .none, fun _ _ => 0, id⟩
def F.PRISM_LAYER_COUNT_NOBEAM : Fld := ⟨0x40301008, 0x10, 0x0, 0x0, 16, 8, .rc, .none, fun _ _ => 0, id⟩
def F.PRISM_LAYER_COUNT_UNDERRUN : Fld := ⟨0x40301008, 0x10, 0x0, 0x0, 8, 8, .rc, .none, fun _ _ => 0, id⟩
def F.PRISM_LAYER_COUNT_INVALID : Fld := ⟨0x40301008, 0x10, 0x0, 0x0, 4, 4, .rc, .none, fun _ _ => 0, id⟩
def F.PRISM_LAYER_COUNT_QFULL : Fld := ⟨0x40301008, 0x10, 0x0, 0x0, 0, 4, .rc, .none, fun _ _ => 0, id⟩
/-! TXP[n].DPD_CTRL (06_predistortion.md) -/
def F.TXP_DPD_CTRL_EN : Fld := ⟨0x41000100, 0x1000, 0x0, 0x0, 31, 1, .rw, .b, fun _ _ => 0, id⟩
def F.TXP_DPD_CTRL_BLEND : Fld := ⟨0x41000100, 0x1000, 0x0, 0x0, 26, 2, .rw, .b, fun _ _ => 1, id⟩
def F.TXP_DPD_CTRL_TAP : Fld := ⟨0x41000100, 0x1000, 0x0, 0x0, 24, 2, .rw, .s, fun _ _ => 0, id⟩
def F.TXP_DPD_CTRL_DEF_SET : Fld := ⟨0x41000100, 0x1000, 0x0, 0x0, 20, 4, .rw, .b, fun _ _ => 0, id⟩
def F.TXP_DPD_CTRL_STEP : Fld := ⟨0x41000100, 0x1000, 0x0, 0x0, 15, 5, .rw, .l, fun _ _ => 16, clampN 1 16⟩
/-! TXP[n].DPD_NBR (06_predistortion.md) -/
def F.TXP_DPD_NBR_NV : Fld := ⟨0x41000104, 0x1000, 0x0, 0x0, 28, 4, .rw, .s, fun _ _ => 0, id⟩
def F.TXP_DPD_NBR_N3 : Fld := ⟨0x41000104, 0x1000, 0x0, 0x0, 18, 6, .rw, .s, fun _ _ => 0, id⟩
def F.TXP_DPD_NBR_N2 : Fld := ⟨0x41000104, 0x1000, 0x0, 0x0, 12, 6, .rw, .s, fun _ _ => 0, id⟩
def F.TXP_DPD_NBR_N1 : Fld := ⟨0x41000104, 0x1000, 0x0, 0x0, 6, 6, .rw, .s, fun _ _ => 0, id⟩
def F.TXP_DPD_NBR_N0 : Fld := ⟨0x41000104, 0x1000, 0x0, 0x0, 0, 6, .rw, .s, fun _ _ => 0, id⟩
/-! TXP[n].DPD_UPDATE (06_predistortion.md) -/
def F.TXP_DPD_UPDATE_GO : Fld := ⟨0x41000108, 0x1000, 0x0, 0x0, 31, 1, .wo, .none, fun _ _ => 0, id⟩
def F.TXP_DPD_UPDATE_PENDING : Fld := ⟨0x41000108, 0x1000, 0x0, 0x0, 30, 1, .ro, .none, fun _ _ => 0, id⟩
def F.TXP_DPD_UPDATE_TRIAL : Fld := ⟨0x41000108, 0x1000, 0x0, 0x0, 29, 1, .ro, .none, fun _ _ => 0, id⟩
def F.TXP_DPD_UPDATE_SET : Fld := ⟨0x41000108, 0x1000, 0x0, 0x0, 16, 4, .rw, .l, fun _ _ => 0, id⟩
def F.TXP_DPD_UPDATE_LAST : Fld := ⟨0x41000108, 0x1000, 0x0, 0x0, 8, 2, .ro, .none, fun _ _ => 0, id⟩
/-! TXP[n].DPD_STATUS (06_predistortion.md) -/
def F.TXP_DPD_STATUS_BYPASSED : Fld := ⟨0x4100010C, 0x1000, 0x0, 0x0, 31, 1, .w1c, .none, fun _ _ => 0, id⟩
def F.TXP_DPD_STATUS_BLEND_POS : Fld := ⟨0x4100010C, 0x1000, 0x0, 0x0, 28, 3, .ro, .none, fun _ _ => 0, id⟩
def F.TXP_DPD_STATUS_TARGET_SET : Fld := ⟨0x4100010C, 0x1000, 0x0, 0x0, 20, 4, .ro, .none, fun _ _ => 0, id⟩
def F.TXP_DPD_STATUS_KEY : Fld := ⟨0x4100010C, 0x1000, 0x0, 0x0, 8, 8, .ro, .none, fun _ _ => 0, id⟩
/-! TXP[n].DPD_STALE (06_predistortion.md) -/
def F.TXP_DPD_STALE_FROZEN : Fld := ⟨0x41000110, 0x1000, 0x0, 0x0, 16, 16, .w1c, .none, fun _ _ => 0, id⟩
def F.TXP_DPD_STALE_STALE : Fld := ⟨0x41000110, 0x1000, 0x0, 0x0, 0, 16, .ro, .none, fun _ _ => 0, id⟩
/-! TXP[n].DPD_COUNT (06_predistortion.md) -/
def F.TXP_DPD_COUNT_ROLLBACKS : Fld := ⟨0x41000114, 0x1000, 0x0, 0x0, 24, 8, .rc, .none, fun _ _ => 0, id⟩
def F.TXP_DPD_COUNT_REFUSED : Fld := ⟨0x41000114, 0x1000, 0x0, 0x0, 16, 8, .rc, .none, fun _ _ => 0, id⟩
def F.TXP_DPD_COUNT_DEF_USED : Fld := ⟨0x41000114, 0x1000, 0x0, 0x0, 8, 8, .rc, .none, fun _ _ => 0, id⟩
def F.TXP_DPD_COUNT_SAT_SYMBOLS : Fld := ⟨0x41000114, 0x1000, 0x0, 0x0, 0, 8, .rc, .none, fun _ _ => 0, id⟩
/-! TXP[n].DPD_MON (06_predistortion.md) -/
def F.TXP_DPD_MON_GAIN : Fld := ⟨0x41000118, 0x1000, 0x0, 0x0, 16, 16, .ro, .none, fun _ _ => 0, id⟩
def F.TXP_DPD_MON_EXP : Fld := ⟨0x41000118, 0x1000, 0x0, 0x0, 0, 16, .ro, .none, fun _ _ => 0, id⟩
/-! DPD.CFG (06_predistortion.md) -/
def F.DPD_CFG_SCHED_EN : Fld := ⟨0x41200000, 0x0, 0x0, 0x0, 31, 1, .rw, .l, fun _ _ => 0, id⟩
def F.DPD_CFG_REFRESH : Fld := ⟨0x41200000, 0x0, 0x0, 0x0, 16, 10, .rw, .s, fun _ _ => 100, clampN 1 1000⟩
def F.DPD_CFG_MIR_SHARE : Fld := ⟨0x41200000, 0x0, 0x0, 0x0, 4, 4, .rw, .s, fun _ _ => 4, id⟩
/-! DPD.MON_CFG (06_predistortion.md) -/
def F.DPD_MON_CFG_GAIN_TOL : Fld := ⟨0x41200004, 0x0, 0x0, 0x0, 24, 8, .rw, .l, fun _ _ => 10, id⟩
def F.DPD_MON_CFG_EXP_MAX : Fld := ⟨0x41200004, 0x0, 0x0, 0x0, 16, 8, .rw, .l, fun _ _ => 60, id⟩
def F.DPD_MON_CFG_FAIL_LIMIT : Fld := ⟨0x41200004, 0x0, 0x0, 0x0, 8, 8, .rw, .l, fun _ _ => 4, fun v => max v 1⟩
def F.DPD_MON_CFG_FREEZE_AFTER : Fld := ⟨0x41200004, 0x0, 0x0, 0x0, 0, 8, .rw, .l, fun _ _ => 3, fun v => max v 1⟩
/-! DPD.COUNT (06_predistortion.md) -/
def F.DPD_COUNT_STALE_EVENTS : Fld := ⟨0x41200008, 0x0, 0x0, 0x0, 24, 8, .rc, .none, fun _ _ => 0, id⟩
def F.DPD_COUNT_DIVERGED : Fld := ⟨0x41200008, 0x0, 0x0, 0x0, 16, 8, .rc, .none, fun _ _ => 0, id⟩
def F.DPD_COUNT_UNSTABLE : Fld := ⟨0x41200008, 0x0, 0x0, 0x0, 8, 8, .rc, .none, fun _ _ => 0, id⟩
def F.DPD_COUNT_LAPSED : Fld := ⟨0x41200008, 0x0, 0x0, 0x0, 0, 8, .rc, .none, fun _ _ => 0, id⟩
/-! ORX[k].CTRL (06_predistortion.md) -/
def F.ORX_CTRL_EN : Fld := ⟨0x41100000, 0x1000, 0x0, 0x0, 31, 1, .rw, .l, fun _ _ => 0, id⟩
def F.ORX_CTRL_ATT : Fld := ⟨0x41100000, 0x1000, 0x0, 0x0, 26, 5, .rw, .b, fun _ _ => 31, id⟩
def F.ORX_CTRL_CAP_LOG2 : Fld := ⟨0x41100000, 0x1000, 0x0, 0x0, 16, 4, .rw, .s, fun _ _ => 14, clampN 10 16⟩
def F.ORX_CTRL_SW_SETTLE : Fld := ⟨0x41100000, 0x1000, 0x0, 0x0, 8, 8, .rw, .s, fun _ _ => 25, id⟩
def F.ORX_CTRL_SKIP : Fld := ⟨0x41100000, 0x1000, 0x0, 0x0, 0, 8, .rw, .s, fun _ _ => 0, id⟩
/-! ORX[k].DELAY (06_predistortion.md) -/
def F.ORX_DELAY_DELAY : Fld := ⟨0x41100004, 0x1000, 0x0, 0x0, 0, 16, .rw, .s, fun _ _ => 0, id⟩
/-! ORX[k].COPY (06_predistortion.md) -/
def F.ORX_COPY_CEN : Fld := ⟨0x41100008, 0x1000, 0x0, 0x0, 31, 1, .rw, .l, fun _ _ => 0, id⟩
def F.ORX_COPY_ADDR : Fld := ⟨0x41100008, 0x1000, 0x0, 0x0, 0, 24, .rw, .l, fun _ _ => 0, id⟩
/-! ORX[k].STATUS (06_predistortion.md) -/
def F.ORX_STATUS_BUSY : Fld := ⟨0x4110000C, 0x1000, 0x0, 0x0, 31, 1, .ro, .none, fun _ _ => 0, id⟩
def F.ORX_STATUS_COPY_OK : Fld := ⟨0x4110000C, 0x1000, 0x0, 0x0, 30, 1, .ro, .none, fun _ _ => 0, id⟩
def F.ORX_STATUS_PATH : Fld := ⟨0x4110000C, 0x1000, 0x0, 0x0, 24, 6, .ro, .none, fun _ _ => 0, id⟩
def F.ORX_STATUS_SET : Fld := ⟨0x4110000C, 0x1000, 0x0, 0x0, 16, 4, .ro, .none, fun _ _ => 0, id⟩
def F.ORX_STATUS_SEL : Fld := ⟨0x4110000C, 0x1000, 0x0, 0x0, 0, 3, .ro, .none, fun _ _ => 0, id⟩
/-! ORX[k].BUF (06_predistortion.md) -/
def F.ORX_BUF_HELD : Fld := ⟨0x41100010, 0x1000, 0x0, 0x0, 0, 2, .w1c, .none, fun _ _ => 0, id⟩
/-! ORX[k].DISCARD (06_predistortion.md) -/
def F.ORX_DISCARD_BUF_SKIP : Fld := ⟨0x41100014, 0x1000, 0x0, 0x0, 20, 4, .rc, .none, fun _ _ => 0, id⟩
def F.ORX_DISCARD_ALIGN : Fld := ⟨0x41100014, 0x1000, 0x0, 0x0, 16, 4, .rc, .none, fun _ _ => 0, id⟩
def F.ORX_DISCARD_CLIP : Fld := ⟨0x41100014, 0x1000, 0x0, 0x0, 12, 4, .rc, .none, fun _ _ => 0, id⟩
def F.ORX_DISCARD_LO : Fld := ⟨0x41100014, 0x1000, 0x0, 0x0, 8, 4, .rc, .none, fun _ _ => 0, id⟩
def F.ORX_DISCARD_ZS : Fld := ⟨0x41100014, 0x1000, 0x0, 0x0, 4, 4, .rc, .none, fun _ _ => 0, id⟩
def F.ORX_DISCARD_BEAM : Fld := ⟨0x41100014, 0x1000, 0x0, 0x0, 0, 4, .rc, .none, fun _ _ => 0, id⟩
/-! ORX[k].REQ (06_predistortion.md) -/
def F.ORX_REQ_GO : Fld := ⟨0x41100018, 0x1000, 0x0, 0x0, 31, 1, .wo, .none, fun _ _ => 0, id⟩
def F.ORX_REQ_PEND : Fld := ⟨0x41100018, 0x1000, 0x0, 0x0, 30, 1, .ro, .none, fun _ _ => 0, id⟩
def F.ORX_REQ_PATH : Fld := ⟨0x41100018, 0x1000, 0x0, 0x0, 0, 3, .rw, .l, fun _ _ => 0, id⟩
/-! MIR.CFG (07_mirror.md) -/
def F.MIR_CFG_EN : Fld := ⟨0x41300000, 0x0, 0x0, 0x0, 31, 1, .rw, .l, fun _ _ => 0, id⟩
def F.MIR_CFG_REF : Fld := ⟨0x41300000, 0x0, 0x0, 0x0, 24, 6, .rw, .s, fun _ _ => 0, id⟩
def F.MIR_CFG_PERIOD : Fld := ⟨0x41300000, 0x0, 0x0, 0x0, 12, 12, .rw, .s, fun _ _ => 100, fun v => max v 1⟩
def F.MIR_CFG_ROUND_MAX : Fld := ⟨0x41300000, 0x0, 0x0, 0x0, 4, 8, .rw, .s, fun _ _ => 50, fun v => max v 1⟩
/-! MIR.PROBE (07_mirror.md) -/
def F.MIR_PROBE_ORX_ATT : Fld := ⟨0x41300004, 0x0, 0x0, 0x0, 16, 5, .rw, .b, fun _ _ => 20, id⟩
def F.MIR_PROBE_LEVEL : Fld := ⟨0x41300004, 0x0, 0x0, 0x0, 8, 6, .rw, .b, fun _ _ => 0, id⟩
def F.MIR_PROBE_REPS : Fld := ⟨0x41300004, 0x0, 0x0, 0x0, 0, 4, .rw, .b, fun _ _ => 4, clampN 2 8⟩
/-! MIR.BUF (07_mirror.md) -/
def F.MIR_BUF_ADDR : Fld := ⟨0x41300008, 0x0, 0x0, 0x0, 0, 24, .rw, .s, fun _ _ => 0, id⟩
/-! MIR.ROUND (07_mirror.md) -/
def F.MIR_ROUND_START : Fld := ⟨0x4130000C, 0x0, 0x0, 0x0, 31, 1, .wo, .none, fun _ _ => 0, id⟩
def F.MIR_ROUND_BASE : Fld := ⟨0x4130000C, 0x0, 0x0, 0x0, 30, 1, .rw, .l, fun _ _ => 0, id⟩
def F.MIR_ROUND_BUSY : Fld := ⟨0x4130000C, 0x0, 0x0, 0x0, 29, 1, .ro, .none, fun _ _ => 0, id⟩
def F.MIR_ROUND_PROBED : Fld := ⟨0x4130000C, 0x0, 0x0, 0x0, 16, 7, .ro, .none, fun _ _ => 0, id⟩
def F.MIR_ROUND_NUMBER : Fld := ⟨0x4130000C, 0x0, 0x0, 0x0, 0, 16, .ro, .none, fun _ _ => 0, id⟩
/-! MIR.SOLVE (07_mirror.md) -/
def F.MIR_SOLVE_GO : Fld := ⟨0x41300010, 0x0, 0x0, 0x0, 31, 1, .wo, .none, fun _ _ => 0, id⟩
def F.MIR_SOLVE_ACCEPT : Fld := ⟨0x41300010, 0x0, 0x0, 0x0, 30, 1, .rw, .l, fun _ _ => 0, id⟩
def F.MIR_SOLVE_PENDING : Fld := ⟨0x41300010, 0x0, 0x0, 0x0, 29, 1, .ro, .none, fun _ _ => 0, id⟩
def F.MIR_SOLVE_TEST : Fld := ⟨0x41300010, 0x0, 0x0, 0x0, 24, 5, .rw, .l, fun _ _ => 0, id⟩
def F.MIR_SOLVE_ROUND : Fld := ⟨0x41300010, 0x0, 0x0, 0x0, 0, 16, .rw, .l, fun _ _ => 0, id⟩
/-! MIR.STATUS (07_mirror.md) -/
def F.MIR_STATUS_LAST : Fld := ⟨0x41300014, 0x0, 0x0, 0x0, 30, 2, .ro, .none, fun _ _ => 0, id⟩
def F.MIR_STATUS_LAST_ROUND : Fld := ⟨0x41300014, 0x0, 0x0, 0x0, 0, 16, .ro, .none, fun _ _ => 0, id⟩
/-! MIR.ACCEPT (07_mirror.md) -/
def F.MIR_ACCEPT_RES_PH : Fld := ⟨0x41300018, 0x0, 0x0, 0x0, 24, 8, .rw, .l, fun _ _ => 20, id⟩
def F.MIR_ACCEPT_RES_G : Fld := ⟨0x41300018, 0x0, 0x0, 0x0, 16, 8, .rw, .l, fun _ _ => 20, id⟩
def F.MIR_ACCEPT_STEP_PH : Fld := ⟨0x41300018, 0x0, 0x0, 0x0, 8, 8, .rw, .l, fun _ _ => 40, id⟩
def F.MIR_ACCEPT_STEP_G : Fld := ⟨0x41300018, 0x0, 0x0, 0x0, 0, 8, .rw, .l, fun _ _ => 20, id⟩
/-! MIR.SOLVER_CFG (07_mirror.md) -/
def F.MIR_SOLVER_CFG_OUT_TOL : Fld := ⟨0x4130001C, 0x0, 0x0, 0x0, 8, 8, .rw, .l, fun _ _ => 12, id⟩
def F.MIR_SOLVER_CFG_OUT_MAX : Fld := ⟨0x4130001C, 0x0, 0x0, 0x0, 0, 8, .rw, .l, fun _ _ => 26, id⟩
/-! MIR.COUNT (07_mirror.md) -/
def F.MIR_COUNT_ROUNDS : Fld := ⟨0x41300020, 0x0, 0x0, 0x0, 24, 8, .rc, .none, fun _ _ => 0, id⟩
def F.MIR_COUNT_COMMITTED : Fld := ⟨0x41300020, 0x0, 0x0, 0x0, 16, 8, .rc, .none, fun _ _ => 0, id⟩
def F.MIR_COUNT_REJECTED : Fld := ⟨0x41300020, 0x0, 0x0, 0x0, 8, 8, .rc, .none, fun _ _ => 0, id⟩
def F.MIR_COUNT_ABORTED : Fld := ⟨0x41300020, 0x0, 0x0, 0x0, 0, 8, .rc, .none, fun _ _ => 0, id⟩
/-! MIR.COUNT1 (07_mirror.md) -/
def F.MIR_COUNT1_LOST : Fld := ⟨0x41300024, 0x0, 0x0, 0x0, 16, 16, .rc, .none, fun _ _ => 0, id⟩
def F.MIR_COUNT1_REFUSED : Fld := ⟨0x41300024, 0x0, 0x0, 0x0, 0, 16, .rc, .none, fun _ _ => 0, id⟩
/-! MIR.GEOM[e] (07_mirror.md) -/
def F.MIR_GEOM_PRESENT : Fld := ⟨0x41300100, 0x4, 0x0, 0x0, 31, 1, .rw, .s, fun _ _ => 0, id⟩
def F.MIR_GEOM_Y : Fld := ⟨0x41300100, 0x4, 0x0, 0x0, 8, 8, .rw, .s, fun _ _ => 0, id⟩
def F.MIR_GEOM_X : Fld := ⟨0x41300100, 0x4, 0x0, 0x0, 0, 8, .rw, .s, fun _ _ => 0, id⟩
/-! FLW[f].CTRL (08_flows_placement.md) -/
def F.FLW_CTRL_REQ : Fld := ⟨0x40200000, 0x40, 0x0, 0x0, 30, 2, .wo, .none, fun _ _ => 0, id⟩
def F.FLW_CTRL_CLASS : Fld := ⟨0x40200000, 0x40, 0x0, 0x0, 28, 2, .rw, .s, fun _ _ => 0, id⟩
def F.FLW_CTRL_TYPE : Fld := ⟨0x40200000, 0x40, 0x0, 0x0, 25, 3, .rw, .s, fun _ _ => 0, id⟩
def F.FLW_CTRL_TL : Fld := ⟨0x40200000, 0x40, 0x0, 0x0, 23, 2, .rw, .s, fun _ _ => 0, id⟩
def F.FLW_CTRL_MANT : Fld := ⟨0x40200000, 0x40, 0x0, 0x0, 20, 3, .rw, .s, fun _ _ => 1, id⟩
def F.FLW_CTRL_HOME_PORT : Fld := ⟨0x40200000, 0x40, 0x0, 0x0, 18, 2, .rw, .s, fun _ _ => 0, id⟩
def F.FLW_CTRL_LINK_ID : Fld := ⟨0x40200000, 0x40, 0x0, 0x0, 0, 16, .rw, .s, fun _ _ => 0, id⟩
/-! FLW[f].PIN (08_flows_placement.md) -/
def F.FLW_PIN_PIN_PORT : Fld := ⟨0x40200004, 0x40, 0x0, 0x0, 31, 1, .rw, .s, fun _ _ => 0, id⟩
def F.FLW_PIN_PIN_LANES : Fld := ⟨0x40200004, 0x40, 0x0, 0x0, 30, 1, .rw, .s, fun _ _ => 0, id⟩
def F.FLW_PIN_PIN_ENGINE : Fld := ⟨0x40200004, 0x40, 0x0, 0x0, 29, 1, .rw, .s, fun _ _ => 0, id⟩
def F.FLW_PIN_PIN_BUFFER : Fld := ⟨0x40200004, 0x40, 0x0, 0x0, 28, 1, .rw, .s, fun _ _ => 0, id⟩
def F.FLW_PIN_LANES : Fld := ⟨0x40200004, 0x40, 0x0, 0x0, 24, 4, .rw, .s, fun _ _ => 0, id⟩
def F.FLW_PIN_ENGINE : Fld := ⟨0x40200004, 0x40, 0x0, 0x0, 20, 4, .rw, .s, fun _ _ => 0, id⟩
/-! FLW[f].DEMAND (08_flows_placement.md) -/
def F.FLW_DEMAND_RATE_MBPS : Fld := ⟨0x40200008, 0x40, 0x0, 0x0, 16, 16, .rw, .s, fun _ _ => 0, id⟩
def F.FLW_DEMAND_LOAD : Fld := ⟨0x40200008, 0x40, 0x0, 0x0, 8, 8, .rw, .s, fun _ _ => 0, id⟩
def F.FLW_DEMAND_KERNEL : Fld := ⟨0x40200008, 0x40, 0x0, 0x0, 0, 8, .rw, .s, fun _ _ => 0, id⟩
/-! FLW[f].LIMITS (08_flows_placement.md) -/
def F.FLW_LIMITS_LAT_MAX : Fld := ⟨0x4020000C, 0x40, 0x0, 0x0, 16, 16, .rw, .s, fun _ _ => 0, id⟩
def F.FLW_LIMITS_DEPTH : Fld := ⟨0x4020000C, 0x40, 0x0, 0x0, 0, 8, .rw, .s, fun _ _ => 5, id⟩
/-! FLW[f].PLACE (08_flows_placement.md) -/
def F.FLW_PLACE_PORT : Fld := ⟨0x40200010, 0x40, 0x0, 0x0, 30, 2, .ro, .none, fun _ _ => 0, id⟩
def F.FLW_PLACE_LANES : Fld := ⟨0x40200010, 0x40, 0x0, 0x0, 26, 4, .ro, .none, fun _ _ => 0, id⟩
def F.FLW_PLACE_ENGINE : Fld := ⟨0x40200010, 0x40, 0x0, 0x0, 22, 4, .ro, .none, fun _ _ => 0, id⟩
def F.FLW_PLACE_ENG_VALID : Fld := ⟨0x40200010, 0x40, 0x0, 0x0, 21, 1, .ro, .none, fun _ _ => 0, id⟩
def F.FLW_PLACE_BUF_PAGES : Fld := ⟨0x40200010, 0x40, 0x0, 0x0, 12, 9, .ro, .none, fun _ _ => 0, id⟩
def F.FLW_PLACE_BUF_PAGE : Fld := ⟨0x40200010, 0x40, 0x0, 0x0, 0, 12, .ro, .none, fun _ _ => 0, id⟩
/-! FLW[f].STATUS (08_flows_placement.md) -/
def F.FLW_STATUS_STATE : Fld := ⟨0x40200014, 0x40, 0x0, 0x0, 29, 3, .ro, .none, fun _ _ => 0, id⟩
def F.FLW_STATUS_MOVE_PEND : Fld := ⟨0x40200014, 0x40, 0x0, 0x0, 28, 1, .ro, .none, fun _ _ => 0, id⟩
def F.FLW_STATUS_CAUSE : Fld := ⟨0x40200014, 0x40, 0x0, 0x0, 24, 4, .ro, .none, fun _ _ => 0, id⟩
def F.FLW_STATUS_REFUSAL : Fld := ⟨0x40200014, 0x40, 0x0, 0x0, 16, 8, .ro, .none, fun _ _ => 0, id⟩
def F.FLW_STATUS_CHARGE : Fld := ⟨0x40200014, 0x40, 0x0, 0x0, 0, 16, .ro, .none, fun _ _ => 0, id⟩
/-! FLW[f].PROGRESS (08_flows_placement.md) -/
def F.FLW_PROGRESS_VALID : Fld := ⟨0x40200018, 0x40, 0x0, 0x0, 31, 1, .ro, .none, fun _ _ => 0, id⟩
def F.FLW_PROGRESS_PARTIAL : Fld := ⟨0x40200018, 0x40, 0x0, 0x0, 30, 1, .w1c, .none, fun _ _ => 0, id⟩
def F.FLW_PROGRESS_AHEAD : Fld := ⟨0x40200018, 0x40, 0x0, 0x0, 21, 9, .ro, .none, fun _ _ => 0, id⟩
def F.FLW_PROGRESS_FRAME : Fld := ⟨0x40200018, 0x40, 0x0, 0x0, 11, 10, .ro, .none, fun _ _ => 0, id⟩
def F.FLW_PROGRESS_SYMBOL : Fld := ⟨0x40200018, 0x40, 0x0, 0x0, 0, 11, .ro, .none, fun _ _ => 0, id⟩
/-! FLW[f].LAT (08_flows_placement.md) -/
def F.FLW_LAT_WORST : Fld := ⟨0x4020001C, 0x40, 0x0, 0x0, 16, 16, .rc, .none, fun _ _ => 0, id⟩
/-! FLW[f].COUNT (08_flows_placement.md) -/
def F.FLW_COUNT_MOVES : Fld := ⟨0x40200020, 0x40, 0x0, 0x0, 24, 8, .rc, .none, fun _ _ => 0, id⟩
def F.FLW_COUNT_ABANDONED : Fld := ⟨0x40200020, 0x40, 0x0, 0x0, 16, 8, .rc, .none, fun _ _ => 0, id⟩
def F.FLW_COUNT_LAT_VIOL : Fld := ⟨0x40200020, 0x40, 0x0, 0x0, 8, 8, .rc, .none, fun _ _ => 0, id⟩
def F.FLW_COUNT_DROPPED : Fld := ⟨0x40200020, 0x40, 0x0, 0x0, 0, 8, .rc, .none, fun _ _ => 0, id⟩
/-! PLC.CFG (08_flows_placement.md) -/
def F.PLC_CFG_EN : Fld := ⟨0x40060000, 0x0, 0x0, 0x0, 31, 1, .rw, .l, fun _ _ => 0, id⟩
def F.PLC_CFG_TL : Fld := ⟨0x40060000, 0x0, 0x0, 0x0, 29, 2, .rw, .s, fun _ _ => 0, id⟩
def F.PLC_CFG_FILL : Fld := ⟨0x40060000, 0x0, 0x0, 0x0, 20, 8, .rw, .s, fun _ _ => 240, id⟩
def F.PLC_CFG_OVH : Fld := ⟨0x40060000, 0x0, 0x0, 0x0, 12, 8, .rw, .s, fun _ _ => 8, fun v => max v 8⟩
def F.PLC_CFG_NOTICE : Fld := ⟨0x40060000, 0x0, 0x0, 0x0, 4, 8, .rw, .s, fun _ _ => 50, id⟩
def F.PLC_CFG_MAX_MOVES : Fld := ⟨0x40060000, 0x0, 0x0, 0x0, 0, 4, .rw, .s, fun _ _ => 4, id⟩
/-! PLC.EQUIV (08_flows_placement.md) -/
def F.PLC_EQUIV_BAL : Fld := ⟨0x40060004, 0x0, 0x0, 0x0, 24, 8, .rw, .s, fun _ _ => 64, id⟩
def F.PLC_EQUIV_EQ : Fld := ⟨0x40060004, 0x0, 0x0, 0x0, 0, 16, .rw, .s, fun _ _ => 0, id⟩
/-! PLC.ENG_CFG (08_flows_placement.md) -/
def F.PLC_ENG_CFG_AVAIL : Fld := ⟨0x40060008, 0x0, 0x0, 0x0, 16, 16, .rw, .s, fun _ _ => 65535, id⟩
def F.PLC_ENG_CFG_ENG_FILL : Fld := ⟨0x40060008, 0x0, 0x0, 0x0, 8, 8, .rw, .s, fun _ _ => 192, id⟩
/-! PLC.POOL_BASE (08_flows_placement.md) -/
def F.PLC_POOL_BASE_ADDR : Fld := ⟨0x4006000C, 0x0, 0x0, 0x0, 0, 24, .rw, .s, fun _ _ => 0, id⟩
/-! PLC.POOL_SIZE (08_flows_placement.md) -/
def F.PLC_POOL_SIZE_SIZE : Fld := ⟨0x40060010, 0x0, 0x0, 0x0, 0, 24, .rw, .s, fun _ _ => 0, id⟩
/-! PLC.EPOCH (08_flows_placement.md) -/
def F.PLC_EPOCH_GO : Fld := ⟨0x40060014, 0x0, 0x0, 0x0, 31, 1, .wo, .none, fun _ _ => 0, id⟩
def F.PLC_EPOCH_BUSY : Fld := ⟨0x40060014, 0x0, 0x0, 0x0, 30, 1, .ro, .none, fun _ _ => 0, id⟩
def F.PLC_EPOCH_RERUN : Fld := ⟨0x40060014, 0x0, 0x0, 0x0, 29, 1, .ro, .none, fun _ _ => 0, id⟩
def F.PLC_EPOCH_COUNT : Fld := ⟨0x40060014, 0x0, 0x0, 0x0, 0, 16, .ro, .none, fun _ _ => 0, id⟩
/-! PLC.LOG_BASE (08_flows_placement.md) -/
def F.PLC_LOG_BASE_SIZE : Fld := ⟨0x40060018, 0x0, 0x0, 0x0, 28, 4, .rw, .s, fun _ _ => 0, fun v => min v 8⟩
def F.PLC_LOG_BASE_ADDR : Fld := ⟨0x40060018, 0x0, 0x0, 0x0, 0, 24, .rw, .s, fun _ _ => 0, id⟩
/-! PLC.LOG_HEAD (08_flows_placement.md) -/
def F.PLC_LOG_HEAD_HEAD : Fld := ⟨0x4006001C, 0x0, 0x0, 0x0, 0, 32, .ro, .none, fun _ _ => 0, id⟩
/-! PLC.COUNT (08_flows_placement.md) -/
def F.PLC_COUNT_ADMITS : Fld := ⟨0x40060020, 0x0, 0x0, 0x0, 24, 8, .rc, .none, fun _ _ => 0, id⟩
def F.PLC_COUNT_REFUSALS : Fld := ⟨0x40060020, 0x0, 0x0, 0x0, 16, 8, .rc, .none, fun _ _ => 0, id⟩
def F.PLC_COUNT_MOVES : Fld := ⟨0x40060020, 0x0, 0x0, 0x0, 8, 8, .rc, .none, fun _ _ => 0, id⟩
def F.PLC_COUNT_SHEDS : Fld := ⟨0x40060020, 0x0, 0x0, 0x0, 0, 8, .rc, .none, fun _ _ => 0, id⟩
/-! PLC.LANE_LOAD[l] (08_flows_placement.md) -/
def F.PLC_LANE_LOAD_READY : Fld := ⟨0x40060040, 0x4, 0x0, 0x0, 31, 1, .ro, .none, fun _ _ => 0, id⟩
def F.PLC_LANE_LOAD_MBPS : Fld := ⟨0x40060040, 0x4, 0x0, 0x0, 0, 16, .ro, .none, fun _ _ => 0, id⟩
/-! PLC.ENG_LOAD[n] (08_flows_placement.md) -/
def F.PLC_ENG_LOAD_AVAIL : Fld := ⟨0x40060080, 0x4, 0x0, 0x0, 31, 1, .ro, .none, fun _ _ => 0, id⟩
def F.PLC_ENG_LOAD_MCPS : Fld := ⟨0x40060080, 0x4, 0x0, 0x0, 0, 16, .ro, .none, fun _ _ => 0, id⟩
/-! PLC.PAT_SEL (08_flows_placement.md) -/
def F.PLC_PAT_SEL_BANK : Fld := ⟨0x400600C0, 0x0, 0x0, 0x0, 0, 4, .rw, .b, fun _ _ => 0, id⟩
/-! PLC.PATTERN[b][k][w] (08_flows_placement.md) -/
def F.PLC_PATTERN_CODES : Fld := ⟨0x40060400, 0x800, 0x200, 0x4, 0, 32, .rw, .l, fun _ _ => 0, id⟩
/-! LNK[p].CFG (09_trourn_link.md) -/
def F.LNK_CFG_EN : Fld := ⟨0x40100000, 0x10000, 0x0, 0x0, 31, 1, .rw, .l, fun _ _ => 0, id⟩
def F.LNK_CFG_PARTNER : Fld := ⟨0x40100000, 0x10000, 0x0, 0x0, 30, 1, .rw, .s, fun _ _ => 0, id⟩
def F.LNK_CFG_TIME_ROLE : Fld := ⟨0x40100000, 0x10000, 0x0, 0x0, 28, 2, .rw, .s, fun _ _ => 0, eqTo 3 0⟩
def F.LNK_CFG_TAG_CHECK : Fld := ⟨0x40100000, 0x10000, 0x0, 0x0, 27, 1, .rw, .s, fun _ _ => 0, id⟩
def F.LNK_CFG_SYNC_INT : Fld := ⟨0x40100000, 0x10000, 0x0, 0x0, 16, 8, .rw, .s, fun _ _ => 10, fun v => max v 1⟩
/-! LNK[p].TAG (09_trourn_link.md) -/
def F.LNK_TAG_TX_TAG : Fld := ⟨0x40100004, 0x10000, 0x0, 0x0, 16, 16, .rw, .s, fun _ _ => 0, id⟩
def F.LNK_TAG_RX_TAG : Fld := ⟨0x40100004, 0x10000, 0x0, 0x0, 0, 16, .rw, .s, fun _ _ => 0, id⟩
/-! LNK[p].MOD (09_trourn_link.md) -/
def F.LNK_MOD_MOD_US : Fld := ⟨0x40100008, 0x10000, 0x0, 0x0, 0, 16, .rw, .l, fun _ _ => 100, id⟩
/-! LNK[p].MGMT_RING (09_trourn_link.md) -/
def F.LNK_MGMT_RING_HEAD : Fld := ⟨0x4010000C, 0x10000, 0x0, 0x0, 28, 4, .ro, .none, fun _ _ => 0, id⟩
def F.LNK_MGMT_RING_TAIL : Fld := ⟨0x4010000C, 0x10000, 0x0, 0x0, 24, 4, .rw, .l, fun _ _ => 0, id⟩
def F.LNK_MGMT_RING_BASE : Fld := ⟨0x4010000C, 0x10000, 0x0, 0x0, 0, 24, .rw, .s, fun _ _ => 0, id⟩
/-! LNK[p].MGMT_POST (09_trourn_link.md) -/
def F.LNK_MGMT_POST_GO : Fld := ⟨0x40100010, 0x10000, 0x0, 0x0, 31, 1, .wo, .none, fun _ _ => 0, id⟩
def F.LNK_MGMT_POST_BUSY : Fld := ⟨0x40100010, 0x10000, 0x0, 0x0, 30, 1, .ro, .none, fun _ _ => 0, id⟩
def F.LNK_MGMT_POST_SLOT : Fld := ⟨0x40100010, 0x10000, 0x0, 0x0, 24, 4, .rw, .l, fun _ _ => 0, id⟩
def F.LNK_MGMT_POST_WORDS : Fld := ⟨0x40100010, 0x10000, 0x0, 0x0, 0, 8, .rw, .l, fun _ _ => 0, clampN 1 128⟩
/-! LNK[p].CAP_POST (09_trourn_link.md) -/
def F.LNK_CAP_POST_GO : Fld := ⟨0x40100014, 0x10000, 0x0, 0x0, 31, 1, .wo, .none, fun _ _ => 0, id⟩
def F.LNK_CAP_POST_FID : Fld := ⟨0x40100014, 0x10000, 0x0, 0x0, 17, 9, .rw, .l, fun _ _ => 0, id⟩
def F.LNK_CAP_POST_COUNT : Fld := ⟨0x40100014, 0x10000, 0x0, 0x0, 0, 17, .rw, .l, fun _ _ => 0, clampN 1 65536⟩
/-! LNK[p].DM_CTRL (09_trourn_link.md) -/
def F.LNK_DM_CTRL_GO : Fld := ⟨0x40100020, 0x10000, 0x0, 0x0, 31, 1, .wo, .none, fun _ _ => 0, id⟩
def F.LNK_DM_CTRL_BUSY : Fld := ⟨0x40100020, 0x10000, 0x0, 0x0, 30, 1, .ro, .none, fun _ _ => 0, id⟩
def F.LNK_DM_CTRL_MEAS_ID : Fld := ⟨0x40100020, 0x10000, 0x0, 0x0, 0, 8, .ro, .none, fun _ _ => 0, id⟩
/-! LNK[p].TIME_ASYM (09_trourn_link.md) -/
def F.LNK_TIME_ASYM_ASYM : Fld := ⟨0x40100024, 0x10000, 0x0, 0x0, 0, 16, .rw, .l, fun _ _ => 0, id⟩
/-! LNK[p].TIME_DELAY (09_trourn_link.md) -/
def F.LNK_TIME_DELAY_VALID : Fld := ⟨0x40100028, 0x10000, 0x0, 0x0, 31, 1, .ro, .none, fun _ _ => 0, id⟩
def F.LNK_TIME_DELAY_DELAY : Fld := ⟨0x40100028, 0x10000, 0x0, 0x0, 0, 24, .ro, .none, fun _ _ => 0, id⟩
/-! LNK[p].TIME_OFFSET_LO (09_trourn_link.md) -/
def F.LNK_TIME_OFFSET_LO_OFFSET : Fld := ⟨0x40100030, 0x10000, 0x0, 0x0, 0, 32, .ro, .none, fun _ _ => 0, id⟩
/-! LNK[p].TIME_OFFSET_HI (09_trourn_link.md) -/
def F.LNK_TIME_OFFSET_HI_OFFSET : Fld := ⟨0x40100034, 0x10000, 0x0, 0x0, 0, 32, .ro, .none, fun _ _ => 0, id⟩
/-! LNK[p].ERR0 (09_trourn_link.md) -/
def F.LNK_ERR0_CRC : Fld := ⟨0x40100040, 0x10000, 0x0, 0x0, 16, 16, .rc, .none, fun _ _ => 0, id⟩
def F.LNK_ERR0_UNSUPPORTED : Fld := ⟨0x40100040, 0x10000, 0x0, 0x0, 0, 16, .rc, .none, fun _ _ => 0, id⟩
/-! LNK[p].ERR1 (09_trourn_link.md) -/
def F.LNK_ERR1_MALFORMED : Fld := ⟨0x40100044, 0x10000, 0x0, 0x0, 16, 16, .rc, .none, fun _ _ => 0, id⟩
def F.LNK_ERR1_NOFLOW : Fld := ⟨0x40100044, 0x10000, 0x0, 0x0, 0, 16, .rc, .none, fun _ _ => 0, id⟩
/-! LNK[p].ERR2 (09_trourn_link.md) -/
def F.LNK_ERR2_LATE : Fld := ⟨0x40100048, 0x10000, 0x0, 0x0, 16, 16, .rc, .none, fun _ _ => 0, id⟩
def F.LNK_ERR2_EARLY : Fld := ⟨0x40100048, 0x10000, 0x0, 0x0, 0, 16, .rc, .none, fun _ _ => 0, id⟩
/-! LNK[p].ERR3 (09_trourn_link.md) -/
def F.LNK_ERR3_SEQ_GAP : Fld := ⟨0x4010004C, 0x10000, 0x0, 0x0, 16, 16, .rc, .none, fun _ _ => 0, id⟩
def F.LNK_ERR3_WRONG_PORT : Fld := ⟨0x4010004C, 0x10000, 0x0, 0x0, 8, 8, .rc, .none, fun _ _ => 0, id⟩
def F.LNK_ERR3_TAG : Fld := ⟨0x4010004C, 0x10000, 0x0, 0x0, 0, 8, .rc, .none, fun _ _ => 0, id⟩
/-! LNK[p].EVT_STATUS (09_trourn_link.md) -/
def F.LNK_EVT_STATUS_PENDING : Fld := ⟨0x40100050, 0x10000, 0x0, 0x0, 16, 10, .ro, .none, fun _ _ => 0, id⟩
def F.LNK_EVT_STATUS_WAKES : Fld := ⟨0x40100050, 0x10000, 0x0, 0x0, 0, 16, .rc, .none, fun _ _ => 0, id⟩
/-! LNK[p].LANE_CFG (10_link_lanes.md) -/
def F.LNK_LANE_CFG_WIDTH : Fld := ⟨0x40100060, 0x10000, 0x0, 0x0, 30, 2, .rw, .s, fun p _ => if p = 0 then 2 else 0, fun v => min v 2⟩
def F.LNK_LANE_CFG_RATE : Fld := ⟨0x40100060, 0x10000, 0x0, 0x0, 28, 2, .rw, .s, fun _ _ => 0, id⟩
def F.LNK_LANE_CFG_LPI_EN : Fld := ⟨0x40100060, 0x10000, 0x0, 0x0, 27, 1, .rw, .s, fun _ _ => 0, id⟩
def F.LNK_LANE_CFG_LPI_DELAY : Fld := ⟨0x40100060, 0x10000, 0x0, 0x0, 0, 16, .rw, .s, fun _ _ => 100, fun v => max v 1⟩
/-! LNK[p].LANE_STATUS (10_link_lanes.md) -/
def F.LNK_LANE_STATUS_ORIENT_VALID : Fld := ⟨0x40100064, 0x10000, 0x0, 0x0, 31, 1, .ro, .none, fun _ _ => 0, id⟩
def F.LNK_LANE_STATUS_REVERSED : Fld := ⟨0x40100064, 0x10000, 0x0, 0x0, 30, 1, .ro, .none, fun _ _ => 0, id⟩
def F.LNK_LANE_STATUS_READY : Fld := ⟨0x40100064, 0x10000, 0x0, 0x0, 0, 4, .ro, .none, fun _ _ => 0, id⟩
/-! LANE[l].STATE (10_link_lanes.md) -/
def F.LANE_STATE_READY : Fld := ⟨0x40108000, 0x10000, 0x400, 0x0, 31, 1, .ro, .none, fun _ _ => 0, id⟩
def F.LANE_STATE_TX_LPI : Fld := ⟨0x40108000, 0x10000, 0x400, 0x0, 30, 1, .ro, .none, fun _ _ => 0, id⟩
def F.LANE_STATE_RX_LPI : Fld := ⟨0x40108000, 0x10000, 0x400, 0x0, 29, 1, .ro, .none, fun _ _ => 0, id⟩
def F.LANE_STATE_RX_INV : Fld := ⟨0x40108000, 0x10000, 0x400, 0x0, 28, 1, .ro, .none, fun _ _ => 0, id⟩
def F.LANE_STATE_RX_SRC : Fld := ⟨0x40108000, 0x10000, 0x400, 0x0, 26, 2, .ro, .none, fun _ _ => 0, id⟩
def F.LANE_STATE_STAGE : Fld := ⟨0x40108000, 0x10000, 0x400, 0x0, 20, 4, .ro, .none, fun _ _ => 0, id⟩
def F.LANE_STATE_FAIL_STAGE : Fld := ⟨0x40108000, 0x10000, 0x400, 0x0, 16, 4, .ro, .none, fun _ _ => 0, id⟩
def F.LANE_STATE_DOWN_CAUSE : Fld := ⟨0x40108000, 0x10000, 0x400, 0x0, 12, 4, .ro, .none, fun _ _ => 0, id⟩
def F.LANE_STATE_SKEW : Fld := ⟨0x40108000, 0x10000, 0x400, 0x0, 0, 12, .ro, .none, fun _ _ => 0, id⟩
/-! LANE[l].ERR (10_link_lanes.md) -/
def F.LANE_ERR_CHAR_ERR : Fld := ⟨0x40108004, 0x10000, 0x400, 0x0, 16, 16, .rc, .none, fun _ _ => 0, id⟩
def F.LANE_ERR_DOWN_COUNT : Fld := ⟨0x40108004, 0x10000, 0x400, 0x0, 8, 8, .rc, .none, fun _ _ => 0, id⟩
def F.LANE_ERR_TRAIN_FAIL : Fld := ⟨0x40108004, 0x10000, 0x400, 0x0, 0, 8, .rc, .none, fun _ _ => 0, id⟩
/-! LANE[l].CTRL (10_link_lanes.md) -/
def F.LANE_CTRL_RETRAIN : Fld := ⟨0x40108008, 0x10000, 0x400, 0x0, 31, 1, .wo, .none, fun _ _ => 0, id⟩
def F.LANE_CTRL_CTLE_FRZ : Fld := ⟨0x40108008, 0x10000, 0x400, 0x0, 30, 1, .rw, .l, fun _ _ => 0, id⟩
def F.LANE_CTRL_DFE_FRZ : Fld := ⟨0x40108008, 0x10000, 0x400, 0x0, 29, 1, .rw, .l, fun _ _ => 0, id⟩
def F.LANE_CTRL_CTLE : Fld := ⟨0x40108008, 0x10000, 0x400, 0x0, 0, 4, .rw, .l, fun _ _ => 8, id⟩
/-! LANE[l].TX_CFG (10_link_lanes.md) -/
def F.LANE_TX_CFG_POST : Fld := ⟨0x4010800C, 0x10000, 0x400, 0x0, 4, 4, .rw, .s, fun _ _ => 0, id⟩
def F.LANE_TX_CFG_PRE : Fld := ⟨0x4010800C, 0x10000, 0x400, 0x0, 0, 3, .rw, .s, fun _ _ => 0, id⟩
/-! LANE[l].DFE_TAP[j] (10_link_lanes.md) -/
def F.LANE_DFE_TAP_TAP : Fld := ⟨0x40108010, 0x10000, 0x400, 0x4, 0, 7, .rw, .l, fun _ _ => 0, id⟩
/-! LANE[l].PRBS_CTRL (10_link_lanes.md) -/
def F.LANE_PRBS_CTRL_GEN : Fld := ⟨0x40108040, 0x10000, 0x400, 0x0, 31, 1, .rw, .s, fun _ _ => 0, id⟩
def F.LANE_PRBS_CTRL_CHK : Fld := ⟨0x40108040, 0x10000, 0x400, 0x0, 30, 1, .rw, .s, fun _ _ => 0, id⟩
def F.LANE_PRBS_CTRL_PATTERN : Fld := ⟨0x40108040, 0x10000, 0x400, 0x0, 28, 2, .rw, .s, fun _ _ => 0, id⟩
def F.LANE_PRBS_CTRL_GEN_INV : Fld := ⟨0x40108040, 0x10000, 0x400, 0x0, 27, 1, .rw, .s, fun _ _ => 0, id⟩
def F.LANE_PRBS_CTRL_LOSS : Fld := ⟨0x40108040, 0x10000, 0x400, 0x0, 8, 8, .ro, .none, fun _ _ => 0, id⟩
def F.LANE_PRBS_CTRL_LOCK : Fld := ⟨0x40108040, 0x10000, 0x400, 0x0, 0, 1, .ro, .none, fun _ _ => 0, id⟩
/-! LANE[l].PRBS_ERR (10_link_lanes.md) -/
def F.LANE_PRBS_ERR_ERRORS : Fld := ⟨0x40108044, 0x10000, 0x400, 0x0, 0, 32, .ro, .none, fun _ _ => 0, id⟩
/-! LANE[l].PRBS_BITS_LO (10_link_lanes.md) -/
def F.LANE_PRBS_BITS_LO_BITS : Fld := ⟨0x40108048, 0x10000, 0x400, 0x0, 0, 32, .ro, .none, fun _ _ => 0, id⟩
/-! LANE[l].PRBS_BITS_HI (10_link_lanes.md) -/
def F.LANE_PRBS_BITS_HI_BITS : Fld := ⟨0x4010804C, 0x10000, 0x400, 0x0, 0, 32, .ro, .none, fun _ _ => 0, id⟩
/-! LANE[l].INJECT (10_link_lanes.md) -/
def F.LANE_INJECT_ONE : Fld := ⟨0x40108050, 0x10000, 0x400, 0x0, 31, 1, .wo, .none, fun _ _ => 0, id⟩
def F.LANE_INJECT_RATE_LOG2 : Fld := ⟨0x40108050, 0x10000, 0x400, 0x0, 16, 5, .rw, .l, fun _ _ => 0, rateNorm⟩
def F.LANE_INJECT_INJECTED : Fld := ⟨0x40108050, 0x10000, 0x400, 0x0, 0, 16, .rc, .none, fun _ _ => 0, id⟩
/-! LANE[l].EYE_CTRL (10_link_lanes.md) -/
def F.LANE_EYE_CTRL_GO : Fld := ⟨0x40108060, 0x10000, 0x400, 0x0, 31, 1, .wo, .none, fun _ _ => 0, id⟩
def F.LANE_EYE_CTRL_BUSY : Fld := ⟨0x40108060, 0x10000, 0x400, 0x0, 30, 1, .ro, .none, fun _ _ => 0, id⟩
def F.LANE_EYE_CTRL_MODE : Fld := ⟨0x40108060, 0x10000, 0x400, 0x0, 29, 1, .rw, .l, fun _ _ => 0, id⟩
def F.LANE_EYE_CTRL_ABORTED : Fld := ⟨0x40108060, 0x10000, 0x400, 0x0, 28, 1, .ro, .none, fun _ _ => 0, id⟩
def F.LANE_EYE_CTRL_DWELL_LOG2 : Fld := ⟨0x40108060, 0x10000, 0x400, 0x0, 22, 6, .rw, .l, fun _ _ => 24, clampN 20 40⟩
def F.LANE_EYE_CTRL_Y : Fld := ⟨0x40108060, 0x10000, 0x400, 0x0, 15, 7, .rw, .l, fun _ _ => 0, id⟩
def F.LANE_EYE_CTRL_X : Fld := ⟨0x40108060, 0x10000, 0x400, 0x0, 0, 6, .rw, .l, fun _ _ => 0, id⟩
/-! LANE[l].EYE_SCAN (10_link_lanes.md) -/
def F.LANE_EYE_SCAN_LEFT : Fld := ⟨0x40108064, 0x10000, 0x400, 0x0, 24, 8, .ro, .none, fun _ _ => 0, id⟩
def F.LANE_EYE_SCAN_RIGHT : Fld := ⟨0x40108064, 0x10000, 0x400, 0x0, 16, 8, .ro, .none, fun _ _ => 0, id⟩
def F.LANE_EYE_SCAN_UP : Fld := ⟨0x40108064, 0x10000, 0x400, 0x0, 8, 8, .ro, .none, fun _ _ => 0, id⟩
def F.LANE_EYE_SCAN_DOWN : Fld := ⟨0x40108064, 0x10000, 0x400, 0x0, 0, 8, .ro, .none, fun _ _ => 0, id⟩
/-! LANE[l].EYE_POINT (10_link_lanes.md) -/
def F.LANE_EYE_POINT_ERRORS : Fld := ⟨0x40108068, 0x10000, 0x400, 0x0, 0, 32, .ro, .none, fun _ _ => 0, id⟩
/-! SEn.CTRL (11_signal_engines.md) -/
def F.SE_CTRL_EN : Fld := ⟨0x41400000, 0x1000, 0x0, 0x0, 31, 1, .rw, .l, fun _ _ => 0, id⟩
def F.SE_CTRL_IEN : Fld := ⟨0x41400000, 0x1000, 0x0, 0x0, 30, 1, .rw, .l, fun _ _ => 0, id⟩
def F.SE_CTRL_ABORT : Fld := ⟨0x41400000, 0x1000, 0x0, 0x0, 29, 1, .wo, .none, fun _ _ => 0, id⟩
/-! SEn.STATUS (11_signal_engines.md) -/
def F.SE_STATUS_BUSY : Fld := ⟨0x41400004, 0x1000, 0x0, 0x0, 31, 1, .ro, .none, fun _ _ => 0, id⟩
def F.SE_STATUS_IN_HANDLER : Fld := ⟨0x41400004, 0x1000, 0x0, 0x0, 30, 1, .ro, .none, fun _ _ => 0, id⟩
def F.SE_STATUS_FAULTED : Fld := ⟨0x41400004, 0x1000, 0x0, 0x0, 29, 1, .w1c, .none, fun _ _ => 0, id⟩
def F.SE_STATUS_CAUSE : Fld := ⟨0x41400004, 0x1000, 0x0, 0x0, 24, 4, .ro, .none, fun _ _ => 0, id⟩
def F.SE_STATUS_QDEPTH : Fld := ⟨0x41400004, 0x1000, 0x0, 0x0, 16, 5, .ro, .none, fun _ _ => 0, id⟩
def F.SE_STATUS_PC : Fld := ⟨0x41400004, 0x1000, 0x0, 0x0, 0, 16, .ro, .none, fun _ _ => 0, id⟩
/-! SEn.CKPT (11_signal_engines.md) -/
def F.SE_CKPT_STATE : Fld := ⟨0x41400008, 0x1000, 0x0, 0x0, 29, 3, .ro, .none, fun _ _ => 0, id⟩
def F.SE_CKPT_HOST : Fld := ⟨0x41400008, 0x1000, 0x0, 0x0, 28, 1, .ro, .none, fun _ _ => 0, id⟩
def F.SE_CKPT_FID : Fld := ⟨0x41400008, 0x1000, 0x0, 0x0, 19, 9, .ro, .none, fun _ _ => 0, id⟩
def F.SE_CKPT_SYMBOL : Fld := ⟨0x41400008, 0x1000, 0x0, 0x0, 8, 11, .ro, .none, fun _ _ => 0, id⟩
def F.SE_CKPT_STEP : Fld := ⟨0x41400008, 0x1000, 0x0, 0x0, 0, 8, .ro, .none, fun _ _ => 0, id⟩
/-! SEn.FAULT_ADDR (11_signal_engines.md) -/
def F.SE_FAULT_ADDR_ADDR : Fld := ⟨0x4140000C, 0x1000, 0x0, 0x0, 0, 32, .ro, .none, fun _ _ => 0, id⟩
/-! SEn.POST (11_signal_engines.md) -/
def F.SE_POST_GO : Fld := ⟨0x41400010, 0x1000, 0x0, 0x0, 31, 1, .wo, .none, fun _ _ => 0, id⟩
def F.SE_POST_FULL : Fld := ⟨0x41400010, 0x1000, 0x0, 0x0, 30, 1, .ro, .none, fun _ _ => 0, id⟩
def F.SE_POST_KERNEL : Fld := ⟨0x41400010, 0x1000, 0x0, 0x0, 16, 8, .rw, .l, fun _ _ => 0, id⟩
def F.SE_POST_ARG : Fld := ⟨0x41400010, 0x1000, 0x0, 0x0, 0, 16, .rw, .l, fun _ _ => 0, id⟩
/-! SEn.JOB_CFG (11_signal_engines.md) -/
def F.SE_JOB_CFG_WDOG : Fld := ⟨0x41400014, 0x1000, 0x0, 0x0, 28, 4, .rw, .s, fun _ _ => 4, fun v => max v 2⟩
def F.SE_JOB_CFG_STATE_BASE : Fld := ⟨0x41400014, 0x1000, 0x0, 0x0, 0, 24, .rw, .s, fun _ _ => 0, id⟩
/-! SEn.COUNT (11_signal_engines.md) -/
def F.SE_COUNT_JOBS : Fld := ⟨0x41400018, 0x1000, 0x0, 0x0, 16, 16, .rc, .none, fun _ _ => 0, id⟩
def F.SE_COUNT_ABORTS : Fld := ⟨0x41400018, 0x1000, 0x0, 0x0, 8, 8, .rc, .none, fun _ _ => 0, id⟩
def F.SE_COUNT_BANK_STALLS : Fld := ⟨0x41400018, 0x1000, 0x0, 0x0, 0, 8, .rc, .none, fun _ _ => 0, id⟩
/-! SEn.CYCLES_LO (11_signal_engines.md) -/
def F.SE_CYCLES_LO_CYCLES : Fld := ⟨0x41400020, 0x1000, 0x0, 0x0, 0, 32, .ro, .none, fun _ _ => 0, id⟩
/-! SEn.CYCLES_HI (11_signal_engines.md) -/
def F.SE_CYCLES_HI_CYCLES : Fld := ⟨0x41400024, 0x1000, 0x0, 0x0, 0, 32, .ro, .none, fun _ _ => 0, id⟩
/-! FAB.PROXY (12_memory_dma.md) -/
def F.FAB_PROXY_EN : Fld := ⟨0x40050010, 0x0, 0x0, 0x0, 31, 1, .rw, .l, fun _ _ => 0, id⟩
def F.FAB_PROXY_ID : Fld := ⟨0x40050010, 0x0, 0x0, 0x0, 0, 5, .rw, .l, fun _ _ => 1, fun v => if 22 < v then 1 else v⟩
/-! FAB.VIOL_INFO (12_memory_dma.md) -/
def F.FAB_VIOL_INFO_VALID : Fld := ⟨0x40050020, 0x0, 0x0, 0x0, 31, 1, .ro, .none, fun _ _ => 0, id⟩
def F.FAB_VIOL_INFO_WRITE : Fld := ⟨0x40050020, 0x0, 0x0, 0x0, 30, 1, .ro, .none, fun _ _ => 0, id⟩
def F.FAB_VIOL_INFO_EXEC : Fld := ⟨0x40050020, 0x0, 0x0, 0x0, 29, 1, .ro, .none, fun _ _ => 0, id⟩
def F.FAB_VIOL_INFO_PROXIED : Fld := ⟨0x40050020, 0x0, 0x0, 0x0, 28, 1, .ro, .none, fun _ _ => 0, id⟩
def F.FAB_VIOL_INFO_INITIATOR : Fld := ⟨0x40050020, 0x0, 0x0, 0x0, 0, 5, .ro, .none, fun _ _ => 0, id⟩
/-! FAB.VIOL_ADDR (12_memory_dma.md) -/
def F.FAB_VIOL_ADDR_ADDR : Fld := ⟨0x40050024, 0x0, 0x0, 0x0, 0, 32, .ro, .none, fun _ _ => 0, id⟩
/-! FAB.COUNT (12_memory_dma.md) -/
def F.FAB_COUNT_VIOLATIONS : Fld := ⟨0x40050028, 0x0, 0x0, 0x0, 16, 16, .rc, .none, fun _ _ => 0, id⟩
def F.FAB_COUNT_GUARD_C2 : Fld := ⟨0x40050028, 0x0, 0x0, 0x0, 8, 8, .rc, .none, fun _ _ => 0, id⟩
def F.FAB_COUNT_GUARD_C3 : Fld := ⟨0x40050028, 0x0, 0x0, 0x0, 0, 8, .rc, .none, fun _ _ => 0, id⟩
/-! FAB.COUNT1 (12_memory_dma.md) -/
def F.FAB_COUNT1_ABSENT_RSP : Fld := ⟨0x4005002C, 0x0, 0x0, 0x0, 16, 16, .rc, .none, fun _ _ => 0, id⟩
def F.FAB_COUNT1_DROPPED_RSP : Fld := ⟨0x4005002C, 0x0, 0x0, 0x0, 0, 16, .rc, .none, fun _ _ => 0, id⟩
/-! FAB.MRAM_STATUS (12_memory_dma.md) -/
def F.FAB_MRAM_STATUS_BUSY : Fld := ⟨0x40050040, 0x0, 0x0, 0x0, 31, 1, .ro, .none, fun _ _ => 0, id⟩
def F.FAB_MRAM_STATUS_UNCORRECTED : Fld := ⟨0x40050040, 0x0, 0x0, 0x0, 16, 8, .rc, .none, fun _ _ => 0, id⟩
def F.FAB_MRAM_STATUS_CORRECTED : Fld := ⟨0x40050040, 0x0, 0x0, 0x0, 0, 16, .rc, .none, fun _ _ => 0, id⟩
/-! FAB.MRAM_MOVES (12_memory_dma.md) -/
def F.FAB_MRAM_MOVES_MOVES : Fld := ⟨0x40050044, 0x0, 0x0, 0x0, 0, 32, .ro, .none, fun _ _ => 0, id⟩
/-! FAB.FW_BASE[i][r] (12_memory_dma.md) -/
def F.FAB_FW_BASE_BASE : Fld := ⟨0x40051000, 0x80, 0x8, 0x0, 12, 20, .rw, .s, fun _ _ => 0, id⟩
def F.FAB_FW_BASE_EN : Fld := ⟨0x40051000, 0x80, 0x8, 0x0, 3, 1, .rw, .s, fun _ _ => 0, id⟩
def F.FAB_FW_BASE_X : Fld := ⟨0x40051000, 0x80, 0x8, 0x0, 2, 1, .rw, .s, fun _ _ => 0, id⟩
def F.FAB_FW_BASE_W : Fld := ⟨0x40051000, 0x80, 0x8, 0x0, 1, 1, .rw, .s, fun _ _ => 0, id⟩
def F.FAB_FW_BASE_R : Fld := ⟨0x40051000, 0x80, 0x8, 0x0, 0, 1, .rw, .s, fun _ _ => 0, id⟩
/-! FAB.FW_LIMIT[i][r] (12_memory_dma.md) -/
def F.FAB_FW_LIMIT_LIMIT : Fld := ⟨0x40051004, 0x80, 0x8, 0x0, 12, 20, .rw, .s, fun _ _ => 0, id⟩
/-! DMA.CFG (12_memory_dma.md) -/
def F.DMA_CFG_EN : Fld := ⟨0x40040000, 0x0, 0x0, 0x0, 31, 1, .rw, .l, fun _ _ => 0, id⟩
/-! DMA.CH_DOORBELL[c] (12_memory_dma.md) -/
def F.DMA_CH_DOORBELL_ADDR : Fld := ⟨0x40040100, 0x20, 0x0, 0x0, 5, 27, .wo, .none, fun _ _ => 0, id⟩
/-! DMA.CH_CTRL[c] (12_memory_dma.md) -/
def F.DMA_CH_CTRL_STOP : Fld := ⟨0x40040104, 0x20, 0x0, 0x0, 31, 1, .wo, .none, fun _ _ => 0, id⟩
def F.DMA_CH_CTRL_RESUME : Fld := ⟨0x40040104, 0x20, 0x0, 0x0, 30, 1, .wo, .none, fun _ _ => 0, id⟩
/-! DMA.CH_STATUS[c] (12_memory_dma.md) -/
def F.DMA_CH_STATUS_BUSY : Fld := ⟨0x40040108, 0x20, 0x0, 0x0, 31, 1, .ro, .none, fun _ _ => 0, id⟩
def F.DMA_CH_STATUS_STOPPED : Fld := ⟨0x40040108, 0x20, 0x0, 0x0, 30, 1, .ro, .none, fun _ _ => 0, id⟩
def F.DMA_CH_STATUS_STOP_CAUSE : Fld := ⟨0x40040108, 0x20, 0x0, 0x0, 28, 2, .ro, .none, fun _ _ => 0, id⟩
def F.DMA_CH_STATUS_ERR_CODE : Fld := ⟨0x40040108, 0x20, 0x0, 0x0, 24, 4, .ro, .none, fun _ _ => 0, id⟩
def F.DMA_CH_STATUS_QDEPTH : Fld := ⟨0x40040108, 0x20, 0x0, 0x0, 21, 3, .ro, .none, fun _ _ => 0, id⟩
/-! DMA.CH_DESC[c] (12_memory_dma.md) -/
def F.DMA_CH_DESC_ADDR : Fld := ⟨0x4004010C, 0x20, 0x0, 0x0, 0, 32, .ro, .none, fun _ _ => 0, id⟩
/-! DMA.CH_COUNT[c] (12_memory_dma.md) -/
def F.DMA_CH_COUNT_DESCRIPTORS : Fld := ⟨0x40040110, 0x20, 0x0, 0x0, 16, 16, .rc, .none, fun _ _ => 0, id⟩
def F.DMA_CH_COUNT_DROPPED : Fld := ⟨0x40040110, 0x20, 0x0, 0x0, 8, 8, .rc, .none, fun _ _ => 0, id⟩
def F.DMA_CH_COUNT_ERRORS : Fld := ⟨0x40040110, 0x20, 0x0, 0x0, 0, 8, .rc, .none, fun _ _ => 0, id⟩
/-! EVC.CTRL (13_event_concentrator.md) -/
def F.EVC_CTRL_GDIS : Fld := ⟨0x40030000, 0x0, 0x0, 0x0, 31, 1, .rw, .l, fun _ _ => 0, id⟩
/-! EVC.COUNT (13_event_concentrator.md) -/
def F.EVC_COUNT_MERGED : Fld := ⟨0x40030004, 0x0, 0x0, 0x0, 16, 16, .rc, .none, fun _ _ => 0, id⟩
def F.EVC_COUNT_SPURIOUS : Fld := ⟨0x40030004, 0x0, 0x0, 0x0, 8, 8, .rc, .none, fun _ _ => 0, id⟩
def F.EVC_COUNT_BAD_COMPLETE : Fld := ⟨0x40030004, 0x0, 0x0, 0x0, 0, 8, .rc, .none, fun _ _ => 0, id⟩
/-! EVC.SWSET (13_event_concentrator.md) -/
def F.EVC_SWSET_LINE : Fld := ⟨0x40030008, 0x0, 0x0, 0x0, 0, 10, .wo, .none, fun _ _ => 0, id⟩
/-! EVC.ALERT_CLR (13_event_concentrator.md) -/
def F.EVC_ALERT_CLR_LINE : Fld := ⟨0x4003000C, 0x0, 0x0, 0x0, 0, 10, .wo, .none, fun _ _ => 0, id⟩
/-! EVC.CLAIM (13_event_concentrator.md) -/
def F.EVC_CLAIM_LINE : Fld := ⟨0x40030010, 0x0, 0x0, 0x0, 0, 10, .ro, .none, fun _ _ => 0, id⟩
/-! EVC.COMPLETE (13_event_concentrator.md) -/
def F.EVC_COMPLETE_LINE : Fld := ⟨0x40030014, 0x0, 0x0, 0x0, 0, 10, .wo, .none, fun _ _ => 0, id⟩
/-! EVC.TGT_CFG[t] (13_event_concentrator.md) -/
def F.EVC_TGT_CFG_THRESH : Fld := ⟨0x40030100, 0x10, 0x0, 0x0, 24, 3, .rw, .l, fun _ _ => 0, id⟩
def F.EVC_TGT_CFG_MOD_US : Fld := ⟨0x40030100, 0x10, 0x0, 0x0, 8, 16, .rw, .l, fun _ _ => 0, id⟩
def F.EVC_TGT_CFG_MOD_COUNT : Fld := ⟨0x40030100, 0x10, 0x0, 0x0, 0, 8, .rw, .l, fun _ _ => 0, id⟩
/-! EVC.TGT_STATUS[t] (13_event_concentrator.md) -/
def F.EVC_TGT_STATUS_PRESENTED : Fld := ⟨0x40030104, 0x10, 0x0, 0x0, 31, 1, .ro, .none, fun _ _ => 0, id⟩
def F.EVC_TGT_STATUS_TIMER_RUN : Fld := ⟨0x40030104, 0x10, 0x0, 0x0, 30, 1, .ro, .none, fun _ _ => 0, id⟩
def F.EVC_TGT_STATUS_SLOW : Fld := ⟨0x40030104, 0x10, 0x0, 0x0, 29, 1, .ro, .none, fun _ _ => 0, id⟩
def F.EVC_TGT_STATUS_DELIVERABLE : Fld := ⟨0x40030104, 0x10, 0x0, 0x0, 16, 8, .ro, .none, fun _ _ => 0, id⟩
def F.EVC_TGT_STATUS_LAST_CLAIM : Fld := ⟨0x40030104, 0x10, 0x0, 0x0, 0, 10, .ro, .none, fun _ _ => 1023, id⟩
/-! EVC.PRIO[i] (13_event_concentrator.md) -/
def F.EVC_PRIO_PRIO : Fld := ⟨0x40031000, 0x4, 0x0, 0x0, 0, 3, .rw, .l, fun _ _ => 0, id⟩
/-! EVC.EN[t][w] (13_event_concentrator.md) -/
def F.EVC_EN_EN : Fld := ⟨0x40032000, 0x80, 0x4, 0x0, 0, 32, .rw, .l, fun _ _ => 0, id⟩
/-! EVC.PEND[t][w] (13_event_concentrator.md) -/
def F.EVC_PEND_PEND : Fld := ⟨0x40033000, 0x80, 0x4, 0x0, 0, 32, .ro, .none, fun _ _ => 0, id⟩
/-! HKA.XCFG (14_housekeeping_adc.md) -/
def F.HKA_XCFG_MODE : Fld := ⟨0x40070000, 0x0, 0x0, 0x0, 31, 1, .rw, .s, fun _ _ => 0, id⟩
def F.HKA_XCFG_XSRC : Fld := ⟨0x40070000, 0x0, 0x0, 0x0, 16, 5, .rw, .s, fun _ _ => 18, fun v => if 26 < v then 18 else v⟩
def F.HKA_XCFG_THR : Fld := ⟨0x40070000, 0x0, 0x0, 0x0, 0, 12, .rw, .s, fun _ _ => 8, id⟩
/-! HKA.XSTATUS (14_housekeeping_adc.md) -/
def F.HKA_XSTATUS_MISMATCH : Fld := ⟨0x40070004, 0x0, 0x0, 0x0, 31, 1, .w1c, .none, fun _ _ => 0, id⟩
def F.HKA_XSTATUS_CODE1 : Fld := ⟨0x40070004, 0x0, 0x0, 0x0, 12, 12, .ro, .none, fun _ _ => 0, id⟩
def F.HKA_XSTATUS_CODE0 : Fld := ⟨0x40070004, 0x0, 0x0, 0x0, 0, 12, .ro, .none, fun _ _ => 0, id⟩
/-! HKA.XCOUNT (14_housekeeping_adc.md) -/
def F.HKA_XCOUNT_CHECKS : Fld := ⟨0x40070008, 0x0, 0x0, 0x0, 16, 16, .rc, .none, fun _ _ => 0, id⟩
def F.HKA_XCOUNT_MISMATCHES : Fld := ⟨0x40070008, 0x0, 0x0, 0x0, 0, 16, .rc, .none, fun _ _ => 0, id⟩
/-! HKA[k].CTRL (14_housekeeping_adc.md) -/
def F.HKA_CTRL_EN : Fld := ⟨0x40070100, 0x100, 0x0, 0x0, 31, 1, .rw, .l, fun _ _ => 0, id⟩
def F.HKA_CTRL_CAL_GO : Fld := ⟨0x40070100, 0x100, 0x0, 0x0, 30, 1, .wo, .none, fun _ _ => 0, id⟩
def F.HKA_CTRL_INJ_GO : Fld := ⟨0x40070100, 0x100, 0x0, 0x0, 29, 1, .wo, .none, fun _ _ => 0, id⟩
def F.HKA_CTRL_SEQ_GO : Fld := ⟨0x40070100, 0x100, 0x0, 0x0, 28, 1, .wo, .none, fun _ _ => 0, id⟩
def F.HKA_CTRL_TRIG : Fld := ⟨0x40070100, 0x100, 0x0, 0x0, 26, 2, .rw, .s, fun _ _ => 0, eqTo 3 0⟩
def F.HKA_CTRL_PWM_SEL : Fld := ⟨0x40070100, 0x100, 0x0, 0x0, 23, 3, .rw, .s, fun _ _ => 0, id⟩
def F.HKA_CTRL_EDGE : Fld := ⟨0x40070100, 0x100, 0x0, 0x0, 22, 1, .rw, .s, fun _ _ => 0, id⟩
def F.HKA_CTRL_LEN : Fld := ⟨0x40070100, 0x100, 0x0, 0x0, 0, 4, .rw, .s, fun _ _ => 0, id⟩
/-! HKA[k].TRIG (14_housekeeping_adc.md) -/
def F.HKA_TRIG_PERIOD_US : Fld := ⟨0x40070104, 0x100, 0x0, 0x0, 16, 16, .rw, .s, fun _ _ => 1000, fun v => max v 2⟩
def F.HKA_TRIG_DELAY : Fld := ⟨0x40070104, 0x100, 0x0, 0x0, 0, 16, .rw, .s, fun _ _ => 0, id⟩
/-! HKA[k].INJ (14_housekeeping_adc.md) -/
def F.HKA_INJ_ITRIG : Fld := ⟨0x40070108, 0x100, 0x0, 0x0, 31, 1, .rw, .l, fun _ _ => 0, id⟩
def F.HKA_INJ_IPWM : Fld := ⟨0x40070108, 0x100, 0x0, 0x0, 28, 3, .rw, .l, fun _ _ => 0, id⟩
def F.HKA_INJ_IEDGE : Fld := ⟨0x40070108, 0x100, 0x0, 0x0, 27, 1, .rw, .l, fun _ _ => 0, id⟩
def F.HKA_INJ_IOW : Fld := ⟨0x40070108, 0x100, 0x0, 0x0, 26, 1, .rw, .l, fun _ _ => 0, id⟩
def F.HKA_INJ_ISUB : Fld := ⟨0x40070108, 0x100, 0x0, 0x0, 24, 2, .rw, .l, fun _ _ => 0, id⟩
def F.HKA_INJ_ICH : Fld := ⟨0x40070108, 0x100, 0x0, 0x0, 16, 5, .rw, .l, fun _ _ => 0, id⟩
def F.HKA_INJ_IDELAY : Fld := ⟨0x40070108, 0x100, 0x0, 0x0, 0, 16, .rw, .l, fun _ _ => 0, id⟩
/-! HKA[k].CAL (14_housekeeping_adc.md) -/
def F.HKA_CAL_BUSY : Fld := ⟨0x4007010C, 0x100, 0x0, 0x0, 31, 1, .ro, .none, fun _ _ => 0, id⟩
def F.HKA_CAL_FAIL : Fld := ⟨0x4007010C, 0x100, 0x0, 0x0, 30, 1, .w1c, .none, fun _ _ => 0, id⟩
def F.HKA_CAL_PERIOD_MS : Fld := ⟨0x4007010C, 0x100, 0x0, 0x0, 0, 16, .rw, .l, fun _ _ => 1000, id⟩
/-! HKA[k].STATUS (14_housekeeping_adc.md) -/
def F.HKA_STATUS_PASS_RUN : Fld := ⟨0x40070110, 0x100, 0x0, 0x0, 31, 1, .ro, .none, fun _ _ => 0, id⟩
def F.HKA_STATUS_INJ_OCC : Fld := ⟨0x40070110, 0x100, 0x0, 0x0, 30, 1, .ro, .none, fun _ _ => 0, id⟩
def F.HKA_STATUS_INJ_RUN : Fld := ⟨0x40070110, 0x100, 0x0, 0x0, 29, 1, .ro, .none, fun _ _ => 0, id⟩
def F.HKA_STATUS_CAL_RUN : Fld := ⟨0x40070110, 0x100, 0x0, 0x0, 28, 1, .ro, .none, fun _ _ => 0, id⟩
def F.HKA_STATUS_ENTRY : Fld := ⟨0x40070110, 0x100, 0x0, 0x0, 24, 4, .ro, .none, fun _ _ => 0, id⟩
def F.HKA_STATUS_PASSES : Fld := ⟨0x40070110, 0x100, 0x0, 0x0, 0, 16, .ro, .none, fun _ _ => 0, id⟩
/-! HKA[k].COUNT (14_housekeeping_adc.md) -/
def F.HKA_COUNT_OVR_REG : Fld := ⟨0x40070114, 0x100, 0x0, 0x0, 24, 8, .rc, .none, fun _ _ => 0, id⟩
def F.HKA_COUNT_OVR_INJ : Fld := ⟨0x40070114, 0x100, 0x0, 0x0, 16, 8, .rc, .none, fun _ _ => 0, id⟩
def F.HKA_COUNT_OPEN : Fld := ⟨0x40070114, 0x100, 0x0, 0x0, 8, 8, .rc, .none, fun _ _ => 0, id⟩
def F.HKA_COUNT_ABANDONED : Fld := ⟨0x40070114, 0x100, 0x0, 0x0, 0, 8, .rc, .none, fun _ _ => 0, id⟩
/-! HKA[k].OWCFG (14_housekeeping_adc.md) -/
def F.HKA_OWCFG_THR : Fld := ⟨0x40070118, 0x100, 0x0, 0x0, 8, 8, .rw, .l, fun _ _ => 64, id⟩
def F.HKA_OWCFG_SETTLE : Fld := ⟨0x40070118, 0x100, 0x0, 0x0, 0, 8, .rw, .l, fun _ _ => 20, id⟩
/-! HKA[k].INJ_RESULT (14_housekeeping_adc.md) -/
def F.HKA_INJ_RESULT_VALID : Fld := ⟨0x4007011C, 0x100, 0x0, 0x0, 31, 1, .ro, .none, fun _ _ => 0, id⟩
def F.HKA_INJ_RESULT_OPEN : Fld := ⟨0x4007011C, 0x100, 0x0, 0x0, 30, 1, .ro, .none, fun _ _ => 0, id⟩
def F.HKA_INJ_RESULT_PASS : Fld := ⟨0x4007011C, 0x100, 0x0, 0x0, 16, 8, .ro, .none, fun _ _ => 0, id⟩
def F.HKA_INJ_RESULT_CODE : Fld := ⟨0x4007011C, 0x100, 0x0, 0x0, 0, 12, .ro, .none, fun _ _ => 0, id⟩
/-! HKA[k].RESULT[i] (14_housekeeping_adc.md) -/
def F.HKA_RESULT_VALID : Fld := ⟨0x40070180, 0x100, 0x4, 0x0, 31, 1, .ro, .none, fun _ _ => 0, id⟩
def F.HKA_RESULT_OPEN : Fld := ⟨0x40070180, 0x100, 0x4, 0x0, 30, 1, .ro, .none, fun _ _ => 0, id⟩
def F.HKA_RESULT_PASS : Fld := ⟨0x40070180, 0x100, 0x4, 0x0, 16, 8, .ro, .none, fun _ _ => 0, id⟩
def F.HKA_RESULT_CODE : Fld := ⟨0x40070180, 0x100, 0x4, 0x0, 0, 12, .ro, .none, fun _ _ => 0, id⟩
/-! HKA[k].SEQ[i] (14_housekeeping_adc.md) -/
def F.HKA_SEQ_OW : Fld := ⟨0x40070140, 0x100, 0x4, 0x0, 7, 1, .rw, .l, fun _ _ => 0, id⟩
def F.HKA_SEQ_SUB : Fld := ⟨0x40070140, 0x100, 0x4, 0x0, 5, 2, .rw, .l, fun _ _ => 0, id⟩
def F.HKA_SEQ_CH : Fld := ⟨0x40070140, 0x100, 0x4, 0x0, 0, 5, .rw, .l, fun _ _ => 0, id⟩
/-! PWM[n].CTRL (14_housekeeping_adc.md) -/
def F.PWM_CTRL_EN : Fld := ⟨0x40070800, 0x10, 0x0, 0x0, 31, 1, .rw, .l, fun _ _ => 0, id⟩
def F.PWM_CTRL_POL : Fld := ⟨0x40070800, 0x10, 0x0, 0x0, 30, 1, .rw, .s, fun _ _ => 0, id⟩
def F.PWM_CTRL_PRESC : Fld := ⟨0x40070800, 0x10, 0x0, 0x0, 27, 3, .rw, .s, fun _ _ => 0, id⟩
/-! PWM[n].PERIOD (14_housekeeping_adc.md) -/
def F.PWM_PERIOD_PERIOD : Fld := ⟨0x40070804, 0x10, 0x0, 0x0, 0, 16, .rw, .l, fun _ _ => 9999, id⟩
/-! PWM[n].DUTY (14_housekeeping_adc.md) -/
def F.PWM_DUTY_DUTY : Fld := ⟨0x40070808, 0x10, 0x0, 0x0, 0, 17, .rw, .l, fun _ _ => 0, id⟩
/-! CLK.CFG (15_clocks_time.md) -/
def F.CLK_CFG_PLL_EN : Fld := ⟨0x40010000, 0x0, 0x0, 0x0, 31, 1, .w1s, .none, fun _ _ => 0, id⟩
def F.CLK_CFG_REF_SEL : Fld := ⟨0x40010000, 0x0, 0x0, 0x0, 0, 2, .rw, .s, fun _ _ => 0, eqTo 3 0⟩
/-! CLK.STATUS (15_clocks_time.md) -/
def F.CLK_STATUS_BYPASS : Fld := ⟨0x40010004, 0x0, 0x0, 0x0, 31, 1, .ro, .none, fun _ _ => 1, id⟩
def F.CLK_STATUS_LOCK_LPLL : Fld := ⟨0x40010004, 0x0, 0x0, 0x0, 3, 4, .ro, .none, fun _ _ => 0, id⟩
def F.CLK_STATUS_LOCK_CORE : Fld := ⟨0x40010004, 0x0, 0x0, 0x0, 2, 1, .ro, .none, fun _ _ => 0, id⟩
def F.CLK_STATUS_LOCK_SYS : Fld := ⟨0x40010004, 0x0, 0x0, 0x0, 1, 1, .ro, .none, fun _ _ => 0, id⟩
def F.CLK_STATUS_LOCK_REF : Fld := ⟨0x40010004, 0x0, 0x0, 0x0, 0, 1, .ro, .none, fun _ _ => 0, id⟩
/-! CLK.CORE_CFG (15_clocks_time.md) -/
def F.CLK_CORE_CFG_OVR : Fld := ⟨0x40010008, 0x0, 0x0, 0x0, 31, 1, .rw, .l, fun _ _ => 0, id⟩
def F.CLK_CORE_CFG_DIV_IN_EFFECT : Fld := ⟨0x40010008, 0x0, 0x0, 0x0, 4, 4, .ro, .none, fun _ _ => 3, id⟩
def F.CLK_CORE_CFG_DIV : Fld := ⟨0x40010008, 0x0, 0x0, 0x0, 0, 4, .rw, .l, fun _ _ => 3, fun v => max v 3⟩
/-! CLK.CLKOUT_CFG (15_clocks_time.md) -/
def F.CLK_CLKOUT_CFG_SRC : Fld := ⟨0x40010010, 0x0, 0x0, 0x0, 28, 4, .rw, .l, fun _ _ => 0, eqTo 15 0⟩
def F.CLK_CLKOUT_CFG_DIV : Fld := ⟨0x40010010, 0x0, 0x0, 0x0, 0, 12, .rw, .l, fun _ _ => 0, id⟩
/-! CLK.SYNC_CFG (15_clocks_time.md) -/
def F.CLK_SYNC_CFG_MODE : Fld := ⟨0x40010020, 0x0, 0x0, 0x0, 30, 2, .rw, .l, fun _ _ => 0, eqTo 3 0⟩
def F.CLK_SYNC_CFG_EDGE : Fld := ⟨0x40010020, 0x0, 0x0, 0x0, 29, 1, .rw, .l, fun _ _ => 0, id⟩
def F.CLK_SYNC_CFG_WIN : Fld := ⟨0x40010020, 0x0, 0x0, 0x0, 0, 16, .rw, .l, fun _ _ => 256, id⟩
/-! CLK.SYNC_PERIOD (15_clocks_time.md) -/
def F.CLK_SYNC_PERIOD_PERIOD : Fld := ⟨0x40010024, 0x0, 0x0, 0x0, 0, 32, .rw, .l, fun _ _ => 491520000, fun v => max v 4096⟩
/-! CLK.SYNC_PHASE (15_clocks_time.md) -/
def F.CLK_SYNC_PHASE_PHASE : Fld := ⟨0x40010028, 0x0, 0x0, 0x0, 0, 32, .rw, .l, fun _ _ => 0, id⟩
/-! CLK.SYNC_LOAD_LO (15_clocks_time.md) -/
def F.CLK_SYNC_LOAD_LO_LOAD : Fld := ⟨0x40010030, 0x0, 0x0, 0x0, 0, 32, .rw, .l, fun _ _ => 0, id⟩
/-! CLK.SYNC_LOAD_HI (15_clocks_time.md) -/
def F.CLK_SYNC_LOAD_HI_LOAD : Fld := ⟨0x40010034, 0x0, 0x0, 0x0, 0, 32, .rw, .l, fun _ _ => 0, id⟩
/-! CLK.SYNC_CAP_LO (15_clocks_time.md) -/
def F.CLK_SYNC_CAP_LO_CAP : Fld := ⟨0x40010038, 0x0, 0x0, 0x0, 0, 32, .ro, .none, fun _ _ => 0, id⟩
/-! CLK.SYNC_CAP_HI (15_clocks_time.md) -/
def F.CLK_SYNC_CAP_HI_CAP : Fld := ⟨0x4001003C, 0x0, 0x0, 0x0, 0, 32, .ro, .none, fun _ _ => 0, id⟩
/-! CLK.SYNC_STATUS (15_clocks_time.md) -/
def F.CLK_SYNC_STATUS_VALID : Fld := ⟨0x40010040, 0x0, 0x0, 0x0, 31, 1, .ro, .none, fun _ _ => 0, id⟩
def F.CLK_SYNC_STATUS_LOADED : Fld := ⟨0x40010040, 0x0, 0x0, 0x0, 30, 1, .ro, .none, fun _ _ => 0, id⟩
def F.CLK_SYNC_STATUS_FRAC : Fld := ⟨0x40010040, 0x0, 0x0, 0x0, 0, 6, .ro, .none, fun _ _ => 0, id⟩
/-! CLK.DISC_CFG (15_clocks_time.md) -/
def F.CLK_DISC_CFG_SRC : Fld := ⟨0x40010050, 0x0, 0x0, 0x0, 29, 3, .rw, .l, fun _ _ => 0, fun v => if 5 < v then 0 else v⟩
def F.CLK_DISC_CFG_STEP_INT : Fld := ⟨0x40010050, 0x0, 0x0, 0x0, 8, 16, .rw, .l, fun _ _ => 512, fun v => max v 512⟩
def F.CLK_DISC_CFG_DEADBAND : Fld := ⟨0x40010050, 0x0, 0x0, 0x0, 0, 8, .rw, .l, fun _ _ => 4, id⟩
/-! CLK.DISC_LIMITS (15_clocks_time.md) -/
def F.CLK_DISC_LIMITS_STEP_THR : Fld := ⟨0x40010054, 0x0, 0x0, 0x0, 16, 16, .rw, .l, fun _ _ => 64, id⟩
def F.CLK_DISC_LIMITS_HOLD_MS : Fld := ⟨0x40010054, 0x0, 0x0, 0x0, 0, 16, .rw, .l, fun _ _ => 3000, fun v => max v 1⟩
/-! CLK.DISC_STATUS (15_clocks_time.md) -/
def F.CLK_DISC_STATUS_STATE : Fld := ⟨0x40010058, 0x0, 0x0, 0x0, 30, 2, .ro, .none, fun _ _ => 0, id⟩
def F.CLK_DISC_STATUS_ERROR : Fld := ⟨0x40010058, 0x0, 0x0, 0x0, 0, 24, .ro, .none, fun _ _ => 0, id⟩
/-! CLK.DISC_COUNT (15_clocks_time.md) -/
def F.CLK_DISC_COUNT_STEPS : Fld := ⟨0x4001005C, 0x0, 0x0, 0x0, 24, 8, .rc, .none, fun _ _ => 0, id⟩
def F.CLK_DISC_COUNT_REFUSED : Fld := ⟨0x4001005C, 0x0, 0x0, 0x0, 16, 8, .rc, .none, fun _ _ => 0, id⟩
def F.CLK_DISC_COUNT_MISSED : Fld := ⟨0x4001005C, 0x0, 0x0, 0x0, 8, 8, .rc, .none, fun _ _ => 0, id⟩
def F.CLK_DISC_COUNT_SPURIOUS : Fld := ⟨0x4001005C, 0x0, 0x0, 0x0, 0, 8, .rc, .none, fun _ _ => 0, id⟩
/-! CLK.SLEW_TOTAL (15_clocks_time.md) -/
def F.CLK_SLEW_TOTAL_STEPS : Fld := ⟨0x40010060, 0x0, 0x0, 0x0, 0, 32, .ro, .none, fun _ _ => 0, id⟩
/-! CLK.TIME_LO (15_clocks_time.md) -/
def F.CLK_TIME_LO_TIME : Fld := ⟨0x40010070, 0x0, 0x0, 0x0, 0, 32, .ro, .none, fun _ _ => 0, id⟩
/-! CLK.TIME_HI (15_clocks_time.md) -/
def F.CLK_TIME_HI_TIME : Fld := ⟨0x40010074, 0x0, 0x0, 0x0, 0, 32, .ro, .none, fun _ _ => 0, id⟩
/-! PWR.MODE (16_power.md) -/
def F.PWR_MODE_MODE : Fld := ⟨0x40020000, 0x0, 0x0, 0x0, 0, 2, .rw, .l, fun _ _ => 0, id⟩
/-! PWR.WAKE_EN (16_power.md) -/
def F.PWR_WAKE_EN_EN : Fld := ⟨0x40020004, 0x0, 0x0, 0x0, 0, 6, .rw, .l, fun _ _ => 16, id⟩
/-! PWR.WAKE_STATUS (16_power.md) -/
def F.PWR_WAKE_STATUS_WAKE_FAIL_SEEN : Fld := ⟨0x40020008, 0x0, 0x0, 0x0, 31, 1, .w1c, .none, fun _ _ => 0, id⟩
def F.PWR_WAKE_STATUS_HOLD : Fld := ⟨0x40020008, 0x0, 0x0, 0x0, 30, 1, .w1c, .none, fun _ _ => 0, id⟩
def F.PWR_WAKE_STATUS_FROM : Fld := ⟨0x40020008, 0x0, 0x0, 0x0, 28, 2, .ro, .none, fun _ _ => 0, id⟩
def F.PWR_WAKE_STATUS_SOURCES : Fld := ⟨0x40020008, 0x0, 0x0, 0x0, 16, 6, .ro, .none, fun _ _ => 0, id⟩
def F.PWR_WAKE_STATUS_BANK_FAIL : Fld := ⟨0x40020008, 0x0, 0x0, 0x0, 0, 16, .w1c, .none, fun _ _ => 0, id⟩
/-! PWR.LAST_WAKE (16_power.md) -/
def F.PWR_LAST_WAKE_SOURCE : Fld := ⟨0x4002000C, 0x0, 0x0, 0x0, 0, 3, .ro, .none, fun _ _ => 0, id⟩
/-! PWR.LAST_REFUSAL (16_power.md) -/
def F.PWR_LAST_REFUSAL_VALID : Fld := ⟨0x40020010, 0x0, 0x0, 0x0, 31, 1, .ro, .none, fun _ _ => 0, id⟩
def F.PWR_LAST_REFUSAL_ACTION : Fld := ⟨0x40020010, 0x0, 0x0, 0x0, 24, 2, .ro, .none, fun _ _ => 0, id⟩
def F.PWR_LAST_REFUSAL_SUB : Fld := ⟨0x40020010, 0x0, 0x0, 0x0, 8, 8, .ro, .none, fun _ _ => 0, id⟩
def F.PWR_LAST_REFUSAL_CODE : Fld := ⟨0x40020010, 0x0, 0x0, 0x0, 0, 8, .ro, .none, fun _ _ => 0, id⟩
/-! PWR.REFUSE_CNT[j] (16_power.md) -/
def F.PWR_REFUSE_CNT_CNT_HI : Fld := ⟨0x40020014, 0x4, 0x0, 0x0, 16, 16, .rc, .none, fun _ _ => 0, id⟩
def F.PWR_REFUSE_CNT_CNT_LO : Fld := ⟨0x40020014, 0x4, 0x0, 0x0, 0, 16, .rc, .none, fun _ _ => 0, id⟩
/-! PWR.TIMER (16_power.md) -/
def F.PWR_TIMER_COUNT : Fld := ⟨0x40020030, 0x0, 0x0, 0x0, 0, 32, .ro, .none, fun _ _ => 0, id⟩
/-! PWR.TIMER_CMP (16_power.md) -/
def F.PWR_TIMER_CMP_CMP : Fld := ⟨0x40020034, 0x0, 0x0, 0x0, 0, 32, .rw, .l, fun _ _ => 4294967295, id⟩
/-! PWR.RESUME (16_power.md) -/
def F.PWR_RESUME_ADDR : Fld := ⟨0x40020038, 0x0, 0x0, 0x0, 2, 30, .rw, .l, fun _ _ => 0, id⟩
/-! PWR.PERF (16_power.md) -/
def F.PWR_PERF_BUSY : Fld := ⟨0x40020040, 0x0, 0x0, 0x0, 31, 1, .ro, .none, fun _ _ => 0, id⟩
def F.PWR_PERF_IN_EFFECT : Fld := ⟨0x40020040, 0x0, 0x0, 0x0, 28, 2, .ro, .none, fun _ _ => 0, id⟩
def F.PWR_PERF_REQ : Fld := ⟨0x40020040, 0x0, 0x0, 0x0, 0, 2, .rw, .l, fun _ _ => 0, id⟩
/-! PWR.AVS_CFG (16_power.md) -/
def F.PWR_AVS_CFG_EN : Fld := ⟨0x40020044, 0x0, 0x0, 0x0, 31, 1, .rw, .l, fun _ _ => 0, id⟩
def F.PWR_AVS_CFG_LOOP_EN : Fld := ⟨0x40020044, 0x0, 0x0, 0x0, 30, 1, .rw, .l, fun _ _ => 0, id⟩
def F.PWR_AVS_CFG_RAIL_CORE : Fld := ⟨0x40020044, 0x0, 0x0, 0x0, 24, 4, .rw, .s, fun _ _ => 0, id⟩
def F.PWR_AVS_CFG_RAIL_SRAM : Fld := ⟨0x40020044, 0x0, 0x0, 0x0, 20, 4, .rw, .s, fun _ _ => 1, id⟩
def F.PWR_AVS_CFG_RAIL_SD : Fld := ⟨0x40020044, 0x0, 0x0, 0x0, 16, 4, .rw, .s, fun _ _ => 2, id⟩
def F.PWR_AVS_CFG_PRESENT : Fld := ⟨0x40020044, 0x0, 0x0, 0x0, 0, 3, .rw, .s, fun _ _ => 0, id⟩
/-! PWR.AVS_LOOP (16_power.md) -/
def F.PWR_AVS_LOOP_INT_US : Fld := ⟨0x40020048, 0x0, 0x0, 0x0, 24, 8, .rw, .l, fun _ _ => 50, fun v => max v 10⟩
def F.PWR_AVS_LOOP_TARGET : Fld := ⟨0x40020048, 0x0, 0x0, 0x0, 16, 6, .rw, .l, fun _ _ => 8, id⟩
def F.PWR_AVS_LOOP_HYST : Fld := ⟨0x40020048, 0x0, 0x0, 0x0, 8, 6, .rw, .l, fun _ _ => 4, id⟩
/-! PWR.AVS_STATUS (16_power.md) -/
def F.PWR_AVS_STATUS_SETTLED : Fld := ⟨0x4002004C, 0x0, 0x0, 0x0, 31, 1, .ro, .none, fun _ _ => 0, id⟩
def F.PWR_AVS_STATUS_AT_LIMIT : Fld := ⟨0x4002004C, 0x0, 0x0, 0x0, 30, 1, .ro, .none, fun _ _ => 0, id⟩
def F.PWR_AVS_STATUS_BUS_ERR : Fld := ⟨0x4002004C, 0x0, 0x0, 0x0, 29, 1, .w1c, .none, fun _ _ => 0, id⟩
def F.PWR_AVS_STATUS_VOLT_MV : Fld := ⟨0x4002004C, 0x0, 0x0, 0x0, 16, 10, .ro, .none, fun _ _ => 0, id⟩
def F.PWR_AVS_STATUS_TRIM : Fld := ⟨0x4002004C, 0x0, 0x0, 0x0, 8, 8, .ro, .none, fun _ _ => 0, id⟩
def F.PWR_AVS_STATUS_MARGIN : Fld := ⟨0x4002004C, 0x0, 0x0, 0x0, 0, 6, .ro, .none, fun _ _ => 0, id⟩
/-! PWR.GATE_CFG (16_power.md) -/
def F.PWR_GATE_CFG_PATH_EN : Fld := ⟨0x40020060, 0x0, 0x0, 0x0, 31, 1, .rw, .l, fun _ _ => 0, id⟩
/-! PWR.GATE_COUNT[t] (16_power.md) -/
def F.PWR_GATE_COUNT_TX_PATH_SYM : Fld := ⟨0x40020080, 0x4, 0x0, 0x0, 16, 16, .rc, .none, fun _ _ => 0, id⟩
def F.PWR_GATE_COUNT_IDLE_SYM : Fld := ⟨0x40020080, 0x4, 0x0, 0x0, 0, 16, .rc, .none, fun _ _ => 0, id⟩
/-! SYS.SEAL (17_boot_image.md) -/
def F.SYS_SEAL_SEAL : Fld := ⟨0x40000010, 0x0, 0x0, 0x0, 31, 1, .w1s, .none, fun _ _ => 0, id⟩
def F.SYS_SEAL_FORCED : Fld := ⟨0x40000010, 0x0, 0x0, 0x0, 30, 1, .ro, .none, fun _ _ => 0, id⟩
def F.SYS_SEAL_DEFERRED : Fld := ⟨0x40000010, 0x0, 0x0, 0x0, 29, 1, .ro, .none, fun _ _ => 0, id⟩
/-! SYS.RESET_CTRL (17_boot_image.md) -/
def F.SYS_RESET_CTRL_KEY : Fld := ⟨0x40000014, 0x0, 0x0, 0x0, 24, 8, .wo, .none, fun _ _ => 0, id⟩
def F.SYS_RESET_CTRL_REASON : Fld := ⟨0x40000014, 0x0, 0x0, 0x0, 4, 4, .wo, .none, fun _ _ => 0, fun v => max v 3⟩
def F.SYS_RESET_CTRL_WHOLE : Fld := ⟨0x40000014, 0x0, 0x0, 0x0, 0, 1, .wo, .none, fun _ _ => 0, id⟩
/-! SYS.BOOT_STATUS (17_boot_image.md) -/
def F.SYS_BOOT_STATUS_STATE : Fld := ⟨0x40000020, 0x0, 0x0, 0x0, 28, 4, .ro, .none, fun _ _ => 0, id⟩
def F.SYS_BOOT_STATUS_IMAGE : Fld := ⟨0x40000020, 0x0, 0x0, 0x0, 26, 2, .ro, .none, fun _ _ => 0, id⟩
def F.SYS_BOOT_STATUS_FALLBACK : Fld := ⟨0x40000020, 0x0, 0x0, 0x0, 25, 1, .ro, .none, fun _ _ => 0, id⟩
def F.SYS_BOOT_STATUS_UNSECURED : Fld := ⟨0x40000020, 0x0, 0x0, 0x0, 24, 1, .ro, .none, fun _ _ => 0, id⟩
def F.SYS_BOOT_STATUS_PRIOR_WAKE_FAIL : Fld := ⟨0x40000020, 0x0, 0x0, 0x0, 23, 1, .ro, .none, fun _ _ => 0, id⟩
def F.SYS_BOOT_STATUS_KEY_SLOT : Fld := ⟨0x40000020, 0x0, 0x0, 0x0, 22, 1, .ro, .none, fun _ _ => 0, id⟩
def F.SYS_BOOT_STATUS_BOOT_SEL : Fld := ⟨0x40000020, 0x0, 0x0, 0x0, 20, 2, .ro, .none, fun _ _ => 0, id⟩
def F.SYS_BOOT_STATUS_CAUSE : Fld := ⟨0x40000020, 0x0, 0x0, 0x0, 16, 4, .ro, .none, fun _ _ => 0, id⟩
def F.SYS_BOOT_STATUS_FAIL_A : Fld := ⟨0x40000020, 0x0, 0x0, 0x0, 8, 8, .ro, .none, fun _ _ => 0, id⟩
def F.SYS_BOOT_STATUS_FAIL_B : Fld := ⟨0x40000020, 0x0, 0x0, 0x0, 0, 8, .ro, .none, fun _ _ => 0, id⟩
/-! SYS.BOOT_DETAIL (17_boot_image.md) -/
def F.SYS_BOOT_DETAIL_STEP_A : Fld := ⟨0x40000024, 0x0, 0x0, 0x0, 24, 8, .ro, .none, fun _ _ => 0, id⟩
def F.SYS_BOOT_DETAIL_STEP_B : Fld := ⟨0x40000024, 0x0, 0x0, 0x0, 16, 8, .ro, .none, fun _ _ => 0, id⟩
def F.SYS_BOOT_DETAIL_SECTION : Fld := ⟨0x40000024, 0x0, 0x0, 0x0, 0, 16, .ro, .none, fun _ _ => 65535, id⟩
/-! FUSE.KEY_HASH[s][w] (17_boot_image.md) -/
def F.FUSE_KEY_HASH_HASH : Fld := ⟨0x400A0500, 0x20, 0x4, 0x0, 0, 32, .ro, .none, fun _ _ => 0, id⟩
/-! FUSE.KEY_CFG (17_boot_image.md) -/
def F.FUSE_KEY_CFG_SECURE : Fld := ⟨0x400A0540, 0x0, 0x0, 0x0, 31, 1, .ro, .none, fun _ _ => 0, id⟩
def F.FUSE_KEY_CFG_REVOKE1 : Fld := ⟨0x400A0540, 0x0, 0x0, 0x0, 1, 1, .ro, .none, fun _ _ => 0, id⟩
def F.FUSE_KEY_CFG_REVOKE0 : Fld := ⟨0x400A0540, 0x0, 0x0, 0x0, 0, 1, .ro, .none, fun _ _ => 0, id⟩
/-! FUSE.KEY_PROG (17_boot_image.md) -/
def F.FUSE_KEY_PROG_GO : Fld := ⟨0x400A0544, 0x0, 0x0, 0x0, 31, 1, .wo, .none, fun _ _ => 0, id⟩
def F.FUSE_KEY_PROG_BUSY : Fld := ⟨0x400A0544, 0x0, 0x0, 0x0, 30, 1, .ro, .none, fun _ _ => 0, id⟩
def F.FUSE_KEY_PROG_ERR : Fld := ⟨0x400A0544, 0x0, 0x0, 0x0, 29, 1, .ro, .none, fun _ _ => 0, id⟩
def F.FUSE_KEY_PROG_BIT : Fld := ⟨0x400A0544, 0x0, 0x0, 0x0, 0, 10, .rw, .l, fun _ _ => 0, id⟩
/-! FLT.STATUS (18_faults_recovery.md) -/
def F.FLT_STATUS_PTB_ON : Fld := ⟨0x40080000, 0x0, 0x0, 0x0, 31, 1, .ro, .none, fun _ _ => 0, id⟩
def F.FLT_STATUS_COUNT : Fld := ⟨0x40080000, 0x0, 0x0, 0x0, 4, 6, .ro, .none, fun _ _ => 0, id⟩
def F.FLT_STATUS_PEND : Fld := ⟨0x40080000, 0x0, 0x0, 0x0, 0, 4, .ro, .none, fun _ _ => 0, id⟩
/-! FLT.OVF (18_faults_recovery.md) -/
def F.FLT_OVF_LOST_VALID : Fld := ⟨0x40080004, 0x0, 0x0, 0x0, 31, 1, .w1c, .none, fun _ _ => 0, id⟩
def F.FLT_OVF_LOST_SEV : Fld := ⟨0x40080004, 0x0, 0x0, 0x0, 24, 2, .ro, .none, fun _ _ => 0, id⟩
/-! FLT.OVF_COUNT (18_faults_recovery.md) -/
def F.FLT_OVF_COUNT_OVERFLOW : Fld := ⟨0x40080008, 0x0, 0x0, 0x0, 16, 16, .rc, .none, fun _ _ => 0, id⟩
def F.FLT_OVF_COUNT_BAD_ACK : Fld := ⟨0x40080008, 0x0, 0x0, 0x0, 0, 16, .rc, .none, fun _ _ => 0, id⟩
/-! FLT.ACK (18_faults_recovery.md) -/
def F.FLT_ACK_SEQ : Fld := ⟨0x4008000C, 0x0, 0x0, 0x0, 0, 16, .wo, .none, fun _ _ => 0, id⟩
/-! FLT.OLDEST[s][w] (18_faults_recovery.md) -/
def F.FLT_OLDEST_WORD : Fld := ⟨0x40080100, 0x10, 0x4, 0x0, 0, 32, .ro, .none, fun _ _ => 0, id⟩
/-! FLT.SLOT[i][w] (18_faults_recovery.md) -/
def F.FLT_SLOT_WORD : Fld := ⟨0x40080200, 0x10, 0x4, 0x0, 0, 32, .ro, .none, fun _ _ => 0, id⟩
/-! FLT.DOM_RESET (18_faults_recovery.md) -/
def F.FLT_DOM_RESET_GO : Fld := ⟨0x40080400, 0x0, 0x0, 0x0, 31, 1, .wo, .none, fun _ _ => 0, id⟩
def F.FLT_DOM_RESET_BUSY : Fld := ⟨0x40080400, 0x0, 0x0, 0x0, 30, 1, .ro, .none, fun _ _ => 0, id⟩
def F.FLT_DOM_RESET_DOMAIN : Fld := ⟨0x40080400, 0x0, 0x0, 0x0, 0, 5, .rw, .l, fun _ _ => 0, id⟩
/-! FLT.DOM_STATUS (18_faults_recovery.md) -/
def F.FLT_DOM_STATUS_ABSENT : Fld := ⟨0x40080404, 0x0, 0x0, 0x0, 0, 21, .ro, .none, fun _ _ => 0, id⟩
/-! FLT.MBOX_CFG (18_faults_recovery.md) -/
def F.FLT_MBOX_CFG_LINE : Fld := ⟨0x40080500, 0x0, 0x0, 0x0, 0, 10, .rw, .l, fun _ _ => 0, id⟩
/-! FLT.MBOX_DOOR (18_faults_recovery.md) -/
def F.FLT_MBOX_DOOR_RING : Fld := ⟨0x40080504, 0x0, 0x0, 0x0, 0, 32, .wo, .none, fun _ _ => 0, id⟩
/-! FLT.MBOX_IN[i] (18_faults_recovery.md) -/
def F.FLT_MBOX_IN_DATA : Fld := ⟨0x40080510, 0x4, 0x0, 0x0, 0, 32, .rw, .l, fun _ _ => 0, id⟩
/-! FLT.MBOX_OUT[i] (18_faults_recovery.md) -/
def F.FLT_MBOX_OUT_DATA : Fld := ⟨0x40080530, 0x4, 0x0, 0x0, 0, 32, .rw, .l, fun _ _ => 0, id⟩
/-! FLT.ECC_COUNT (18_faults_recovery.md) -/
def F.FLT_ECC_COUNT_CORRECTED : Fld := ⟨0x40080600, 0x0, 0x0, 0x0, 16, 16, .rc, .none, fun _ _ => 0, id⟩
def F.FLT_ECC_COUNT_UNCORRECTED : Fld := ⟨0x40080600, 0x0, 0x0, 0x0, 0, 16, .rc, .none, fun _ _ => 0, id⟩
/-! PTB.CTRL (18_faults_recovery.md) -/
def F.PTB_CTRL_EN : Fld := ⟨0x40090000, 0x0, 0x0, 0x0, 31, 1, .rw, .l, fun _ _ => 0, id⟩
def F.PTB_CTRL_KEY : Fld := ⟨0x40090000, 0x0, 0x0, 0x0, 16, 8, .wo, .none, fun _ _ => 0, id⟩
/-! PTB.SEED (18_faults_recovery.md) -/
def F.PTB_SEED_SEED : Fld := ⟨0x40090004, 0x0, 0x0, 0x0, 0, 32, .rw, .l, fun _ _ => 1, fun v => max v 1⟩
/-! PTB.COUNT (18_faults_recovery.md) -/
def F.PTB_COUNT_DELAYED : Fld := ⟨0x40090008, 0x0, 0x0, 0x0, 16, 16, .rc, .none, fun _ _ => 0, id⟩
def F.PTB_COUNT_HELD : Fld := ⟨0x40090008, 0x0, 0x0, 0x0, 0, 16, .rc, .none, fun _ _ => 0, id⟩
/-! PTB.DLY[i] (18_faults_recovery.md) -/
def F.PTB_DLY_ON : Fld := ⟨0x40090040, 0x4, 0x0, 0x0, 31, 1, .rw, .l, fun _ _ => 0, id⟩
def F.PTB_DLY_RANDOM : Fld := ⟨0x40090040, 0x4, 0x0, 0x0, 30, 1, .rw, .l, fun _ _ => 0, id⟩
def F.PTB_DLY_POINT : Fld := ⟨0x40090040, 0x4, 0x0, 0x0, 24, 6, .rw, .l, fun _ _ => 0, id⟩
def F.PTB_DLY_CLASSES : Fld := ⟨0x40090040, 0x4, 0x0, 0x0, 20, 4, .rw, .l, fun _ _ => 0, id⟩
def F.PTB_DLY_PROB : Fld := ⟨0x40090040, 0x4, 0x0, 0x0, 12, 8, .rw, .l, fun _ _ => 255, id⟩
def F.PTB_DLY_CYCLES : Fld := ⟨0x40090040, 0x4, 0x0, 0x0, 0, 12, .rw, .l, fun _ _ => 0, id⟩
/-! PTB.BP[i] (18_faults_recovery.md) -/
def F.PTB_BP_ON : Fld := ⟨0x40090080, 0x4, 0x0, 0x0, 31, 1, .rw, .l, fun _ _ => 0, id⟩
def F.PTB_BP_KIND : Fld := ⟨0x40090080, 0x4, 0x0, 0x0, 30, 1, .rw, .l, fun _ _ => 0, id⟩
def F.PTB_BP_TARGET : Fld := ⟨0x40090080, 0x4, 0x0, 0x0, 21, 9, .rw, .l, fun _ _ => 0, id⟩
def F.PTB_BP_HOLD : Fld := ⟨0x40090080, 0x4, 0x0, 0x0, 11, 10, .rw, .l, fun _ _ => 0, id⟩
def F.PTB_BP_PERIOD : Fld := ⟨0x40090080, 0x4, 0x0, 0x0, 0, 11, .rw, .l, fun _ _ => 1, fun v => max v 1⟩
/-! PTB.SKEW[p] (18_faults_recovery.md) -/
def F.PTB_SKEW_SKEW : Fld := ⟨0x400900C0, 0x4, 0x0, 0x0, 0, 16, .rw, .l, fun _ _ => 0, id⟩

/-- Every register of the device by name. -/
inductive RName where
  | SYS_DEVICE_ID
  | SYS_TL_CFG
  | SYS_TL_OFFSET
  | SYS_TL_STATUS
  | RFC_LOS_FREQ
  | RFC_LOS_CTRL
  | RFC_LOS_STATUS
  | RFC_LOP_CTRL
  | RFC_LOP_STATUS
  | RFC_GPIO_CFG
  | RFC_TILE_CTRL
  | RFC_TILE_TIMING
  | RFC_TILE_STATE
  | RFC_TILE_CAL
  | RFC_TX_ATT
  | RFC_RX_ATT
  | RFC_TILE_COUNT
  | RFC_TILE_DUTY
  | FUSE_REG_PMAX
  | FUSE_REG_LOWIN
  | FUSE_REG_VIEW
  | FUSE_REG_DUTY
  | FUSE_REG_PROG
  | FUSE_TX_TRIM
  | RXP_CTRL
  | RXP_SHIFT
  | RXP_SAT
  | RXP_SAT_COUNT
  | RXP_CFIR_CTRL
  | RXP_ALIGN
  | RXP_ALIGN_STATUS
  | RXP_SKEW
  | RXP_DDC
  | RXP_NCO_FTW
  | RXP_NCO_PHASE
  | RXP_AGC_CFG
  | RXP_AGC_THR
  | RXP_AGC_ADAPT
  | RXP_AGC_STATUS
  | RXP_AGC_COUNT
  | RXP_PWR_COARSE
  | RXP_PWR_FINE_CFG
  | RXP_PWR_FINE
  | RXP_CFIR_COEF
  | TXP_CTRL
  | TXP_SHIFT
  | TXP_SAT
  | TXP_SAT_COUNT
  | TXP_CFIR_CTRL
  | TXP_ALIGN
  | TXP_ALIGN_STATUS
  | TXP_SKEW
  | TXP_DUC
  | TXP_NCO_FTW
  | TXP_NCO_PHASE
  | TXP_CAR_GAIN
  | TXP_PLIM_CFG
  | TXP_PLIM_COUNT
  | TXP_NS_CFG
  | TXP_NS_STATUS
  | TXP_ZS_STATUS
  | TXP_TONE_CFG
  | TXP_TONE_FTW
  | TXP_TONE_PHASE
  | TXP_CFIR_COEF
  | PRISM_CFG
  | PRISM_CAR
  | PRISM_USED
  | PRISM_SAT
  | PRISM_CORR_COMMIT
  | PRISM_CORR_PEND
  | PRISM_CORR_ACT
  | PRISM_LAYER_CFG
  | PRISM_LAYER_STATE
  | PRISM_LAYER_COUNT
  | TXP_DPD_CTRL
  | TXP_DPD_NBR
  | TXP_DPD_UPDATE
  | TXP_DPD_STATUS
  | TXP_DPD_STALE
  | TXP_DPD_COUNT
  | TXP_DPD_MON
  | DPD_CFG
  | DPD_MON_CFG
  | DPD_COUNT
  | ORX_CTRL
  | ORX_DELAY
  | ORX_COPY
  | ORX_STATUS
  | ORX_BUF
  | ORX_DISCARD
  | ORX_REQ
  | MIR_CFG
  | MIR_PROBE
  | MIR_BUF
  | MIR_ROUND
  | MIR_SOLVE
  | MIR_STATUS
  | MIR_ACCEPT
  | MIR_SOLVER_CFG
  | MIR_COUNT
  | MIR_COUNT1
  | MIR_GEOM
  | FLW_CTRL
  | FLW_PIN
  | FLW_DEMAND
  | FLW_LIMITS
  | FLW_PLACE
  | FLW_STATUS
  | FLW_PROGRESS
  | FLW_LAT
  | FLW_COUNT
  | PLC_CFG
  | PLC_EQUIV
  | PLC_ENG_CFG
  | PLC_POOL_BASE
  | PLC_POOL_SIZE
  | PLC_EPOCH
  | PLC_LOG_BASE
  | PLC_LOG_HEAD
  | PLC_COUNT
  | PLC_LANE_LOAD
  | PLC_ENG_LOAD
  | PLC_PAT_SEL
  | PLC_PATTERN
  | LNK_CFG
  | LNK_TAG
  | LNK_MOD
  | LNK_MGMT_RING
  | LNK_MGMT_POST
  | LNK_CAP_POST
  | LNK_DM_CTRL
  | LNK_TIME_ASYM
  | LNK_TIME_DELAY
  | LNK_TIME_OFFSET_LO
  | LNK_TIME_OFFSET_HI
  | LNK_ERR0
  | LNK_ERR1
  | LNK_ERR2
  | LNK_ERR3
  | LNK_EVT_STATUS
  | LNK_LANE_CFG
  | LNK_LANE_STATUS
  | LANE_STATE
  | LANE_ERR
  | LANE_CTRL
  | LANE_TX_CFG
  | LANE_DFE_TAP
  | LANE_PRBS_CTRL
  | LANE_PRBS_ERR
  | LANE_PRBS_BITS_LO
  | LANE_PRBS_BITS_HI
  | LANE_INJECT
  | LANE_EYE_CTRL
  | LANE_EYE_SCAN
  | LANE_EYE_POINT
  | SE_CTRL
  | SE_STATUS
  | SE_CKPT
  | SE_FAULT_ADDR
  | SE_POST
  | SE_JOB_CFG
  | SE_COUNT
  | SE_CYCLES_LO
  | SE_CYCLES_HI
  | FAB_PROXY
  | FAB_VIOL_INFO
  | FAB_VIOL_ADDR
  | FAB_COUNT
  | FAB_COUNT1
  | FAB_MRAM_STATUS
  | FAB_MRAM_MOVES
  | FAB_FW_BASE
  | FAB_FW_LIMIT
  | DMA_CFG
  | DMA_CH_DOORBELL
  | DMA_CH_CTRL
  | DMA_CH_STATUS
  | DMA_CH_DESC
  | DMA_CH_COUNT
  | EVC_CTRL
  | EVC_COUNT
  | EVC_SWSET
  | EVC_ALERT_CLR
  | EVC_CLAIM
  | EVC_COMPLETE
  | EVC_TGT_CFG
  | EVC_TGT_STATUS
  | EVC_PRIO
  | EVC_EN
  | EVC_PEND
  | HKA_XCFG
  | HKA_XSTATUS
  | HKA_XCOUNT
  | HKA_CTRL
  | HKA_TRIG
  | HKA_INJ
  | HKA_CAL
  | HKA_STATUS
  | HKA_COUNT
  | HKA_OWCFG
  | HKA_INJ_RESULT
  | HKA_RESULT
  | HKA_SEQ
  | PWM_CTRL
  | PWM_PERIOD
  | PWM_DUTY
  | CLK_CFG
  | CLK_STATUS
  | CLK_CORE_CFG
  | CLK_CLKOUT_CFG
  | CLK_SYNC_CFG
  | CLK_SYNC_PERIOD
  | CLK_SYNC_PHASE
  | CLK_SYNC_LOAD_LO
  | CLK_SYNC_LOAD_HI
  | CLK_SYNC_CAP_LO
  | CLK_SYNC_CAP_HI
  | CLK_SYNC_STATUS
  | CLK_DISC_CFG
  | CLK_DISC_LIMITS
  | CLK_DISC_STATUS
  | CLK_DISC_COUNT
  | CLK_SLEW_TOTAL
  | CLK_TIME_LO
  | CLK_TIME_HI
  | PWR_MODE
  | PWR_WAKE_EN
  | PWR_WAKE_STATUS
  | PWR_LAST_WAKE
  | PWR_LAST_REFUSAL
  | PWR_REFUSE_CNT
  | PWR_TIMER
  | PWR_TIMER_CMP
  | PWR_RESUME
  | PWR_PERF
  | PWR_AVS_CFG
  | PWR_AVS_LOOP
  | PWR_AVS_STATUS
  | PWR_GATE_CFG
  | PWR_GATE_COUNT
  | SYS_SEAL
  | SYS_RESET_CTRL
  | SYS_BOOT_STATUS
  | SYS_BOOT_DETAIL
  | FUSE_KEY_HASH
  | FUSE_KEY_CFG
  | FUSE_KEY_PROG
  | FLT_STATUS
  | FLT_OVF
  | FLT_OVF_COUNT
  | FLT_ACK
  | FLT_OLDEST
  | FLT_SLOT
  | FLT_DOM_RESET
  | FLT_DOM_STATUS
  | FLT_MBOX_CFG
  | FLT_MBOX_DOOR
  | FLT_MBOX_IN
  | FLT_MBOX_OUT
  | FLT_ECC_COUNT
  | PTB_CTRL
  | PTB_SEED
  | PTB_COUNT
  | PTB_DLY
  | PTB_BP
  | PTB_SKEW
  deriving DecidableEq, Repr

/-- One register map: name, address of the first instance, index counts with strides, and fields. -/
structure RegDesc where
  name : RName
  base : Nat
  dims : List (Nat × Nat)
  flds : List Fld

/-- The registers of block SYS. -/
def regsSYS : List RegDesc := [
  ⟨.SYS_DEVICE_ID, 0x40000000, [], [F.SYS_DEVICE_ID_PART, F.SYS_DEVICE_ID_MAJOR, F.SYS_DEVICE_ID_MINOR, F.SYS_DEVICE_ID_GRADE]⟩,
  ⟨.SYS_TL_CFG, 0x40000200, [(4, 0x10)], [F.SYS_TL_CFG_EN, F.SYS_TL_CFG_FN_BASE, F.SYS_TL_CFG_MU]⟩,
  ⟨.SYS_TL_OFFSET, 0x40000204, [(4, 0x10)], [F.SYS_TL_OFFSET_OFFSET]⟩,
  ⟨.SYS_TL_STATUS, 0x40000208, [(4, 0x10)], [F.SYS_TL_STATUS_FRAME, F.SYS_TL_STATUS_SYMBOL]⟩,
  ⟨.SYS_SEAL, 0x40000010, [], [F.SYS_SEAL_SEAL, F.SYS_SEAL_FORCED, F.SYS_SEAL_DEFERRED]⟩,
  ⟨.SYS_RESET_CTRL, 0x40000014, [], [F.SYS_RESET_CTRL_KEY, F.SYS_RESET_CTRL_REASON, F.SYS_RESET_CTRL_WHOLE]⟩,
  ⟨.SYS_BOOT_STATUS, 0x40000020, [], [F.SYS_BOOT_STATUS_STATE, F.SYS_BOOT_STATUS_IMAGE, F.SYS_BOOT_STATUS_FALLBACK, F.SYS_BOOT_STATUS_UNSECURED, F.SYS_BOOT_STATUS_PRIOR_WAKE_FAIL, F.SYS_BOOT_STATUS_KEY_SLOT, F.SYS_BOOT_STATUS_BOOT_SEL, F.SYS_BOOT_STATUS_CAUSE, F.SYS_BOOT_STATUS_FAIL_A, F.SYS_BOOT_STATUS_FAIL_B]⟩,
  ⟨.SYS_BOOT_DETAIL, 0x40000024, [], [F.SYS_BOOT_DETAIL_STEP_A, F.SYS_BOOT_DETAIL_STEP_B, F.SYS_BOOT_DETAIL_SECTION]⟩]
/-- The registers of block RFC. -/
def regsRFC : List RegDesc := [
  ⟨.RFC_LOS_FREQ, 0x40400000, [(4, 0x40)], [F.RFC_LOS_FREQ_FREQ_KHZ]⟩,
  ⟨.RFC_LOS_CTRL, 0x40400004, [(4, 0x40)], [F.RFC_LOS_CTRL_EN]⟩,
  ⟨.RFC_LOS_STATUS, 0x40400008, [(4, 0x40)], [F.RFC_LOS_STATUS_LOCKED, F.RFC_LOS_STATUS_OSC_BUSY, F.RFC_LOS_STATUS_ACTIVE, F.RFC_LOS_STATUS_REFUSED, F.RFC_LOS_STATUS_FREQ_IN_EFFECT]⟩,
  ⟨.RFC_LOP_CTRL, 0x40400100, [(2, 0x10)], [F.RFC_LOP_CTRL_HOP, F.RFC_LOP_CTRL_TL]⟩,
  ⟨.RFC_LOP_STATUS, 0x40400104, [(2, 0x10)], [F.RFC_LOP_STATUS_HOP_PENDING, F.RFC_LOP_STATUS_ACTIVE_SEL, F.RFC_LOP_STATUS_HOP_COUNT]⟩,
  ⟨.RFC_GPIO_CFG, 0x40400200, [(16, 0x4)], [F.RFC_GPIO_CFG_EN, F.RFC_GPIO_CFG_POL, F.RFC_GPIO_CFG_FUNC, F.RFC_GPIO_CFG_TILE]⟩,
  ⟨.RFC_TILE_CTRL, 0x40401000, [(16, 0x400)], [F.RFC_TILE_CTRL_EN, F.RFC_TILE_CTRL_TL, F.RFC_TILE_CTRL_RETURN, F.RFC_TILE_CTRL_DUPLEX, F.RFC_TILE_CTRL_BG_EN]⟩,
  ⟨.RFC_TILE_TIMING, 0x40401004, [(16, 0x400)], [F.RFC_TILE_TIMING_PA_LEAD, F.RFC_TILE_TIMING_PA_LAG, F.RFC_TILE_TIMING_TR_LEAD, F.RFC_TILE_TIMING_TR_LAG]⟩,
  ⟨.RFC_TILE_STATE, 0x40401008, [(16, 0x400)], [F.RFC_TILE_STATE_TILE, F.RFC_TILE_STATE_TXH, F.RFC_TILE_STATE_RXH, F.RFC_TILE_STATE_LO_LOCKED, F.RFC_TILE_STATE_DUTY_GATE, F.RFC_TILE_STATE_CAL_RUN, F.RFC_TILE_STATE_CAL_FG]⟩,
  ⟨.RFC_TILE_CAL, 0x4040100C, [(16, 0x400)], [F.RFC_TILE_CAL_FG_BUSY, F.RFC_TILE_CAL_FAIL, F.RFC_TILE_CAL_REQ, F.RFC_TILE_CAL_BG_PERIOD]⟩,
  ⟨.RFC_TX_ATT, 0x40401020, [(16, 0x400), (4, 0x4)], [F.RFC_TX_ATT_ATT]⟩,
  ⟨.RFC_RX_ATT, 0x40401030, [(16, 0x400), (4, 0x4)], [F.RFC_RX_ATT_MAN, F.RFC_RX_ATT_IN_EFFECT, F.RFC_RX_ATT_ATT]⟩,
  ⟨.RFC_TILE_COUNT, 0x40401040, [(16, 0x400)], [F.RFC_TILE_COUNT_LATE_LOCK, F.RFC_TILE_COUNT_TX_BLOCKED, F.RFC_TILE_COUNT_RX_BLOCKED, F.RFC_TILE_COUNT_DUTY_GATED]⟩,
  ⟨.RFC_TILE_DUTY, 0x40401044, [(16, 0x400)], [F.RFC_TILE_DUTY_TX_TICKS]⟩]
/-- The registers of block FUSE. -/
def regsFUSE : List RegDesc := [
  ⟨.FUSE_REG_PMAX, 0x400A0100, [(64, 0x4)], [F.FUSE_REG_PMAX_VIEW, F.FUSE_REG_PMAX_FUSE]⟩,
  ⟨.FUSE_REG_LOWIN, 0x400A0200, [(8, 0x4)], [F.FUSE_REG_LOWIN_VALID, F.FUSE_REG_LOWIN_HI_MHZ, F.FUSE_REG_LOWIN_LO_MHZ]⟩,
  ⟨.FUSE_REG_VIEW, 0x400A0300, [], [F.FUSE_REG_VIEW_DUTY_VIEW, F.FUSE_REG_VIEW_WIN_OFF]⟩,
  ⟨.FUSE_REG_DUTY, 0x400A0304, [], [F.FUSE_REG_DUTY_CLOSED, F.FUSE_REG_DUTY_DUTY]⟩,
  ⟨.FUSE_REG_PROG, 0x400A0400, [], [F.FUSE_REG_PROG_GO, F.FUSE_REG_PROG_BUSY, F.FUSE_REG_PROG_ERR, F.FUSE_REG_PROG_BIT]⟩,
  ⟨.FUSE_TX_TRIM, 0x400A0600, [(64, 0x4)], [F.FUSE_TX_TRIM_COLD, F.FUSE_TX_TRIM_ROOM, F.FUSE_TX_TRIM_HOT]⟩,
  ⟨.FUSE_KEY_HASH, 0x400A0500, [(2, 0x20), (8, 0x4)], [F.FUSE_KEY_HASH_HASH]⟩,
  ⟨.FUSE_KEY_CFG, 0x400A0540, [], [F.FUSE_KEY_CFG_SECURE, F.FUSE_KEY_CFG_REVOKE1, F.FUSE_KEY_CFG_REVOKE0]⟩,
  ⟨.FUSE_KEY_PROG, 0x400A0544, [], [F.FUSE_KEY_PROG_GO, F.FUSE_KEY_PROG_BUSY, F.FUSE_KEY_PROG_ERR, F.FUSE_KEY_PROG_BIT]⟩]
/-- The registers of block RXP. -/
def regsRXP : List RegDesc := [
  ⟨.RXP_CTRL, 0x41080000, [(64, 0x1000)], [F.RXP_CTRL_EN, F.RXP_CTRL_LEN_A]⟩,
  ⟨.RXP_SHIFT, 0x41080004, [(64, 0x1000)], [F.RXP_SHIFT_SHIFT_D1, F.RXP_SHIFT_SHIFT_D0, F.RXP_SHIFT_SHIFT_C, F.RXP_SHIFT_SHIFT_B, F.RXP_SHIFT_SHIFT_A]⟩,
  ⟨.RXP_SAT, 0x41080008, [(64, 0x1000)], [F.RXP_SAT_ADC_OVL, F.RXP_SAT_D1, F.RXP_SAT_D0, F.RXP_SAT_COMP, F.RXP_SAT_C, F.RXP_SAT_B, F.RXP_SAT_A]⟩,
  ⟨.RXP_SAT_COUNT, 0x4108000C, [(64, 0x1000)], [F.RXP_SAT_COUNT_SAT_SYMBOLS, F.RXP_SAT_COUNT_ADC_OVL_COUNT]⟩,
  ⟨.RXP_CFIR_CTRL, 0x41080010, [(64, 0x1000)], [F.RXP_CFIR_CTRL_BANK, F.RXP_CFIR_CTRL_ACTIVE, F.RXP_CFIR_CTRL_GD]⟩,
  ⟨.RXP_ALIGN, 0x41080014, [(64, 0x1000), (2, 0x8)], [F.RXP_ALIGN_TARGET]⟩,
  ⟨.RXP_ALIGN_STATUS, 0x41080018, [(64, 0x1000), (2, 0x8)], [F.RXP_ALIGN_STATUS_RANGE_ERR, F.RXP_ALIGN_STATUS_G_FIXED, F.RXP_ALIGN_STATUS_PAD]⟩,
  ⟨.RXP_SKEW, 0x41080024, [(64, 0x1000)], [F.RXP_SKEW_SKEW]⟩,
  ⟨.RXP_DDC, 0x41080040, [(64, 0x1000), (2, 0x10)], [F.RXP_DDC_CEN, F.RXP_DDC_TL, F.RXP_DDC_DEC]⟩,
  ⟨.RXP_NCO_FTW, 0x41080044, [(64, 0x1000), (2, 0x10)], [F.RXP_NCO_FTW_FTW]⟩,
  ⟨.RXP_NCO_PHASE, 0x41080048, [(64, 0x1000), (2, 0x10)], [F.RXP_NCO_PHASE_PHASE]⟩,
  ⟨.RXP_AGC_CFG, 0x41080080, [(64, 0x1000)], [F.RXP_AGC_CFG_ATTACK_STEP, F.RXP_AGC_CFG_HOLD, F.RXP_AGC_CFG_ATT_MIN, F.RXP_AGC_CFG_ADAPT, F.RXP_AGC_CFG_COMP_EN, F.RXP_AGC_CFG_COMP_REF]⟩,
  ⟨.RXP_AGC_THR, 0x41080084, [(64, 0x1000)], [F.RXP_AGC_THR_THR_TOP, F.RXP_AGC_THR_THR_BOTTOM, F.RXP_AGC_THR_HYST, F.RXP_AGC_THR_T_INIT]⟩,
  ⟨.RXP_AGC_ADAPT, 0x41080088, [(64, 0x1000)], [F.RXP_AGC_ADAPT_CLIP_TARGET, F.RXP_AGC_ADAPT_WIN]⟩,
  ⟨.RXP_AGC_STATUS, 0x4108008C, [(64, 0x1000)], [F.RXP_AGC_STATUS_T_HIGH, F.RXP_AGC_STATUS_T_LOW, F.RXP_AGC_STATUS_LAST_SYM]⟩,
  ⟨.RXP_AGC_COUNT, 0x41080090, [(64, 0x1000)], [F.RXP_AGC_COUNT_ATTACKS, F.RXP_AGC_COUNT_DECAYS]⟩,
  ⟨.RXP_PWR_COARSE, 0x410800A0, [(64, 0x1000)], [F.RXP_PWR_COARSE_VALID, F.RXP_PWR_COARSE_CODE]⟩,
  ⟨.RXP_PWR_FINE_CFG, 0x410800A4, [(64, 0x1000)], [F.RXP_PWR_FINE_CFG_WIN_LOG2]⟩,
  ⟨.RXP_PWR_FINE, 0x410800A8, [(64, 0x1000)], [F.RXP_PWR_FINE_VALID, F.RXP_PWR_FINE_CODE]⟩,
  ⟨.RXP_CFIR_COEF, 0x41080400, [(64, 0x1000), (2, 0x200), (96, 0x4)], [F.RXP_CFIR_COEF_COEF]⟩]
/-- The registers of block TXP. -/
def regsTXP : List RegDesc := [
  ⟨.TXP_CTRL, 0x41000000, [(64, 0x1000)], [F.TXP_CTRL_EN, F.TXP_CTRL_LEN_A]⟩,
  ⟨.TXP_SHIFT, 0x41000004, [(64, 0x1000)], [F.TXP_SHIFT_SHIFT_D1, F.TXP_SHIFT_SHIFT_D0, F.TXP_SHIFT_SHIFT_C, F.TXP_SHIFT_SHIFT_B, F.TXP_SHIFT_SHIFT_A]⟩,
  ⟨.TXP_SAT, 0x41000008, [(64, 0x1000)], [F.TXP_SAT_NS_OVL, F.TXP_SAT_SUM, F.TXP_SAT_D1, F.TXP_SAT_D0, F.TXP_SAT_C, F.TXP_SAT_ALN, F.TXP_SAT_B, F.TXP_SAT_A]⟩,
  ⟨.TXP_SAT_COUNT, 0x4100000C, [(64, 0x1000)], [F.TXP_SAT_COUNT_SAT_SYMBOLS]⟩,
  ⟨.TXP_CFIR_CTRL, 0x41000010, [(64, 0x1000)], [F.TXP_CFIR_CTRL_BANK, F.TXP_CFIR_CTRL_ACTIVE, F.TXP_CFIR_CTRL_GD]⟩,
  ⟨.TXP_ALIGN, 0x41000014, [(64, 0x1000)], [F.TXP_ALIGN_TARGET]⟩,
  ⟨.TXP_ALIGN_STATUS, 0x41000018, [(64, 0x1000)], [F.TXP_ALIGN_STATUS_RANGE_ERR, F.TXP_ALIGN_STATUS_G_FIXED, F.TXP_ALIGN_STATUS_PAD]⟩,
  ⟨.TXP_SKEW, 0x41000024, [(64, 0x1000)], [F.TXP_SKEW_SKEW]⟩,
  ⟨.TXP_DUC, 0x41000040, [(64, 0x1000), (2, 0x10)], [F.TXP_DUC_CEN, F.TXP_DUC_TL, F.TXP_DUC_INT]⟩,
  ⟨.TXP_NCO_FTW, 0x41000044, [(64, 0x1000), (2, 0x10)], [F.TXP_NCO_FTW_FTW]⟩,
  ⟨.TXP_NCO_PHASE, 0x41000048, [(64, 0x1000), (2, 0x10)], [F.TXP_NCO_PHASE_PHASE]⟩,
  ⟨.TXP_CAR_GAIN, 0x4100004C, [(64, 0x1000), (2, 0x10)], [F.TXP_CAR_GAIN_GAIN]⟩,
  ⟨.TXP_PLIM_CFG, 0x41000080, [(64, 0x1000)], [F.TXP_PLIM_CFG_PEAK]⟩,
  ⟨.TXP_PLIM_COUNT, 0x41000084, [(64, 0x1000)], [F.TXP_PLIM_COUNT_DIP_SYMBOLS, F.TXP_PLIM_COUNT_DIPS]⟩,
  ⟨.TXP_NS_CFG, 0x41000090, [(64, 0x1000)], [F.TXP_NS_CFG_DEM]⟩,
  ⟨.TXP_NS_STATUS, 0x41000094, [(64, 0x1000)], [F.TXP_NS_STATUS_OVL_COUNT]⟩,
  ⟨.TXP_ZS_STATUS, 0x41000098, [(64, 0x1000)], [F.TXP_ZS_STATUS_ZERO, F.TXP_ZS_STATUS_CAUSE]⟩,
  ⟨.TXP_TONE_CFG, 0x410000A0, [(64, 0x1000)], [F.TXP_TONE_CFG_MODE, F.TXP_TONE_CFG_AMP]⟩,
  ⟨.TXP_TONE_FTW, 0x410000A4, [(64, 0x1000)], [F.TXP_TONE_FTW_FTW]⟩,
  ⟨.TXP_TONE_PHASE, 0x410000A8, [(64, 0x1000)], [F.TXP_TONE_PHASE_PHASE]⟩,
  ⟨.TXP_CFIR_COEF, 0x41000400, [(64, 0x1000), (2, 0x200), (96, 0x4)], [F.TXP_CFIR_COEF_COEF]⟩,
  ⟨.TXP_DPD_CTRL, 0x41000100, [(64, 0x1000)], [F.TXP_DPD_CTRL_EN, F.TXP_DPD_CTRL_BLEND, F.TXP_DPD_CTRL_TAP, F.TXP_DPD_CTRL_DEF_SET, F.TXP_DPD_CTRL_STEP]⟩,
  ⟨.TXP_DPD_NBR, 0x41000104, [(64, 0x1000)], [F.TXP_DPD_NBR_NV, F.TXP_DPD_NBR_N3, F.TXP_DPD_NBR_N2, F.TXP_DPD_NBR_N1, F.TXP_DPD_NBR_N0]⟩,
  ⟨.TXP_DPD_UPDATE, 0x41000108, [(64, 0x1000)], [F.TXP_DPD_UPDATE_GO, F.TXP_DPD_UPDATE_PENDING, F.TXP_DPD_UPDATE_TRIAL, F.TXP_DPD_UPDATE_SET, F.TXP_DPD_UPDATE_LAST]⟩,
  ⟨.TXP_DPD_STATUS, 0x4100010C, [(64, 0x1000)], [F.TXP_DPD_STATUS_BYPASSED, F.TXP_DPD_STATUS_BLEND_POS, F.TXP_DPD_STATUS_TARGET_SET, F.TXP_DPD_STATUS_KEY]⟩,
  ⟨.TXP_DPD_STALE, 0x41000110, [(64, 0x1000)], [F.TXP_DPD_STALE_FROZEN, F.TXP_DPD_STALE_STALE]⟩,
  ⟨.TXP_DPD_COUNT, 0x41000114, [(64, 0x1000)], [F.TXP_DPD_COUNT_ROLLBACKS, F.TXP_DPD_COUNT_REFUSED, F.TXP_DPD_COUNT_DEF_USED, F.TXP_DPD_COUNT_SAT_SYMBOLS]⟩,
  ⟨.TXP_DPD_MON, 0x41000118, [(64, 0x1000)], [F.TXP_DPD_MON_GAIN, F.TXP_DPD_MON_EXP]⟩]
/-- The registers of block PRISM. -/
def regsPRISM : List RegDesc := [
  ⟨.PRISM_CFG, 0x40300000, [], [F.PRISM_CFG_EN, F.PRISM_CFG_DUPLEX, F.PRISM_CFG_SPLIT, F.PRISM_CFG_TL]⟩,
  ⟨.PRISM_CAR, 0x40300010, [(2, 0x8), (2, 0x4)], [F.PRISM_CAR_CEN, F.PRISM_CAR_RATE, F.PRISM_CAR_TL, F.PRISM_CAR_SHIFT, F.PRISM_CAR_CAP_MAX]⟩,
  ⟨.PRISM_USED, 0x40300020, [(2, 0x4)], [F.PRISM_USED_LAYERS, F.PRISM_USED_UNITS]⟩,
  ⟨.PRISM_SAT, 0x40300030, [], [F.PRISM_SAT_CORR, F.PRISM_SAT_SUM]⟩,
  ⟨.PRISM_CORR_COMMIT, 0x40300040, [], [F.PRISM_CORR_COMMIT_GO, F.PRISM_CORR_COMMIT_ARMED, F.PRISM_CORR_COMMIT_COMMITS]⟩,
  ⟨.PRISM_CORR_PEND, 0x40300800, [(2, 0x100), (64, 0x4)], [F.PRISM_CORR_PEND_I, F.PRISM_CORR_PEND_Q]⟩,
  ⟨.PRISM_CORR_ACT, 0x40300A00, [(2, 0x100), (64, 0x4)], [F.PRISM_CORR_ACT_I, F.PRISM_CORR_ACT_Q]⟩,
  ⟨.PRISM_LAYER_CFG, 0x40301000, [(512, 0x10)], [F.PRISM_LAYER_CFG_LEN, F.PRISM_LAYER_CFG_DIR, F.PRISM_LAYER_CFG_CAR, F.PRISM_LAYER_CFG_DEF_EN, F.PRISM_LAYER_CFG_DEF_ENTRY]⟩,
  ⟨.PRISM_LAYER_STATE, 0x40301004, [(512, 0x10)], [F.PRISM_LAYER_STATE_ACT_VALID, F.PRISM_LAYER_STATE_SHD_VALID, F.PRISM_LAYER_STATE_PENDING, F.PRISM_LAYER_STATE_SHADOW_ENTRY, F.PRISM_LAYER_STATE_ACTIVE_ENTRY]⟩,
  ⟨.PRISM_LAYER_COUNT, 0x40301008, [(512, 0x10)], [F.PRISM_LAYER_COUNT_LATE, F.PRISM_LAYER_COUNT_NOBEAM, F.PRISM_LAYER_COUNT_UNDERRUN, F.PRISM_LAYER_COUNT_INVALID, F.PRISM_LAYER_COUNT_QFULL]⟩]
/-- The registers of block DPD. -/
def regsDPD : List RegDesc := [
  ⟨.DPD_CFG, 0x41200000, [], [F.DPD_CFG_SCHED_EN, F.DPD_CFG_REFRESH, F.DPD_CFG_MIR_SHARE]⟩,
  ⟨.DPD_MON_CFG, 0x41200004, [], [F.DPD_MON_CFG_GAIN_TOL, F.DPD_MON_CFG_EXP_MAX, F.DPD_MON_CFG_FAIL_LIMIT, F.DPD_MON_CFG_FREEZE_AFTER]⟩,
  ⟨.DPD_COUNT, 0x41200008, [], [F.DPD_COUNT_STALE_EVENTS, F.DPD_COUNT_DIVERGED, F.DPD_COUNT_UNSTABLE, F.DPD_COUNT_LAPSED]⟩]
/-- The registers of block ORX. -/
def regsORX : List RegDesc := [
  ⟨.ORX_CTRL, 0x41100000, [(8, 0x1000)], [F.ORX_CTRL_EN, F.ORX_CTRL_ATT, F.ORX_CTRL_CAP_LOG2, F.ORX_CTRL_SW_SETTLE, F.ORX_CTRL_SKIP]⟩,
  ⟨.ORX_DELAY, 0x41100004, [(8, 0x1000)], [F.ORX_DELAY_DELAY]⟩,
  ⟨.ORX_COPY, 0x41100008, [(8, 0x1000)], [F.ORX_COPY_CEN, F.ORX_COPY_ADDR]⟩,
  ⟨.ORX_STATUS, 0x4110000C, [(8, 0x1000)], [F.ORX_STATUS_BUSY, F.ORX_STATUS_COPY_OK, F.ORX_STATUS_PATH, F.ORX_STATUS_SET, F.ORX_STATUS_SEL]⟩,
  ⟨.ORX_BUF, 0x41100010, [(8, 0x1000)], [F.ORX_BUF_HELD]⟩,
  ⟨.ORX_DISCARD, 0x41100014, [(8, 0x1000)], [F.ORX_DISCARD_BUF_SKIP, F.ORX_DISCARD_ALIGN, F.ORX_DISCARD_CLIP, F.ORX_DISCARD_LO, F.ORX_DISCARD_ZS, F.ORX_DISCARD_BEAM]⟩,
  ⟨.ORX_REQ, 0x41100018, [(8, 0x1000)], [F.ORX_REQ_GO, F.ORX_REQ_PEND, F.ORX_REQ_PATH]⟩]
/-- The registers of block MIR. -/
def regsMIR : List RegDesc := [
  ⟨.MIR_CFG, 0x41300000, [], [F.MIR_CFG_EN, F.MIR_CFG_REF, F.MIR_CFG_PERIOD, F.MIR_CFG_ROUND_MAX]⟩,
  ⟨.MIR_PROBE, 0x41300004, [], [F.MIR_PROBE_ORX_ATT, F.MIR_PROBE_LEVEL, F.MIR_PROBE_REPS]⟩,
  ⟨.MIR_BUF, 0x41300008, [], [F.MIR_BUF_ADDR]⟩,
  ⟨.MIR_ROUND, 0x4130000C, [], [F.MIR_ROUND_START, F.MIR_ROUND_BASE, F.MIR_ROUND_BUSY, F.MIR_ROUND_PROBED, F.MIR_ROUND_NUMBER]⟩,
  ⟨.MIR_SOLVE, 0x41300010, [], [F.MIR_SOLVE_GO, F.MIR_SOLVE_ACCEPT, F.MIR_SOLVE_PENDING, F.MIR_SOLVE_TEST, F.MIR_SOLVE_ROUND]⟩,
  ⟨.MIR_STATUS, 0x41300014, [], [F.MIR_STATUS_LAST, F.MIR_STATUS_LAST_ROUND]⟩,
  ⟨.MIR_ACCEPT, 0x41300018, [], [F.MIR_ACCEPT_RES_PH, F.MIR_ACCEPT_RES_G, F.MIR_ACCEPT_STEP_PH, F.MIR_ACCEPT_STEP_G]⟩,
  ⟨.MIR_SOLVER_CFG, 0x4130001C, [], [F.MIR_SOLVER_CFG_OUT_TOL, F.MIR_SOLVER_CFG_OUT_MAX]⟩,
  ⟨.MIR_COUNT, 0x41300020, [], [F.MIR_COUNT_ROUNDS, F.MIR_COUNT_COMMITTED, F.MIR_COUNT_REJECTED, F.MIR_COUNT_ABORTED]⟩,
  ⟨.MIR_COUNT1, 0x41300024, [], [F.MIR_COUNT1_LOST, F.MIR_COUNT1_REFUSED]⟩,
  ⟨.MIR_GEOM, 0x41300100, [(64, 0x4)], [F.MIR_GEOM_PRESENT, F.MIR_GEOM_Y, F.MIR_GEOM_X]⟩]
/-- The registers of block FLW. -/
def regsFLW : List RegDesc := [
  ⟨.FLW_CTRL, 0x40200000, [(512, 0x40)], [F.FLW_CTRL_REQ, F.FLW_CTRL_CLASS, F.FLW_CTRL_TYPE, F.FLW_CTRL_TL, F.FLW_CTRL_MANT, F.FLW_CTRL_HOME_PORT, F.FLW_CTRL_LINK_ID]⟩,
  ⟨.FLW_PIN, 0x40200004, [(512, 0x40)], [F.FLW_PIN_PIN_PORT, F.FLW_PIN_PIN_LANES, F.FLW_PIN_PIN_ENGINE, F.FLW_PIN_PIN_BUFFER, F.FLW_PIN_LANES, F.FLW_PIN_ENGINE]⟩,
  ⟨.FLW_DEMAND, 0x40200008, [(512, 0x40)], [F.FLW_DEMAND_RATE_MBPS, F.FLW_DEMAND_LOAD, F.FLW_DEMAND_KERNEL]⟩,
  ⟨.FLW_LIMITS, 0x4020000C, [(512, 0x40)], [F.FLW_LIMITS_LAT_MAX, F.FLW_LIMITS_DEPTH]⟩,
  ⟨.FLW_PLACE, 0x40200010, [(512, 0x40)], [F.FLW_PLACE_PORT, F.FLW_PLACE_LANES, F.FLW_PLACE_ENGINE, F.FLW_PLACE_ENG_VALID, F.FLW_PLACE_BUF_PAGES, F.FLW_PLACE_BUF_PAGE]⟩,
  ⟨.FLW_STATUS, 0x40200014, [(512, 0x40)], [F.FLW_STATUS_STATE, F.FLW_STATUS_MOVE_PEND, F.FLW_STATUS_CAUSE, F.FLW_STATUS_REFUSAL, F.FLW_STATUS_CHARGE]⟩,
  ⟨.FLW_PROGRESS, 0x40200018, [(512, 0x40)], [F.FLW_PROGRESS_VALID, F.FLW_PROGRESS_PARTIAL, F.FLW_PROGRESS_AHEAD, F.FLW_PROGRESS_FRAME, F.FLW_PROGRESS_SYMBOL]⟩,
  ⟨.FLW_LAT, 0x4020001C, [(512, 0x40)], [F.FLW_LAT_WORST]⟩,
  ⟨.FLW_COUNT, 0x40200020, [(512, 0x40)], [F.FLW_COUNT_MOVES, F.FLW_COUNT_ABANDONED, F.FLW_COUNT_LAT_VIOL, F.FLW_COUNT_DROPPED]⟩]
/-- The registers of block PLC. -/
def regsPLC : List RegDesc := [
  ⟨.PLC_CFG, 0x40060000, [], [F.PLC_CFG_EN, F.PLC_CFG_TL, F.PLC_CFG_FILL, F.PLC_CFG_OVH, F.PLC_CFG_NOTICE, F.PLC_CFG_MAX_MOVES]⟩,
  ⟨.PLC_EQUIV, 0x40060004, [], [F.PLC_EQUIV_BAL, F.PLC_EQUIV_EQ]⟩,
  ⟨.PLC_ENG_CFG, 0x40060008, [], [F.PLC_ENG_CFG_AVAIL, F.PLC_ENG_CFG_ENG_FILL]⟩,
  ⟨.PLC_POOL_BASE, 0x4006000C, [], [F.PLC_POOL_BASE_ADDR]⟩,
  ⟨.PLC_POOL_SIZE, 0x40060010, [], [F.PLC_POOL_SIZE_SIZE]⟩,
  ⟨.PLC_EPOCH, 0x40060014, [], [F.PLC_EPOCH_GO, F.PLC_EPOCH_BUSY, F.PLC_EPOCH_RERUN, F.PLC_EPOCH_COUNT]⟩,
  ⟨.PLC_LOG_BASE, 0x40060018, [], [F.PLC_LOG_BASE_SIZE, F.PLC_LOG_BASE_ADDR]⟩,
  ⟨.PLC_LOG_HEAD, 0x4006001C, [], [F.PLC_LOG_HEAD_HEAD]⟩,
  ⟨.PLC_COUNT, 0x40060020, [], [F.PLC_COUNT_ADMITS, F.PLC_COUNT_REFUSALS, F.PLC_COUNT_MOVES, F.PLC_COUNT_SHEDS]⟩,
  ⟨.PLC_LANE_LOAD, 0x40060040, [(16, 0x4)], [F.PLC_LANE_LOAD_READY, F.PLC_LANE_LOAD_MBPS]⟩,
  ⟨.PLC_ENG_LOAD, 0x40060080, [(16, 0x4)], [F.PLC_ENG_LOAD_AVAIL, F.PLC_ENG_LOAD_MCPS]⟩,
  ⟨.PLC_PAT_SEL, 0x400600C0, [], [F.PLC_PAT_SEL_BANK]⟩,
  ⟨.PLC_PATTERN, 0x40060400, [(2, 0x800), (4, 0x200), (70, 0x4)], [F.PLC_PATTERN_CODES]⟩]
/-- The registers of block LNK. -/
def regsLNK : List RegDesc := [
  ⟨.LNK_CFG, 0x40100000, [(4, 0x10000)], [F.LNK_CFG_EN, F.LNK_CFG_PARTNER, F.LNK_CFG_TIME_ROLE, F.LNK_CFG_TAG_CHECK, F.LNK_CFG_SYNC_INT]⟩,
  ⟨.LNK_TAG, 0x40100004, [(4, 0x10000)], [F.LNK_TAG_TX_TAG, F.LNK_TAG_RX_TAG]⟩,
  ⟨.LNK_MOD, 0x40100008, [(4, 0x10000)], [F.LNK_MOD_MOD_US]⟩,
  ⟨.LNK_MGMT_RING, 0x4010000C, [(4, 0x10000)], [F.LNK_MGMT_RING_HEAD, F.LNK_MGMT_RING_TAIL, F.LNK_MGMT_RING_BASE]⟩,
  ⟨.LNK_MGMT_POST, 0x40100010, [(4, 0x10000)], [F.LNK_MGMT_POST_GO, F.LNK_MGMT_POST_BUSY, F.LNK_MGMT_POST_SLOT, F.LNK_MGMT_POST_WORDS]⟩,
  ⟨.LNK_CAP_POST, 0x40100014, [(4, 0x10000)], [F.LNK_CAP_POST_GO, F.LNK_CAP_POST_FID, F.LNK_CAP_POST_COUNT]⟩,
  ⟨.LNK_DM_CTRL, 0x40100020, [(4, 0x10000)], [F.LNK_DM_CTRL_GO, F.LNK_DM_CTRL_BUSY, F.LNK_DM_CTRL_MEAS_ID]⟩,
  ⟨.LNK_TIME_ASYM, 0x40100024, [(4, 0x10000)], [F.LNK_TIME_ASYM_ASYM]⟩,
  ⟨.LNK_TIME_DELAY, 0x40100028, [(4, 0x10000)], [F.LNK_TIME_DELAY_VALID, F.LNK_TIME_DELAY_DELAY]⟩,
  ⟨.LNK_TIME_OFFSET_LO, 0x40100030, [(4, 0x10000)], [F.LNK_TIME_OFFSET_LO_OFFSET]⟩,
  ⟨.LNK_TIME_OFFSET_HI, 0x40100034, [(4, 0x10000)], [F.LNK_TIME_OFFSET_HI_OFFSET]⟩,
  ⟨.LNK_ERR0, 0x40100040, [(4, 0x10000)], [F.LNK_ERR0_CRC, F.LNK_ERR0_UNSUPPORTED]⟩,
  ⟨.LNK_ERR1, 0x40100044, [(4, 0x10000)], [F.LNK_ERR1_MALFORMED, F.LNK_ERR1_NOFLOW]⟩,
  ⟨.LNK_ERR2, 0x40100048, [(4, 0x10000)], [F.LNK_ERR2_LATE, F.LNK_ERR2_EARLY]⟩,
  ⟨.LNK_ERR3, 0x4010004C, [(4, 0x10000)], [F.LNK_ERR3_SEQ_GAP, F.LNK_ERR3_WRONG_PORT, F.LNK_ERR3_TAG]⟩,
  ⟨.LNK_EVT_STATUS, 0x40100050, [(4, 0x10000)], [F.LNK_EVT_STATUS_PENDING, F.LNK_EVT_STATUS_WAKES]⟩,
  ⟨.LNK_LANE_CFG, 0x40100060, [(4, 0x10000)], [F.LNK_LANE_CFG_WIDTH, F.LNK_LANE_CFG_RATE, F.LNK_LANE_CFG_LPI_EN, F.LNK_LANE_CFG_LPI_DELAY]⟩,
  ⟨.LNK_LANE_STATUS, 0x40100064, [(4, 0x10000)], [F.LNK_LANE_STATUS_ORIENT_VALID, F.LNK_LANE_STATUS_REVERSED, F.LNK_LANE_STATUS_READY]⟩]
/-- The registers of block LANE. -/
def regsLANE : List RegDesc := [
  ⟨.LANE_STATE, 0x40108000, [(4, 0x10000), (4, 0x400)], [F.LANE_STATE_READY, F.LANE_STATE_TX_LPI, F.LANE_STATE_RX_LPI, F.LANE_STATE_RX_INV, F.LANE_STATE_RX_SRC, F.LANE_STATE_STAGE, F.LANE_STATE_FAIL_STAGE, F.LANE_STATE_DOWN_CAUSE, F.LANE_STATE_SKEW]⟩,
  ⟨.LANE_ERR, 0x40108004, [(4, 0x10000), (4, 0x400)], [F.LANE_ERR_CHAR_ERR, F.LANE_ERR_DOWN_COUNT, F.LANE_ERR_TRAIN_FAIL]⟩,
  ⟨.LANE_CTRL, 0x40108008, [(4, 0x10000), (4, 0x400)], [F.LANE_CTRL_RETRAIN, F.LANE_CTRL_CTLE_FRZ, F.LANE_CTRL_DFE_FRZ, F.LANE_CTRL_CTLE]⟩,
  ⟨.LANE_TX_CFG, 0x4010800C, [(4, 0x10000), (4, 0x400)], [F.LANE_TX_CFG_POST, F.LANE_TX_CFG_PRE]⟩,
  ⟨.LANE_DFE_TAP, 0x40108010, [(4, 0x10000), (4, 0x400), (9, 0x4)], [F.LANE_DFE_TAP_TAP]⟩,
  ⟨.LANE_PRBS_CTRL, 0x40108040, [(4, 0x10000), (4, 0x400)], [F.LANE_PRBS_CTRL_GEN, F.LANE_PRBS_CTRL_CHK, F.LANE_PRBS_CTRL_PATTERN, F.LANE_PRBS_CTRL_GEN_INV, F.LANE_PRBS_CTRL_LOSS, F.LANE_PRBS_CTRL_LOCK]⟩,
  ⟨.LANE_PRBS_ERR, 0x40108044, [(4, 0x10000), (4, 0x400)], [F.LANE_PRBS_ERR_ERRORS]⟩,
  ⟨.LANE_PRBS_BITS_LO, 0x40108048, [(4, 0x10000), (4, 0x400)], [F.LANE_PRBS_BITS_LO_BITS]⟩,
  ⟨.LANE_PRBS_BITS_HI, 0x4010804C, [(4, 0x10000), (4, 0x400)], [F.LANE_PRBS_BITS_HI_BITS]⟩,
  ⟨.LANE_INJECT, 0x40108050, [(4, 0x10000), (4, 0x400)], [F.LANE_INJECT_ONE, F.LANE_INJECT_RATE_LOG2, F.LANE_INJECT_INJECTED]⟩,
  ⟨.LANE_EYE_CTRL, 0x40108060, [(4, 0x10000), (4, 0x400)], [F.LANE_EYE_CTRL_GO, F.LANE_EYE_CTRL_BUSY, F.LANE_EYE_CTRL_MODE, F.LANE_EYE_CTRL_ABORTED, F.LANE_EYE_CTRL_DWELL_LOG2, F.LANE_EYE_CTRL_Y, F.LANE_EYE_CTRL_X]⟩,
  ⟨.LANE_EYE_SCAN, 0x40108064, [(4, 0x10000), (4, 0x400)], [F.LANE_EYE_SCAN_LEFT, F.LANE_EYE_SCAN_RIGHT, F.LANE_EYE_SCAN_UP, F.LANE_EYE_SCAN_DOWN]⟩,
  ⟨.LANE_EYE_POINT, 0x40108068, [(4, 0x10000), (4, 0x400)], [F.LANE_EYE_POINT_ERRORS]⟩]
/-- The registers of block SE. -/
def regsSE : List RegDesc := [
  ⟨.SE_CTRL, 0x41400000, [(16, 0x1000)], [F.SE_CTRL_EN, F.SE_CTRL_IEN, F.SE_CTRL_ABORT]⟩,
  ⟨.SE_STATUS, 0x41400004, [(16, 0x1000)], [F.SE_STATUS_BUSY, F.SE_STATUS_IN_HANDLER, F.SE_STATUS_FAULTED, F.SE_STATUS_CAUSE, F.SE_STATUS_QDEPTH, F.SE_STATUS_PC]⟩,
  ⟨.SE_CKPT, 0x41400008, [(16, 0x1000)], [F.SE_CKPT_STATE, F.SE_CKPT_HOST, F.SE_CKPT_FID, F.SE_CKPT_SYMBOL, F.SE_CKPT_STEP]⟩,
  ⟨.SE_FAULT_ADDR, 0x4140000C, [(16, 0x1000)], [F.SE_FAULT_ADDR_ADDR]⟩,
  ⟨.SE_POST, 0x41400010, [(16, 0x1000)], [F.SE_POST_GO, F.SE_POST_FULL, F.SE_POST_KERNEL, F.SE_POST_ARG]⟩,
  ⟨.SE_JOB_CFG, 0x41400014, [(16, 0x1000)], [F.SE_JOB_CFG_WDOG, F.SE_JOB_CFG_STATE_BASE]⟩,
  ⟨.SE_COUNT, 0x41400018, [(16, 0x1000)], [F.SE_COUNT_JOBS, F.SE_COUNT_ABORTS, F.SE_COUNT_BANK_STALLS]⟩,
  ⟨.SE_CYCLES_LO, 0x41400020, [(16, 0x1000)], [F.SE_CYCLES_LO_CYCLES]⟩,
  ⟨.SE_CYCLES_HI, 0x41400024, [(16, 0x1000)], [F.SE_CYCLES_HI_CYCLES]⟩]
/-- The registers of block FAB. -/
def regsFAB : List RegDesc := [
  ⟨.FAB_PROXY, 0x40050010, [], [F.FAB_PROXY_EN, F.FAB_PROXY_ID]⟩,
  ⟨.FAB_VIOL_INFO, 0x40050020, [], [F.FAB_VIOL_INFO_VALID, F.FAB_VIOL_INFO_WRITE, F.FAB_VIOL_INFO_EXEC, F.FAB_VIOL_INFO_PROXIED, F.FAB_VIOL_INFO_INITIATOR]⟩,
  ⟨.FAB_VIOL_ADDR, 0x40050024, [], [F.FAB_VIOL_ADDR_ADDR]⟩,
  ⟨.FAB_COUNT, 0x40050028, [], [F.FAB_COUNT_VIOLATIONS, F.FAB_COUNT_GUARD_C2, F.FAB_COUNT_GUARD_C3]⟩,
  ⟨.FAB_COUNT1, 0x4005002C, [], [F.FAB_COUNT1_ABSENT_RSP, F.FAB_COUNT1_DROPPED_RSP]⟩,
  ⟨.FAB_MRAM_STATUS, 0x40050040, [], [F.FAB_MRAM_STATUS_BUSY, F.FAB_MRAM_STATUS_UNCORRECTED, F.FAB_MRAM_STATUS_CORRECTED]⟩,
  ⟨.FAB_MRAM_MOVES, 0x40050044, [], [F.FAB_MRAM_MOVES_MOVES]⟩,
  ⟨.FAB_FW_BASE, 0x40051000, [(23, 0x80), (16, 0x8)], [F.FAB_FW_BASE_BASE, F.FAB_FW_BASE_EN, F.FAB_FW_BASE_X, F.FAB_FW_BASE_W, F.FAB_FW_BASE_R]⟩,
  ⟨.FAB_FW_LIMIT, 0x40051004, [(23, 0x80), (16, 0x8)], [F.FAB_FW_LIMIT_LIMIT]⟩]
/-- The registers of block DMA. -/
def regsDMA : List RegDesc := [
  ⟨.DMA_CFG, 0x40040000, [], [F.DMA_CFG_EN]⟩,
  ⟨.DMA_CH_DOORBELL, 0x40040100, [(32, 0x20)], [F.DMA_CH_DOORBELL_ADDR]⟩,
  ⟨.DMA_CH_CTRL, 0x40040104, [(32, 0x20)], [F.DMA_CH_CTRL_STOP, F.DMA_CH_CTRL_RESUME]⟩,
  ⟨.DMA_CH_STATUS, 0x40040108, [(32, 0x20)], [F.DMA_CH_STATUS_BUSY, F.DMA_CH_STATUS_STOPPED, F.DMA_CH_STATUS_STOP_CAUSE, F.DMA_CH_STATUS_ERR_CODE, F.DMA_CH_STATUS_QDEPTH]⟩,
  ⟨.DMA_CH_DESC, 0x4004010C, [(32, 0x20)], [F.DMA_CH_DESC_ADDR]⟩,
  ⟨.DMA_CH_COUNT, 0x40040110, [(32, 0x20)], [F.DMA_CH_COUNT_DESCRIPTORS, F.DMA_CH_COUNT_DROPPED, F.DMA_CH_COUNT_ERRORS]⟩]
/-- The registers of block EVC. -/
def regsEVC : List RegDesc := [
  ⟨.EVC_CTRL, 0x40030000, [], [F.EVC_CTRL_GDIS]⟩,
  ⟨.EVC_COUNT, 0x40030004, [], [F.EVC_COUNT_MERGED, F.EVC_COUNT_SPURIOUS, F.EVC_COUNT_BAD_COMPLETE]⟩,
  ⟨.EVC_SWSET, 0x40030008, [], [F.EVC_SWSET_LINE]⟩,
  ⟨.EVC_ALERT_CLR, 0x4003000C, [], [F.EVC_ALERT_CLR_LINE]⟩,
  ⟨.EVC_CLAIM, 0x40030010, [], [F.EVC_CLAIM_LINE]⟩,
  ⟨.EVC_COMPLETE, 0x40030014, [], [F.EVC_COMPLETE_LINE]⟩,
  ⟨.EVC_TGT_CFG, 0x40030100, [(17, 0x10)], [F.EVC_TGT_CFG_THRESH, F.EVC_TGT_CFG_MOD_US, F.EVC_TGT_CFG_MOD_COUNT]⟩,
  ⟨.EVC_TGT_STATUS, 0x40030104, [(17, 0x10)], [F.EVC_TGT_STATUS_PRESENTED, F.EVC_TGT_STATUS_TIMER_RUN, F.EVC_TGT_STATUS_SLOW, F.EVC_TGT_STATUS_DELIVERABLE, F.EVC_TGT_STATUS_LAST_CLAIM]⟩,
  ⟨.EVC_PRIO, 0x40031000, [(1023, 0x4)], [F.EVC_PRIO_PRIO]⟩,
  ⟨.EVC_EN, 0x40032000, [(23, 0x80), (32, 0x4)], [F.EVC_EN_EN]⟩,
  ⟨.EVC_PEND, 0x40033000, [(23, 0x80), (32, 0x4)], [F.EVC_PEND_PEND]⟩]
/-- The registers of block HKA. -/
def regsHKA : List RegDesc := [
  ⟨.HKA_XCFG, 0x40070000, [], [F.HKA_XCFG_MODE, F.HKA_XCFG_XSRC, F.HKA_XCFG_THR]⟩,
  ⟨.HKA_XSTATUS, 0x40070004, [], [F.HKA_XSTATUS_MISMATCH, F.HKA_XSTATUS_CODE1, F.HKA_XSTATUS_CODE0]⟩,
  ⟨.HKA_XCOUNT, 0x40070008, [], [F.HKA_XCOUNT_CHECKS, F.HKA_XCOUNT_MISMATCHES]⟩,
  ⟨.HKA_CTRL, 0x40070100, [(2, 0x100)], [F.HKA_CTRL_EN, F.HKA_CTRL_CAL_GO, F.HKA_CTRL_INJ_GO, F.HKA_CTRL_SEQ_GO, F.HKA_CTRL_TRIG, F.HKA_CTRL_PWM_SEL, F.HKA_CTRL_EDGE, F.HKA_CTRL_LEN]⟩,
  ⟨.HKA_TRIG, 0x40070104, [(2, 0x100)], [F.HKA_TRIG_PERIOD_US, F.HKA_TRIG_DELAY]⟩,
  ⟨.HKA_INJ, 0x40070108, [(2, 0x100)], [F.HKA_INJ_ITRIG, F.HKA_INJ_IPWM, F.HKA_INJ_IEDGE, F.HKA_INJ_IOW, F.HKA_INJ_ISUB, F.HKA_INJ_ICH, F.HKA_INJ_IDELAY]⟩,
  ⟨.HKA_CAL, 0x4007010C, [(2, 0x100)], [F.HKA_CAL_BUSY, F.HKA_CAL_FAIL, F.HKA_CAL_PERIOD_MS]⟩,
  ⟨.HKA_STATUS, 0x40070110, [(2, 0x100)], [F.HKA_STATUS_PASS_RUN, F.HKA_STATUS_INJ_OCC, F.HKA_STATUS_INJ_RUN, F.HKA_STATUS_CAL_RUN, F.HKA_STATUS_ENTRY, F.HKA_STATUS_PASSES]⟩,
  ⟨.HKA_COUNT, 0x40070114, [(2, 0x100)], [F.HKA_COUNT_OVR_REG, F.HKA_COUNT_OVR_INJ, F.HKA_COUNT_OPEN, F.HKA_COUNT_ABANDONED]⟩,
  ⟨.HKA_OWCFG, 0x40070118, [(2, 0x100)], [F.HKA_OWCFG_THR, F.HKA_OWCFG_SETTLE]⟩,
  ⟨.HKA_INJ_RESULT, 0x4007011C, [(2, 0x100)], [F.HKA_INJ_RESULT_VALID, F.HKA_INJ_RESULT_OPEN, F.HKA_INJ_RESULT_PASS, F.HKA_INJ_RESULT_CODE]⟩,
  ⟨.HKA_RESULT, 0x40070180, [(2, 0x100), (16, 0x4)], [F.HKA_RESULT_VALID, F.HKA_RESULT_OPEN, F.HKA_RESULT_PASS, F.HKA_RESULT_CODE]⟩,
  ⟨.HKA_SEQ, 0x40070140, [(2, 0x100), (16, 0x4)], [F.HKA_SEQ_OW, F.HKA_SEQ_SUB, F.HKA_SEQ_CH]⟩]
/-- The registers of block PWM. -/
def regsPWM : List RegDesc := [
  ⟨.PWM_CTRL, 0x40070800, [(8, 0x10)], [F.PWM_CTRL_EN, F.PWM_CTRL_POL, F.PWM_CTRL_PRESC]⟩,
  ⟨.PWM_PERIOD, 0x40070804, [(8, 0x10)], [F.PWM_PERIOD_PERIOD]⟩,
  ⟨.PWM_DUTY, 0x40070808, [(8, 0x10)], [F.PWM_DUTY_DUTY]⟩]
/-- The registers of block CLK. -/
def regsCLK : List RegDesc := [
  ⟨.CLK_CFG, 0x40010000, [], [F.CLK_CFG_PLL_EN, F.CLK_CFG_REF_SEL]⟩,
  ⟨.CLK_STATUS, 0x40010004, [], [F.CLK_STATUS_BYPASS, F.CLK_STATUS_LOCK_LPLL, F.CLK_STATUS_LOCK_CORE, F.CLK_STATUS_LOCK_SYS, F.CLK_STATUS_LOCK_REF]⟩,
  ⟨.CLK_CORE_CFG, 0x40010008, [], [F.CLK_CORE_CFG_OVR, F.CLK_CORE_CFG_DIV_IN_EFFECT, F.CLK_CORE_CFG_DIV]⟩,
  ⟨.CLK_CLKOUT_CFG, 0x40010010, [], [F.CLK_CLKOUT_CFG_SRC, F.CLK_CLKOUT_CFG_DIV]⟩,
  ⟨.CLK_SYNC_CFG, 0x40010020, [], [F.CLK_SYNC_CFG_MODE, F.CLK_SYNC_CFG_EDGE, F.CLK_SYNC_CFG_WIN]⟩,
  ⟨.CLK_SYNC_PERIOD, 0x40010024, [], [F.CLK_SYNC_PERIOD_PERIOD]⟩,
  ⟨.CLK_SYNC_PHASE, 0x40010028, [], [F.CLK_SYNC_PHASE_PHASE]⟩,
  ⟨.CLK_SYNC_LOAD_LO, 0x40010030, [], [F.CLK_SYNC_LOAD_LO_LOAD]⟩,
  ⟨.CLK_SYNC_LOAD_HI, 0x40010034, [], [F.CLK_SYNC_LOAD_HI_LOAD]⟩,
  ⟨.CLK_SYNC_CAP_LO, 0x40010038, [], [F.CLK_SYNC_CAP_LO_CAP]⟩,
  ⟨.CLK_SYNC_CAP_HI, 0x4001003C, [], [F.CLK_SYNC_CAP_HI_CAP]⟩,
  ⟨.CLK_SYNC_STATUS, 0x40010040, [], [F.CLK_SYNC_STATUS_VALID, F.CLK_SYNC_STATUS_LOADED, F.CLK_SYNC_STATUS_FRAC]⟩,
  ⟨.CLK_DISC_CFG, 0x40010050, [], [F.CLK_DISC_CFG_SRC, F.CLK_DISC_CFG_STEP_INT, F.CLK_DISC_CFG_DEADBAND]⟩,
  ⟨.CLK_DISC_LIMITS, 0x40010054, [], [F.CLK_DISC_LIMITS_STEP_THR, F.CLK_DISC_LIMITS_HOLD_MS]⟩,
  ⟨.CLK_DISC_STATUS, 0x40010058, [], [F.CLK_DISC_STATUS_STATE, F.CLK_DISC_STATUS_ERROR]⟩,
  ⟨.CLK_DISC_COUNT, 0x4001005C, [], [F.CLK_DISC_COUNT_STEPS, F.CLK_DISC_COUNT_REFUSED, F.CLK_DISC_COUNT_MISSED, F.CLK_DISC_COUNT_SPURIOUS]⟩,
  ⟨.CLK_SLEW_TOTAL, 0x40010060, [], [F.CLK_SLEW_TOTAL_STEPS]⟩,
  ⟨.CLK_TIME_LO, 0x40010070, [], [F.CLK_TIME_LO_TIME]⟩,
  ⟨.CLK_TIME_HI, 0x40010074, [], [F.CLK_TIME_HI_TIME]⟩]
/-- The registers of block PWR. -/
def regsPWR : List RegDesc := [
  ⟨.PWR_MODE, 0x40020000, [], [F.PWR_MODE_MODE]⟩,
  ⟨.PWR_WAKE_EN, 0x40020004, [], [F.PWR_WAKE_EN_EN]⟩,
  ⟨.PWR_WAKE_STATUS, 0x40020008, [], [F.PWR_WAKE_STATUS_WAKE_FAIL_SEEN, F.PWR_WAKE_STATUS_HOLD, F.PWR_WAKE_STATUS_FROM, F.PWR_WAKE_STATUS_SOURCES, F.PWR_WAKE_STATUS_BANK_FAIL]⟩,
  ⟨.PWR_LAST_WAKE, 0x4002000C, [], [F.PWR_LAST_WAKE_SOURCE]⟩,
  ⟨.PWR_LAST_REFUSAL, 0x40020010, [], [F.PWR_LAST_REFUSAL_VALID, F.PWR_LAST_REFUSAL_ACTION, F.PWR_LAST_REFUSAL_SUB, F.PWR_LAST_REFUSAL_CODE]⟩,
  ⟨.PWR_REFUSE_CNT, 0x40020014, [(4, 0x4)], [F.PWR_REFUSE_CNT_CNT_HI, F.PWR_REFUSE_CNT_CNT_LO]⟩,
  ⟨.PWR_TIMER, 0x40020030, [], [F.PWR_TIMER_COUNT]⟩,
  ⟨.PWR_TIMER_CMP, 0x40020034, [], [F.PWR_TIMER_CMP_CMP]⟩,
  ⟨.PWR_RESUME, 0x40020038, [], [F.PWR_RESUME_ADDR]⟩,
  ⟨.PWR_PERF, 0x40020040, [], [F.PWR_PERF_BUSY, F.PWR_PERF_IN_EFFECT, F.PWR_PERF_REQ]⟩,
  ⟨.PWR_AVS_CFG, 0x40020044, [], [F.PWR_AVS_CFG_EN, F.PWR_AVS_CFG_LOOP_EN, F.PWR_AVS_CFG_RAIL_CORE, F.PWR_AVS_CFG_RAIL_SRAM, F.PWR_AVS_CFG_RAIL_SD, F.PWR_AVS_CFG_PRESENT]⟩,
  ⟨.PWR_AVS_LOOP, 0x40020048, [], [F.PWR_AVS_LOOP_INT_US, F.PWR_AVS_LOOP_TARGET, F.PWR_AVS_LOOP_HYST]⟩,
  ⟨.PWR_AVS_STATUS, 0x4002004C, [], [F.PWR_AVS_STATUS_SETTLED, F.PWR_AVS_STATUS_AT_LIMIT, F.PWR_AVS_STATUS_BUS_ERR, F.PWR_AVS_STATUS_VOLT_MV, F.PWR_AVS_STATUS_TRIM, F.PWR_AVS_STATUS_MARGIN]⟩,
  ⟨.PWR_GATE_CFG, 0x40020060, [], [F.PWR_GATE_CFG_PATH_EN]⟩,
  ⟨.PWR_GATE_COUNT, 0x40020080, [(16, 0x4)], [F.PWR_GATE_COUNT_TX_PATH_SYM, F.PWR_GATE_COUNT_IDLE_SYM]⟩]
/-- The registers of block FLT. -/
def regsFLT : List RegDesc := [
  ⟨.FLT_STATUS, 0x40080000, [], [F.FLT_STATUS_PTB_ON, F.FLT_STATUS_COUNT, F.FLT_STATUS_PEND]⟩,
  ⟨.FLT_OVF, 0x40080004, [], [F.FLT_OVF_LOST_VALID, F.FLT_OVF_LOST_SEV]⟩,
  ⟨.FLT_OVF_COUNT, 0x40080008, [], [F.FLT_OVF_COUNT_OVERFLOW, F.FLT_OVF_COUNT_BAD_ACK]⟩,
  ⟨.FLT_ACK, 0x4008000C, [], [F.FLT_ACK_SEQ]⟩,
  ⟨.FLT_OLDEST, 0x40080100, [(4, 0x10), (4, 0x4)], [F.FLT_OLDEST_WORD]⟩,
  ⟨.FLT_SLOT, 0x40080200, [(32, 0x10), (4, 0x4)], [F.FLT_SLOT_WORD]⟩,
  ⟨.FLT_DOM_RESET, 0x40080400, [], [F.FLT_DOM_RESET_GO, F.FLT_DOM_RESET_BUSY, F.FLT_DOM_RESET_DOMAIN]⟩,
  ⟨.FLT_DOM_STATUS, 0x40080404, [], [F.FLT_DOM_STATUS_ABSENT]⟩,
  ⟨.FLT_MBOX_CFG, 0x40080500, [], [F.FLT_MBOX_CFG_LINE]⟩,
  ⟨.FLT_MBOX_DOOR, 0x40080504, [], [F.FLT_MBOX_DOOR_RING]⟩,
  ⟨.FLT_MBOX_IN, 0x40080510, [(8, 0x4)], [F.FLT_MBOX_IN_DATA]⟩,
  ⟨.FLT_MBOX_OUT, 0x40080530, [(8, 0x4)], [F.FLT_MBOX_OUT_DATA]⟩,
  ⟨.FLT_ECC_COUNT, 0x40080600, [], [F.FLT_ECC_COUNT_CORRECTED, F.FLT_ECC_COUNT_UNCORRECTED]⟩]
/-- The registers of block PTB. -/
def regsPTB : List RegDesc := [
  ⟨.PTB_CTRL, 0x40090000, [], [F.PTB_CTRL_EN, F.PTB_CTRL_KEY]⟩,
  ⟨.PTB_SEED, 0x40090004, [], [F.PTB_SEED_SEED]⟩,
  ⟨.PTB_COUNT, 0x40090008, [], [F.PTB_COUNT_DELAYED, F.PTB_COUNT_HELD]⟩,
  ⟨.PTB_DLY, 0x40090040, [(8, 0x4)], [F.PTB_DLY_ON, F.PTB_DLY_RANDOM, F.PTB_DLY_POINT, F.PTB_DLY_CLASSES, F.PTB_DLY_PROB, F.PTB_DLY_CYCLES]⟩,
  ⟨.PTB_BP, 0x40090080, [(4, 0x4)], [F.PTB_BP_ON, F.PTB_BP_KIND, F.PTB_BP_TARGET, F.PTB_BP_HOLD, F.PTB_BP_PERIOD]⟩,
  ⟨.PTB_SKEW, 0x400900C0, [(4, 0x4)], [F.PTB_SKEW_SKEW]⟩]

/-- The register blocks by address window (R321, R505), each with its registers. -/
def regBlocks : List (Nat × Nat × List RegDesc) := [
  (0x40000000, 0x40010000, regsSYS),
  (0x40010000, 0x40020000, regsCLK),
  (0x40020000, 0x40030000, regsPWR),
  (0x40030000, 0x40040000, regsEVC),
  (0x40040000, 0x40050000, regsDMA),
  (0x40050000, 0x40060000, regsFAB),
  (0x40060000, 0x40070000, regsPLC),
  (0x40070000, 0x40080000, regsHKA ++ regsPWM),
  (0x40080000, 0x40090000, regsFLT),
  (0x40090000, 0x400A0000, regsPTB),
  (0x400A0000, 0x400B0000, regsFUSE),
  (0x40100000, 0x40140000, regsLNK ++ regsLANE),
  (0x40200000, 0x40210000, regsFLW),
  (0x40300000, 0x40310000, regsPRISM),
  (0x40400000, 0x40410000, regsRFC),
  (0x41000000, 0x41040000, regsTXP),
  (0x41080000, 0x410C0000, regsRXP),
  (0x41100000, 0x41108000, regsORX),
  (0x41200000, 0x41210000, regsDPD),
  (0x41300000, 0x41310000, regsMIR),
  (0x41400000, 0x41410000, regsSE)]

/-- The instance indices at address offset `off` from a register's first instance, if that address is an instance. -/
def dimsAt : List (Nat × Nat) → Nat → Option (List Nat)
  | [], off => if off = 0 then some [] else none
  | (n, st) :: ds, off =>
    let i := off / st
    if i < n then (dimsAt ds (off % st)).map (i :: ·) else none

/-- The register and instance at a byte address in a list of registers. -/
def findIn : List RegDesc → Nat → Option (RegDesc × Nat × Nat × Nat)
  | [], _ => none
  | d :: ds, a =>
    if d.base ≤ a then
      match dimsAt d.dims (a - d.base) with
      | some ix => some (d, ix.getD 0 0, ix.getD 1 0, ix.getD 2 0)
      | none => findIn ds a
    else findIn ds a

/-- The register and instance at a byte address (R14: none where the block holds no register). -/
def findReg (a : Nat) : Option (RegDesc × Nat × Nat × Nat) :=
  match regBlocks.find? (fun b => decide (b.1 ≤ a) && decide (a < b.2.1)) with
  | some b => findIn b.2.2 a
  | none => none

end Sys2Proof.Machine
end

