-- ==== Sys2Proof/Machine/SMap.lean ====
section
/-!
DEFINITION. Sys2Proof/Machine/SMap.lean: the one sparse store of the model.
A map from natural-number keys, held as a list of pairs in ONE canonical form: keys strictly rising, and no
entry equal to what an unlisted key reads as.  Memory bytes, register fields and the per-instance
records of the blocks are all held this way, so that equal contents are equal data.
-/
namespace Sys2Proof.Machine

/-- A sparse map: pairs with strictly rising keys, none of them holding the default. -/
abbrev SMap (α : Type) := List (Nat × α)

/-- The value at key `k`, `d` where nothing is listed. Log entry 5 (DESIGN CHOICE). -/
def SMap.get {α : Type} (d : α) : SMap α → Nat → α
  | [], _ => d
  | (k', v) :: m, k => if k = k' then v else SMap.get d m k

/-- The map without key `k`. -/
def SMap.erase {α : Type} : SMap α → Nat → SMap α
  | [], _ => []
  | (k', v) :: m, k => if k = k' then SMap.erase m k else (k', v) :: SMap.erase m k

/-- The map with `v` listed at key `k`. -/
def SMap.insert {α : Type} : SMap α → Nat → α → SMap α
  | [], k, v => [(k, v)]
  | (k', v') :: m, k, v =>
    if k = k' then (k, v) :: m
    else if k < k' then (k, v) :: (k', v') :: m
    else (k', v') :: SMap.insert m k v

/-- Write `v` at key `k`: the default value removes the entry, which keeps the canonical form. Log entry 3 (DESIGN CHOICE). -/
def SMap.set {α : Type} [DecidableEq α] (d : α) (m : SMap α) (k : Nat) (v : α) : SMap α :=
  if v = d then SMap.erase m k else SMap.insert m k v

/-- Every key of `m` is above `k`. -/
def SMap.above {α : Type} (k : Nat) (m : SMap α) : Bool := m.all (fun e => decide (k < e.1))

/-- The canonical form: keys strictly rising, no entry equal to the default `d`. -/
def SMap.wf {α : Type} [DecidableEq α] (d : α) : SMap α → Bool
  | [] => true
  | (k, v) :: m => decide (v ≠ d) && SMap.above k m && SMap.wf d m

/-- The map without the keys at which `p` holds (a reset of a key range). -/
def SMap.drop {α : Type} (p : Nat → Bool) (m : SMap α) : SMap α := m.filter (fun e => !p e.1)

end Sys2Proof.Machine
end

