-- ==== Sys2Proof/Machine/State.lean ====
section
/-!
DEFINITION. Sys2Proof/Machine/State.lean: everything the spec gives the RZ-6480 to hold, as plain data.
Every register field is in `regs` (its difference from the reset value of its map, by field address); the pending
class B values in `shadow` (R16); memory in `mem`; what the chapters describe without a register (transitions in
progress, queues, plans, windows, timers) in the records below, one per block.  `free` is the model's own counter
for values the spec leaves open.  `pending` is the queue of commands.
-/
namespace Sys2Proof.Machine

/-- Why a step stops with a fault.  No command of this model raises one: the part answers a bad access with a denial
and goes on (R329), so this type holds only the name the step function would need. Log entry 68 (DESIGN CHOICE). -/
inductive Fault where
  /-- Raised by nothing.  Safe. -/
  | none
  deriving DecidableEq, Repr

/-- Why a step is refused. Log entry 68 (DESIGN CHOICE). -/
inductive Refusal where
  /-- A command this model has no meaning for; its mnemonic.  Raised by `exec` only.  Safe: the run stops. -/
  | notModelled (mnemonic : String)
  deriving DecidableEq, Repr

/-- The blocks whose enable governs class S and class B fields (chapter 0, Change classes). -/
inductive Owner where
  | none
  | timeline (k : Nat) | synth (m : Nat) | pair (g : Nat) | tile (t : Nat) | txp (n : Nat) | rxp (n : Nat)
  | prism | car (d c : Nat) | layer (f : Nat) | dpd | orx (k : Nat) | mir | flow (f : Nat) | plc | port (p : Nat)
  | engine (n : Nat) | seal | hka (k : Nat) | xcheck | pwm (n : Nat) | clk | avs
  deriving DecidableEq, Repr

/-- A class B value waiting in shadow (R16): its owning block, the stored difference it will write, and the tick at
which the write was accepted (R35). -/
structure Shadow where
  owner : Owner := .none
  val : Nat := 0
  at_ : Nat := 0
  deriving DecidableEq, Repr

/-! ### Fault ledger (R462) -/

/-- One entry of the fault ledger: the fields of the four words of R462. -/
structure LedgerEntry where
  sev : Nat
  rep : Nat
  code : Nat
  seq : Nat
  argA : Nat
  argB : Nat
  time : Nat
  deriving DecidableEq, Repr

/-- The ledger: unacknowledged entries, oldest first, the next sequence number (R469), how many of the latest entries came
in the elapsed tick given (R468), and the domain resets that wait for a power-state entry to end (R475). -/
structure Faults where
  entries : List LedgerEntry := []
  nextSeq : Nat := 0
  fresh : Nat := 0
  freshAt : Nat := 0
  domWait : List (Nat × Nat) := []
  deriving DecidableEq, Repr

/-! ### Event concentrator (chapter 13) -/

/-- A target's moderation: the expiry time (1/25 tick), the CLK_AO periods left while on CLK_AO (R356), and whether
the condition of R355 has been met since lines became deliverable. -/
structure ModTimer where
  deadline : Nat := 0
  slow : Nat := 0
  met : Bool := false
  deriving DecidableEq, Repr

/-- In-service marks and asserted level sources, by target × 1,024 + line and by line, and moderation by target. -/
structure Evc where
  inSvc : SMap Bool := []
  asserted : SMap Bool := []
  timers : SMap ModTimer := []
  deriving DecidableEq, Repr

/-! ### Power sequencer (chapter 16) -/

/-- Where the device stands among its power states (R404). -/
inductive PowerState where
  | bright | dim | dusk | dark
  deriving DecidableEq, Repr

/-- What an entry to Dusk or Dark saved (R386, R416): the banks saved, and device time and PWR.TIMER at a Dark entry. -/
structure Saved where
  banks : Nat := 0
  time : Nat := 0
  count : Nat := 0
  deriving DecidableEq, Repr

/-- The power sequencer: state, Lantern's wait, the entry being checked (0 none, 1 Dim, 2 Dusk, 3 Dark), its last passed
check and the elapsed tick of that, latched wake sources and the CLK_AO period of the first, a wake in progress and its
attempt, the banks saved, the held ALERT_N (R424), whether the timer's match has been seen (R420), the level change
waiting or in progress with the elapsed tick of its last voltage write, the supply loop's quiet intervals and the tick from
which its interval runs (R429, R431, R432), and the tick from which a wake attempt runs (R424). -/
structure Power where
  st : PowerState := .bright
  wfi : Bool := false
  entry : Nat := 0
  passed : Nat := 0
  at_ : Nat := 0
  latched : Nat := 0
  latchAt : Nat := 0
  waking : Bool := false
  attempt : Nat := 0
  saved : Saved := {}
  alertHold : Bool := false
  alertEntry : Bool := false
  matched : Bool := false
  perfWait : Option Nat := none
  levelTo : Option Nat := none
  avsAt : Nat := 0
  loopWait : Bool := false
  quiet : Nat := 0
  loopAt : Nat := 0
  tryAt : Nat := 0
  deriving DecidableEq, Repr

/-! ### Radio front end (chapter 2) -/

/-- A synthesiser: a relock running since a tick, of which OSC_BUSY shows the oscillator calibration (R41, R57), and the
tick at which LOCKED last rose (R45). -/
structure Synth where
  relock : Bool := false
  start : Nat := 0
  lockedAt : Nat := 0
  deriving DecidableEq, Repr

/-- A burst presented to a tile (R47): its first boundary in device time, its length in ticks, and what the checks
of R61, R64 and R512 made of it, and the one path a Mirror probe drives (R185). -/
structure Burst where
  first : Nat
  len : Nat
  refused : Bool := false
  suppressed : Bool := false
  cut : Bool := false
  only : Option Nat := none
  deriving DecidableEq, Repr

/-- An RX run presented to a tile (R47). -/
structure RxRun where
  first : Nat
  len : Nat
  blocked : Bool := false
  cut : Bool := false
  deriving DecidableEq, Repr

/-- The transition a tile is making (R48). -/
inductive Going where
  | none | idle | off | cal | fromCal
  deriving DecidableEq, Repr

/-- The background calibration of a tile (R62): timer running since a tick, the pass's kinds still to do (bit mask),
the step reached, and whether it is in progress. -/
structure BgCal where
  timer : Bool := false
  start : Nat := 0
  todo : Nat := 0
  step : Nat := 0
  running : Bool := false
  deriving DecidableEq, Repr

/-- A GPIO function of a tile: its level and the tick of its last edge (R54, R55). -/
structure GpioFn where
  on : Bool := false
  edge : Nat := 0
  deriving DecidableEq, Repr

/-- A tile: transition in progress, burst and RX run in hand and those that follow, the device time at which the latest
burst ended or was cut (R50, R54), foreground run (kinds it has started, kinds requested again), the elapsed tick at
which the calibration or step in progress began (R57), whether the automatic return parked it in OFF, whether it has
served a burst or run, background calibration, duty slices (newest first, R71), control functions, and whether the
slice that gated it has ended. -/
structure Tile where
  going : Going := .none
  goAt : Nat := 0
  burst : Option Burst := none
  run : Option RxRun := none
  nextBurst : Option Burst := none
  nextRun : Option RxRun := none
  ended : Option Nat := none
  fgDone : Nat := 0
  fgAgain : Nat := 0
  calAt : Nat := 0
  parked : Bool := false
  used : Bool := false
  bg : BgCal := {}
  slices : List Nat := []
  gateEnded : Bool := false
  pa : GpioFn := {}
  tr : GpioFn := {}
  lna : GpioFn := {}
  deriving DecidableEq, Repr

/-- The front end: synthesisers, arming ticks of pending hops by pair, tiles, and fuse programming in progress
(the bit index, regulatory then key). -/
structure Radio where
  synths : SMap Synth := []
  hopArmed : SMap Nat := []
  tiles : SMap Tile := []
  fuseBit : Nat := 0
  keyBit : Nat := 0
  deriving DecidableEq, Repr

/-! ### Receive paths (chapter 3) -/

/-- The class B settings of a receive path's stages (R80, R82, R86, R100): shifts, bank, NCO words and pads. -/
structure RxSet where
  shA : Nat
  shB : Nat
  shC : Nat
  shD0 : Nat
  shD1 : Nat
  bank : Nat
  ftw0 : Nat
  ftw1 : Nat
  ph0 : Nat
  ph1 : Nat
  pad0 : Nat
  pad1 : Nat
  deriving DecidableEq, Repr

/-- The symbol tag a path carries (R34): timeline, frame, symbol, beam entry and generation of the key layer, cluster
key, gating state and the probe mark (R186). -/
structure Tag where
  tl : Nat := 0
  frame : Nat := 0
  symbol : Nat := 0
  entry : Nat := 0
  gen : Nat := 0
  key : Nat := 0
  gated : Bool := false
  probe : Bool := false
  deriving DecidableEq, Repr

/-- A receive path.  Gain control: ticks left of the attack hold (R91, R97), the latest attack's tick with the
attenuation and the attack mark before it (R97), the attenuations that settled changes replaced with the instants of
settling in 1/64 tick (R94), the lowest coarse code of the latest tick, of the symbol in progress and of the last
completed RX symbol, whether an attack fell in each, whether the symbol in progress and the one before are RX symbols
and the former has been measured, and the adaptation window's symbols and near-clip samples (R96).  Converter:
consecutive cycles at ±7 of each modulator, an overload found, and the ticks until which its output is zero (R76).
Fine power: samples and sum of squares of the window, whether all were measured, and a completed window (R89).  Stages:
the tag in use and the settings that earlier tags leave to samples still in the stages with the air times that end them
(R34), saturation in this symbol (R81), the delay lines of stages A to C, of stage D and its second filter by carrier and
of the alignment (newest first), the last 8 stage A powers, and the latest output of each stage (1 A, 2 B, 3 C, 4 and 5
D of carriers 0 and 1, 6 and 7 alignment). Log entry 4 (DESIGN CHOICE). -/
structure RxPath where
  hold : Option Nat := none
  atk : Option (Nat × Nat × Bool) := none
  attHist : List (Nat × Nat) := []
  tickMax : Nat := 255
  curMax : Nat := 255
  lastMax : Nat := 255
  curAtk : Bool := false
  lastAtk : Bool := false
  rxSym : Bool := false
  endRx : Bool := false
  seen : Bool := false
  winSyms : Nat := 0
  winCount : Nat := 0
  runI : Nat := 0
  runQ : Nat := 0
  ovlI : Bool := false
  ovlQ : Bool := false
  zeroI : Nat := 0
  zeroQ : Nat := 0
  satSym : Bool := false
  fineN : Nat := 0
  fineSum : Nat := 0
  fineOk : Bool := false
  fineDone : Option Nat := none
  tag : Tag := {}
  sets : List (Nat × RxSet) := []
  lineA : List (Int × Int) := []
  lineB : List (Int × Int) := []
  lineC : List (Int × Int) := []
  lineD0 : List (Int × Int) := []
  lineD1 : List (Int × Int) := []
  lineH0 : List (Int × Int) := []
  lineH1 : List (Int × Int) := []
  lineF0 : List (Int × Int) := []
  lineF1 : List (Int × Int) := []
  coarse : List Nat := []
  out : SMap (Int × Int) := []
  deriving DecidableEq, Repr

/-! ### Transmit paths (chapters 4 and 6) -/

/-- A candidate handed over (R170): the slot's bytes as the GO found them, the set named, and whether and when the
copy completed. -/
structure Staged where
  bytes : List Byte
  set_ : Nat
  done : Bool := false
  at_ : Nat := 0
  deriving DecidableEq, Repr

/-- The predistortion datapath of a path (R160 to R176): whether the model is applied in this symbol, whether it is a
symbol of full use, the coefficients in effect and the old coefficients of the blend, the blend's length, a repeated
load (R472), the staged candidate, the set on trial and when it was installed, a rollback owed, rollbacks in a row by
set, failing symbols in a row, an end of bypass waiting, output saturation, shaper overload, the monitor's sums of
this symbol, and whether a trial verdict has judged it. -/
structure DpdPath where
  applied : Bool := false
  full : Bool := false
  cur : List (Int × Int) := []
  old : List (Int × Int) := []
  blen : Nat := 0
  retry : Bool := false
  staged : Option Staged := none
  trialSet : Nat := 0
  installAt : Nat := 0
  rollback : Bool := false
  rolls : SMap Nat := []
  fails : Nat := 0
  unbypass : Bool := false
  sat : Bool := false
  ovl : Bool := false
  sumX : Nat := 0
  sumZ : Nat := 0
  maxX : Nat := 0
  maxZ : Nat := 0
  judged : Bool := false
  deriving DecidableEq, Repr

/-- The class B settings of a transmit path's stages (R103 to R113) and what predistortion does with a symbol's samples
(R151): attenuation, shifts, bank, NCO words, carrier gains, tone, peak level, the coefficients, and whether the model is
applied; and the facts a capture needs of the symbol (R166, R167): its tag, set, whether that is in full use, and the
latest install. -/
structure TxSet where
  att : Nat
  shA : Nat
  shB : Nat
  shC : Nat
  shD0 : Nat
  shD1 : Nat
  bank : Nat
  ftw0 : Nat
  ftw1 : Nat
  ph0 : Nat
  ph1 : Nat
  gain0 : Nat
  gain1 : Nat
  mode : Nat
  amp : Nat
  toneFtw : Nat
  tonePh : Nat
  peak : Nat
  model : Bool
  cur : List (Int × Int)
  tag : Tag
  set_ : Nat
  full : Bool
  inst : Nat
  deriving DecidableEq, Repr

/-- The regulatory limiter of a path (R68, R69): the last samples, the sum of squares of the newest 256, the gains that
windows still covering a delayed sample ask for with their ages, and the gain in effect (Q30). -/
structure RegLim where
  line : List (Int × Int) := []
  sum : Nat := 0
  needs : List (Nat × Nat) := []
  gain : Nat := 2 ^ 30
  deriving DecidableEq, Repr

/-- The peak limiter of a path (R113): the last samples, and the dips in hand: age of the centre and gain there (Q20). -/
structure PeakLim where
  line : List (Int × Int) := []
  dips : List (Nat × Nat) := []
  deriving DecidableEq, Repr

/-- One noise-shaper loop (R115, R116): the last four quantiser errors and shaped errors, in 2^−23 of a level, and the
consecutive cycles beyond ±17 levels. -/
structure Shaper where
  err : List Int := []
  shaped : List Int := []
  run : Nat := 0
  deriving DecidableEq, Repr

/-- The element matching of one DAC (R117): its rotation pointer and the cells at the positive output, as a bit mask. -/
structure Dem where
  ptr : Nat := 0
  cells : Nat := 0
  deriving DecidableEq, Repr

/-- A transmit path: whether any stage saturated or any gain dip fell in this symbol, the end of a shaper overload's
zero scale, the samples that enter stage D in this tick, the delay lines of stage D and its second filter by carrier and
of stages C, alignment, B and A (newest first), the stage A output at FS_CONV as the path and as its neighbours see it
(R153), the latest outputs (1 sum, 2 C, 3 alignment, 4 B, 5 A, 6 predistortion, 7 regulatory limiter, 8 peak limiter,
9 shaper code), the codes of the latest tick (newest first), the tag in use, whether one has reached the path since it
was enabled (R39), the elapsed tick of the latest boundary (R176), the air times of tags with the settings they end for
samples still in the stages (R34), the tags that stages hold, gating decided at the cut-off and in effect, the eight
predistortion outputs of the latest tick (newest first), whether missing input has been recorded, the air time whose
boundary ends causes 7 and 8 of zero scale (R121), the limiters, the shaper loops with an overload found, the
element matching with its pseudo-random state, and predistortion. Log entry 4 (DESIGN CHOICE). -/
structure TxPath where
  satSym : Bool := false
  dipSym : Bool := false
  ovlEnd : Nat := 0
  in0 : Option (Int × Int) := none
  in1 : Option (Int × Int) := none
  lineD0 : List (Int × Int) := []
  lineD1 : List (Int × Int) := []
  lineH0 : List (Int × Int) := []
  lineH1 : List (Int × Int) := []
  lineC : List (Int × Int) := []
  lineS : List (Int × Int) := []
  lineB : List (Int × Int) := []
  lineA : List (Int × Int) := []
  lineX : List (Int × Int) := []
  lineN : List (Int × Int) := []
  out : SMap (Int × Int) := []
  codes : List (Int × Int) := []
  tag : Tag := {}
  tagged : Bool := false
  tagAt : Option Nat := none
  sets : List (Nat × TxSet) := []
  stageTags : SMap Tag := []
  gateNext : Bool := false
  gated : Bool := false
  outs : List (Int × Int) := []
  missed : Bool := false
  end7 : Option Nat := none
  end8 : Option Nat := none
  reg : RegLim := {}
  peak : PeakLim := {}
  nsI : Shaper := {}
  nsQ : Shaper := {}
  nsFound : Bool := false
  demI : Dem := {}
  demQ : Dem := {}
  prbs : Nat := 1
  dpd : DpdPath := {}
  deriving DecidableEq, Repr

/-! ### Observation receivers (chapter 6) -/

/-- What the correlator of an observation receiver finds in a capture (R168, R169), as the words of the result buffer:
EXP, NMSE, G, the residual delay, p_i and R_ij by pairs of words. -/
structure CaptureStats where
  exp : Word
  nmse : BitVec 16
  gain : Word
  delay : Word
  p : List (Word × Word)
  r : List (Word × Word)
  deriving DecidableEq, Repr

/-- A capture in progress (R166, R167): path, set and its GEN, result buffer, number of samples, elapsed tick of the
datapath's first output sample and of the end, quarter tick of the receiver's first sample and the part of DELAY below it,
device time of the first sample, what a later tag must repeat, the active synthesiser, the coefficients in effect, where
the copy goes; the samples taken, newest first: the receiver's from 16 ticks before the first, and the datapath's outputs,
inputs and its neighbours' from 16 ticks before to 4 after; samples at full scale; and whether the tag, zero scale or the
LO has spoilt it. -/
structure Capture where
  path : Nat
  set_ : Nat
  gen : Nat
  buf : Nat
  size : Nat
  start : Nat
  last : Nat
  yAt : Nat
  rem : Nat
  time : Nat
  key : Nat
  entry : Nat
  egen : Nat
  sel : Nat
  inst : Nat
  coefs : List (Int × Int)
  copy : Option Nat
  ys : List (Int × Int) := []
  us : List (Int × Int) := []
  xs : List (Int × Int) := []
  nbs : SMap (List (Int × Int)) := []
  clips : Nat := 0
  beam : Bool := false
  zs : Bool := false
  lo : Bool := false
  deriving DecidableEq, Repr

/-- An observation receiver: the capture running, the capture ended whose result is being written with its
statistics, whether its select balls are driven, and the elapsed tick at which their code was driven (R165). -/
structure Orx where
  cap : Option Capture := none
  ended : Option (Capture × CaptureStats) := none
  driven : Bool := false
  selAt : Nat := 0
  deriving DecidableEq, Repr

/-- A (path, set) pair: due for a capture (R177), elapsed tick of its last accepted capture, and what happened in the
refresh period in progress (R179). -/
structure DpdPair where
  due : Bool := false
  last : Nat := 0
  used : Bool := false
  captured : Bool := false
  deriving DecidableEq, Repr

/-! ### Prism (chapter 5) -/

/-- A copy of a beam entry in the active or shadow bank: its number and its 512 bytes (R124, R141). -/
structure BeamCopy where
  entry : Nat
  bytes : List Byte
  deriving DecidableEq, Repr

/-- A range of a layer's control queue (R136): first symbol (counted over frames), symbol count, entry or CANCEL. -/
structure BeamRange where
  first : Nat
  count : Nat
  entry : Option Nat
  deriving DecidableEq, Repr

/-- A layer: active and shadow banks, control queue (oldest first), the entry being preloaded, whether the shadow is
frozen, whether the symbol in hand has no samples (R142), recent samples (newest first), the entry of the symbol before
with the elapsed tick of the boundary that ended it (R134), and the tag of the latest symbol that has left (R135). -/
structure Layer where
  act : Option BeamCopy := none
  shd : Option BeamCopy := none
  queue : List BeamRange := []
  load : Option Nat := none
  frozen : Bool := false
  zero : Bool := false
  line : List (Int × Int) := []
  outgoing : Option BeamCopy := none
  switched : Nat := 0
  tag : Tag := {}
  deriving DecidableEq, Repr

/-- The Prism: arming tick of a commit, the elapsed tick at which its domain was last present again, the layers, the
correction vectors before the latest commit with the air time from which the new ones apply (R143), and the receive delay
lines by carrier × 64 + antenna. -/
structure Prism where
  armedAt : Nat := 0
  back : Nat := 0
  layers : SMap Layer := []
  oldCorr : SMap Nat := []
  corrAir : Nat := 0
  rxLines : SMap (List (Int × Int)) := []
  deriving DecidableEq, Repr

/-! ### Mirror (chapter 7) -/

/-- One capture's values as the Mirror correlator forms them (R189, R191): receiving element, or 64 for the observation
capture, SNR in 1/16 dB, H and the delay. -/
structure MirValue where
  rx : Nat
  snr : BitVec 16
  re : Word
  im : Word
  tau : Word
  deriving DecidableEq, Repr

/-- A probe (R183 to R190): element, air boundary of its symbol, periods, receiving elements measured, those whose
capture is lost so far (64 for the observation capture), whether the capture window has closed, zero scale of its path in
the window, observation samples at full scale, the sums of the periods by capture × 1,024 + sample, and the values the
correlator has formed. -/
structure Probe where
  el : Nat
  air : Nat
  reps : Nat
  rcv : List Nat
  lost : List Nat := []
  closed : Bool := false
  zs : Bool := false
  clips : Nat := 0
  acc : SMap (Int × Int) := []
  vals : List MirValue := []
  deriving DecidableEq, Repr

/-- The Mirror block: a start asked for (R192), a copied solution waiting to be armed and a commit armed for it
(R197), the frame index and device time of the round's start, its BASE and REPS, elements done, tries by element,
records written by probing × 128 + receiving element (64 for the observation record), the probe in hand, the latest
two probes presented, newest first (R183, R186), the reservations laid out, element and air time (R193), the newest round that has
ended with what befell it (R196), and the round of the hand-over in hand. -/
structure Mirror where
  trigger : Bool := false
  waiting : Bool := false
  armed : Bool := false
  result : List Nat := []
  lastFrame : Option Nat := none
  startTime : Nat := 0
  base : Bool := false
  reps : Nat := 0
  done : List Nat := []
  tries : SMap Nat := []
  have_ : List Nat := []
  probe : Option Probe := none
  onAir : List Probe := []
  plan : List (Nat × Nat) := []
  ended : Option Nat := none
  endedBase : Bool := false
  aborted : Bool := false
  spoiled : Bool := false
  sent : Nat := 0
  deriving DecidableEq, Repr

/-! ### Flows and placement (chapter 8) -/

/-- A placement (FLW[f].PLACE): port, lanes of the port, engine, whether one is used, buffer pages and first page. -/
structure Place where
  port : Nat := 0
  lanes : Nat := 0
  eng : Nat := 0
  engV : Bool := false
  pages : Nat := 0
  page : Nat := 0
  deriving DecidableEq, Repr

/-- A move decided (R219): the new placement, the air boundary of its effective symbol E once the walk has ended, and
the notices sent with the tick at which the next is due (R221, R254). -/
structure Move where
  to_ : Place
  reason : Nat
  at_ : Option Nat := none
  sent : Nat := 3
  due : Nat := 0
  deriving DecidableEq, Repr

/-- A flow beyond its registers: air time of its start symbol and whether one is owed by the walk in progress (R211),
whether it carries traffic, its pending move, the symbol E of its latest move with the
placement of the symbols before it (R220), the last symbols started and
delivered and the symbols started with the air time that ends each (R225), abandoned symbols awaiting their record
(R226), packets of transmit symbols received (symbol, packet), the jobs of its symbols (1 due, 2 queued or running, 3
ended, 4 aborted, R314), receive symbols being written or sent (symbol, samples) and the next packet of the first, the
packets of each symbol that have left (R225), the measured latencies beyond the bound that are still to be recorded
(R209), whether that first symbol has been abandoned, a capture being sent (R242), and the lane rotation (R264). -/
structure Flow where
  start : Option Nat := none
  owed : Bool := false
  running : Bool := false
  move : Option Move := none
  oldExt : Option (Nat × Place) := none
  started : Option Nat := none
  delivered : Option Nat := none
  inflight : List (Nat × Nat) := []
  abFirst : Nat := 0
  abCount : Nat := 0
  got : List (Nat × Nat) := []
  jobs : SMap Nat := []
  rxIn : List (Nat × Nat) := []
  rxPkt : Nat := 0
  left : SMap Nat := []
  lates : List Nat := []
  rxBad : Bool := false
  capBusy : Bool := false
  rot : Nat := 0
  deriving DecidableEq, Repr

/-- What a record's second word shows: nothing, the start symbol, the effective symbol, or a symbol given. -/
inductive Eff where
  | none | start | move | sym (frame symbol : Nat)
  deriving DecidableEq, Repr

/-- A placement record awaiting the end of its walk (R227). -/
structure LogRec where
  kind : Nat
  cls : Nat
  reason : Nat
  fid : Nat
  event : Bool
  eff : Eff
  from_ : Nat
  to_ : Nat
  deriving DecidableEq, Repr

/-- A frame plan (R223, R224): start of its frame, the pattern words and bank it was laid out from, and the active
transmit and receive IQ flows with the air time of their start symbols. -/
structure FramePlan where
  start : Nat
  codes : SMap Nat
  bank : Nat
  flows : List (Nat × Nat)
  deriving DecidableEq, Repr

/-- Where the walk of an epoch stands (R213): a request to walk, or decisions made and the end awaited. -/
inductive Walk where
  | idle | begun (frame : Bool) | decided (frame : Bool)
  deriving DecidableEq, Repr

/-- The placement engine: the walk, whether the walk that follows is a frame epoch's, records to be written at its
end, whether the plan must be laid out again, the largest request refused with ADM_BUFFER since the last frame epoch
(R217), and the plans, oldest first. -/
structure Plc where
  walk : Walk := .idle
  rerunFrame : Bool := false
  recs : List LogRec := []
  replan : Bool := false
  wanted : Nat := 0
  plans : List FramePlan := []
  deriving DecidableEq, Repr

/-! ### Trourn Link and its lanes (chapters 9 and 10) -/

/-- What an outbound packet carries, in the order of R264: TIME_SYNC, a delay Request or Response (measurement,
receive time), notices, events, management responses, receive IQ, captures. -/
inductive OutKind where
  | timeSync
  | delayReq
  | delayRsp (meas : Nat) (t2 : Nat)
  | notice
  | event
  | mgmt
  | iq
  | capture
  deriving DecidableEq, Repr

/-- A packet queued at a port: its kind, identifier, flow, symbol and air boundary, the lane it was dealt to, how many
packets its symbol has, whether the symbol has been abandoned, the port whose posted management response it is, whether a
back-pressure hold has been counted for it (R482), and its body words. -/
structure OutPkt where
  kind : OutKind
  id : Nat := 0xFFFF
  flow : Option Nat := none
  idx : Nat := 0
  air : Nat := 0
  lane : Option Nat := none
  parts : Nat := 1
  dead : Bool := false
  posted : Option Nat := none
  held : Bool := false
  body : List Nat := []
  deriving DecidableEq, Repr

/-- A packet on a lane: what it is, the words sent, and the elapsed tick at which its last byte has left. -/
structure Sending where
  pkt : OutPkt
  words : List Word := []
  done : Nat
  deriving DecidableEq, Repr

/-- A lane: the receive lane LRX[l] in stages 1 to 5 with its inversion and the tick it entered, the pair in stages 6
to 9 with its source, the electrical-idle hold with the receive lane that restarts after it, failures in a row and
whether they were recorded, the packet being sent, the tick since which nothing was queued, a transmit wake in
progress (R288), a receive wake in progress, bits since the last injected inversion (in 1/49,152), the checker's live counts with
their fraction and its latest mismatches by bit count (R283, R284), whether the margin measurement running is a scan with its tick of
starting and its dwell (R285), the latest skew measured in stage 6 (R275), the ticks of the latest sixteen character errors, newest first
(R278), and from when the CTLE (0) and DFE tap `j` (1 + `j`) may move again (R280), and when the last SKP was sent (R269), both in line time
(1/49,152 UI). -/
structure Lane where
  rxStage : Nat := 0
  rxInv : Bool := false
  rxAt : Nat := 0
  stage : Nat := 0
  at_ : Nat := 0
  src : Nat := 0
  hold : Option Nat := none
  holdRx : Nat := 0
  fails : Nat := 0
  failRec : Bool := false
  cur : Option Sending := none
  idle : Nat := 0
  wake : Option Nat := none
  rxWake : Option Nat := none
  injBits : Nat := 0
  prbsBits : Nat := 0
  prbsErrs : Nat := 0
  prbsFrac : Nat := 0
  prbsRecent : List (Nat × Nat) := []
  eyeScan : Bool := false
  eyeAt : Nat := 0
  eyeDwell : Nat := 0
  skew : Option Nat := none
  errs : List Nat := []
  eqAt : List Nat := []
  skpAt : Nat := 0
  deriving DecidableEq, Repr

/-- An accepted IQ packet held by a back-pressure injector (R482): flow, symbol, packet, samples, and the end of its
window. -/
structure HeldPkt where
  flow : Nat
  idx : Nat
  pk : Nat
  samples : List (Int × Int)
  close : Nat
  deriving DecidableEq, Repr

/-- A port: the outbound queue, pulse counts of its lines and its moderation timer with its expiry in 1/25 tick (R255), an EVENT
message due with no ready lane (R256), the PLC frame in which each ledger code was last recorded (R262), the latest
TIME_SYNC received as transmit and receive time (R260), the delay Request sent (departure, once sent, and elapsed tick
of sending), a Request owed to a TIME_SYNC, the next measurement, TIME_SYNC and request numbers, the elapsed tick of the
last TIME_SYNC sent, packets held (R482), and the flow, plus one, whose request each ring slot holds (R252, R253). -/
structure LinkPort where
  outq : List OutPkt := []
  evCount : SMap Nat := []
  evTimer : Bool := false
  evStart : Nat := 0
  evDue : Bool := false
  noted : SMap Nat := []
  sync : Option (Int × Int) := none
  dep : Option Nat := none
  depAt : Nat := 0
  meas : Nat := 0
  syncSeq : Nat := 0
  syncAt : Nat := 0
  held : List HeldPkt := []
  reqFlow : SMap Nat := []
  deriving DecidableEq, Repr

/-! ### Clocks and device time (chapter 15) -/

/-- The clock generator and the discipline: device time counts once PLL_REF has first locked (R381), the crystal runs
(R402), REFCLK has been lost (R401), a one-shot load awaits its first edge (R392), the latest expected edge time
already met or missed and the device time from which expected times count (R388), steps still to slew (R390) and the
elapsed tick of the last step, measurements in a row within the deadband, elapsed tick of the last measurement (R393),
a refusal already recorded (R391), and the output divider in effect with the write that waits for a falling edge
(R396), and the code of REF_SEL that matches the reference on the board (R382, R403).
Log entries 4 (DESIGN CHOICE), 60 (DESIGN CHOICE). -/
structure Clk where
  run : Bool := false
  xtal : Bool := true
  lost : Bool := false
  oneShot : Bool := false
  seen : Option Nat := none
  since : Nat := 0
  target : Int := 0
  lastStep : Option Nat := none
  good : Nat := 0
  lastMeas : Nat := 0
  refused : Bool := false
  outSrc : Nat := 0
  outDiv : Nat := 0
  outAt : Option Nat := none
  board : Nat := 0
  deriving DecidableEq, Repr

/-! ### Signal engines (chapter 11) -/

/-- A job: a flow's symbol or a host job with its argument (R313, R318). -/
inductive Job where
  | flow (f idx frame sym kernel : Nat)
  | host (kernel arg : Nat)
  deriving DecidableEq, Repr

/-- A result on its way (R301): the bundle at whose end it is written, the register set, the register, its value, the
sticky bit of CC it sets, and its kind for forwarding (1 real, 2 complex multiply-accumulate) with the bundle that issued
it. -/
structure Result where
  due : Nat
  set_ : Nat
  reg : Nat
  val : Nat
  sat : Option Nat := none
  mac : Nat := 0
  issued : Nat := 0
  deriving DecidableEq, Repr

/-- A store in the write buffer (R310): fabric address, bytes, and whether it goes through a window. -/
structure BufStore where
  addr : Nat
  bytes : List Byte
  window : Bool
  deriving DecidableEq, Repr

/-- A running hardware loop (R306): set, counter, first and last bundle of the body. -/
structure HwLoop where
  set_ : Nat
  lc : Nat
  first : Nat
  last : Nat
  deriving DecidableEq, Repr

/-- One half of a window load: fabric address, and how its bytes reach registers (register and 24-bit, 16-bit or
packed form). -/
structure LoadPart where
  addr : Nat
  size : Nat
  form : Nat
  regs : List Nat
  deriving DecidableEq, Repr

/-- Why an engine is stalled (R304): a window load or a full write buffer; and what it drains for (R311, R317). -/
inductive Stall where
  | none
  | load (parts : List LoadPart)
  | store (b : BufStore)
  | fence
  | ckpt (step : Nat)
  | jobend
  | abort
  deriving DecidableEq, Repr

/-- An engine (R289): job queue, running job and cycles it has run, register values by set × 128 + number (R292), the count of
bundles issued and whether the latest is open, the bundle fetched, results on their way, write buffer, errors of window
stores on their way back (R319), local bytes as fetches see them before a FENCE (R312), the next bundle index, a taken
branch with its remaining delay slots, the delay slots of the latest branch taken or not, running loops (innermost first),
the set in use, the bundle to resume, the stall and its tick, the drain, an abort asked for, an uncorrectable local word of this bundle,
the registers its operations write and the slots issued so far (bits 0 to 3; bit 4, a branch), stall cycles and cycle
fractions. Log entry 4 (DESIGN CHOICE). -/
structure Engine where
  queue : List Job := []
  job : Option Job := none
  ran : Nat := 0
  regs : SMap Nat := []
  count : Nat := 0
  open_ : Bool := false
  ir : Nat := 0
  results : List Result := []
  buf : List BufStore := []
  errs : List Nat := []
  stale : SMap Byte := []
  pc : Nat := 0
  branch : Option (Nat × Nat) := none
  delay : Nat := 0
  loops : List HwLoop := []
  set_ : Nat := 0
  resume : Nat := 0
  stall : Stall := .none
  stallAt : Nat := 0
  sync : Stall := .none
  abortReq : Bool := false
  badWord : Option Nat := none
  decl : List Nat := []
  slots : Nat := 0
  stalls : Nat := 0
  frac : Nat := 0
  deriving DecidableEq, Repr

/-! ### Memory, fabric and DMA (chapter 12) -/

/-- An access waiting at an arbitration point (R324): initiator number, class, kind (0 read, 1 write, 2 fetch), address,
size, bytes to write, the elapsed tick of its arrival, and the error its read will meet (1 corrected, 2 not). -/
structure Request where
  ini : Nat
  cls : Nat
  kind : Nat
  addr : Nat
  size : Nat
  data : Nat
  at_ : Nat
  ecc : Nat := 0
  deriving DecidableEq, Repr

/-- What an initiator last received (R326, R329): 0 done, 1 denied, 2 DOMAIN_ABSENT, 3 error, and the data. -/
structure Response where
  code : Nat := 0
  data : Nat := 0
  deriving DecidableEq, Repr

/-- A holding register (R398): the address of the high word, its value, and the elapsed tick of the latch. -/
structure Holding where
  addr : Nat
  val : Nat
  at_ : Nat
  deriving DecidableEq, Repr

/-- A line of Lantern's data cache (R332): dirty, and its 32 bytes. -/
structure CacheLine where
  dirty : Bool
  bytes : List Byte
  deriving DecidableEq, Repr

/-- The fabric: requests waiting by arbitration point, one plus the initiator granted last, one plus the end in 1/25 tick
of a delay (R481), what each initiator last received, the holding registers by reader, Lantern's caches by address / 32
with the start of a range operation, one plus the physical page of each remapped MRAM page, writes by physical page, the
page move running (logical page, spare), the requests inside the MRAM controller, and the DMA channel whose turn is next
(R341). -/
structure Fabric where
  waiting : SMap (List Request) := []
  turn : SMap Nat := []
  delayed : SMap Nat := []
  rsp : SMap Response := []
  hold : SMap Holding := []
  dcache : SMap CacheLine := []
  icache : SMap (List Byte) := []
  lcAddr : Nat := 0
  mramMap : SMap Nat := []
  mramWrites : SMap Nat := []
  mramMove : Option (Nat × Nat) := none
  mramQ : List Request := []
  dmaTurn : Nat := 0
  deriving DecidableEq, Repr

/-- A DMA channel: doorbells queued, the descriptor running as read at its start (seven words), an error found, a stop asked
for, a hold of the quiesce, the descriptor a chain goes on with (R340, R343, R348, R350), and how far its turns have come
(R341): source bytes read, read units and write accesses done, bytes written. -/
structure DmaChan where
  queue : List Nat := []
  desc : Option (List Nat) := none
  err : Nat := 0
  stopReq : Bool := false
  held : Bool := false
  next : Option Nat := none
  got : List Byte := []
  units : Nat := 0
  writes : Nat := 0
  written : Nat := 0
  deriving DecidableEq, Repr

/-! ### Housekeeping converters (chapter 14) -/

/-- A converter: a regular conversion running with its entry, a pass running, a regular trigger waiting, the injected
slot (occupied, running, a cross-check, its channel and open-wire mark), a calibration running or asked for, the count
of injected conversions, due times of timer, delayed triggers and calibrations, and the end of what runs (elapsed 1/25
tick). -/
structure HkConv where
  conv : Bool := false
  entry : Nat := 0
  cfg : Nat := 0
  pass : Bool := false
  regWait : Bool := false
  occ : Bool := false
  inj : Bool := false
  xchk : Bool := false
  injCfg : Nat := 0
  cal : Bool := false
  calWait : Bool := false
  injCount : Nat := 0
  timer : Option Nat := none
  calTimer : Option Nat := none
  regDelay : List Nat := []
  injDelay : List Nat := []
  due : Nat := 0
  deriving DecidableEq, Repr

/-- A PWM generator: running, start of its period in 1/25,000 tick, the values loaded, its internal level before POL,
and whether the ball is held at high impedance until the next period (R378, R379, R474). -/
structure PwmGen where
  run : Bool := false
  start : Nat := 0
  period : Nat := 0
  duty : Nat := 0
  level : Bool := false
  hiz : Bool := true
  deriving DecidableEq, Repr

/-! ### Start-up, service port, perturbation (chapters 17 and 18) -/

/-- A service-port operation in progress (R476): whether it writes, address, words still to go, and data. -/
structure SvcOp where
  write : Bool
  addr : Nat
  left : Nat
  data : List Nat
  deriving DecidableEq, Repr

/-- The service port: operation in progress, read buffer, RESULT, the bytes last sent out; JTAG's last answer, and its
boundary-scan instruction (0 BYPASS, 1 EXTEST, 2 CLAMP; R478). -/
structure Svc where
  op : Option SvcOp := none
  buf : List Nat := []
  result : Nat := 0
  out : List Nat := []
  jtag : Nat := 0
  jtagOk : Bool := true
  scan : Nat := 0
  deriving DecidableEq, Repr

/-- Start-up: the power-on reset and RESET_N asserted (R495), Lantern held in reset (R441, R446), the deferred seal's
deadline in elapsed ticks (R455), the entry and build number booted, ALERT_N driven by the ROM (R446), a software
reset asked for, with its tick and reason (R438), and what RELOAD last returned in a0 (R458).
Log entry 4 (DESIGN CHOICE). -/
structure Boot where
  por : Bool := false
  pin : Bool := false
  lanternHeld : Bool := false
  sealAt : Option Nat := none
  entry : Nat := 0
  buildId : Nat := 0
  alert : Bool := false
  resetAt : Option (Nat × Nat) := none
  reload : Nat := 0
  deriving DecidableEq, Repr

/-- The perturbation block: the generator, the elapsed tick of enabling, and the hold in progress of each back-pressure
injector: one plus its start in 1/25 tick, times 1,024, plus its kind and target (R480 to R482). -/
structure Ptb where
  gen : Nat := 0
  since : Nat := 0
  holds : SMap Nat := []
  deriving DecidableEq, Repr

/-! ### The state -/

/-- Everything the device holds. Log entry 69 (DESIGN CHOICE). -/
structure State where
  time : BitVec 64 := 0
  elapsed : Nat := 0
  regs : SMap Nat := []
  shadow : SMap Shadow := []
  mem : List Host.Cell := []
  faults : Faults := {}
  evc : Evc := {}
  power : Power := {}
  radio : Radio := {}
  rx : SMap RxPath := []
  tx : SMap TxPath := []
  orx : SMap Orx := []
  pairs : SMap DpdPair := []
  prism : Prism := {}
  mir : Mirror := {}
  flows : SMap Flow := []
  plc : Plc := {}
  ports : SMap LinkPort := []
  lanes : SMap Lane := []
  seqs : SMap Nat := []
  clk : Clk := {}
  engines : SMap Engine := []
  fab : Fabric := {}
  dma : SMap DmaChan := []
  hk : SMap HkConv := []
  pwm : SMap PwmGen := []
  svc : Svc := {}
  boot : Boot := {}
  ptb : Ptb := {}
  free : Nat := 0
  pending : List Instr := []
  deriving DecidableEq, Repr

/-- The device right after reset. Log entries 4 (DESIGN CHOICE), 6 (DESIGN CHOICE), 7 (DESIGN CHOICE). -/
def State.reset : State := {}

end Sys2Proof.Machine
end

