-- ==== Sys2Proof/Machine/Ops.lean ====
section
/-!
DEFINITION. Sys2Proof/Machine/Ops.lean: the named operations over fields, memory, time and the per-instance records.
A field is read and written only through `State.f` and `State.setF`, a byte only through `readByte` and `writeByte`.
-/
namespace Sys2Proof.Machine

/-- What a command answers. -/
abbrev Out := Host.Outcome State Fault Refusal

/-! ### Register fields -/

/-- The value of a field's instance: the stored difference applied to the reset value of its map (R8).
Log entry 3 (DESIGN CHOICE). -/
def State.f (s : State) (x : Fld) (i : Nat := 0) (j : Nat := 0) (k : Nat := 0) : Nat :=
  SMap.get 0 s.regs (x.key i j k) ^^^ x.reset i j

/-- A one-bit field as a Boolean. -/
def State.on (s : State) (x : Fld) (i : Nat := 0) (j : Nat := 0) (k : Nat := 0) : Bool := s.f x i j k != 0

/-- The stored difference for value `v` of a field, cut to its width. Log entry 3 (DESIGN CHOICE). -/
def Fld.diff (x : Fld) (v i j : Nat) : Nat := (v % 2 ^ x.w) ^^^ x.reset i j

/-- Set a field's instance, cut to its width. Log entry 3 (DESIGN CHOICE). -/
def State.setF (s : State) (x : Fld) (v : Nat) (i : Nat := 0) (j : Nat := 0) (k : Nat := 0) : State :=
  { s with regs := SMap.set 0 s.regs (x.key i j k) (x.diff v i j) }

/-- Set a field's instance to its reset value. -/
def State.clrF (s : State) (x : Fld) (i : Nat := 0) (j : Nat := 0) (k : Nat := 0) : State :=
  { s with regs := SMap.erase s.regs (x.key i j k) }

/-- Set one bit of a field. -/
def State.setB (s : State) (x : Fld) (bitNo : Nat) (i : Nat := 0) (j : Nat := 0) (k : Nat := 0) : State :=
  s.setF x (setBit (s.f x i j k) bitNo) i j k

/-- Clear one bit of a field. -/
def State.clrB (s : State) (x : Fld) (bitNo : Nat) (i : Nat := 0) (j : Nat := 0) (k : Nat := 0) : State :=
  s.setF x (clrBit (s.f x i j k) bitNo) i j k

/-- Add to a saturating counter (R12). Log entry 75 (DEDUCED). -/
def State.bumpBy (s : State) (x : Fld) (by_ : Nat) (i : Nat := 0) (j : Nat := 0) (k : Nat := 0) : State :=
  s.setF x (min (s.f x i j k + by_) (2 ^ x.w - 1)) i j k

/-- Increment a saturating counter (R12). -/
def State.bump (s : State) (x : Fld) (i : Nat := 0) (j : Nat := 0) (k : Nat := 0) : State := s.bumpBy x 1 i j k

/-! ### Time -/

/-- Device time as a number of ticks (R25). -/
def State.now (s : State) : Nat := s.time.toNat

/-- Elapsed time in 1/25 tick, the unit of microsecond intervals. Log entry 8 (DESIGN CHOICE). -/
def State.el25 (s : State) : Nat := s.elapsed * 25

/-- Numerology of timeline `k`. -/
def State.mu (s : State) (k : Nat) : Nat := s.f F.SYS_TL_CFG_MU k

/-- Frame offset of timeline `k`. -/
def State.off (s : State) (k : Nat) : Nat := s.f F.SYS_TL_OFFSET_OFFSET k

/-- Timeline `k` runs (R30). -/
def State.tlOn (s : State) (k : Nat) : Bool := s.on F.SYS_TL_CFG_EN k

/-- Time `t` is an air symbol boundary of timeline `k`. -/
def State.isAir (s : State) (k t : Nat) : Bool := isSymBoundary (s.mu k) (s.off k) t

/-- Time `t` is a frame boundary of timeline `k`. -/
def State.isFrame (s : State) (k t : Nat) : Bool := isFrameBoundary (s.off k) t

/-- Symbol number of timeline `k` at time `t`. -/
def State.symNo (s : State) (k t : Nat) : Nat := symbolOf (s.mu k) (s.off k) t

/-- Frame number of timeline `k` at time `t` (R26, FN_BASE). -/
def State.frameNo (s : State) (k t : Nat) : Nat := frameOf (s.off k) (s.f F.SYS_TL_CFG_FN_BASE k) t

/-- The first air boundary of timeline `k` after time `t`. -/
def State.nextAir (s : State) (k t : Nat) : Nat := nextSym (s.mu k) (s.off k) t

/-- The start of the symbol of timeline `k` that holds time `t`. -/
def State.airFloor (s : State) (k t : Nat) : Nat := symFloor (s.mu k) (s.off k) t

/-! ### Memory: bytes by fabric address, an unlisted byte reads 0 (assumption log) -/

/-- One byte of memory. Log entry 5 (DESIGN CHOICE). -/
def State.readByte (s : State) (a : Nat) : Byte := SMap.get 0 s.mem a

/-- Write one byte of memory. -/
def State.writeByte (s : State) (a : Nat) (v : Byte) : State := { s with mem := SMap.set 0 s.mem a v }

/-- `n` bytes from address `a`, little-endian (R6). -/
def State.readLE (s : State) (a : Nat) : Nat → Nat
  | 0 => 0
  | n + 1 => (s.readByte a).toNat + 256 * State.readLE s (a + 1) n

/-- Store the low `n` bytes of `v` at address `a`, little-endian (R6). -/
def State.writeLE (s : State) (a : Nat) : Nat → Nat → State
  | 0, _ => s
  | n + 1, v => State.writeLE (s.writeByte a (BitVec.ofNat 8 v)) (a + 1) n (v / 256)

/-- A 32-bit little-endian word. -/
def State.rd32 (s : State) (a : Nat) : Nat := s.readLE a 4

/-- Store a 32-bit little-endian word. -/
def State.wr32 (s : State) (a v : Nat) : State := s.writeLE a 4 v

/-- `n` bytes from address `a` as a list. -/
def State.readBytes (s : State) (a : Nat) : Nat → List Byte
  | 0 => []
  | n + 1 => s.readByte a :: State.readBytes s (a + 1) n

/-- Store a list of bytes from address `a`. -/
def State.writeBytes (s : State) (a : Nat) : List Byte → State
  | [] => s
  | b :: bs => State.writeBytes (s.writeByte a b) (a + 1) bs

/-- Store words from address `a`. -/
def State.writeWords (s : State) (a : Nat) : List Nat → State
  | [] => s
  | w :: ws => State.writeWords (s.wr32 a w) (a + 4) ws

/-! ### Free values -/

/-- The next free value of `tag`: nothing constrains it; the counter advances. -/
def State.fresh (s : State) (tag : Nat) : Nat × State :=
  (Config.freeField tag s.free, { s with free := s.free + 1 })

/-! ### Shadow values of class B (R16 to R18, R35) -/

/-- Put a class B value in shadow; a second write replaces the first (R16). -/
def State.shadowSet (s : State) (key : Nat) (o : Owner) (v : Nat) : State :=
  { s with shadow := SMap.set {} s.shadow key { owner := o, val := v, at_ := s.elapsed } }

/-- The pending values that satisfy `p` take effect and leave the shadow. -/
def State.commitIf (s : State) (p : Shadow → Bool) : State :=
  { s with
    regs := (s.shadow.filter (fun e => p e.2)).foldl (fun r e => SMap.set 0 r e.1 e.2.val) s.regs
    shadow := s.shadow.filter (fun e => !p e.2) }

/-- At a boundary of `o`: its pending values accepted at least `margin` ticks ago take effect (R35). Log entry 12 (DEDUCED). -/
def State.commitShadow (s : State) (o : Owner) (margin : Nat) : State :=
  s.commitIf (fun e => decide (e.owner = o) && decide (e.at_ + margin ≤ s.elapsed))

/-- Every pending value of `o` takes effect: its block has become disabled (R18). Log entry 12 (DEDUCED). -/
def State.flushShadow (s : State) (o : Owner) : State := s.commitIf (fun e => decide (e.owner = o))

/-- The value a class B field was last given, pending or in effect (R413). -/
def State.lastB (s : State) (x : Fld) (i j k : Nat) : Nat :=
  let e := SMap.get ({} : Shadow) s.shadow (x.key i j k)
  if e = {} then s.f x i j k else e.val ^^^ x.reset i j

/-! ### Per-instance records -/

def State.synth (s : State) (m : Nat) : Synth := SMap.get {} s.radio.synths m
def State.setSynth (s : State) (m : Nat) (v : Synth) : State :=
  { s with radio := { s.radio with synths := SMap.set {} s.radio.synths m v } }
def State.tile (s : State) (t : Nat) : Tile := SMap.get {} s.radio.tiles t
def State.setTile (s : State) (t : Nat) (v : Tile) : State :=
  { s with radio := { s.radio with tiles := SMap.set {} s.radio.tiles t v } }
def State.modT (s : State) (t : Nat) : ModTimer := SMap.get {} s.evc.timers t
def State.setModT (s : State) (t : Nat) (v : ModTimer) : State :=
  { s with evc := { s.evc with timers := SMap.set {} s.evc.timers t v } }

def State.port (s : State) (p : Nat) : LinkPort := SMap.get {} s.ports p
def State.setPort (s : State) (p : Nat) (v : LinkPort) : State := { s with ports := SMap.set {} s.ports p v }
def State.lane (s : State) (l : Nat) : Lane := SMap.get {} s.lanes l
def State.setLane (s : State) (l : Nat) (v : Lane) : State := { s with lanes := SMap.set {} s.lanes l v }
def State.layer (s : State) (f : Nat) : Layer := SMap.get {} s.prism.layers f
def State.txp (s : State) (n : Nat) : TxPath := SMap.get {} s.tx n
def State.setTxp (s : State) (n : Nat) (v : TxPath) : State := { s with tx := SMap.set {} s.tx n v }
def State.rxp (s : State) (n : Nat) : RxPath := SMap.get {} s.rx n
def State.setRxp (s : State) (n : Nat) (v : RxPath) : State := { s with rx := SMap.set {} s.rx n v }

def State.orxR (s : State) (k : Nat) : Orx := SMap.get {} s.orx k
def State.setOrx (s : State) (k : Nat) (v : Orx) : State := { s with orx := SMap.set {} s.orx k v }
def State.pair (s : State) (n e : Nat) : DpdPair := SMap.get {} s.pairs (16 * n + e)
def State.setPair (s : State) (n e : Nat) (v : DpdPair) : State := { s with pairs := SMap.set {} s.pairs (16 * n + e) v }

def State.flow (s : State) (f : Nat) : Flow := SMap.get {} s.flows f
def State.setFlow (s : State) (f : Nat) (v : Flow) : State := { s with flows := SMap.set {} s.flows f v }

end Sys2Proof.Machine
end

