-- ==== Sys2Proof/Machine/Flags.lean ====
section
/-!
DEFINITION. Sys2Proof/Machine/Flags.lean: the flags every block raises: event lines with their pending state,
presentation and moderation (chapter 13), and the fault ledger (chapter 18).
A correction commit armed by the PRISM target (R145) stands here too, because a pulse arms it.
-/
namespace Sys2Proof.Machine

/-! ### Pending bits and enables -/

/-- Line `l` is enabled for target `t` (EVC.EN). -/
def State.evEn (s : State) (t l : Nat) : Bool := bit (s.f F.EVC_EN_EN t (l / 32)) (l % 32)

/-- Line `l` is pending in target `t` (EVC.PEND). -/
def State.evPend (s : State) (t l : Nat) : Bool := bit (s.f F.EVC_PEND_PEND t (l / 32)) (l % 32)

/-- Line `l` is in service for target `t`. -/
def State.evSvc (s : State) (t l : Nat) : Bool := SMap.get false s.evc.inSvc (t * 1024 + l)

def State.setSvc (s : State) (t l : Nat) (v : Bool) : State :=
  { s with evc := { s.evc with inSvc := SMap.set false s.evc.inSvc (t * 1024 + l) v } }

/-- Lines that no source drives never become pending (R352). -/
def reservedLine (l : Nat) : Bool :=
  decide (48 ≤ l ∧ l ≤ 319) || decide (329 ≤ l ∧ l ≤ 335) || decide (339 ≤ l ∧ l ≤ 343) ||
  decide (347 ≤ l ∧ l ≤ 351) || decide (376 ≤ l ∧ l ≤ 383) || decide (449 ≤ l ∧ l ≤ 511) || decide (1022 < l)

/-- The level sources of R352. -/
def levelLine (l : Nat) : Bool := decide (l ≤ 3) || decide (356 ≤ l ∧ l ≤ 359)

/-- A level source is asserted. -/
def State.asserted (s : State) (l : Nat) : Bool := SMap.get false s.evc.asserted l

/-- Line `l` is deliverable to target `t` but for EVC.CTRL.GDIS (R354). -/
def State.ready (s : State) (t l : Nat) : Bool :=
  s.evPend t l && s.evEn t l && decide (s.f F.EVC_TGT_CFG_THRESH t < s.f F.EVC_PRIO_PRIO l) && !s.evSvc t l

/-- The lines of one word of a target that are pending and enabled. -/
def State.pendWord (s : State) (t w : Nat) : List Nat :=
  let m := Nat.land (s.f F.EVC_PEND_PEND t w) (s.f F.EVC_EN_EN t w)
  if m = 0 then [] else (idxWhere 32 (bit m)).map (fun b => 32 * w + b)

/-- The lines deliverable to target `t` but for GDIS, rising. -/
def State.readyLines (s : State) (t : Nat) : List Nat :=
  ((List.range 32).flatMap (s.pendWord t)).filter (s.ready t)

/-- The lines deliverable to target `t` (R354). -/
def State.deliverable (s : State) (t : Nat) : List Nat := if s.on F.EVC_CTRL_GDIS then [] else s.readyLines t

/-- The line of highest priority, the lowest number winning a tie (R357). -/
def State.bestLine (s : State) (ls : List Nat) : Option Nat :=
  ls.foldl (fun b l => match b with
    | none => some l
    | some m => if s.f F.EVC_PRIO_PRIO m < s.f F.EVC_PRIO_PRIO l then some l else some m) none

/-! ### Presentation and moderation (R355, R356, R360) -/

/-- The Lantern target is presented: a wait ends, and Dim ends with it, which is a wake that no source latched (R407,
R408, R421). -/
def State.wakeDim (s : State) : State :=
  if s.power.st = .dim then
    ((({ s with power := { s.power with wfi := false, st := .bright } }.setF F.PWR_WAKE_STATUS_FROM 1).setF
      F.PWR_WAKE_STATUS_SOURCES 0).setF F.PWR_LAST_WAKE_SOURCE 0)
  else if s.power.entry = 0 ∧ s.power.st = .bright then { s with power := { s.power with wfi := false } }
  else s

/-- Moderation of target `t` permits presentation with `n` deliverable lines, one of priority 7 or not (R355). -/
def State.modMet (s : State) (t : Nat) (ls : List Nat) : Bool :=
  s.f F.EVC_TGT_CFG_MOD_US t == 0 || decide (s.f F.EVC_TGT_CFG_MOD_COUNT t ≤ 1) || (s.modT t).met ||
  decide (s.f F.EVC_TGT_CFG_MOD_COUNT t ≤ ls.length) || ls.any (fun l => s.f F.EVC_PRIO_PRIO l == 7)

/-- The multiple of 122.88 MHz that a REF_SEL code stands for. -/
def refUnits (code : Nat) : Nat := [2, 1, 4].getD code 2

/-- The ratio by which every derived frequency is scaled: the board's reference against REF_SEL (R403). -/
def State.clockNum (s : State) : Nat := refUnits s.clk.board
def State.clockDen (s : State) : Nat := refUnits (s.f F.CLK_CFG_REF_SEL)

/-- A CLK_AO period in ticks: 15,000, scaled with the tick where REF_SEL does not match the board (R380, R403). -/
def State.aoLen (s : State) : Nat := aoTicks * s.clockNum / s.clockDen

/-- Start the moderation timer of a target, on CLK_AO while Lantern is in Dim, Dusk or Dark (R356). -/
def State.startMod (s : State) (t : Nat) : State :=
  let us := s.f F.EVC_TGT_CFG_MOD_US t
  let slow := t == 0 && s.power.st != .bright
  (((s.setModT t { deadline := s.el25 + us25 us, slow := if slow then cdiv (us25 us) (s.aoLen * 25) + 1 else 0 }).setF
    F.EVC_TGT_STATUS_TIMER_RUN 1 t).setF F.EVC_TGT_STATUS_SLOW (b2n slow) t)

/-- Begin or end presentation of target `t` by its deliverable lines (R355, R360).  `met` records that moderation has
been satisfied since lines became deliverable; under GDIS only the timer can satisfy it. -/
def State.evalTarget (s : State) (t : Nat) : State :=
  let ls := s.readyLines t
  if ls = [] then
    (((s.setF F.EVC_TGT_STATUS_PRESENTED 0 t).setF F.EVC_TGT_STATUS_TIMER_RUN 0 t).setF
      F.EVC_TGT_STATUS_SLOW 0 t).setModT t {}
  else if s.on F.EVC_CTRL_GDIS then
    let s1 := s.setF F.EVC_TGT_STATUS_PRESENTED 0 t
    if s.modMet t [] || s.on F.EVC_TGT_STATUS_TIMER_RUN t then s1 else s1.startMod t
  else if s.modMet t ls then
    let s1 := (((s.setModT t { met := true }).setF F.EVC_TGT_STATUS_TIMER_RUN 0 t).setF F.EVC_TGT_STATUS_SLOW 0 t).setF
      F.EVC_TGT_STATUS_PRESENTED 1 t
    if t = 0 then s1.wakeDim else s1
  else if s.on F.EVC_TGT_STATUS_TIMER_RUN t then s
  else s.startMod t

/-! ### The LINK targets (R255, R256, R511) -/

/-- Lines with a pulse count or a pending bit in target 17 + p. -/
def State.linkPending (s : State) (p : Nat) : List Nat := (List.range 32).flatMap (s.pendWord (17 + p))

/-- Some lane of port `p` is ready. -/
def State.portReady (s : State) (p : Nat) : Bool := (List.range 4).any (fun j => s.on F.LANE_STATE_READY p j)

/-- The lowest-numbered ready lane of port `p` within the port (R256, R257). -/
def State.lowLane (s : State) (p : Nat) : Nat := ((List.range 4).find? (fun j => s.on F.LANE_STATE_READY p j)).getD 0

/-- Put a message in the port's outbound queue. -/
def State.enqueue (s : State) (p : Nat) (m : OutPkt) : State :=
  let q := s.port p
  s.setPort p { q with outq := q.outq ++ [m] }

/-- Clear the pending bits of `ls` in target `t`. -/
def State.clrPends (s : State) (t : Nat) (ls : List Nat) : State :=
  ls.foldl (fun s l => s.clrB F.EVC_PEND_PEND (l % 32) t (l / 32)) s

/-- One EVENT message of up to 32 lines (R255): word N, device time high word first, then LINE and COUNT words. -/
def State.eventBody (s : State) (p : Nat) (ls : List Nat) : List Nat :=
  [ls.length * 2 ^ 24, s.now / 2 ^ 32, s.now % 2 ^ 32] ++
    ls.map (fun l => l * 2 ^ 16 + SMap.get 0 (s.port p).evCount l)

/-- Send the pending lines of port `p` in EVENT messages, at most 32 lines each (R255), waking the lowest-numbered
lane when every ready lane is in transmit low-power idle, which WAKES counts once for all the messages that wait for it
(R256); with no ready lane everything is kept. -/
def State.sendEvents (s : State) (p : Nat) : Nat → State
  | 0 => s
  | n + 1 =>
    let ls := (s.linkPending p).take 32
    if ls = [] then s
    else if !s.portReady p then s.setPort p { s.port p with evDue := true, evTimer := false }
    else
      let m : OutPkt := { kind := .event, id := 0xFFFF, body := s.eventBody p ls }
      let wake := (List.range 4).all (fun j => !s.on F.LANE_STATE_READY p j || s.on F.LANE_STATE_TX_LPI p j) &&
        (s.port p).outq.all (fun m => m.kind != .event)
      let s1 := if wake then s.bump F.LNK_EVT_STATUS_WAKES p else s
      let s2 := (s1.enqueue p m).clrPends (17 + p) ls
      let q := s2.port p
      State.sendEvents (s2.setPort p { q with
        evCount := ls.foldl (fun c l => SMap.set 0 c l 0) q.evCount, evDue := false, evTimer := false }) p n

/-- Port `p` acts on the lines pending in its target: at once without moderation, with 32 of them or while a message that
fell due waits for a lane, else when its timer expires (R255, R256). -/
def State.linkAct (s : State) (p : Nat) : State :=
  if s.on F.EVC_CTRL_GDIS ∨ s.linkPending p = [] then s
  else if s.f F.LNK_MOD_MOD_US p = 0 ∨ 32 ≤ (s.linkPending p).length ∨ (s.port p).evDue then s.sendEvents p 32
  else if (s.port p).evTimer then s
  else s.setPort p { s.port p with evTimer := true, evStart := s.el25 + us25 (s.f F.LNK_MOD_MOD_US p) }

/-- A line has become pending, or pulsed again, in target 17 + p: its pulse count grows (R255). -/
def State.linkLine (s : State) (p l : Nat) : State :=
  let q := s.port p
  (s.setPort p { q with evCount := SMap.set 0 q.evCount l (min 255 (SMap.get 0 q.evCount l + 1)) }).linkAct p

/-! ### The PRISM target: arming a correction commit (R143, R145) -/

/-- Copy both pending correction vectors to the active ones and count the commit (R143). -/
def State.copyCorr (s : State) : State :=
  let one (d : Nat) (s : State) (a : Nat) : State :=
    (s.setF F.PRISM_CORR_ACT_I (s.f F.PRISM_CORR_PEND_I d a) d a).setF F.PRISM_CORR_ACT_Q (s.f F.PRISM_CORR_PEND_Q d a) d a
  let s1 := (List.range 2).foldl (fun s d => (List.range 64).foldl (one d) s) s
  (s1.bump F.PRISM_CORR_COMMIT_COMMITS).setF F.PRISM_CORR_COMMIT_ARMED 0

/-- Domain `d` of R474 is absent. -/
def State.absent (s : State) (d : Nat) : Bool := bit (s.f F.FLT_DOM_STATUS_ABSENT) d

/-- Arm a commit (R143): lost while the Prism domain is absent, without effect while one is armed, landed at once
while PRISM.CFG.EN = 0 (R145). -/
def State.armCommit (s : State) : State :=
  if s.absent 16 then s
  else if s.on F.PRISM_CORR_COMMIT_ARMED then s
  else if s.on F.PRISM_CFG_EN then
    { (s.setF F.PRISM_CORR_COMMIT_ARMED 1) with prism := { s.prism with armedAt := s.elapsed } }
  else s.copyCorr

/-- The PRISM target acts on a pending line: it arms a commit, or attempts to, and the line clears (R511). -/
def State.prismLine (s : State) (l : Nat) : State :=
  if s.on F.EVC_CTRL_GDIS then s else s.armCommit.clrB F.EVC_PEND_PEND (l % 32) 21 (l / 32)

/-! ### Lines -/

/-- Target `t` acts on line `l`, pending there. -/
def State.actOn (s : State) (t l : Nat) : State :=
  if t ≤ 16 then s.evalTarget t
  else if t ≤ 20 then s.linkLine (t - 17) l
  else if t = 21 then s.prismLine l
  else s

/-- Line `l` sets its pending bit in target `t`, merging with a pending pulse (R353). -/
def State.pulseTo (l : Nat) (s : State) (t : Nat) : State :=
  if s.evEn t l then
    let s1 := if s.evPend t l then s.bump F.EVC_COUNT_MERGED else s.setB F.EVC_PEND_PEND (l % 32) t (l / 32)
    s1.actOn t l
  else s

/-- A pulse source pulses line `l` (R353). -/
def State.pulse (s : State) (l : Nat) : State :=
  if reservedLine l then s else (List.range 23).foldl (State.pulseTo l) s

/-- A level source sets its pending bit in target `t` (R353, R511). -/
def State.levelTo (l : Nat) (s : State) (t : Nat) : State :=
  if s.evEn t l && !s.evPend t l then (s.setB F.EVC_PEND_PEND (l % 32) t (l / 32)).actOn t l else s

/-- A level source asserts: its pending bits set once (R353). -/
def State.assertLine (s : State) (l : Nat) : State :=
  if s.asserted l then s
  else (List.range 23).foldl (State.levelTo l)
    { s with evc := { s.evc with asserted := SMap.set false s.evc.asserted l true } }

/-- A level source de-asserts (R511). -/
def State.deassertLine (s : State) (l : Nat) : State :=
  { s with evc := { s.evc with asserted := SMap.set false s.evc.asserted l false } }

/-- A level source follows its condition. -/
def State.followLine (s : State) (l : Nat) (c : Bool) : State := if c then s.assertLine l else s.deassertLine l

/-! ### The fault ledger (R462 to R470) -/

/-- The fault codes of R470 that have a name of their own here. -/
def codeSev (code : Nat) : Nat :=
  [0, 0, 2, 2, 1, 1, 1, 2, 1, 1, 1, 2, 1, 0, 1, 1, 1, 1, 2, 2, 0, 0, 0, 0, 1, 1, 2, 2, 2, 0, 1, 1, 1, 2, 2, 2, 2, 3,
   2, 2, 3, 1, 2, 1, 1, 2, 1, 2, 2, 3, 2, 1, 3, 1, 0].getD code 0

/-- The ledger holds an unacknowledged entry of severity `v` (R463). -/
def State.hasSev (s : State) (v : Nat) : Bool := s.faults.entries.any (fun e => e.sev == v)

/-- The four ledger lines follow the ledger (R463). -/
def State.ledgerLines (s : State) : State :=
  (List.range 4).foldl (fun s v => s.followLine v (s.hasSev v)) s

/-- An occurrence of severity `sev` is lost (R467). -/
def State.lostFault (s : State) (sev : Nat) : State :=
  ((s.bump F.FLT_OVF_COUNT_OVERFLOW).setF F.FLT_OVF_LOST_SEV (max (s.f F.FLT_OVF_LOST_SEV) sev)).setF
    F.FLT_OVF_LOST_VALID 1

/-- Merge an occurrence with the first entry of the same code and arguments (R464). -/
def mergeEntry (code a b : Nat) : List LedgerEntry → Option (List LedgerEntry)
  | [] => none
  | e :: es =>
    if e.code = code ∧ e.argA = a ∧ e.argB = b then some ({ e with rep := min 63 (e.rep + 1) } :: es)
    else (mergeEntry code a b es).map (e :: ·)

/-- Remove the oldest entry of severity `v`. -/
def evictOldest (v : Nat) : List LedgerEntry → List LedgerEntry
  | [] => []
  | e :: es => if e.sev = v then es else e :: evictOldest v es

/-- The entry a new occurrence makes, with TIME = device time bits [41:10] (R462). -/
def State.newEntry (s : State) (code a b : Nat) : LedgerEntry :=
  ⟨codeSev code, 0, code, s.faults.nextSeq, a % 2 ^ 32, b % 2 ^ 32, s.now / 1024 % 2 ^ 32⟩

/-- Append an entry with the next sequence number (R462). -/
def State.appendEntry (s : State) (x : LedgerEntry) : State :=
  { s with faults := { s.faults with
      entries := s.faults.entries ++ [{ x with seq := s.faults.nextSeq }]
      nextSeq := (s.faults.nextSeq + 1) % 65536
      fresh := s.faults.fresh + 1 } }

/-- An entry that merges with none joins the ledger: appended, appended after an eviction, or lost (R467). -/
def State.putEntry (s : State) (x : LedgerEntry) : State :=
  if s.faults.entries.length < 32 then s.appendEntry x
  else
    let low := s.faults.entries.foldl (fun m e => min m e.sev) 3
    if low < codeSev x.code then
      ({ s with faults := { s.faults with entries := evictOldest low s.faults.entries } }.lostFault low).appendEntry x
    else s.lostFault (codeSev x.code)

/-- `x` is recorded before `y` of the same cycle: the higher severity, then the lower code (R468).
Log entry 83 (DESIGN CHOICE). -/
def LedgerEntry.before (x y : LedgerEntry) : Bool :=
  decide (y.sev < x.sev) || (x.sev == y.sev && decide (x.code < y.code))

/-- `x` among entries of the same cycle. Log entry 83 (DESIGN CHOICE). -/
def insertEntry (x : LedgerEntry) : List LedgerEntry → List LedgerEntry
  | [] => [x]
  | y :: ys => if LedgerEntry.before x y then x :: y :: ys else y :: insertEntry x ys

/-- How many of the latest entries are of the present cycle; the model takes occurrences of one tick as of one cycle.
Log entry 83 (DESIGN CHOICE). -/
def State.cycleMates (s : State) : Nat :=
  if s.faults.freshAt = s.elapsed then min s.faults.fresh s.faults.entries.length else 0

/-- The ledger with the latest `k` entries taken out and their numbers free again. -/
def State.dropLatest (s : State) (k : Nat) : State :=
  { s with faults := { s.faults with
      entries := s.faults.entries.take (s.faults.entries.length - k)
      nextSeq := if k = 0 then s.faults.nextSeq else (s.faults.nextSeq + 65536 - k) % 65536
      fresh := 0
      freshAt := s.elapsed } }

/-- The entries after an occurrence: merged, or joined with those of the same cycle in the order of R468 (R464, R467).
Log entry 83 (DESIGN CHOICE). -/
def State.recordEntry (s : State) (code a b : Nat) : State :=
  match mergeEntry code (a % 2 ^ 32) (b % 2 ^ 32) s.faults.entries with
  | some es => { s with faults := { s.faults with entries := es } }
  | none =>
    let k := s.cycleMates
    (insertEntry (s.newEntry code a b) (s.faults.entries.drop (s.faults.entries.length - k))).foldl State.putEntry
      (s.dropLatest k)

/-- The ledger records an occurrence of `code` with its arguments, and its lines follow (R463, R464). -/
def State.ledger (s : State) (code a : Nat) (b : Nat := 0) : State := (s.recordEntry code a b).ledgerLines

/-- CFG_WRITE_DISCARDED with the register or memory address (R15, R20). Log entry 10 (DEDUCED). -/
def State.discarded (s : State) (addr : Nat) : State := s.ledger 0x01 addr

/-- Read FLT.OLDEST or FLT.SLOT word `w` of an entry (R462). -/
def LedgerEntry.word (e : LedgerEntry) (w : Nat) : Nat :=
  if w = 0 then e.sev * 2 ^ 30 + e.rep * 2 ^ 24 + e.code * 2 ^ 16 + e.seq
  else if w = 1 then e.argA else if w = 2 then e.argB else e.time

/-- Acknowledge the entry of sequence number `seq` (R465); no such entry counts BAD_ACK. -/
def State.ackFault (s : State) (seq : Nat) : State :=
  if s.faults.entries.any (fun e => e.seq == seq) then
    { s with faults := { s.faults with entries := s.faults.entries.filter (fun e => e.seq != seq), fresh := 0 } }.ledgerLines
  else s.bump F.FLT_OVF_COUNT_BAD_ACK

end Sys2Proof.Machine
end

