-- ==== Sys2Proof/Machine/Firewall.lean ====
section
/-!
DEFINITION. Sys2Proof/Machine/Firewall.lean: the address map, domains and firewalls of the fabric (R320 to R330, R405,
R406, R474) and the compatibility window's translation (R506).
-/
namespace Sys2Proof.Machine

/-- Firewall initiator numbers (R323), with 23 for the service port and 24 for JTAG (R477, R478); the boot ROM runs on
Lantern in machine mode. -/
def iniNum : Initiator → Nat
  | .lanternM | .rom => 0
  | .lanternU => 1
  | .engine n => 2 + n
  | .dma => 18
  | .link p => 19 + p
  | .svc => 23
  | .jtag => 24

/-! ### Address map (R320, R321) -/

/-- The regions of R320. -/
inductive Region where
  | rom | local_ (n : Nat) | shared | weight | dpd | retention | mram | compat | reg | none
  deriving DecidableEq, Repr

/-- Address `a` lies in `[lo, lo + n)`. -/
def within (a lo n : Nat) : Bool := decide (lo ≤ a) && decide (a < lo + n)

/-- The address lies in the span of a register block (R321). -/
def inSpan (a : Nat) : Bool := regBlocks.any (fun b => decide (b.1 ≤ a) && decide (a < b.2.1))

/-- The region of an address. -/
def regionOf (a : Nat) : Region :=
  if a < 0x10000 then .rom
  else if within a 0x10000000 0x01000000 then (if a % 0x00100000 < 0x80000 then .local_ ((a - 0x10000000) / 0x00100000) else .none)
  else if within a 0x20000000 0xC00000 then .shared
  else if within a 0x24000000 0x300000 then .weight
  else if within a 0x24300000 0x100000 then .dpd
  else if within a 0x30000000 0x10000 then .retention
  else if within a 0x31000000 0x100000 then .mram
  else if within a 0x3F000000 0x100000 then .compat
  else if inSpan a then .reg else .none

/-- The access of `n` bytes lies inside one region of R320 and has a form its target accepts (R322, R509).
Log entry 76 (DEDUCED). -/
def formOk (k : AccKind) (a n : Nat) : Bool :=
  match regionOf a with
  | .none => false
  | .rom => k != .write && regionOf (a + n - 1) == .rom
  | .reg => a % 4 == 0 && n == 4
  | .compat => a % 4 == 0 && n == 4
  | r => regionOf (a + n - 1) == r

/-- The native address of window offset `w` (R506), none where no row has it. Log entry 76 (DEDUCED). -/
def compatNative (w : Nat) : Option Nat :=
  if w < 0x8000 then some (0x41000000 + w / 0x400 * 0x1000 + w % 0x400)
  else if w < 0x10000 then some (0x41080000 + (w - 0x8000) / 0x400 * 0x1000 + w % 0x400)
  else if w < 0x12000 then some (0x40100000 + (w - 0x10000) / 0x1000 * 0x10000 + w % 0x1000)
  else if 0x20000 ≤ w ∧ w < 0x22000 then some (0x41400000 + (w - 0x20000) / 0x400 * 0x1000 + w % 0x400)
  else if 0x30000 ≤ w ∧ w < 0x30100 then some (0x40020000 + (w - 0x30000))
  else if 0x40000 ≤ w ∧ w < 0x44000 then some (0x40200000 + (w - 0x40000))
  else none

/-- The address an access is checked at and reaches: the window is translated first (R507, R508). Log entry 76 (DEDUCED). -/
def nativeAddr (a : Nat) : Nat := if regionOf a = .compat then (compatNative (a - 0x3F000000)).getD a else a

/-! ### Domains (R326, R405, R406, R474) -/

/-- The domain of R474 to which an address belongs; none for what no domain reset makes absent.  The predistortion
registers among those of a transmit path belong to domain 17. -/
def domainOf (a : Nat) : Option Nat :=
  match regionOf a with
  | .local_ n => some n
  | .weight => some 16
  | .dpd => some 17
  | .reg =>
    if within a 0x41400000 0x10000 then some ((a - 0x41400000) / 0x1000)
    else if within a 0x40300000 0x10000 then some 16
    else if within a 0x41200000 0x10000 || within a 0x41100000 0x8000 then some 17
    else if within a 0x41000000 0x40000 && decide (0x100 ≤ a % 0x1000) && decide (a % 0x1000 < 0x200) then some 17
    else if within a 0x41300000 0x10000 then some 18
    else if within a 0x40040000 0x10000 then some 19
    else if within a 0x40070000 0x10000 then some 20
    else none
  | _ => none

/-- The registers and memory of the always-on domain, reachable in every state (R405, R406). -/
def alwaysOn (a : Nat) : Bool :=
  regionOf a == .retention || within a 0x40020000 0x10000 || within a 0x400A0000 0x10000 || within a 0x40000010 4 ||
  within a 0x40051000 0xB80

/-- The device is in Dusk or Dark: the core domain is absent (R406). -/
def State.asleep (s : State) : Bool := s.power.st == .dusk || s.power.st == .dark

/-- The target of an access is absent (R326, R406). -/
def State.absentAt (s : State) (a : Nat) : Bool :=
  (s.asleep && !alwaysOn a) || (domainOf a).any s.absent

/-- The whole device is held in reset (R438, R495). -/
def State.inReset (s : State) : Bool := s.boot.por || s.boot.pin

/-- A command that writes the register at `a` has effect `t`; an absent target answers DOMAIN_ABSENT and the write is
lost (R326). Log entry 9 (DESIGN CHOICE). -/
def State.regCmd (s : State) (a : Nat) (t : State) : Out :=
  .next (if s.inReset then s else if s.absentAt a then (if s.asleep then s else s.bump F.FAB_COUNT1_ABSENT_RSP) else t)

/-- An event of a block of the core domain has effect `t`; nothing of the core domain runs in Dusk or Dark (R404), nor
while the device is held in reset. Log entry 1 (DESIGN CHOICE). -/
def State.core (s t : State) : State := if s.asleep || s.inReset then s else t

/-! ### Firewalls (R327 to R330) -/

/-- Region `r` of initiator `i` grants an access kind to page `g`. -/
def State.fwGrants (s : State) (i r : Nat) (k : AccKind) (g : Nat) : Bool :=
  s.on F.FAB_FW_BASE_EN i r && decide (s.f F.FAB_FW_BASE_BASE i r ≤ g) && decide (g ≤ s.f F.FAB_FW_LIMIT_LIMIT i r) &&
  match k with
  | .read => s.on F.FAB_FW_BASE_R i r
  | .write => s.on F.FAB_FW_BASE_W i r
  | .fetch => s.on F.FAB_FW_BASE_X i r

/-- Every byte of the access lies in an enabled region of initiator `i` that grants it (R327). -/
def State.fwAllows (s : State) (i : Nat) (k : AccKind) (a n : Nat) : Bool :=
  (List.range ((a + n - 1) / 4096 - a / 4096 + 1)).all (fun j => (List.range 16).any (fun r => s.fwGrants i r k (a / 4096 + j)))

/-- SYS.SEAL is set. -/
def State.sealed (s : State) : Bool := s.on F.SYS_SEAL_SEAL

/-- The initiator number an access is checked and recorded under, and whether it is proxied (R330). -/
def State.checkedAs (s : State) (i : Initiator) (k : AccKind) : Nat × Bool :=
  if i = .lanternU ∧ k ≠ .fetch ∧ s.on F.FAB_PROXY_EN then (s.f F.FAB_PROXY_ID, true) else (iniNum i, false)

/-- The service port and JTAG: reads always, writes everywhere before the seal but not while the boot ROM runs (their
writes are then discarded, R444), and only the listed registers after it (R477, R478). -/
def svcWritable (a : Nat) : Bool :=
  within a 0x40090000 0x10000 || within a 0x4008000C 4 || within a 0x40080504 4 || within a 0x40080510 0x20

/-- Only LANTERN_M, on which the boot ROM runs, writes FAB.PROXY (R330). Log entry 51 (DEDUCED). -/
def proxyOk (i : Initiator) (k : AccKind) (a : Nat) : Bool :=
  k != .write || a != 0x40050010 || i == .lanternM || i == .rom

/-- The access passes the form rules and the firewalls. -/
def State.permitted (s : State) (i : Initiator) (k : AccKind) (a0 n : Nat) : Bool :=
  let a := nativeAddr a0
  formOk k a0 n && proxyOk i k a &&
  match i with
  | .rom => true
  | .lanternM => !s.sealed || s.fwAllows 0 k a n
  | .svc | .jtag => k != .write || !s.sealed || svcWritable a
  | _ => s.fwAllows (s.checkedAs i k).1 k a n

/-- A denial is recorded (R329, R330). -/
def State.deny (s : State) (i : Initiator) (k : AccKind) (a0 : Nat) : State :=
  let c := s.checkedAs i k
  let a := nativeAddr a0
  let s1 := ((((s.setF F.FAB_VIOL_INFO_VALID 1).setF F.FAB_VIOL_INFO_WRITE (b2n (k == .write))).setF F.FAB_VIOL_INFO_EXEC
    (b2n (k == .fetch))).setF F.FAB_VIOL_INFO_PROXIED (b2n c.2)).setF F.FAB_VIOL_INFO_INITIATOR c.1
  ((s1.setF F.FAB_VIOL_ADDR_ADDR a).bump F.FAB_COUNT_VIOLATIONS).ledger 0x26 a c.1

end Sys2Proof.Machine
end

