-- ==== Sys2Proof/Machine/Cache.lean ====
section
/-!
DEFINITION. Sys2Proof/Machine/Cache.lean: Lantern's caches and their maintenance (R331 to R334), and FENCE (R325).
A data-cache line is kept under its address divided by 32.
-/
namespace Sys2Proof.Machine

/-- A line is written back to shared memory. -/
def State.writeBack (s : State) (k : Nat) (l : CacheLine) : State := if l.dirty then s.writeBytes (k * 32) l.bytes else s

/-- The lines that satisfy `p` are written back and stay valid. -/
def State.cleanIf (s : State) (p : Nat → Bool) : State :=
  let s1 := (s.fab.dcache.filter (fun e => p e.1)).foldl (fun s e => s.writeBack e.1 e.2) s
  { s1 with fab := { s1.fab with
      dcache := s1.fab.dcache.map (fun e => if p e.1 then (e.1, { e.2 with dirty := false }) else e) } }

/-- The lines that satisfy `p` are discarded, dirty or not. -/
def State.invIf (s : State) (p : Nat → Bool) : State :=
  { s with fab := { s.fab with dcache := SMap.drop p s.fab.dcache } }

/-- Line `k` overlaps the range of `n` bytes from `a`. -/
def inRange (a n k : Nat) : Bool := decide (0 < n) && decide (k * 32 < a + n) && decide (a < k * 32 + 32)

/-- LC_ADDR takes the start of a range operation. -/
def State.lcSet (s : State) (a : Nat) : State := { s with fab := { s.fab with lcAddr := a } }

def State.dflushAll (s : State) : State := (s.cleanIf (fun _ => true)).invIf (fun _ => true)

/-- DCLEAN (R332). -/
def execDclean (a : Word) (n : Fin 1048576) (s : State) : Out :=
  .next (s.core ((s.lcSet a.toNat).cleanIf (inRange a.toNat n)))
/-- DINV (R332). Log entry 67 (DESIGN CHOICE). -/
def execDinv (a : Word) (n : Fin 1048576) (s : State) : Out :=
  .next (s.core ((s.lcSet a.toNat).invIf (inRange a.toNat n)))
/-- DFLUSH (R332). -/
def execDflush (a : Word) (n : Fin 1048576) (s : State) : Out :=
  .next (s.core (((s.lcSet a.toNat).cleanIf (inRange a.toNat n)).invIf (inRange a.toNat n)))
/-- DCLEAN_ALL (R332). -/
def execDcleanAll (s : State) : Out := .next (s.core (s.cleanIf (fun _ => true)))
/-- DFLUSH_ALL (R332). -/
def execDflushAll (s : State) : Out := .next (s.core s.dflushAll)
/-- ICINV_ALL (R332). -/
def execIcinvAll (s : State) : Out := .next (s.core { s with fab := { s.fab with icache := [] } })

/-- Some access of Lantern has not been acknowledged. -/
def State.lanternBusy (s : State) : Bool :=
  s.fab.waiting.any (fun e => e.2.any (fun r => decide (r.ini ≤ 1))) || s.fab.mramQ.any (fun r => decide (r.ini ≤ 1))

/-- A FENCE completes only when every earlier access of Lantern has been acknowledged (R325): its completion is what
Lantern last received. -/
def State.lanternFence (s : State) : State :=
  if s.lanternBusy then s else { s with fab := { s.fab with rsp := SMap.set {} s.fab.rsp 0 {} } }

/-- LANTERN_FENCE (R325). Log entry 67 (DESIGN CHOICE). -/
def execLanternFence (s : State) : Out := .next (s.core s.lanternFence)

end Sys2Proof.Machine
end

