-- ==== Sys2Proof/Machine/RegWrite.lean ====
section
/-!
DEFINITION. Sys2Proof/Machine/RegWrite.lean: the field-by-field rules of a register write (R9, R13, R15 to R20, R510)
and the enables of the owning blocks.
-/
namespace Sys2Proof.Machine

/-- Some tile of pair `g` is out of OFF. -/
def State.pairOut (s : State) (g : Nat) : Bool := (List.range 8).any (fun i => s.f F.RFC_TILE_STATE_TILE (8 * g + i) != 0)

/-- The restored enables are held after a wake from Dark (R418). Log entry 61 (DEDUCED). -/
def State.held (s : State) : Bool := s.on F.PWR_WAKE_STATUS_HOLD

/-- The TX path counts as enabled (R104, R418). -/
def State.txOn (s : State) (n : Nat) : Bool := s.on F.TXP_CTRL_EN n && !s.held

/-- The RX path counts as enabled (R84, R418). -/
def State.rxOn (s : State) (n : Nat) : Bool := s.on F.RXP_CTRL_EN n && !s.held

/-- The Prism counts as enabled (R147, R418). -/
def State.prismOn (s : State) : Bool := s.on F.PRISM_CFG_EN && !s.held

/-- The placement engine counts as enabled (R213, R418). -/
def State.plcOn (s : State) : Bool := s.on F.PLC_CFG_EN && !s.held

/-- A block counts as enabled for the change classes (R15 to R18). -/
def State.enabled (s : State) : Owner → Bool
  | .none => false
  | .timeline k => s.tlOn k
  | .synth m => s.on F.RFC_LOS_STATUS_ACTIVE m && s.pairOut (m / 2)
  | .pair g => s.pairOut g
  | .tile t => s.on F.RFC_TILE_CTRL_EN t
  | .txp n => s.txOn n
  | .rxp n => s.rxOn n
  | .prism => s.prismOn
  | .car d c => s.prismOn && s.on F.PRISM_CAR_CEN d c
  | .layer f => s.on F.PRISM_LAYER_CFG_LEN f
  | .dpd => s.on F.DPD_CFG_SCHED_EN
  | .orx k => s.on F.ORX_CTRL_EN k
  | .mir => s.on F.MIR_CFG_EN
  | .flow f => s.f F.FLW_STATUS_STATE f != 0
  | .plc => s.plcOn
  | .port p => s.on F.LNK_CFG_EN p
  | .engine n => s.on F.SE_CTRL_EN n
  | .seal => s.on F.SYS_SEAL_SEAL
  | .hka k => s.on F.HKA_CTRL_EN k
  | .xcheck => s.on F.HKA_CTRL_EN 0 || s.on F.HKA_CTRL_EN 1
  | .pwm n => s.on F.PWM_CTRL_EN n
  | .clk => s.on F.CLK_CFG_PLL_EN
  | .avs => s.on F.PWR_AVS_CFG_EN

/-- The owning block of the class S and class B fields of a register (R32, R33, R73 and the sentences on owning blocks of
chapters 1 to 16). Log entry 15 (DEDUCED). -/
def State.ownerOf (s : State) (r : RName) (i j : Nat) (cls : ChClass := .s) : Owner :=
  match r with
  | .SYS_TL_CFG | .SYS_TL_OFFSET => .timeline i
  | .RFC_LOS_FREQ => .synth i
  | .RFC_LOP_CTRL => .pair i
  | .RFC_GPIO_CFG => .tile (s.f F.RFC_GPIO_CFG_TILE i)
  | .RFC_TILE_CTRL | .RFC_TILE_TIMING => .tile i
  | .RFC_TX_ATT => .txp (4 * i + j)
  | .RFC_RX_ATT => .rxp (4 * i + j)
  | .FUSE_REG_PMAX | .FUSE_REG_VIEW => .seal
  | .RXP_CTRL | .RXP_SHIFT | .RXP_CFIR_CTRL | .RXP_ALIGN | .RXP_SKEW | .RXP_DDC | .RXP_NCO_FTW | .RXP_NCO_PHASE
  | .RXP_AGC_CFG | .RXP_AGC_THR | .RXP_AGC_ADAPT | .RXP_PWR_FINE_CFG => .rxp i
  | .TXP_CTRL | .TXP_SHIFT | .TXP_CFIR_CTRL | .TXP_ALIGN | .TXP_SKEW | .TXP_DUC | .TXP_NCO_FTW | .TXP_NCO_PHASE
  | .TXP_CAR_GAIN | .TXP_PLIM_CFG | .TXP_NS_CFG | .TXP_TONE_CFG | .TXP_TONE_FTW | .TXP_TONE_PHASE
  | .TXP_DPD_CTRL | .TXP_DPD_NBR => .txp i
  | .PRISM_CFG => .prism
  | .PRISM_CAR => if cls = .b then .car i j else .prism
  | .PRISM_LAYER_CFG => .layer i
  | .DPD_CFG => .dpd
  | .ORX_CTRL | .ORX_DELAY => .orx i
  | .MIR_CFG | .MIR_PROBE | .MIR_BUF | .MIR_GEOM => .mir
  | .FLW_CTRL | .FLW_PIN | .FLW_DEMAND | .FLW_LIMITS => .flow i
  | .PLC_CFG | .PLC_EQUIV | .PLC_ENG_CFG | .PLC_POOL_BASE | .PLC_POOL_SIZE | .PLC_LOG_BASE | .PLC_PAT_SEL => .plc
  | .LNK_CFG | .LNK_TAG | .LNK_MGMT_RING | .LNK_TIME_ASYM | .LNK_LANE_CFG => .port i
  | .LANE_TX_CFG | .LANE_CTRL | .LANE_PRBS_CTRL => .port i
  | .SE_CTRL | .SE_JOB_CFG => .engine i
  | .FAB_FW_BASE | .FAB_FW_LIMIT => .seal
  | .HKA_XCFG => .xcheck
  | .HKA_CTRL | .HKA_TRIG => .hka i
  | .PWM_CTRL => .pwm i
  | .CLK_CFG => .clk
  | .PWR_AVS_CFG => .avs
  | _ => .none

/-- One field of a register write.  The answer says whether a class S field was discarded (R15). Log entry 10 (DEDUCED). -/
def State.applyField (s : State) (x : Fld) (i j k v : Nat) (o : Owner) (en : Bool) : State × Bool :=
  let fv := bits v x.lo x.w
  match x.acc with
  | .ro | .wo | .rc => (s, false)
  | .w1c => (s.setF x (s.f x i j k - Nat.land (s.f x i j k) fv) i j k, false)
  | .w1s => (s.setF x (Nat.lor (s.f x i j k) fv) i j k, false)
  | .rw =>
    match x.cls with
    | .s => if en then (s, true) else (s.setF x (x.norm fv) i j k, false)
    | .b => if en then (s.shadowSet (x.key i j k) o (x.diff (x.norm fv) i j), false) else (s.setF x (x.norm fv) i j k, false)
    | .l | .none => (s.setF x (x.norm fv) i j k, false)

/-- All fields of a register write but those whose lowest bit `skip` names; whether anything was discarded (R20); they
land as one word (R399). -/
def State.applyFields (s : State) (fs : List Fld) (skip : Nat → Bool) (i j k v : Nat)
    (own : ChClass → Owner) (en : ChClass → Bool) : State × Bool :=
  fs.foldl (fun acc x =>
    if skip x.lo then acc
    else
      let r := acc.1.applyField x i j k v (own x.cls) (en x.cls)
      (r.1, acc.2 || r.2)) (s, false)

/-- The address of a register's instance. -/
def RegDesc.addr (d : RegDesc) (i j k : Nat) : Nat :=
  d.base + i * (d.dims.getD 0 (0, 0)).2 + j * (d.dims.getD 1 (0, 0)).2 + k * (d.dims.getD 2 (0, 0)).2

/-- The map of a register by name. -/
def descOf (r : RName) : RegDesc :=
  ((regBlocks.flatMap (fun b => b.2.2)).find? (fun d => decide (d.name = r))).getD ⟨r, 0, [], []⟩

/-- The field-by-field write of R15 to R20 with the fields of `skip` left to the caller; one CFG_WRITE_DISCARDED when
a field was discarded, or when the caller discarded one itself (`lost`). Log entry 10 (DEDUCED). -/
def State.writeSkip (s : State) (d : RegDesc) (skip : Nat → Bool) (i j k v : Nat) (lost : Bool) : State :=
  let own := fun c => s.ownerOf d.name i j c
  let r := s.applyFields d.flds skip i j k v own (fun c => s.enabled (own c))
  if r.2 || lost then r.1.discarded (d.addr i j k) else r.1

/-- The plain register write. -/
def State.writePlain (s : State) (d : RegDesc) (i j k v : Nat) : State := s.writeSkip d (fun _ => false) i j k v false

/-- The plain write of a register by name. -/
def State.writeReg (s : State) (r : RName) (v : Nat) (i : Nat := 0) (j : Nat := 0) (k : Nat := 0) : State :=
  s.writePlain (descOf r) i j k v

/-- The register address by name. -/
def regAddr (r : RName) (i : Nat := 0) (j : Nat := 0) (k : Nat := 0) : Nat := (descOf r).addr i j k

/-- The stored value of a register word: its fields in place, reserved bits 0 (R13), WO fields 0 (R9). -/
def State.rawRead (s : State) (d : RegDesc) (i j k : Nat) : Nat :=
  d.flds.foldl (fun v x => if x.acc = .wo then v else v + s.f x i j k * 2 ^ x.lo) 0

/-! ### Following timelines (R31) -/

/-- The timelines a TX path follows. -/
def State.txFollows (s : State) (n : Nat) : List Nat :=
  s.f F.RFC_TILE_CTRL_TL (n / 4) ::
    (idxWhere 2 (fun c => s.on F.TXP_DUC_CEN n c)).map (fun c => s.f F.TXP_DUC_TL n c)

/-- The timelines an RX path follows. -/
def State.rxFollows (s : State) (n : Nat) : List Nat :=
  s.f F.RFC_TILE_CTRL_TL (n / 4) ::
    (idxWhere 2 (fun c => s.on F.RXP_DDC_CEN n c)).map (fun c => s.f F.RXP_DDC_TL n c)

/-- The timelines the Prism follows. -/
def State.prismFollows (s : State) : List Nat :=
  (List.range 2).flatMap (fun d => (idxWhere 2 (fun c => s.on F.PRISM_CAR_CEN d c)).map (fun c => s.f F.PRISM_CAR_TL d c))

/-- Some block of R31 follows timeline `k`: its enable is 1 in effect, so an enable held after Dark does not count
(R418). -/
def State.followed (s : State) (k : Nat) : Bool :=
  (List.range 16).any (fun t => s.on F.RFC_TILE_CTRL_EN t && s.f F.RFC_TILE_CTRL_TL t == k) ||
  (List.range 64).any (fun n => s.txOn n && (s.txFollows n).contains k) ||
  (List.range 64).any (fun n => s.rxOn n && (s.rxFollows n).contains k) ||
  (s.prismOn && s.prismFollows.contains k) ||
  (s.on F.MIR_CFG_EN && s.f F.PRISM_CFG_TL == k) ||
  (s.plcOn && s.f F.PLC_CFG_TL == k)

/-- Every timeline of a list runs. -/
def State.allRun (s : State) (ks : List Nat) : Bool := ks.all s.tlOn

/-- The carriers of a path obey R29 and R84/R104: equal offsets, and the path's tile follows the larger numerology. -/
def State.carriersOk (s : State) (tile : Nat) (tls : List Nat) : Bool :=
  tls.all (fun k => tls.all (fun k' => s.off k == s.off k')) &&
  (tls = [] || (tls.contains tile && tls.all (fun k => decide (s.mu k ≤ s.mu tile))))

end Sys2Proof.Machine
end

