-- ==== Sys2Proof/Machine/Shared.lean ====
section
/-!
DEFINITION. Sys2Proof/Machine/Shared.lean: operations that several chapters call: zero scale (R120 to R122), the
abandoning of a Mirror round (R194), regulatory windows and limits (R67 to R71).
-/
namespace Sys2Proof.Machine

/-- Cause `c` of R120 begins to hold TX path `n` at zero scale. -/
def State.zsHold (s : State) (c n : Nat) : State :=
  (s.setB F.TXP_ZS_STATUS_CAUSE c n).setF F.TXP_ZS_STATUS_ZERO 1 n

/-- Cause `c` of R120 ends for TX path `n`; zero scale lasts while another cause remains (R122). -/
def State.zsEnd (s : State) (c n : Nat) : State :=
  let s1 := s.clrB F.TXP_ZS_STATUS_CAUSE c n
  s1.setF F.TXP_ZS_STATUS_ZERO (b2n (s1.f F.TXP_ZS_STATUS_CAUSE n != 0)) n

/-- The four paths of a tile. -/
def tilePaths (t : Nat) : List Nat := [4 * t, 4 * t + 1, 4 * t + 2, 4 * t + 3]

def State.zsHoldTile (s : State) (c t : Nat) : State := (tilePaths t).foldl (fun s n => s.zsHold c n) s
def State.zsEndTile (s : State) (c t : Nat) : State := (tilePaths t).foldl (fun s n => s.zsEnd c n) s

/-- The active synthesiser of pair `g` (LOP_STATUS.ACTIVE_SEL). -/
def State.activeSynth (s : State) (g : Nat) : Nat := 2 * g + s.f F.RFC_LOP_STATUS_ACTIVE_SEL g

/-- The buffer of the round in hand (chapter 7, Rounds). -/
def State.mirBuf (s : State) : Nat :=
  0x20000000 + s.f F.MIR_BUF_ADDR / 0x8000 * 0x8000 + s.f F.MIR_ROUND_NUMBER % 2 * 0x4000

/-- The header of the round's buffer. -/
def State.mirHeader (s : State) (incomplete aborted : Bool) : State :=
  let m := s.mir
  s.writeWords s.mirBuf [b2n m.base * 2 ^ 31 + b2n incomplete * 2 ^ 30 + b2n aborted * 2 ^ 29 + m.reps * 2 ^ 16 +
      s.f F.MIR_ROUND_NUMBER,
    m.startTime % 2 ^ 32, m.startTime / 2 ^ 32, s.now % 2 ^ 32, s.now / 2 ^ 32, m.have_.length,
    s.f F.RFC_LOS_STATUS_FREQ_IN_EFFECT (s.activeSynth 0), s.f F.RFC_LOS_STATUS_FREQ_IN_EFFECT (s.activeSynth 1)]

/-- The round in hand is over. -/
def State.mirOver (s : State) (aborted : Bool) : State :=
  let s1 := s.setF F.MIR_ROUND_BUSY 0
  { s1 with mir := { s1.mir with
      probe := none
      plan := []
      ended := some (s.f F.MIR_ROUND_NUMBER)
      endedBase := s.mir.base
      aborted := aborted
      spoiled := false } }

/-- The Mirror block abandons a running round (R194): ABORTED set and counted, ledger entry, event line 338. -/
def State.mirAbort (s : State) : State :=
  if s.on F.MIR_ROUND_BUSY then
    ((((s.mirHeader false true).mirOver true).bump F.MIR_COUNT_ABORTED).ledger 0x16 (s.f F.MIR_ROUND_NUMBER)).pulse 338
  else s

/-- A hop has landed or an active synthesiser has relocked: a round is due (R192), and a solution of an ended round is
refused from now on (R196). -/
def State.mirTrigger (s : State) : State := { s with mir := { s.mir with trigger := true, spoiled := true } }

/-- A served burst or run still lies ahead or is in progress. -/
def Burst.live (b : Burst) (now : Nat) : Bool := !b.refused && !b.cut && decide (now < b.first + b.len)
def RxRun.live (r : RxRun) (now : Nat) : Bool := !r.cut && decide (now < r.first + r.len)
def Burst.covers (b : Burst) (now : Nat) : Bool := decide (b.first ≤ now) && decide (now < b.first + b.len)
def RxRun.covers (r : RxRun) (now : Nat) : Bool := decide (r.first ≤ now) && decide (now < r.first + r.len)

/-- Frequency `khz` is permitted by the LO windows (R70). -/
def State.loPermitted (s : State) (khz : Nat) : Bool :=
  (List.range 8).all (fun w => !s.on F.FUSE_REG_LOWIN_VALID w) ||
  (List.range 8).any (fun w => s.on F.FUSE_REG_LOWIN_VALID w && !bit (s.f F.FUSE_REG_VIEW_WIN_OFF) w &&
    decide (s.f F.FUSE_REG_LOWIN_LO_MHZ w * 1000 ≤ khz) && decide (khz ≤ s.f F.FUSE_REG_LOWIN_HI_MHZ w * 1000))

/-- The duty limit of a tile, in ticks of the ten-slice window (R71). -/
def State.dutyLimit (s : State) : Nat :=
  19200 * (256 - max (s.f F.FUSE_REG_DUTY_DUTY) (s.f F.FUSE_REG_VIEW_DUTY_VIEW))

/-- The power limit of path `n` in quarter dBm: 12 − P (R67). -/
def State.powerLimit (s : State) (n : Nat) : Int :=
  12 - (max (s.f F.FUSE_REG_PMAX_FUSE n) (s.f F.FUSE_REG_PMAX_VIEW n) : Nat)

/-- The active synthesiser of tile `t`. -/
def State.tileSynth (s : State) (t : Nat) : Nat := s.activeSynth (t / 8)

/-- The timeline a tile follows. -/
def State.tileTl (s : State) (t : Nat) : Nat := s.f F.RFC_TILE_CTRL_TL t

/-- The tile's duplex mode is TDD (R49). -/
def State.tdd (s : State) (t : Nat) : Bool := !s.on F.RFC_TILE_CTRL_DUPLEX t

/-- Ticks counted in the tile's ten-slice window (R71). -/
def dutySum (ss : List Nat) : Nat := (ss.take 10).foldl (· + ·) 0

/-- Receiving element `n` measures a Mirror probe now (R186): its gain control rests in the probe symbol and at its
boundary. -/
def State.rxProbed (s : State) (n : Nat) : Bool :=
  s.mir.onAir.any (fun p => p.rcv.contains n && decide (p.air ≤ s.now) &&
    decide (s.now ≤ s.nextAir (s.f F.PRISM_CFG_TL) p.air + 1))

/-- A capture of receiving element `n` for the probe in hand is lost: its ADC overloads within the window (R190). -/
def State.mirOverload (s : State) (n : Nat) : State :=
  match s.mir.probe with
  | some p =>
    if p.rcv.contains n && !p.lost.contains n && decide (p.air + 1024 ≤ s.now) && decide (s.now < p.air + p.reps * 1024) then
      { s with mir := { s.mir with probe := some { p with lost := p.lost ++ [n] } } }
    else s
  | none => s

/-- The symbol in progress is a probe symbol that receiving element `n` measures (R186). -/
def State.rxInProbe (s : State) (n : Nat) : Bool :=
  s.mir.onAir.any (fun p => p.rcv.contains n && decide (p.air ≤ s.now) &&
    decide (s.now < s.nextAir (s.f F.PRISM_CFG_TL) p.air))

/-- A commit has landed: the Mirror hand-over it carried is done (R197): PENDING clears, LAST reads COMMITTED, event
line 337. -/
def State.mirLanded (s : State) : State :=
  if s.mir.armed then
    (((({ s with mir := { s.mir with armed := false } }.setF F.MIR_SOLVE_PENDING 0).setF F.MIR_STATUS_LAST 1).setF
      F.MIR_STATUS_LAST_ROUND s.mir.sent).bump F.MIR_COUNT_COMMITTED).pulse 337
  else s

end Sys2Proof.Machine
end

