-- ==== Sys2Proof/Machine/Discipline.lean ====
section
/-!
DEFINITION. Sys2Proof/Machine/Discipline.lean: the discipline of device time (R389 to R393), which SYNC_IN edges and the
delay measurement of a link port feed.
-/
namespace Sys2Proof.Machine

/-- Some timeline is enabled. -/
def State.anyTl (s : State) : Bool := (List.range 4).any s.tlOn

/-- TIME_DELAY.VALID of every port clears (R386, R391). -/
def State.clearDelays (s : State) : State := (List.range 4).foldl (fun s p => s.setF F.LNK_TIME_DELAY_VALID 0 p) s

/-- The discipline starts again in ACQUIRING, or OFF while SRC = 0 (R393). -/
def State.discRestart (s : State) : State :=
  { s.setF F.CLK_DISC_STATUS_STATE (b2n (s.f F.CLK_DISC_CFG_SRC != 0)) with
    clk := { s.clk with good := 0, lastMeas := s.elapsed } }

/-- The state machine of R393 sees a measurement `e` in 1/64 tick. -/
def State.discSee (s : State) (e : Int) : State :=
  let db := s.f F.CLK_DISC_CFG_DEADBAND
  let st := s.f F.CLK_DISC_STATUS_STATE
  if st = 0 then s
  else if st = 2 then
    if 4 * db < e.natAbs then
      { s.setF F.CLK_DISC_STATUS_STATE 1 with clk := { s.clk with good := 0 } }.pulse 46
    else s
  else
    let n := if e.natAbs ≤ db then s.clk.good + 1 else 0
    let s1 := { s.setF F.CLK_DISC_STATUS_STATE 1 with clk := { s.clk with good := n } }
    if 8 ≤ n then (s1.setF F.CLK_DISC_STATUS_STATE 2).pulse 45 else s1

/-- Set the target of the slew, in 1/1,024 tick. -/
def State.slewTo (s : State) (x : Int) : State := { s with clk := { s.clk with target := x } }

/-- The counter is stepped to `t` and the rest `frac` (1/64 tick) is slewed (R391). -/
def State.timeStep (s : State) (t : Nat) (frac : Int) : State :=
  (({ s with time := BitVec.ofNat 64 t }.bump F.CLK_DISC_COUNT_STEPS).pulse 42).clearDelays.discRestart.slewTo (-(frac * 16))

/-- A step is refused while a timeline is enabled; the whole error is slewed (R391). -/
def State.stepRefused (s : State) (e : Int) : State :=
  let s1 := (s.bump F.CLK_DISC_COUNT_REFUSED).pulse 43
  let s2 := if s.clk.refused then s1 else s1.ledger 0x2E 0
  { s2 with clk := { s2.clk with refused := true } }.slewTo (-(e * 16))

/-- DISC_STATUS.ERROR shows `e`; the spec states no value for an error outside its 24 bits. Log entry 56 (DEDUCED). -/
def State.showError (s : State) (e : Int) : State :=
  if overW 24 e then
    let r := s.fresh 0x58
    r.2.setF F.CLK_DISC_STATUS_ERROR r.1
  else s.setF F.CLK_DISC_STATUS_ERROR (trunc 24 e)

/-- A measurement `e`, in 1/64 tick, reaches the discipline (R390, R391, R393). Log entry 56 (DEDUCED). -/
def State.discMeasure (s : State) (e : Int) : State :=
  let s0 := s.showError e
  let s1 := { s0 with clk := { s0.clk with lastMeas := s.elapsed } }.discSee e
  let thr := s.f F.CLK_DISC_LIMITS_STEP_THR
  if thr ≠ 0 ∧ 64 * thr < e.natAbs then
    if s.anyTl then s1.stepRefused e
    else
      let r := rshr e 6
      s1.timeStep ((s.now : Int) - r).toNat (e - 64 * r)
  else
    { s1 with clk := { s1.clk with refused := false } }.slewTo
      (if e.natAbs ≤ s.f F.CLK_DISC_CFG_DEADBAND then 0 else -(e * 16))

end Sys2Proof.Machine
end

