-- ==== Sys2Proof/Machine/Rx.lean ====
section
/-!
DEFINITION. Sys2Proof/Machine/Rx.lean: the receive paths of chapter 3: enable and alignment, channel-filter banks,
power measurement, gain control, boundaries, and the arithmetic of stages A to D.
-/
namespace Sys2Proof.Machine

/-- The RX half of path `n`'s tile is on (R90). -/
def State.rxHalfIsOn (s : State) (n : Nat) : Bool := s.f F.RFC_TILE_STATE_RXH (n / 4) == 2

/-- Decimation ratio of carrier `c` (R77): 1, 2 or 4. -/
def State.rxRatio (s : State) (n c : Nat) : Nat := 2 ^ s.f F.RXP_DDC_DEC n c

/-- Stage D delay in ticks by ratio (R77). -/
def stageDDelay (r : Nat) : Nat := if r = 1 then 2 else if r = 2 then 22 else 46

/-! ### Alignment (R98, R99) -/

/-- G_FIXED of carrier `c`, in 1/64 tick (R98). -/
def State.rxGFixed (s : State) (n c : Nat) : Int :=
  let r := s.rxRatio n c
  48 + 16 + ((s.f F.RXP_CTRL_LEN_A n - 1) * 4 + 32 : Nat) + 992 + (s.f F.RXP_CFIR_CTRL_GD n + 192 : Nat) +
    (stageDDelay r * 64 + 4 * r * 64 : Nat) + sext 9 (s.f F.RXP_SKEW_SKEW n)

/-- Form G_FIXED and PAD of an enabled carrier and check the range (R99); a disabled carrier's status reads 0. -/
def State.rxAlign (s : State) (n c : Nat) : State :=
  if s.on F.RXP_DDC_CEN n c then
    let g := s.rxGFixed n c
    let pad := (s.f F.RXP_ALIGN_TARGET n c * 64 : Nat) - g
    let bad := pad < 0 ∨ 1023 < pad
    let s1 := ((s.setF F.RXP_ALIGN_STATUS_G_FIXED (trunc 14 g) n c).setF F.RXP_ALIGN_STATUS_PAD
      (clampI 0 1023 pad).toNat n c).setF F.RXP_ALIGN_STATUS_RANGE_ERR (b2n (decide bad)) n c
    if bad then s1.ledger 0x08 n c else s1
  else
    ((s.setF F.RXP_ALIGN_STATUS_G_FIXED 0 n c).setF F.RXP_ALIGN_STATUS_PAD 0 n c).setF F.RXP_ALIGN_STATUS_RANGE_ERR 0 n c

/-! ### Enable and bank writes -/

/-- The attack threshold takes a code, the decay threshold follows (R96); the spec does not say what T_LOW reads above
255, where this limits it. Log entry 16 (DEDUCED). -/
def State.setThr (s : State) (n code : Nat) : State :=
  (s.setF F.RXP_AGC_STATUS_T_HIGH code n).setF F.RXP_AGC_STATUS_T_LOW (min 255 (code + s.f F.RXP_AGC_THR_HYST n)) n

/-- The path's enable takes effect: alignment, threshold and bank (R84, R96, R99); its stages start empty.
Log entry 82 (DESIGN CHOICE). -/
def State.rxStart (s : State) (n : Nat) : State :=
  let x := s.rxp n
  let y : RxPath := { hold := x.hold, attHist := x.attHist, lastMax := x.lastMax, lastAtk := x.lastAtk, tag := x.tag }
  let s1 := ((s.setRxp n y).setF F.RXP_CTRL_EN 1 n).setThr n (s.f F.RXP_AGC_THR_T_INIT n)
  ((s1.setF F.RXP_CFIR_CTRL_ACTIVE (s1.f F.RXP_CFIR_CTRL_BANK n) n).rxAlign n 0).rxAlign n 1

/-- The timeline rules of an RX path's enable (R31, R84). -/
def State.rxMayEnable (s : State) (n : Nat) : Bool :=
  s.allRun (s.rxFollows n) && s.carriersOk (s.f F.RFC_TILE_CTRL_TL (n / 4)) (s.rxFollows n).tail

/-- The attenuator of path `n` takes `att` dB; the value it replaces stands until the new one has settled, within 10 ns
(R91 to R94). Log entry 16 (DEDUCED). -/
def State.setAtt (s : State) (n att : Nat) : State :=
  let old := s.f F.RFC_RX_ATT_IN_EFFECT (n / 4) (n % 4)
  if att = old then s
  else
    let x := s.rxp n
    let at_ := 64 * s.now + Config.choice 0x83 s.free % 315
    { (s.setRxp n { x with attHist := (at_, old) :: x.attHist.take 15 }).setF F.RFC_RX_ATT_IN_EFFECT att (n / 4) (n % 4) with
      free := s.free + 1 }

/-- The attenuation at ball time `b` in 1/64 tick (R94). -/
def State.attAt (s : State) (n : Nat) (b : Int) : Nat :=
  match ((s.rxp n).attHist.filter (fun e => decide (b < e.1))).getLast? with
  | some e => e.2
  | none => s.f F.RFC_RX_ATT_IN_EFFECT (n / 4) (n % 4)

/-- With MAN = 1 the attenuator of a disabled path takes the manual value at once (R18, R93). -/
def State.manualAtt (s : State) (n : Nat) : State :=
  if s.on F.RFC_RX_ATT_MAN (n / 4) (n % 4) then s.setAtt n (s.f F.RFC_RX_ATT_ATT (n / 4) (n % 4)) else s

/-- A write of RXP[n].CTRL: EN = 1 subject to R31 and R84, EN = 0 lets pending class B values take effect (R18).
Log entry 11 (DEDUCED). -/
def State.rxCtrlWrite (s : State) (n v : Nat) : State :=
  let d := descOf .RXP_CTRL
  let own := fun c => s.ownerOf .RXP_CTRL n 0 c
  let r := s.applyFields d.flds (fun lo => lo == 31) n 0 0 v own (fun c => s.enabled (own c))
  if bit v 31 then
    let ok := r.1.rxMayEnable n || s.rxOn n
    let s1 := if ok && !s.on F.RXP_CTRL_EN n then r.1.rxStart n else r.1
    if r.2 || !ok then s1.discarded (d.addr n 0 0) else s1
  else
    let s1 := (r.1.setF F.RXP_CTRL_EN 0 n).flushShadow (.rxp n)
    let s2 := (s1.setF F.RXP_CFIR_CTRL_ACTIVE (s1.f F.RXP_CFIR_CTRL_BANK n) n).manualAtt n
    if r.2 then s2.discarded (d.addr n 0 0) else s2

/-- RX_PATH_ENABLE (R84). -/
def execRxPathEnable (n : Fin 64) (w : Word) (s : State) : Out :=
  s.regCmd (regAddr .RXP_CTRL n) (s.rxCtrlWrite n (w.toNat ||| 2 ^ 31))

/-- A write to a coefficient: discarded for the bank in effect of an enabled path (R85, R108). -/
def State.cfirWrite (s : State) (tx : Bool) (n b i v : Nat) : State :=
  let on := if tx then s.txOn n else s.rxOn n
  let act := if tx then s.f F.TXP_CFIR_CTRL_ACTIVE n else s.f F.RXP_CFIR_CTRL_ACTIVE n
  let r := if tx then RName.TXP_CFIR_COEF else RName.RXP_CFIR_COEF
  if on && b == act then s.discarded (regAddr r n b i) else s.writeReg r v n b i

/-- A write of RXP[n].DDC[c]: the status of a carrier that is not enabled reads 0 (R99). -/
def State.rxDdcWrite (s : State) (n c v : Nat) : State :=
  let s1 := s.writeReg .RXP_DDC v n c
  if s1.on F.RXP_DDC_CEN n c then s1 else s1.rxAlign n c

/-- CFIR_COEF_WRITE (R85). -/
def execCfirCoefWrite (tx : Bool) (n : Fin 64) (b : Fin 2) (i : Fin 96) (w : Word) (s : State) : Out :=
  s.regCmd (regAddr (if tx then .TXP_CFIR_COEF else .RXP_CFIR_COEF) n b i) (s.cfirWrite tx n b i w.toNat)

/-- A write of RXP or TXP.CFIR_CTRL: while the path is disabled the bank in effect follows BANK (R86). -/
def State.rxCfirCtrlWrite (s : State) (n v : Nat) : State :=
  let s1 := s.writeReg .RXP_CFIR_CTRL v n
  if s.rxOn n then s1 else s1.setF F.RXP_CFIR_CTRL_ACTIVE (s1.f F.RXP_CFIR_CTRL_BANK n) n

/-! ### Gain control (R91 to R97) -/

/-- The attenuation rises by ATTACK_STEP up to 30 dB and a hold starts (R91). -/
def State.agcRaise (s : State) (n : Nat) : State :=
  let old := s.f F.RFC_RX_ATT_IN_EFFECT (n / 4) (n % 4)
  let h := 4 * s.f F.RXP_AGC_CFG_HOLD n
  let s1 := s.setAtt n (min 30 (old + s.f F.RXP_AGC_CFG_ATTACK_STEP n))
  let x := s1.rxp n
  ((s1.bump F.RXP_AGC_COUNT_ATTACKS n).setF F.RXP_AGC_STATUS_LAST_SYM
    (s.symNo (s.f F.RFC_TILE_CTRL_TL (n / 4)) s.now) n).setRxp n
      { x with hold := if h = 0 then none else some h, curAtk := true, atk := some (s.elapsed, old, x.curAtk) }

/-- The gain control of the path acts: MAN = 0 and the RX half on (R91, R93, R97). -/
def State.agcLive (s : State) (n : Nat) : Bool :=
  s.rxOn n && s.rxHalfIsOn n && !s.on F.RFC_RX_ATT_MAN (n / 4) (n % 4) && !s.rxProbed n

/-- No attack hold is running. -/
def RxPath.free (x : RxPath) : Bool := x.hold == none || x.hold == some 0

/-- A coarse power of the latest tick exceeds T_HIGH while no hold runs (R91); powers and thresholds are compared as
their 0.25 dB codes, which a power below −63.75 dBFS shares. Log entry 16 (DEDUCED). -/
def State.agcAttack (s : State) (n : Nat) : State :=
  if s.agcLive n && (s.rxp n).free && s.on F.RXP_PWR_COARSE_VALID n &&
      decide ((s.rxp n).tickMax < s.f F.RXP_AGC_STATUS_T_HIGH n) then s.agcRaise n else s

/-- AGC_ATTACK (R91). -/
def execAgcAttack (n : Fin 64) (s : State) : Out := .next (s.core (s.agcAttack n))

/-- The attack hold expires; it is frozen while the RX half is not on (R97). -/
def State.agcHoldEnd (s : State) (n : Nat) : State :=
  if (s.rxp n).hold = some 0 ∧ s.rxHalfIsOn n then s.setRxp n { s.rxp n with hold := none } else s

/-- AGC_HOLD_END (R91). -/
def execAgcHoldEnd (n : Fin 64) (s : State) : Out := .next (s.core (s.agcHoldEnd n))

/-- A modulator found overloaded by its 16 cycles at ±7 (R76): its output is zero for 4 ticks, and it starts again; an
attack follows if no hold runs (R97).  A receiver that measures a Mirror probe loses its capture (R190). -/
def State.adcOverload (s : State) (n : Nat) (q : Bool) : State :=
  let x := s.rxp n
  if s.rxHalfIsOn n && (if q then x.ovlQ else x.ovlI) then
    let s1 := ((s.setF F.RXP_SAT_ADC_OVL 1 n).bump F.RXP_SAT_COUNT_ADC_OVL_COUNT n).setRxp n
      (if q then { x with zeroQ := s.elapsed + 4, ovlQ := false, runQ := 0 }
        else { x with zeroI := s.elapsed + 4, ovlI := false, runI := 0 })
    let s2 := s1.mirOverload n
    if s2.agcLive n && x.free then s2.agcRaise n else s2
  else s

/-- ADC_OVERLOAD (R76). -/
def execAdcOverload (n : Fin 64) (q : Bool) (s : State) : Out := .next (s.core (s.adcOverload n q))

/-- A fine-power window of 2^WIN_LOG2 samples has completed and its result shows (R89); the spec gives no code below
−63.9375 dBFS, where this shows 1,023. Log entry 16 (DEDUCED). -/
def State.fineWindow (s : State) (n : Nat) : State :=
  match (s.rxp n).fineDone with
  | some code =>
    if s.rxHalfIsOn n && s.rxOn n then
      ((s.setF F.RXP_PWR_FINE_CODE code n).setF F.RXP_PWR_FINE_VALID 1 n).setRxp n { s.rxp n with fineDone := none }
    else s
  | none => s

/-- FINE_POWER_WINDOW (R89). -/
def execFinePowerWindow (n : Fin 64) (s : State) : Out := .next (s.core (s.fineWindow n))

/-- The manual attenuation that the path's boundary, 1 tick after this air boundary, puts in effect (R93). -/
def State.attComing (s : State) (n : Nat) : Nat :=
  let e := SMap.get ({} : Shadow) s.shadow (F.RFC_RX_ATT_ATT.key (n / 4) (n % 4) 0)
  if e.owner = .rxp n ∧ e.at_ + 3 ≤ s.elapsed then e.val ^^^ F.RFC_RX_ATT_ATT.reset 0 0
  else s.f F.RFC_RX_ATT_ATT (n / 4) (n % 4)

/-- At an air boundary of path `n`: the symbol's peaks roll over where it was an RX symbol that was measured; the manual
attenuation is issued while the half is on (R93), or the attenuation decays by 1 dB where an RX symbol begins (R92).  An
attack of this very tick is applied after the decay (R97).  All of this rests at a probe's boundaries (R186).
Log entry 16 (DEDUCED). -/
def State.agcAir (s : State) (n : Nat) : State :=
  let x := s.rxp n
  let now := x.atk.filter (fun a => a.1 == s.elapsed)
  let a := (now.map (·.2.1)).getD (s.f F.RFC_RX_ATT_IN_EFFECT (n / 4) (n % 4))
  let counted := x.rxSym && x.seen
  let rx := (s.tile (n / 4)).run.any (fun r => !r.cut && !r.blocked && r.covers s.now) && !s.rxInProbe n
  let y : RxPath := { x with
    lastMax := if counted then x.curMax else x.lastMax
    lastAtk := if counted then (now.map (·.2.2)).getD x.curAtk else x.lastAtk
    curMax := 255
    curAtk := now.isSome
    endRx := counted
    rxSym := rx
    seen := false }
  if s.rxOn n = false then s
  else
    let s1 := s.setRxp n y
    if s.rxProbed n || !s.rxHalfIsOn n then s1
    else if s.on F.RFC_RX_ATT_MAN (n / 4) (n % 4) then s1.setAtt n (s.attComing n)
    else if rx && decide (s.f F.RXP_AGC_STATUS_T_LOW n < y.lastMax) && !y.lastAtk &&
        decide (s.f F.RXP_AGC_CFG_ATT_MIN n < a) then
      (s1.setAtt n (if now.isSome then min 30 (a - 1 + s.f F.RXP_AGC_CFG_ATTACK_STEP n) else a - 1)).bump
        F.RXP_AGC_COUNT_DECAYS n
    else s1

/-! ### The path boundary (R34, R86, R96, R97, R100) -/

/-- The threshold adaptation at a boundary (R96): T_HIGH stays within its limits, and a boundary that ends a window moves
it; a write of AGC_THR landing here wins, and everything is frozen while the RX half is not on (R97). -/
def State.agcAdapt (s : State) (n : Nat) (written : Bool) : State :=
  let x := s.rxp n
  let top := s.f F.RXP_AGC_THR_THR_TOP n
  let bot := s.f F.RXP_AGC_THR_THR_BOTTOM n
  let th := s.f F.RXP_AGC_STATUS_T_HIGH n
  if s.rxHalfIsOn n = false then s
  else if s.on F.RXP_AGC_CFG_ADAPT n = false then s.setThr n (s.f F.RXP_AGC_THR_T_INIT n)
  else if x.endRx = false then s.setThr n (clampN top bot th)
  else if 2 ^ s.f F.RXP_AGC_ADAPT_WIN n ≤ x.winSyms + 1 then
    let s1 := s.setRxp n { x with winSyms := 0, winCount := 0 }
    if written then s1.setThr n (s.f F.RXP_AGC_THR_T_INIT n)
    else if s.f F.RXP_AGC_ADAPT_CLIP_TARGET n < x.winCount then s1.setThr n (clampN top bot (th + 1))
    else if x.winCount = 0 then s1.setThr n (clampN top bot (th - 1))
    else s1.setThr n (clampN top bot th)
  else (s.setRxp n { x with winSyms := x.winSyms + 1 }).setThr n (clampN top bot th)

/-- Some shadow value of a register whose fields lie at `key`s of the register address will land now. -/
def State.landing (s : State) (o : Owner) (addr margin : Nat) : Bool :=
  s.shadow.any (fun e => decide (e.2.owner = o) && decide (e.1 / 32 = addr) && decide (e.2.at_ + margin ≤ s.elapsed))

/-- The class B settings that the registers of a receive path hold. -/
def State.rxSet (s : State) (n : Nat) : RxSet :=
  { shA := s.f F.RXP_SHIFT_SHIFT_A n
    shB := s.f F.RXP_SHIFT_SHIFT_B n
    shC := s.f F.RXP_SHIFT_SHIFT_C n
    shD0 := s.f F.RXP_SHIFT_SHIFT_D0 n
    shD1 := s.f F.RXP_SHIFT_SHIFT_D1 n
    bank := s.f F.RXP_CFIR_CTRL_ACTIVE n
    ftw0 := s.f F.RXP_NCO_FTW_FTW n 0
    ftw1 := s.f F.RXP_NCO_FTW_FTW n 1
    ph0 := s.f F.RXP_NCO_PHASE_PHASE n 0
    ph1 := s.f F.RXP_NCO_PHASE_PHASE n 1
    pad0 := s.f F.RXP_ALIGN_STATUS_PAD n 0
    pad1 := s.f F.RXP_ALIGN_STATUS_PAD n 1 }

/-- The settings for a sample of air time `b` in 1/64 tick: those before the first tag that comes after it, else the
present ones; `l` lists the tags, newest first (R34). -/
def settingsAt {α : Type} (l : List (Nat × α)) (now : α) (b : Int) : α :=
  match (l.filter (fun e => decide (b < 64 * (e.1 : Int)))).getLast? with
  | some e => e.2
  | none => now

/-- Tags older than any stage's samples are dropped. -/
def dropOld {α : Type} (l : List (Nat × α)) (now : Nat) : List (Nat × α) := l.filter (fun e => decide (now < e.1 + 512))

/-- The clock cycle in which the first sample of a symbol enters stage A: 0.75 tick of analogue delay and 0.25 of the
converter after the air boundary (R32, R77).  The registers show the new values, and each stage follows when the tagged
sample reaches it (R34, R86, R100). Log entry 13 (DEDUCED). -/
def State.rxPathBoundary (s : State) (n : Nat) : State :=
  let tl := s.f F.RFC_TILE_CTRL_TL (n / 4)
  if s.rxOn n && s.tlOn tl && decide (1 ≤ s.now) && s.isAir tl (s.now - 1) then
    let skew := s.landing (.rxp n) (regAddr .RXP_SKEW n) 4
    let thr := s.landing (.rxp n) (regAddr .RXP_AGC_THR n) 4
    let s1 := s.commitShadow (.rxp n) 4
    let s2 := s1.setF F.RXP_CFIR_CTRL_ACTIVE (s1.f F.RXP_CFIR_CTRL_BANK n) n
    let s3 := if skew then (s2.rxAlign n 0).rxAlign n 1 else s2
    let s4 := if (s3.rxp n).satSym then s3.bump F.RXP_SAT_COUNT_SAT_SYMBOLS n else s3
    let x := s4.rxp n
    (s4.setRxp n { x with
      satSym := false
      tag := { tl := tl, frame := s.frameNo tl (s.now - 1), symbol := s.symNo tl (s.now - 1) }
      sets := (s.now - 1, s.rxSet n) :: dropOld x.sets s.now }).agcAdapt n thr
  else s

/-- RX_PATH_BOUNDARY (R86). -/
def execRxPathBoundary (n : Fin 64) (s : State) : Out := .next (s.core (s.rxPathBoundary n))

/-! ### Arithmetic of the stages (R76 to R83, R88, R89, R94) -/

/-- Stage A: the moving sum of the last L quantiser pairs, placed as S × 2^13 (R79). -/
def stageA (line : List (Int × Int)) (len sh : Nat) : (Int × Int) × Bool := stageOut (scaleC 8192 (sumC (line.take len))) sh

/-- The channel filter's accumulators: 96 real Q2.22 coefficients on I and Q (R79, R85). -/
def State.cfirAcc (s : State) (x : Fld) (n b : Nat) (line : List (Int × Int)) : Int × Int :=
  (line.take 96).zipIdx.foldl (fun a e => addC a (scaleC (sext 24 (s.f x n b e.2)) e.1)) (0, 0)

/-- Gain compensation (R80, R94): the Q6.18 gain, rounded, shifted by 18 and saturated. -/
def compGain (g : Int) (x : Int × Int) : (Int × Int) × Bool := stageOut (scaleC g x) 18

/-- A stage saturated: its flag, and the symbol is marked (R81). -/
def State.rxSat (s : State) (x : Fld) (n : Nat) (b : Bool) : State :=
  if b then (s.setF x 1 n).setRxp n { (s.setF x 1 n).rxp n with satSym := true } else s

/-- Keep the output of stage `k`. -/
def State.rxKeep (s : State) (n k : Nat) (v : Int × Int) : State :=
  s.setRxp n { s.rxp n with out := SMap.set (0, 0) (s.rxp n).out k v }

/-- The run of cycles at ±7 of a modulator after the cycles `q`, and whether it has reached 16 (R76): −7 and +7 both
extend it. Log entry 18 (DEDUCED). -/
def railRun (run : Nat) (q : List Int) : Nat × Bool :=
  q.foldl (fun a v => let r := if v.natAbs = 7 then a.1 + 1 else 0
    (r, a.2 || decide (16 ≤ r))) (run, false)

/-- One stage A output of a measuring path: the code of the coarse power of the last 8 (R88), against a sine of peak 7
on I and Q through stage A at the length and shift in effect; and the near-clip count of R96. Log entry 16 (DEDUCED). -/
def State.rxCoarse (s : State) (n sh : Nat) (a : Int × Int) : State :=
  let x := s.rxp n
  let c := (magSq a :: x.coarse).take 8
  let full := 7 * 8192 * s.f F.RXP_CTRL_LEN_A n
  let code := dbCode 40 (c.foldl (· + ·) 0 * 4 ^ sh) (8 * full * full) 8
  if s.rxHalfIsOn n then
    let s1 := s.setRxp n { x with
      coarse := c
      seen := true
      tickMax := min x.tickMax code
      curMax := min x.curMax code
      winCount := x.winCount + b2n (x.rxSym && decide (code ≤ 4)) }
    (s1.setF F.RXP_PWR_COARSE_CODE code n).setF F.RXP_PWR_COARSE_VALID 1 n
  else s.setRxp n { x with coarse := c }

/-- One stage C output of air time `b` in 1/64 tick enters the fine-power window, which starts anew at the path's symbol
boundary; a window that the half did not measure whole gives no result (R89, R90). -/
def RxPath.fineStep (x : RxPath) (start live : Bool) (win : Nat) (v : Int × Int) : RxPath :=
  let y : RxPath := if start then { x with fineN := 0, fineSum := 0, fineOk := true } else x
  let n := y.fineN + 1
  let sum := y.fineSum + magSq v
  let ok := y.fineOk && live
  if n < 2 ^ win then { y with fineN := n, fineSum := sum, fineOk := ok }
  else { y with
    fineN := 0
    fineSum := 0
    fineOk := true
    fineDone := if ok then some (dbCode 160 sum (n * 2 ^ 46) 10) else y.fineDone }

/-- Ticks × 64 from the ball to the stage C output of a receive path but for SKEW (R77). -/
def State.rxDelayC (s : State) (n : Nat) : Nat :=
  48 + 16 + (s.f F.RXP_CTRL_LEN_A n - 1) * 4 + 32 + 992 + s.f F.RXP_CFIR_CTRL_GD n + 192

/-- Stage D and alignment of carrier `c` on a stage C output `v` of ball time `b` (R82): mix, half-bands by ratio, shift,
and 8-tap delay.  An output falls where its ball time lies on the carrier's grid, which the frame boundary fixes (R83,
R101). Log entry 18 (DEDUCED). -/
def State.rxStageD (s : State) (n c : Nat) (v : Int × Int) : State :=
  if s.on F.RXP_DDC_CEN n c then
    let x := s.rxp n
    let r := s.rxRatio n c
    let t : Int := 64 * (s.now : Int)
    let old := x.sets
    let cur := s.rxSet n
    let g := tlPhase (s.off (s.f F.RXP_DDC_TL n c)) s.now + 256 - s.f F.RXP_ALIGN_TARGET n c
    let bTag := t - s.rxDelayC n
    let inSet := settingsAt old cur bTag
    let phase := ncoPhase (if c = 0 then inSet.ph0 else inSet.ph1) (if c = 0 then inSet.ftw0 else inSet.ftw1)
      (bTag - sext 9 (s.f F.RXP_SKEW_SKEW n))
    let mixed := cmul v (phasor (2 * n + c) 22 ((2 ^ 32 - phase) % 2 ^ 32))
    let ld := (mixed :: (if c = 0 then x.lineD0 else x.lineD1)).take 42
    let lh0 := if c = 0 then x.lineH0 else x.lineH1
    let lh := if r = 4 ∧ g % 2 = 0 then (halfBand (8 + c) 10 (ld.drop 3) :: lh0).take 25 else lh0
    let s1 := s.setRxp n (if c = 0 then { x with lineD0 := ld, lineH0 := lh } else { x with lineD1 := ld, lineH1 := lh })
    if g % r = 0 then
      let outSet := settingsAt old cur (bTag - 64 * stageDDelay r)
      let acc := if r = 1 then ld.getD 2 (0, 0) else if r = 2 then halfBand (8 + c) 10 (ld.drop 3)
        else halfBand (10 + c) 6 (lh.drop 1)
      let o := stageOut acc ((if r = 1 then 22 else if r = 2 then 44 else 66) + (if c = 0 then outSet.shD0 else outSet.shD1))
      let lf := (o.1 :: (if c = 0 then x.lineF0 else x.lineF1)).take 24
      let pad := (if c = 0 then (·.pad0) else (·.pad1))
        (settingsAt old cur (t - 64 * s.f F.RXP_ALIGN_TARGET n c))
      let s2 := s1.setRxp n (if c = 0 then { s1.rxp n with lineF0 := lf } else { s1.rxp n with lineF1 := lf })
      ((s2.rxSat (if c = 0 then F.RXP_SAT_D0 else F.RXP_SAT_D1) n o.2).rxKeep n (4 + c) o.1).rxKeep n (6 + c)
        (padded (12 + c) r pad lf).1
    else s1
  else s

/-- One tick of a receive path (R77): eight quantiser pairs, two stage A outputs, one output of stages B and C, and stage
D of each carrier, each stage with its delay and with the settings of its sample's symbol (R34).  While the half is not on
or a modulator is blanked, its samples are zero (R50, R53, R76).  The attack hold runs down while the half is on (R97).
Log entry 18 (DEDUCED). -/
def State.rxTick (s : State) (n : Nat) (q : List (Int × Int)) : State :=
  let x := s.rxp n
  let live := s.rxHalfIsOn n
  let q1 := q.map (fun e => (if live ∧ x.zeroI ≤ s.elapsed then e.1 else 0, if live ∧ x.zeroQ ≤ s.elapsed then e.2 else 0))
  let ri := railRun x.runI (q1.map (·.1))
  let rq := railRun x.runQ (q1.map (·.2))
  let len := s.f F.RXP_CTRL_LEN_A n
  let cur := s.rxSet n
  let old := dropOld x.sets s.now
  let bC : Int := 64 * (s.now : Int) - s.rxDelayC n
  let bB : Int := bC + (s.f F.RXP_CFIR_CTRL_GD n + 192 : Nat)
  let set0 := settingsAt old cur (bB + 992)
  let set1 := settingsAt old cur (bB + 992 + 32)
  let la := (q1.reverse ++ x.lineA).take 80
  let a1 := stageA (la.drop 11) len set0.shA
  let a2 := stageA (la.drop 7) len set1.shA
  let lb := (a2.1 :: a1.1 :: x.lineB).take 60
  let b := stageOut (halfBand 1 14 (lb.drop 5)) (22 + (settingsAt old cur bB).shB)
  let lc := (b.1 :: x.lineC).take 99
  let setC := settingsAt old cur bC
  let c := stageOut (s.cfirAcc F.RXP_CFIR_COEF_COEF n setC.bank (lc.drop 3)) (22 + setC.shC)
  let att : Int := s.attAt n (bC - sext 9 (s.f F.RXP_SKEW_SKEW n))
  let m := if s.on F.RXP_AGC_CFG_COMP_EN n then compGain (compStep (att - s.f F.RXP_AGC_CFG_COMP_REF n)) c.1 else (c.1, false)
  let tl := s.f F.RFC_TILE_CTRL_TL (n / 4)
  let s1 := s.setRxp n ({ x with
    sets := old
    hold := if live then x.hold.map (· - 1) else x.hold
    runI := ri.1
    runQ := rq.1
    ovlI := x.ovlI || ri.2
    ovlQ := x.ovlQ || rq.2
    tickMax := 255
    lineA := la
    lineB := lb
    lineC := lc }.fineStep (s.isAir tl (bC.toNat / 64)) live (s.f F.RXP_PWR_FINE_CFG_WIN_LOG2 n) m.1)
  let s2 := ((s1.rxKeep n 1 a2.1).rxKeep n 2 b.1).rxKeep n 3 m.1
  let s3 := ((s2.rxSat F.RXP_SAT_B n b.2).rxSat F.RXP_SAT_C n c.2).rxSat F.RXP_SAT_COMP n m.2
  let s4 := (s3.rxCoarse n set0.shA a1.1).rxCoarse n set1.shA a2.1
  (s4.rxStageD n 0 m.1).rxStageD n 1 m.1

end Sys2Proof.Machine
end

