-- ==== Sys2Proof/Machine/Tx.lean ====
section
/-!
DEFINITION. Sys2Proof/Machine/Tx.lean: the transmit paths of chapter 4: enable and alignment, shaper overload, and the
arithmetic of the stages.  The path's boundary stands in Dpd.lean, with the predistortion it drives.
-/
namespace Sys2Proof.Machine

/-- Interpolation ratio of carrier `c` (R102). -/
def State.txRatio (s : State) (n c : Nat) : Nat := 2 ^ s.f F.TXP_DUC_INT n c

/-- The larger ratio among the enabled carriers, 1 with none (R103). -/
def State.txMaxRatio (s : State) (n : Nat) : Nat :=
  max (if s.on F.TXP_DUC_CEN n 0 then s.txRatio n 0 else 1) (if s.on F.TXP_DUC_CEN n 1 then s.txRatio n 1 else 1)

/-- G_FIXED of path `n`, in 1/64 tick (R109): 4 + 15.5 + 0.5 + 2 + 32 + 2.5 + 0.25 + 0.75 ticks are 3,680. -/
def State.txGFixed (s : State) (n : Nat) : Int :=
  (stageDDelay (s.txMaxRatio n) * 64 + s.f F.TXP_CFIR_CTRL_GD n + 128 + (s.f F.TXP_CTRL_LEN_A n - 1) * 4 + 3680 : Nat) +
    sext 9 (s.f F.TXP_SKEW_SKEW n)

/-- Form G_FIXED and PAD and check the range (R110). -/
def State.txAlign (s : State) (n : Nat) : State :=
  let g := s.txGFixed n
  let pad := (s.f F.TXP_ALIGN_TARGET n * 64 : Nat) - g
  let bad := pad < 0 ∨ 1023 < pad
  let s1 := ((s.setF F.TXP_ALIGN_STATUS_G_FIXED (trunc 14 g) n).setF F.TXP_ALIGN_STATUS_PAD
    (clampI 0 1023 pad).toNat n).setF F.TXP_ALIGN_STATUS_RANGE_ERR (b2n (decide bad)) n
  if bad then s1.ledger 0x09 n else s1

/-- The timeline rules of a TX path's enable (R31, R104). -/
def State.txMayEnable (s : State) (n : Nat) : Bool :=
  s.allRun (s.txFollows n) && s.carriersOk (s.f F.RFC_TILE_CTRL_TL (n / 4)) (s.txFollows n).tail

/-- The path's enable takes effect: alignment (R110); its stages start empty and no tag has reached it (R39).
Log entry 82 (DESIGN CHOICE). -/
def State.txStart (s : State) (n : Nat) : State :=
  let x := s.txp n
  let s0 := s.setTxp n { ({} : TxPath) with
    tag := x.tag
    demI := x.demI
    demQ := x.demQ
    prbs := x.prbs
    dpd := { x.dpd with applied := false, full := false, cur := [], old := [] } }
  let s1 := s0.setF F.TXP_CTRL_EN 1 n
  (s1.setF F.TXP_CFIR_CTRL_ACTIVE (s1.f F.TXP_CFIR_CTRL_BANK n) n).txAlign n

/-- A write of TXP[n].CTRL: EN = 1 subject to R31 and R104; EN = 0 forces zero scale (R120 bit 0) and lets pending
class B values take effect (R18). Log entry 11 (DEDUCED). -/
def State.txCtrlWrite (s : State) (n v : Nat) : State :=
  let d := descOf .TXP_CTRL
  let own := fun c => s.ownerOf .TXP_CTRL n 0 c
  let r := s.applyFields d.flds (fun lo => lo == 31) n 0 0 v own (fun c => s.enabled (own c))
  if bit v 31 then
    let ok := r.1.txMayEnable n || s.txOn n
    let s1 := if ok && !s.on F.TXP_CTRL_EN n then r.1.txStart n else r.1
    if r.2 || !ok then s1.discarded (d.addr n 0 0) else s1
  else
    let s1 := ((r.1.setF F.TXP_CTRL_EN 0 n).flushShadow (.txp n)).zsHold 0 n
    let s2 := s1.setF F.TXP_CFIR_CTRL_ACTIVE (s1.f F.TXP_CFIR_CTRL_BANK n) n
    if r.2 then s2.discarded (d.addr n 0 0) else s2

/-- TX_PATH_ENABLE (R104). -/
def execTxPathEnable (n : Fin 64) (w : Word) (s : State) : Out :=
  s.regCmd (regAddr .TXP_CTRL n) (s.txCtrlWrite n (w.toNat ||| 2 ^ 31))
/-- TX_PATH_DISABLE (R120). -/
def execTxPathDisable (n : Fin 64) (w : Word) (s : State) : Out :=
  s.regCmd (regAddr .TXP_CTRL n) (s.txCtrlWrite n (w.toNat % 2 ^ 31))

/-- A write of TXP[n].CFIR_CTRL (R108). -/
def State.txCfirCtrlWrite (s : State) (n v : Nat) : State :=
  let s1 := s.writeReg .TXP_CFIR_CTRL v n
  if s.txOn n then s1 else s1.setF F.TXP_CFIR_CTRL_ACTIVE (s1.f F.TXP_CFIR_CTRL_BANK n) n

/-- A loop of the noise shaper that has lain beyond ±17 levels for 8 cycles overloads (R116): it is cleared, and both I
and Q are at zero scale for 4 ticks.  While zero scale holds none is detected (R121). -/
def State.nsOverload (s : State) (n : Nat) : State :=
  if s.on F.TXP_ZS_STATUS_ZERO n || !(s.txp n).nsFound then s
  else
    let s1 := ((s.setF F.TXP_SAT_NS_OVL 1 n).bump F.TXP_NS_STATUS_OVL_COUNT n).zsHold 6 n
    (s1.setTxp n { s1.txp n with
      ovlEnd := s.elapsed + 4
      nsFound := false
      nsI := {}
      nsQ := {}
      dpd := { (s1.txp n).dpd with ovl := true } }).ledger 0x0A n

/-- NS_OVERLOAD (R116). -/
def execNsOverload (n : Fin 64) (s : State) : Out := .next (s.core (s.nsOverload n))

/-- The 4-tick zero scale ends (R116, R121): it may end between symbols. -/
def State.nsOverloadEnd (s : State) (n : Nat) : State :=
  if bit (s.f F.TXP_ZS_STATUS_CAUSE n) 6 && decide ((s.txp n).ovlEnd ≤ s.elapsed) then s.zsEnd 6 n else s

/-- NS_OVERLOAD_END (R116). -/
def execNsOverloadEnd (n : Fin 64) (s : State) : Out := .next (s.core (s.nsOverloadEnd n))

/-! ### Settings in the stages (R34) -/

/-- The class B settings that the registers of a transmit path hold, and what predistortion does with its symbol. -/
def State.txSet (s : State) (n : Nat) : TxSet :=
  { att := s.f F.RFC_TX_ATT_ATT (n / 4) (n % 4)
    shA := s.f F.TXP_SHIFT_SHIFT_A n
    shB := s.f F.TXP_SHIFT_SHIFT_B n
    shC := s.f F.TXP_SHIFT_SHIFT_C n
    shD0 := s.f F.TXP_SHIFT_SHIFT_D0 n
    shD1 := s.f F.TXP_SHIFT_SHIFT_D1 n
    bank := s.f F.TXP_CFIR_CTRL_ACTIVE n
    ftw0 := s.f F.TXP_NCO_FTW_FTW n 0
    ftw1 := s.f F.TXP_NCO_FTW_FTW n 1
    ph0 := s.f F.TXP_NCO_PHASE_PHASE n 0
    ph1 := s.f F.TXP_NCO_PHASE_PHASE n 1
    gain0 := s.f F.TXP_CAR_GAIN_GAIN n 0
    gain1 := s.f F.TXP_CAR_GAIN_GAIN n 1
    mode := s.f F.TXP_TONE_CFG_MODE n
    amp := s.f F.TXP_TONE_CFG_AMP n
    toneFtw := s.f F.TXP_TONE_FTW_FTW n
    tonePh := s.f F.TXP_TONE_PHASE_PHASE n
    peak := s.f F.TXP_PLIM_CFG_PEAK n
    model := (s.txp n).dpd.applied && !(s.txp n).tag.probe
    cur := (s.txp n).dpd.cur
    tag := (s.txp n).tag
    set_ := s.f F.TXP_DPD_STATUS_TARGET_SET n
    full := (s.txp n).dpd.full
    inst := (s.txp n).dpd.installAt }

/-- The delay of stage D of path `n`, in ticks (R103). -/
def State.txDelayD (s : State) (n : Nat) : Nat := stageDDelay (s.txMaxRatio n)

/-- Ticks × 64 from the stage D input of path `n` to the outputs of stages D, C, alignment, B, A and of predistortion, the
limiters and the shaper, 0 to 8 (R102), with the pad in effect. -/
def State.txDelay (s : State) (n g : Nat) : Nat :=
  ([64 * s.txDelayD n, s.f F.TXP_CFIR_CTRL_GD n + 128, 256 + s.f F.TXP_ALIGN_STATUS_PAD n, 992,
    4 * (s.f F.TXP_CTRL_LEN_A n - 1) + 32, 128, 2048, 160, 16].take (g + 1)).foldl (· + ·) 0

/-- The air time, in 1/64 tick, of the sample at the output of stage `g` in this tick (R109). -/
def State.txAirAt (s : State) (n g : Nat) : Int :=
  64 * ((s.now + s.f F.TXP_ALIGN_TARGET n : Nat) : Int) - s.txDelay n g

/-- The settings of the symbol whose sample is at the output of stage `g` (R34). -/
def State.txSetAt (s : State) (n g : Nat) : TxSet := settingsAt (s.txp n).sets (s.txSet n) (s.txAirAt n g)

/-! ### Stages D to A (R102 to R107, R118, R119) -/

/-- A stage saturated (R107). -/
def State.txSat (s : State) (x : Fld) (n : Nat) (b : Bool) : State :=
  if b then (s.setF x 1 n).setTxp n { (s.setF x 1 n).txp n with satSym := true } else s

def State.txKeep (s : State) (n k : Nat) (v : Int × Int) : State :=
  s.setTxp n { s.txp n with out := SMap.set (0, 0) (s.txp n).out k v }

/-- The interpolated carrier at FS_P and its fraction bits, with `extra` ticks of padding (R102, R103): lines newest
first, zeros between carrier samples. -/
def interpolated (c r extra : Nat) (ld lh : List (Int × Int)) : (Int × Int) × Nat :=
  if r = 1 then (ld.getD (2 + extra) (0, 0), 0)
  else if r = 2 then (scaleC 2 (halfBand (16 + c) 10 (ld.drop (3 + extra))), 22)
  else (scaleC 2 (halfBand (16 + c) 10 (lh.drop (3 + extra))), 44)

/-- Stage D of carrier `c` (R103, R105): interpolate, gain in Q2.22, mix at the sample's air time `t64`, and one rounding
at its shift. -/
def State.txStageD (s : State) (n c : Nat) (set : TxSet) (t64 : Int) (ld lh : List (Int × Int)) : (Int × Int) × Bool :=
  if s.on F.TXP_DUC_CEN n c then
    let r := s.txRatio n c
    let x := interpolated c r (s.txDelayD n - stageDDelay r) ld lh
    let y := scaleC (sext 24 (if c = 0 then set.gain0 else set.gain1)) x.1
    let phase := ncoPhase (if c = 0 then set.ph0 else set.ph1) (if c = 0 then set.ftw0 else set.ftw1) t64
    stageOut (cmul y (phasor (128 + 2 * n + c) 22 phase)) (44 + x.2 + (if c = 0 then set.shD0 else set.shD1))
  else ((0, 0), false)

/-- Carrier `c`'s sample of this tick enters its lines; at r = 4 the first half-band fills every second place of the
second one's line. -/
def State.txFeed (s : State) (n c : Nat) : State :=
  let p := s.txp n
  let ld := ((if c = 0 then p.in0 else p.in1).getD (0, 0) :: (if c = 0 then p.lineD0 else p.lineD1)).take 66
  let g := tlPhase (s.off (s.f F.TXP_DUC_TL n c)) (s.now + s.f F.TXP_ALIGN_TARGET n)
  let h := if s.txRatio n c = 4 ∧ g % 2 = 0 then scaleC 2 (halfBand (18 + c) 6 (everySecond (ld.drop 2))) else (0, 0)
  let lh := (h :: (if c = 0 then p.lineH0 else p.lineH1)).take 66
  s.setTxp n (if c = 0 then { p with in0 := none, lineD0 := ld, lineH0 := lh }
    else { p with in1 := none, lineD1 := ld, lineH1 := lh })

/-- A carrier's antenna sample enters stage D in this tick. -/
def State.txIn (s : State) (n c : Nat) (x : Int × Int) : State :=
  s.setTxp n (if c = 0 then { s.txp n with in0 := some x } else { s.txp n with in1 := some x })

/-- The tone of R118 at air time `t64`: the lower 18 bits of the phase are dropped before the table of 24-bit entries, and
the product is rounded to 24 bits. -/
def TxSet.tone (x : TxSet) (n : Nat) (t64 : Int) : Int × Int :=
  let phi := ncoPhase x.tonePh x.toneFtw t64
  let v := phasor (256 + n) 24 (phi / 2 ^ 18 * 2 ^ 18)
  let entry (y : Int) : Int := clampI (-(2 ^ 24 - 1)) (2 ^ 24 - 1) y
  (stageOut (scaleC (sext 24 x.amp) (entry v.1, entry v.2)) 24).1

/-- The nominal level of R68 and R69 for path `n` at attenuation `att` (0.25 dB steps): the dBm at the ball of a mean power
of 0 dBFS at the DAC input, in 0.05 dB: +3 dBm at −12 dBFS, plus the largest trim, less the attenuation.
Log entry 80 (UNVERIFIED). -/
def State.ballLevel (s : State) (n att : Nat) : Int :=
  300 + max (sext 8 (s.f F.FUSE_TX_TRIM_COLD n)) (max (sext 8 (s.f F.FUSE_TX_TRIM_ROOM n)) (sext 8 (s.f F.FUSE_TX_TRIM_HOT n)))
    - 5 * (att : Int)

/-- The digital amplitude of a Mirror probe at the stage C output (R184): −30 − 0.5 × LEVEL dBm at the ball, never above,
through the gain of stages B and A. Log entry 80 (UNVERIFIED). -/
def State.probeAmp (s : State) (n : Nat) (x : TxSet) : Int :=
  let db := -600 - 10 * (s.f F.MIR_PROBE_LEVEL : Int) - s.ballLevel n x.att
  let power := pow10 46 db 200 80 * 16 * 4 ^ (x.shA + x.shB)
  min (2 ^ 23 - 1) (rootOf 2 power (s.f F.TXP_CTRL_LEN_A n * s.f F.TXP_CTRL_LEN_A n) 30 : Nat)

/-- The Mirror probe of path `n` at air time `t64` in 1/64 tick: chirps exp(−jπ i²/1024), then zero to the end of the
symbol (R183). Log entry 80 (UNVERIFIED). -/
def State.probeAt (s : State) (n : Nat) (x : TxSet) (t64 : Int) : Option (Int × Int) :=
  (s.mir.onAir.find? (fun p => p.el == n && decide (64 * (p.air : Int) ≤ t64) &&
      decide (t64 < 64 * (s.nextAir (s.f F.PRISM_CFG_TL) p.air : Nat)))).map (fun p =>
    let o := (t64 - 64 * (p.air : Int)).toNat
    let i := o % 65536
    if o < p.reps * 65536 then
      (stageOut (scaleC (s.probeAmp n x) (phasor (320 + n) 22 (trunc 32 (-((i * i * 2 ^ 9 : Nat) : Int))))) 22).1
    else (0, 0))

/-- The tone enters at the stage C output (R119), and a probe replaces the stream there (R183). -/
def State.withTone (s : State) (n : Nat) (x : TxSet) (t64 : Int) (v : Int × Int) : (Int × Int) × Bool :=
  match s.probeAt n x t64 with
  | some p => (p, false)
  | none => if x.mode = 1 then addSat v (x.tone n t64) else if x.mode = 2 then (x.tone n t64, false) else (v, false)

/-- Zero insertion by 4 and the moving sum of the last L samples (R105, R106): eight outputs for the two stage B samples
of a tick, newest first, from the line that holds this tick's slots. -/
def stageATx (line : List (Int × Int)) (len sh : Nat) : List ((Int × Int) × Bool) :=
  (List.range 8).map (fun k => stageOut (sumC ((line.drop (4 + k)).take len)) sh)

/-- One tick of a transmit path through stages D, C, tone, alignment, B and A: eight FS_CONV samples, each stage with its
delay and with the settings of its sample's symbol (R21, R34, R102, R105). Log entry 18 (DEDUCED). -/
def State.txTick (s0 : State) (n : Nat) : State :=
  let s := (s0.txFeed n 0).txFeed n 1
  let p := s.txp n
  let setD := s.txSetAt n 0
  let tD := s.txAirAt n 0
  let d0 := s.txStageD n 0 setD tD p.lineD0 p.lineH0
  let d1 := s.txStageD n 1 setD tD p.lineD1 p.lineH1
  let sm := addSat d0.1 d1.1
  let setC := s.txSetAt n 1
  let lc := (sm.1 :: p.lineC).take 98
  let c := stageOut (s.cfirAcc F.TXP_CFIR_COEF_COEF n setC.bank (lc.drop 2)) (22 + setC.shC)
  let tn := s.withTone n setC (s.txAirAt n 1) c.1
  let ls := (tn.1 :: p.lineS).take 24
  let al := padded 20 1 (s.f F.TXP_ALIGN_STATUS_PAD n) ls
  let lb := (al.1 :: p.lineB).take 30
  let shB := (s.txSetAt n 3).shB
  let b0 := stageOut (between 2 14 (lb.drop 2)) (22 + shB)
  let b1 := stageOut (lb.getD 15 (0, 0)) shB
  let z : Int × Int := (0, 0)
  let la := ([z, z, z, b1.1, z, z, z, b0.1] ++ p.lineA).take 80
  let a := stageATx la (s.f F.TXP_CTRL_LEN_A n) (s.txSetAt n 4).shA
  let xs := a.map (·.1)
  let seen := if s.txOn n && !s.on F.TXP_ZS_STATUS_ZERO n then xs else xs.map (fun _ => (0, 0))
  let s1 := s.setTxp n { p with
    sets := dropOld p.sets s.now
    lineC := lc
    lineS := ls
    lineB := lb
    lineA := la
    lineX := (xs ++ p.lineX).take 152
    lineN := (seen ++ p.lineN).take 152 }
  let s2 := ((((s1.txKeep n 1 sm.1).txKeep n 2 c.1).txKeep n 3 al.1).txKeep n 4 b1.1).txKeep n 5 (xs.headD (0, 0))
  let s3 := ((s2.txSat F.TXP_SAT_D0 n d0.2).txSat F.TXP_SAT_D1 n d1.2).txSat F.TXP_SAT_SUM n (sm.2 || tn.2)
  let s4 := ((s3.txSat F.TXP_SAT_C n c.2).txSat F.TXP_SAT_ALN n al.2).txSat F.TXP_SAT_B n (b0.2 || b1.2)
  s4.txSat F.TXP_SAT_A n (a.any (·.2))

/-! ### The regulatory limiter (R67 to R69) -/

/-- The sum of 256 squared magnitudes at the power limit of path `n` at attenuation `att`, 0 dBFS being 2^46. -/
def State.limitSum (s : State) (n att : Nat) : Nat := 256 * pow10 46 (5 * s.powerLimit n - s.ballLevel n att) 200 90

/-- One sample through the limiter: the gain, in Q30, is what the windows that cover the delayed sample ask for, within
0.25 dB above their limit, and rises at most 1 dB per µs. Log entry 17 (UNVERIFIED). -/
def RegLim.step (x : RegLim) (limit slack : Nat) (v : Int × Int) : RegLim × (Int × Int) :=
  let sum := x.sum + magSq v - magSq (x.line.getD 255 (0, 0))
  let need := if sum ≤ limit then 2 ^ 30 else rootOf 2 (limit * 2 ^ 60) sum 31
  let line := (v :: x.line).take 257
  let needs := (x.needs.map (fun e => (e.1 + 1, e.2))).filter (fun e => decide (e.1 ≤ 256))
  let needs1 := if need < 2 ^ 30 then (0, need) :: needs else needs
  let asked := needs1.foldl (fun g e => min g (e.2 * (65536 + slack % 1914) / 65536)) (2 ^ 30)
  let gain := min asked (x.gain + x.gain * 31440 / 2 ^ 30 + 1)
  ({ line := line, sum := sum, needs := needs1, gain := gain }, (stageOut (scaleC gain (line.getD 256 (0, 0))) 30).1)

/-! ### The peak limiter (R113, R114) -/

/-- The raised cosine of a dip at `d` samples from its centre, in Q20: 1 at the centre, 0 from 8 on (R113). -/
def dipShape (d : Nat) : Nat :=
  if 8 ≤ d then 0 else ((one48 + (circle (d * 2 ^ 28)).1) / 2 ^ 29).toNat

/-- The gain, in Q20, that the dips in hand give the sample of age `age`; overlapping dips multiply (R114). -/
def dipGain (dips : List (Nat × Nat)) (age : Nat) : Nat :=
  dips.foldl (fun g e => g * (2 ^ 20 - (2 ^ 20 - e.2) * dipShape ((age - e.1) + (e.1 - age)) / 2 ^ 20) / 2 ^ 20) (2 ^ 20)

/-- The square of a sample's magnitude after the dips in hand. -/
def dipped (x : PeakLim) (age : Nat) : Nat :=
  magSq (x.line.getD age (0, 0)) * dipGain x.dips age ^ 2 / 2 ^ 40

/-- A further dip centred on the sample of age `age`, just deep enough for the level (R113). -/
def PeakLim.dip (x : PeakLim) (level age : Nat) : PeakLim :=
  { x with dips := (age, rootOf 2 (level * 2 ^ 40) (dipped x age) 20) :: x.dips }

/-- The age, among the newest 16 samples, of the largest after the dips in hand. -/
def PeakLim.largest (x : PeakLim) : Nat :=
  (List.range 16).foldl (fun b a => if dipped x b < dipped x a then a else b) 0

/-- One sample through the limiter, its output and the dips begun: when a sample 12 samples old still exceeds the level,
the largest of the look-ahead's 16 is dipped, and that sample itself where it then still exceeds.
Log entry 17 (UNVERIFIED). -/
def PeakLim.step (x : PeakLim) (level : Nat) (v : Int × Int) : PeakLim × (Int × Int) × Nat :=
  let x1 : PeakLim :=
    { line := (v :: x.line).take 21, dips := (x.dips.map (fun e => (e.1 + 1, e.2))).filter (fun e => decide (e.1 ≤ 28)) }
  let x2 := if level < dipped x1 12 then x1.dip level x1.largest else x1
  let x3 := if level < dipped x2 12 then x2.dip level 12 else x2
  (x3, (stageOut (scaleC (dipGain x3.dips 20) (x3.line.getD 20 (0, 0))) 20).1, x3.dips.length - x1.dips.length)

/-! ### The noise shaper and the DAC (R115 to R117) -/

/-- The zero coefficients 1 to 4 of the noise transfer in Q20: two pairs of zeros on the unit circle within 200 MHz, whose
cosines are at least 0.9493. Log entry 17 (UNVERIFIED). -/
def nsZeros : List Int :=
  let cosOf (i : Nat) : Int := 2 ^ 20 - (Config.nsZero i % 53164 : Nat)
  let a := cosOf 0
  let b := cosOf 1
  [-2 * (a + b), 2 ^ 21 + 4 * a * b / 2 ^ 20, -2 * (a + b), 2 ^ 20]

/-- The pole coefficients 1 to 4 in Q20. -/
def nsPoles : List Int := (List.range 4).map Config.nsPole

/-- The dot product of two lists, in Q20 rounded down. -/
def dotQ20 (a b : List Int) : Int := (List.zipWith (· * ·) a b).foldl (· + ·) 0 / 2 ^ 20

/-- One sample of a loop (R115): input in units of 2^−23 of full scale; its code, −15 to 15, by fourth-order error
feedback with the errors the loop holds, and the loop after it with its cycles beyond ±17 levels (R116). -/
def Shaper.step (x : Shaper) (v : Int) : Shaper × Int :=
  let shaped := dotQ20 nsZeros x.err - dotQ20 nsPoles x.err - dotQ20 nsPoles x.shaped
  let u := 15 * v + shaped
  let code := clampI (-15) 15 (rshr u 23)
  ({ err := ((code * 2 ^ 23 - u) :: x.err).take 4
     shaped := (shaped :: x.shaped).take 4
     run := if 17 * 2 ^ 23 < u.natAbs then x.run + 1 else 0 }, code)

/-- The mask of `k` cells in circular order from cell `p` of 30. -/
def cellsFrom (p k : Nat) : Nat := (List.range k).foldl (fun m i => m + 2 ^ ((p + i) % 30)) 0

/-- The first `k` cells of the permutation that the sequence value `seed` chooses (R117). -/
def cellsPicked (seed : Nat) : Nat → List Nat → Nat
  | 0, _ => 0
  | k + 1, left =>
    let c := left.getD (Config.demPick seed k % left.length) 0
    2 ^ c + cellsPicked seed k (left.erase c)

/-- The cells that carry level `code`: rotation, random or fixed by NS_CFG.DEM (R117). -/
def Dem.step (x : Dem) (dem seed : Nat) (code : Int) : Dem :=
  let k := (code + 15).toNat
  if dem = 1 then { x with cells := cellsPicked seed k (List.range 30) }
  else if dem = 2 then { x with cells := cellsFrom 0 k }
  else { ptr := (x.ptr + k) % 30, cells := cellsFrom x.ptr k }

/-- One FS_CONV sample from the predistortion output to the code (R68, R113 to R117): at zero scale the code is 0, the
loops are cleared and the element matching rests (R120, R121). -/
def TxPath.endStep (x : TxPath) (zero : Bool) (limit slack level dem : Nat) (v : Int × Int) : TxPath × Nat :=
  let r := x.reg.step limit slack v
  let p := x.peak.step level r.2
  let y : TxPath := { x with
    reg := r.1
    peak := p.1
    out := SMap.set (0, 0) (SMap.set (0, 0) x.out 7 r.2) 8 p.2.1 }
  if zero then
    ({ y with nsI := {}, nsQ := {}, codes := ((0, 0) :: x.codes).take 8 }, p.2.2)
  else
    let i := x.nsI.step p.2.1.1
    let q := x.nsQ.step p.2.1.2
    let seed := if dem = 1 then Config.demNext x.prbs % 2 ^ 23 else x.prbs
    ({ y with
      nsI := i.1
      nsQ := q.1
      nsFound := x.nsFound || decide (8 ≤ i.1.run) || decide (8 ≤ q.1.run)
      demI := x.demI.step dem seed i.2
      demQ := x.demQ.step dem (seed + 2 ^ 23) q.2
      prbs := seed
      codes := ((i.2, q.2) :: x.codes).take 8 }, p.2.2)

/-- The limiters and the shaper on the eight predistortion outputs of a tick, newest first (R68, R113 to R117). -/
def State.txEnd (s : State) (n : Nat) (zs : List (Int × Int)) : State :=
  let set := s.txSetAt n 5
  let limit := s.limitSum n set.att
  let level := pow10 46 (-((s.txSetAt n 6).peak : Int)) 40 48
  let r := zs.reverse.foldl (fun (a : TxPath × Nat) z =>
      let b := a.1.endStep (s.on F.TXP_ZS_STATUS_ZERO n) limit (Config.choice 0x84 (64 * s.elapsed + n)) level (s.f F.TXP_NS_CFG_DEM n) z
      (b.1, a.2 + b.2)) (s.txp n, 0)
  let s1 := s.setTxp n { r.1 with dipSym := r.1.dipSym || r.2 != 0 }
  ((s1.txKeep n 6 (zs.headD (0, 0))).txKeep n 9 (r.1.codes.headD (0, 0))).bumpBy F.TXP_PLIM_COUNT_DIPS r.2 n

end Sys2Proof.Machine
end

