-- ==== Sys2Proof/Machine/Prism.lean ====
section
/-!
DEFINITION. Sys2Proof/Machine/Prism.lean: the beamformer of chapter 5: beam entries, control queues, preload, correction
commits, capacity and the arithmetic of the weighted sums.
A layer's symbols are numbered over frames: frame index × symbols per frame + symbol number.
-/
namespace Sys2Proof.Machine

/-! ### Boundaries (R132, R138) -/

/-- TARGET_TX of Prism carrier `c`: that of the lowest-numbered enabled path with the carrier enabled (R132). -/
def State.targetTx (s : State) (c : Nat) : Nat :=
  match (List.range 64).find? (fun n => s.txOn n && s.on F.TXP_DUC_CEN n c) with
  | some n => s.f F.TXP_ALIGN_TARGET n
  | none => 0

/-- TARGET_RX of Prism carrier `c` (R132). -/
def State.targetRx (s : State) (c : Nat) : Nat :=
  match (List.range 64).find? (fun n => s.rxOn n && s.on F.RXP_DDC_CEN n c) with
  | some n => s.f F.RXP_ALIGN_TARGET n c
  | none => 0

/-- The Prism's own latencies L_PT and L_PR, in ticks (R132). -/
def prismLatency : Nat := 96

/-- The Prism transmit advance of a carrier (R112, R132). Log entry 13 (DEDUCED). -/
def State.txAdvance (s : State) (c : Nat) : Nat := s.targetTx c + prismLatency

/-- Ticks from the preload cut-off to the Prism boundary (R138). -/
def cutoffTicks : Nat := 984

/-- Direction, carrier and timeline of layer `f`. -/
def State.layDir (s : State) (f : Nat) : Nat := s.f F.PRISM_LAYER_CFG_DIR f
def State.layCar (s : State) (f : Nat) : Nat := s.f F.PRISM_LAYER_CFG_CAR f
def State.layTl (s : State) (f : Nat) : Nat := s.f F.PRISM_CAR_TL (s.layDir f) (s.layCar f)

/-- The air time whose Prism boundary of layer `f` falls at device time `t` (R32, R132). -/
def State.layAir (s : State) (f t : Nat) : Nat :=
  if s.layDir f = 0 then t + s.txAdvance (s.layCar f) else t - s.targetRx (s.layCar f)

/-- Layer `f` runs: Prism on and present, layer and carrier enabled, timeline running. -/
def State.layRuns (s : State) (f : Nat) : Bool :=
  s.prismOn && !s.absent 16 && s.on F.PRISM_LAYER_CFG_LEN f && s.on F.PRISM_CAR_CEN (s.layDir f) (s.layCar f) &&
  s.tlOn (s.layTl f)

/-- The running number of the symbol at air time `t` of timeline `k`. -/
def State.symIdx (s : State) (k t : Nat) : Nat :=
  tlPhase (s.off k) t / frameTicks * symPerFrame (s.mu k) + s.symNo k t

/-- The frame index nearest the present one whose frame number is `fr` (frame numbers run modulo 1,024). -/
def State.frameIdx (s : State) (k fr t : Nat) : Nat :=
  let cur := tlPhase (s.off k) t / frameTicks
  let d := (fr + 1024 - s.frameNo k t) % 1024
  if d < 512 then cur + d else cur + d - 1024

/-- The first symbol of layer `f` whose cut-off is still ahead of device time `t` (R138, R139). -/
def State.nextCut (s : State) (f t : Nat) : Nat :=
  s.symIdx (s.layTl f) (s.nextAir (s.layTl f) (s.layAir f (t + cutoffTicks)))

/-! ### Entries and the choice of entry (R124 to R126, R137) -/

/-- A little-endian number from bytes `[o, o + n)` of an entry. -/
def entryLE (bs : List Byte) (o : Nat) : Nat → Nat
  | 0 => 0
  | n + 1 => (bs.getD o 0).toNat + 256 * entryLE bs (o + 1) n

/-- One step of the reflected CRC-32 of IEEE 802.3. -/
def crcBit (c : Nat) : Nat := if c % 2 = 1 then (c / 2) ^^^ 0xEDB88320 else c / 2

/-- CRC-32 with reflected input and output, initial all ones and final inversion (R126). -/
def crc32 (bs : List Byte) : Nat :=
  (bs.foldl (fun c b => crcBit (crcBit (crcBit (crcBit (crcBit (crcBit (crcBit (crcBit (c ^^^ b.toNat)))))))))
    0xFFFFFFFF) ^^^ 0xFFFFFFFF

/-- Weight memory's base (R124). -/
def weightBase : Nat := 0x24000000

/-- The bytes of entry `e` as they stand in weight memory. -/
def State.readEntry (s : State) (e : Nat) : BeamCopy := ⟨e, s.readBytes (weightBase + e * 512) 512⟩

/-- The check of R126 for a layer of direction `d`; an entry number above 6,143 is invalid (R140). -/
def BeamCopy.valid (b : BeamCopy) (d : Nat) : Bool :=
  let h := entryLE b.bytes 0 4
  decide (b.entry ≤ 6143) && bit h 31 && (bits h 28 2 == d || bits h 28 2 == 2) &&
  (!bit h 30 || crc32 (b.bytes.take 0x1C ++ b.bytes.drop 0x20) == entryLE b.bytes 0x1C 4)

/-- The cluster key CMAP_KEY and the generation GEN of a copy (R124). -/
def BeamCopy.key (b : BeamCopy) : Nat := bits (entryLE b.bytes 0 4) 16 8
def BeamCopy.gen (b : BeamCopy) : Nat := bits (entryLE b.bytes 0 4) 0 16

/-- The weight W[a] in Q1.23 (R124). -/
def BeamCopy.weight (b : BeamCopy) (a : Nat) : Int × Int :=
  (sext 24 (entryLE b.bytes (0x20 + 6 * a) 3), sext 24 (entryLE b.bytes (0x23 + 6 * a) 3))

/-- The delay DLY[a] in 1/64 tick (R125). -/
def BeamCopy.delay (b : BeamCopy) (a : Nat) : Nat :=
  bits (entryLE b.bytes (0x1A0 + 3 * (a / 2)) 3) (12 * (a % 2)) 12

/-- The entry named for a symbol: the latest accepted range that covers it; CANCEL names none (R136). -/
def named (q : List BeamRange) (idx : Nat) : Option Nat :=
  (q.reverse.find? (fun r => decide (r.first ≤ idx) && decide (idx < r.first + r.count))).bind (·.entry)

/-- The entry chosen by rules 1 and 2 of R137; none leaves rule 3. -/
def State.chosen (s : State) (f idx : Nat) : Option Nat :=
  match named (s.layer f).queue idx with
  | some e => some e
  | none => if s.on F.PRISM_LAYER_CFG_DEF_EN f then some (s.f F.PRISM_LAYER_CFG_DEF_ENTRY f) else none

/-- Keep a layer's record and its LAYER_STATE view. -/
def State.setLayer (s : State) (f : Nat) (l : Layer) : State :=
  let s1 : State := { s with prism := { s.prism with layers := SMap.set {} s.prism.layers f l } }
  let s2 := (s1.setF F.PRISM_LAYER_STATE_ACT_VALID (b2n l.act.isSome) f).setF F.PRISM_LAYER_STATE_SHD_VALID (b2n l.shd.isSome) f
  let s3 := (s2.setF F.PRISM_LAYER_STATE_PENDING l.queue.length f).setF F.PRISM_LAYER_STATE_SHADOW_ENTRY
    ((l.shd.map (·.entry)).getD 0) f
  s3.setF F.PRISM_LAYER_STATE_ACTIVE_ENTRY ((l.act.map (·.entry)).getD 0) f

/-- The preload of the entry for symbol `idx` begins (R138); by rule 3 the shadow takes the active entry at once.
Log entry 21 (DEDUCED). -/
def State.preloadBegin (s : State) (f idx : Nat) : State :=
  let l := s.layer f
  match s.chosen f idx with
  | some e => s.setLayer f { l with load := some e }
  | none => s.setLayer f { l with load := none, shd := l.act }

/-- A preload completes (R126, R138, R140).  `bad` names a 64-bit word of the entry whose read could not be corrected
(R472: the entry is invalid). -/
def State.preloadComplete (s : State) (f : Nat) (bad : Option Nat) : State :=
  let l := s.layer f
  match l.load with
  | none => s
  | some e =>
    let s0 := match bad with
      | some w => (s.bump F.FLT_ECC_COUNT_UNCORRECTED).ledger 0x28 (weightBase + e * 512 + 8 * w)
      | none => s
    let c := s.readEntry e
    if bad.isNone && c.valid (s.layDir f) then s0.setLayer f { l with load := none, shd := some c }
    else ((s0.setLayer f { l with load := none, shd := l.act }).bump F.PRISM_LAYER_COUNT_INVALID f).ledger 0x0E f e

/-- PRELOAD_COMPLETE (R138). -/
def execPreloadComplete (f : Fin 512) (bad : Option (Fin 64)) (s : State) : Out :=
  .next (s.core (s.preloadComplete f (bad.map (·.val))))

/-! ### Capacity (R146 to R150) -/

/-- The units a layer of direction `d` on carrier `c` costs: 4/r (R146). -/
def State.layerCost (s : State) (d c : Nat) : Nat := 4 / 2 ^ s.f F.PRISM_CAR_RATE d c

/-- The enabled layers of direction `d`. -/
def State.enabledLayers (s : State) (d : Nat) : List Nat :=
  idxWhere 512 (fun f => s.on F.PRISM_LAYER_CFG_LEN f && s.layDir f == d)

/-- PRISM.USED[d].UNITS. -/
def State.usedUnits (s : State) (d : Nat) : Nat :=
  (s.enabledLayers d).foldl (fun u f => u + s.layerCost d (s.layCar f)) 0

/-- The units in use on carrier `c` of direction `d`. -/
def State.carUnits (s : State) (d c : Nat) : Nat :=
  ((s.enabledLayers d).filter (fun f => s.layCar f == c)).foldl (fun u _ => u + s.layerCost d c) 0

/-- The direction's share of the Prism (R146, R148). -/
def State.dirShare (s : State) (d : Nat) : Nat :=
  if s.on F.PRISM_CFG_DUPLEX then
    (if d = 0 then 4 * s.f F.PRISM_CFG_SPLIT else 256 - 4 * s.f F.PRISM_CFG_SPLIT) else 256

/-- PRISM.USED is formed from the layers (R149). -/
def State.formUsed (s : State) : State :=
  (List.range 2).foldl (fun s d => (s.setF F.PRISM_USED_LAYERS (s.enabledLayers d).length d).setF
    F.PRISM_USED_UNITS (s.usedUnits d) d) s

/-- The layers of direction `d` that a pending LEN = 1 will enable at their Prism boundary. -/
def State.comingLayers (s : State) (d : Nat) : List Nat :=
  idxWhere 512 (fun f => !s.on F.PRISM_LAYER_CFG_LEN f && s.lastB F.PRISM_LAYER_CFG_LEN f 0 0 != 0 && s.layDir f == d)

/-- A further layer `f` of direction `d` on carrier `c` is within the capacity (R149); layers that a pending LEN = 1
will enable count as enabled. Log entry 20 (DEDUCED). -/
def State.prismFits (s : State) (d c f : Nat) : Bool :=
  let w := (s.comingLayers d).filter (· != f)
  let units (l : List Nat) : Nat := l.foldl (fun u g => u + s.layerCost d (s.layCar g)) 0
  decide (s.usedUnits d + units w + s.layerCost d c ≤ s.dirShare d) &&
  decide (s.carUnits d c + units (w.filter (fun g => s.layCar g == c)) + s.layerCost d c ≤ s.f F.PRISM_CAR_CAP_MAX d c) &&
  decide ((s.enabledLayers d).length + w.length + 1 ≤ 256)

/-- Layer `f` ceases to be enabled: its banks and its control queue empty, and nothing is counted; the spec does not say
what becomes of them.  Samples already in the Prism go out under their symbol's entry (R134). Log entry 21 (DEDUCED). -/
def State.layerOff (s : State) (f : Nat) : State :=
  let l := s.layer f
  (s.setLayer f
    { line := l.line
      tag := l.tag
      outgoing := if l.zero then none else l.act
      switched := s.elapsed }).formUsed

/-- The carrier of layer `f` is enabled and its Prism boundaries come: the Prism on and present, CEN = 1, its timeline
running. -/
def State.carRuns (s : State) (f : Nat) : Bool :=
  s.prismOn && !s.absent 16 && s.on F.PRISM_CAR_CEN (s.layDir f) (s.layCar f) && s.tlOn (s.layTl f)

/-- LEN of layer `f` takes a value at once. -/
def State.setLen (s : State) (f v : Nat) : State :=
  if v = 0 then (if s.on F.PRISM_LAYER_CFG_LEN f then (s.setF F.PRISM_LAYER_CFG_LEN 0 f).layerOff f else s)
  else (s.setF F.PRISM_LAYER_CFG_LEN 1 f).formUsed

/-- LEN of layer `f` is written: class B on the Prism boundary of its carrier, at once where the carrier is not enabled
(R16, R18). Log entry 20 (DEDUCED). -/
def State.writeLen (s : State) (f v : Nat) : State :=
  if s.enabled (.car (s.layDir f) (s.layCar f)) then s.shadowSet (F.PRISM_LAYER_CFG_LEN.key f 0 0) (.layer f) v
  else s.setLen f v

/-- The pending LEN of layer `f` takes effect: at its Prism boundary when written at least `margin` ticks before. -/
def State.landLen (s : State) (f margin : Nat) : State :=
  let s1 := s.commitShadow (.layer f) margin
  if s1.on F.PRISM_LAYER_CFG_LEN f = s.on F.PRISM_LAYER_CFG_LEN f then s1
  else if s1.on F.PRISM_LAYER_CFG_LEN f then s1.formUsed else s1.layerOff f

/-- A write of PRISM.LAYER_CFG[f] (R149): LEN = 1 is admitted by the DIR and CAR of the same write, and the preload of
its first symbol's entry begins at the write; LEN takes effect on the Prism boundary of the layer's carrier.
Log entries 20 (DEDUCED), 21 (DEDUCED). -/
def State.layerEnableWrite (s : State) (f v : Nat) : State :=
  let d := descOf .PRISM_LAYER_CFG
  let was := s.on F.PRISM_LAYER_CFG_LEN f
  let own := fun (c : ChClass) => s.ownerOf .PRISM_LAYER_CFG f 0 c
  let r := s.applyFields d.flds (fun lo => lo == 31) f 0 0 v own (fun c => s.enabled (own c))
  if bit v 31 then
    if was then
      let s1 := r.1.writeLen f 1
      if r.2 then s1.discarded (d.addr f 0 0) else s1
    else if r.1.prismFits (r.1.layDir f) (r.1.layCar f) f then
      let s1 := r.1.writeLen f 1
      s1.preloadBegin f (s1.nextCut f s1.now)
    else r.1.discarded (d.addr f 0 0)
  else
    let s1 := r.1.writeLen f 0
    if r.2 then s1.discarded (d.addr f 0 0) else s1

/-- A write of PRISM.CAR[d][c]; the units in use follow RATE (R146, R149). -/
def State.carWrite (s : State) (d c v : Nat) : State := (s.writeReg .PRISM_CAR v d c).formUsed

/-- LAYER_ENABLE_WRITE (R149). -/
def execLayerEnableWrite (f : Fin 512) (w : Word) (s : State) : Out :=
  s.regCmd (regAddr .PRISM_LAYER_CFG f) (s.layerEnableWrite f (w.toNat ||| 2 ^ 31))

/-! ### Control ranges (R136, R139) -/

/-- Symbol `idx` of layer `f` is computed: always in FDD; in TDD only where the plan marks it (R147). -/
def State.symMarked (s : State) (marked : Nat → Bool) (idx : Nat) : Bool := s.on F.PRISM_CFG_DUPLEX || marked idx

/-- A range reaches layer `f`'s queue.  `marked` tells the symbols computed for the layer's direction (R147).
Log entry 21 (DEDUCED). -/
def State.rangeAccept (s : State) (marked : Nat → Bool) (f frame sym count : Nat) (entry : Option Nat) : State :=
  if s.absent 16 then s
  else
    let k := s.layTl f
    let first := s.frameIdx k frame s.now * symPerFrame (s.mu k) + sym
    let nxt := s.nextCut f s.now
    let lateN := ((List.range count).filter (fun i => decide (first + i < nxt) && s.symMarked marked (first + i))).length
    let late (s : State) : State := if lateN = 0 then s else (s.bumpBy F.PRISM_LAYER_COUNT_LATE lateN f).ledger 0x0D f
    let l := s.layer f
    if first + count ≤ nxt then late s
    else if 8 ≤ l.queue.length then (s.bump F.PRISM_LAYER_COUNT_QFULL f).ledger 0x0C f
    else
      let r : BeamRange := ⟨max first nxt, first + count - max first nxt, entry⟩
      let s1 := late (s.setLayer f { l with queue := l.queue ++ [r] })
      if r.first ≤ nxt ∧ l.frozen = false ∧ s1.chosen f nxt ≠ s.chosen f nxt then s1.preloadBegin f nxt else s1

/-! ### Correction commits (R143 to R145) -/

/-- A write of PRISM.CORR_COMMIT. Log entry 78 (DEDUCED). -/
def State.corrCommitArm (s : State) (v : Nat) : State := if bit v 31 then s.armCommit else s
/-- CORR_COMMIT_ARM (R143). -/
def execCorrCommitArm (w : Word) (s : State) : Out :=
  s.regCmd (regAddr .PRISM_CORR_COMMIT) (s.corrCommitArm (w.toNat ||| 2 ^ 31))

/-- The reference advance of R143. -/
def State.refAdvance (s : State) : Nat :=
  if s.on F.PRISM_CAR_CEN 0 0 then s.txAdvance 0 else if s.on F.PRISM_CAR_CEN 0 1 then s.txAdvance 1 else 96

/-- Remember the vectors in use before a copy. -/
def State.keepCorr (s : State) (air : Nat) : State :=
  let one (d : Nat) (m : SMap Nat) (a : Nat) : SMap Nat :=
    SMap.set 0 m (64 * d + a) (s.f F.PRISM_CORR_ACT_I d a * 65536 + s.f F.PRISM_CORR_ACT_Q d a)
  { s with prism := { s.prism with
      oldCorr := (List.range 2).foldl (fun m d => (List.range 64).foldl (one d) m) []
      corrAir := air } }

/-- The armed commit lands at the Prism transmit boundary of a frame boundary whose cut-off came at least 4 CLK_PRISM
cycles (2 ticks) after the arming (R143). -/
def State.corrCommitLand (s : State) : State :=
  let k := s.f F.PRISM_CFG_TL
  let air := s.now + s.refAdvance
  if s.on F.PRISM_CORR_COMMIT_ARMED && s.prismOn && s.tlOn k && s.isFrame k air &&
      decide (s.prism.armedAt + 2 + cutoffTicks ≤ s.elapsed) then ((s.keepCorr air).copyCorr).mirLanded
  else s

/-- CORR_COMMIT_LAND (R143). -/
def execCorrCommitLand (s : State) : Out := .next (s.core s.corrCommitLand)

/-- A firmware write of PRISM.CORR_PEND (R144). -/
def State.corrPendWrite (s : State) (d a v : Nat) : State :=
  if s.on F.PRISM_CORR_COMMIT_ARMED then s.discarded (regAddr .PRISM_CORR_PEND d a)
  else s.writeReg .PRISM_CORR_PEND v d a

/-- CORR_PEND_WRITE (R144). -/
def execCorrPendWrite (d : Fin 2) (a : Fin 64) (w : Word) (s : State) : Out :=
  s.regCmd (regAddr .PRISM_CORR_PEND d a) (s.corrPendWrite d a w.toNat)

/-- The turnaround sum of R147 holds for every pair of enabled carriers. -/
def State.turnaroundOk (s : State) : Bool :=
  (List.range 2).all (fun c => (List.range 2).all (fun e =>
    !(s.on F.PRISM_CAR_CEN 0 c && s.on F.PRISM_CAR_CEN 1 e) || decide (s.targetTx c + 96 + s.targetRx e + 96 ≤ 598)))

/-- The layers with a pending LEN. -/
def State.pendingLayers (s : State) : List Nat :=
  s.shadow.filterMap (fun e => match e.2.owner with
    | .layer f => some f
    | _ => none)

/-- Every carrier's pending class B values and every layer's pending LEN take effect (R18). -/
def State.flushCars (s : State) : State :=
  s.pendingLayers.foldl (fun s f => s.landLen f 0)
    ((((s.flushShadow (.car 0 0)).flushShadow (.car 0 1)).flushShadow (.car 1 0)).flushShadow (.car 1 1))

/-- A write of PRISM.CFG (R31, R145, R147, R194). Log entry 11 (DEDUCED). -/
def State.prismEnableWrite (s : State) (v : Nat) : State :=
  let d := descOf .PRISM_CFG
  let own := fun (c : ChClass) => s.ownerOf .PRISM_CFG 0 0 c
  let r := s.applyFields d.flds (fun lo => lo == 31) 0 0 0 v own (fun c => s.enabled (own c))
  if bit v 31 then
    let ok := s.prismOn ||
      (r.1.allRun r.1.prismFollows && (r.1.on F.PRISM_CFG_DUPLEX || r.1.turnaroundOk))
    let s1 := if ok then r.1.setF F.PRISM_CFG_EN 1 else r.1
    if r.2 || !ok then s1.discarded (d.addr 0 0 0) else s1
  else
    let s1 := ((r.1.setF F.PRISM_CFG_EN 0).flushCars).mirAbort
    let s2 := if s1.on F.PRISM_CORR_COMMIT_ARMED then s1.copyCorr.mirLanded else s1
    if r.2 then s2.discarded (d.addr 0 0 0) else s2

/-- PRISM_ENABLE_WRITE (R147). -/
def execPrismEnableWrite (w : Word) (s : State) : Out :=
  s.regCmd (regAddr .PRISM_CFG) (s.prismEnableWrite w.toNat)

/-! ### What the Prism computes (R127 to R131) -/

/-- R of R129: shift by 23 + SHIFT with rounding, saturate to 24 bits. -/
def prismRound (x : Int × Int) (shift : Nat) : (Int × Int) × Bool := stageOut x (23 + shift)

/-- The correction product of R130: Q2.14, rounded by 2^13, shifted by 14, saturated. -/
def corrMul (k x : Int × Int) : (Int × Int) × Bool := stageOut (cmul k x) 14

/-- The air boundary of the frame at which the armed commit lands (R143): the first whose Prism transmit cut-off is at
least 4 CLK_PRISM cycles (2 ticks) after the arming. -/
def State.commitAir (s : State) : Nat :=
  frameCeil (s.off (s.f F.PRISM_CFG_TL)) (s.now - (s.elapsed - s.prism.armedAt) + 2 + cutoffTicks + s.refAdvance)

/-- The correction of antenna `a` of carrier `c` in direction `d` for air time `t` (R143): the old vector until the
carrier's first symbol whose air boundary is at or after the commit's frame boundary, and the new one from there on,
be the copy made or still to come. -/
def State.corrAt (s : State) (d c a t : Nat) : Int × Int :=
  let b := s.airFloor (s.f F.PRISM_CAR_TL d c) t
  if s.on F.PRISM_CORR_COMMIT_ARMED && s.prismOn && s.tlOn (s.f F.PRISM_CFG_TL) && decide (s.commitAir ≤ b) then
    (sext 16 (s.f F.PRISM_CORR_PEND_I d a), sext 16 (s.f F.PRISM_CORR_PEND_Q d a))
  else if b < s.prism.corrAir then
    let v := SMap.get 0 s.prism.oldCorr (64 * d + a)
    (sext 16 (v / 65536), sext 16 v)
  else (sext 16 (s.f F.PRISM_CORR_ACT_I d a), sext 16 (s.f F.PRISM_CORR_ACT_Q d a))

/-- A stream of carrier ratio `r`, newest sample first, as it stood L_PT or L_PR and `dly` 1/64 ticks before its newest
sample: whole samples as they are, the rest by the interpolator, whose gain is 1, rounded to 24 bits (R131, R132).
Log entry 17 (UNVERIFIED). -/
def delayed (r : Nat) (line : List (Int × Int)) (dly : Nat) : Int × Int :=
  (stageOut (fracDelay (32 + r) (dly % (64 * r)) (64 * r) (line.drop (prismLatency / r + dly / (64 * r) - 3))) 22).1

/-- Mark a saturation of PRISM.SAT. -/
def State.prismSat (s : State) (x : Fld) (d c : Nat) (b : Bool) : State := if b then s.setB x (2 * d + c) else s

/-- The layers of carrier `c` whose samples may still be in the Prism: those enabled, and one that has just ceased to be
(R132, R134). -/
def State.layersOn (s : State) (d c : Nat) : List Nat :=
  idxWhere 512 (fun f => s.layDir f == d && s.layCar f == c &&
    (s.on F.PRISM_LAYER_CFG_LEN f || (!(s.layer f).outgoing.isNone && decide (s.elapsed < (s.layer f).switched + 160))))

/-- What layer `f` contributes to antenna `a` (R127, R134): the samples of the symbol in hand under its own entry, and
for up to the antenna's delay after its first the last samples of the symbol before under theirs. -/
def State.layerTerm (s : State) (f a : Nat) : Int × Int :=
  let l := s.layer f
  let r := 2 ^ s.f F.PRISM_CAR_RATE 0 (s.layCar f)
  let fresh (b : BeamCopy) : Bool := decide (64 * prismLatency + b.delay a ≤ 64 * (s.elapsed - l.switched))
  let cur := match l.act with
    | some b => if !l.zero && fresh b then cmul (b.weight a) (delayed r l.line (b.delay a)) else (0, 0)
    | none => (0, 0)
  let old := match l.outgoing with
    | some b => if fresh b then (0, 0) else cmul (b.weight a) (delayed r l.line (b.delay a))
    | none => (0, 0)
  addC cur old

/-- The transmit sum for antenna `a` of carrier `c` over its layers. -/
def State.txSum (s : State) (c a : Nat) : Int × Int := sumC ((s.layersOn 0 c).map (fun f => s.layerTerm f a))

/-- One sample time of transmit carrier `c` (R127, R132): layer samples in, and 64 antenna samples of L_PT ago to stage D,
each with the correction of its air time. -/
def State.prismTxTick (s : State) (c : Nat) (xs : List (Nat × (Int × Int))) : State :=
  let s1 := (s.layersOn 0 c).foldl (fun s f =>
    let l := s.layer f
    let x := ((xs.find? (fun e => e.1 == f)).map (·.2)).getD (0, 0)
    s.setLayer f { l with line := (x :: l.line).take 168 }) s
  (List.range 64).foldl (fun s a =>
    let r := prismRound (s1.txSum c a) (s1.f F.PRISM_CAR_SHIFT 0 c)
    let k := corrMul (s1.corrAt 0 c a (s1.now + s1.targetTx c)) r.1
    ((s.prismSat F.PRISM_SAT_SUM 0 c r.2).prismSat F.PRISM_SAT_CORR 0 c k.2).txIn a c k.1) s1

/-- The entry that the sample leaving receive layer `f` now is formed with: its own symbol's (R134). -/
def State.leaving (s : State) (f : Nat) : Option BeamCopy :=
  let l := s.layer f
  if s.elapsed < l.switched + prismLatency then l.outgoing else if l.zero then none else l.act

/-- The tag of the symbol whose first layer sample leaves receive layer `f` now (R34, R135). -/
def State.layerTag (s : State) (f : Nat) : Tag :=
  let k := s.layTl f
  let a := s.layAir f s.now - prismLatency
  let b := (s.layer f).act
  { tl := k
    frame := s.frameNo k a
    symbol := s.symNo k a
    entry := (b.map (·.entry)).getD 0
    gen := (b.map BeamCopy.gen).getD 0
    key := (b.map BeamCopy.key).getD 0 }

/-- The sum of R128 for receive layer `f` of carrier `c` under entry `b`. -/
def State.rxSum (s : State) (c : Nat) (b : BeamCopy) : Int × Int :=
  sumC ((List.range 64).map (fun a => cmul (b.weight a)
    (delayed (2 ^ s.f F.PRISM_CAR_RATE 1 c) (SMap.get [] s.prism.rxLines (64 * c + a)) (b.delay a))))

/-- One sample time of receive carrier `c` (R128, R132): the aligned antenna streams, corrected, in, and the layers'
samples of L_PR ago out; a layer forms nothing in a symbol that is not its direction's (R147). -/
def State.prismRxTick (s : State) (c : Nat) : State :=
  let s1 := (List.range 64).foldl (fun s a =>
    let v := SMap.get (0, 0) (s.rxp a).out (6 + c)
    let k := corrMul (s.corrAt 1 c a (s.now - s.targetRx c)) v
    let line := (k.1 :: SMap.get [] s.prism.rxLines (64 * c + a)).take 168
    { (s.prismSat F.PRISM_SAT_CORR 1 c k.2) with
      prism := { s.prism with rxLines := SMap.set [] s.prism.rxLines (64 * c + a) line } }) s
  (s1.layersOn 1 c).foldl (fun s f =>
    let l := s.layer f
    let r := match s.leaving f with
      | some b => prismRound (s1.rxSum c b) (s1.f F.PRISM_CAR_SHIFT 1 c)
      | none => ((0, 0), false)
    let tag := if s.elapsed = l.switched + prismLatency then s.layerTag f else l.tag
    (s.prismSat F.PRISM_SAT_SUM 1 c r.2).setLayer f { l with line := [r.1], tag := tag }) s1

end Sys2Proof.Machine
end

