-- ==== Sys2Proof/Machine/Flow.lean ====
section
/-!
DEFINITION. Sys2Proof/Machine/Flow.lean: flows of chapter 8: contexts, charges, the frame plan, progress and abandoned
symbols, and the placement log.
-/
namespace Sys2Proof.Machine

/-! ### Symbols by running number -/

/-- Length of symbol 0 of a timeline of numerology `mu`, in ticks (R208). -/
def n0 (mu : Nat) : Nat := 256 + symTicks mu

/-- Frame number of symbol `idx` of timeline `k`. -/
def State.idxFrame (s : State) (k idx : Nat) : Nat :=
  (idx / symPerFrame (s.mu k) + 1023 + s.f F.SYS_TL_CFG_FN_BASE k) % 1024

/-- Symbol number within its frame. -/
def State.idxSym (s : State) (k idx : Nat) : Nat := idx % symPerFrame (s.mu k)

/-- Air boundary of symbol `idx` of timeline `k`. -/
def State.airOf (s : State) (k idx : Nat) : Nat :=
  let m := s.mu k
  let y := idx % symPerFrame m
  idx / symPerFrame m * frameTicks + y / symPerHalf m * halfTicks + symStart m (y % symPerHalf m) + s.off k - frameTicks

/-- Length of symbol `idx` in ticks. -/
def State.lenOf (s : State) (k idx : Nat) : Nat :=
  if idx % symPerHalf (s.mu k) = 0 then n0 (s.mu k) else symTicks (s.mu k)

/-! ### Contexts (R201 to R205) -/

def State.fType (s : State) (f : Nat) : Nat := s.f F.FLW_CTRL_TYPE f
def State.fTl (s : State) (f : Nat) : Nat := s.f F.FLW_CTRL_TL f
def State.fClass (s : State) (f : Nat) : Nat := s.f F.FLW_CTRL_CLASS f
def State.fState (s : State) (f : Nat) : Nat := s.f F.FLW_STATUS_STATE f
/-- An IQ flow; its direction is its TYPE. -/
def State.isIq (s : State) (f : Nat) : Bool := decide (s.fType f ≤ 1)
/-- The flow carries packets from the partner to the device (R201); a management flow carries both ways. -/
def State.inbound (s : State) (f : Nat) : Bool := s.fType f == 0 || s.fType f == 2 || s.fType f == 3

/-- The flow carries traffic of air time `a`: its start symbol is at or before it (R211). -/
def State.carries (s : State) (f a : Nat) : Bool := (s.flow f).start.any (fun b => decide (b ≤ a))

/-- Flows in state `st`, rising. -/
def State.flowsIn (s : State) (st : Nat) : List Nat := idxWhere 512 (fun f => s.fState f == st)

/-- Decimation ratio r of an IQ flow's carrier (R146). -/
def State.fRatio (s : State) (f : Nat) : Nat := 2 ^ s.f F.PRISM_CAR_RATE (s.fType f) (s.layCar f)

/-- Mantissa width of a code (R205). Log entry 66 (DESIGN CHOICE). -/
def mantBits (c : Nat) : Nat := [8, 9, 12, 14, 16].getD c 16

/-- The lane charge of R205, in Mbit/s. -/
def State.chargeOf (s : State) (f : Nat) : Nat :=
  if s.isIq f then
    cdiv (49152 * (8 * mantBits (s.f F.FLW_CTRL_MANT f) + 1) * (256 + s.f F.PLC_CFG_OVH)) (100 * s.fRatio f * 1024)
  else s.f F.FLW_DEMAND_RATE_MBPS f

/-- Buffer pages of R208. -/
def State.pagesOf (s : State) (f : Nat) : Nat :=
  if s.isIq f then cdiv (s.f F.FLW_LIMITS_DEPTH f * n0 (s.mu (s.fTl f)) * 6) (4 * s.fRatio f * 4096)
  else s.f F.FLW_LIMITS_DEPTH f

/-- FLW[f].PLACE as a placement, and back. -/
def State.place (s : State) (f : Nat) : Place :=
  { port := s.f F.FLW_PLACE_PORT f
    lanes := s.f F.FLW_PLACE_LANES f
    eng := s.f F.FLW_PLACE_ENGINE f
    engV := s.on F.FLW_PLACE_ENG_VALID f
    pages := s.f F.FLW_PLACE_BUF_PAGES f
    page := s.f F.FLW_PLACE_BUF_PAGE f }
def State.setPlace (s : State) (f : Nat) (p : Place) : State :=
  (((((s.setF F.FLW_PLACE_PORT p.port f).setF F.FLW_PLACE_LANES p.lanes f).setF F.FLW_PLACE_ENGINE p.eng f).setF
    F.FLW_PLACE_ENG_VALID (b2n p.engV) f).setF F.FLW_PLACE_BUF_PAGES p.pages f).setF F.FLW_PLACE_BUF_PAGE p.page f

/-- The flow's latest decided port or lane move: its effective symbol, the placement before it and the one from it. -/
def State.moveAt (s : State) (f : Nat) : Option (Nat × Place × Place) :=
  match (s.flow f).move with
  | some m => m.at_.map (fun e => (e, s.place f, m.to_))
  | none => (s.flow f).oldExt.map (fun o => (o.1, o.2, s.place f))

/-- The placement a flow is charged for: that of its pending move, else the one in effect. Log entry 28 (DEDUCED). -/
def State.aimed (s : State) (f : Nat) : Place := ((s.flow f).move.map (·.to_)).getD (s.place f)

/-- The placement that carries symbol `air` of a flow: the move applies from E and from no other symbol (R219, R220). -/
def State.placeAt (s : State) (f air : Nat) : Place :=
  match (s.flow f).move with
  | some m => if m.at_.any (fun e => decide (e ≤ air)) then m.to_ else s.place f
  | none => ((s.flow f).oldExt.bind (fun o => if air < o.1 then some o.2 else none)).getD (s.place f)

/-- Ports `p` and `q` are equivalent (R212). -/
def State.equivalent (s : State) (p q : Nat) : Bool :=
  p == q || (bit (s.f F.PLC_EQUIV_EQ) (4 * p + q) && bit (s.f F.PLC_EQUIV_EQ) (4 * q + p))

/-! ### Frame plan (R223, R224) -/

/-- The plan of the frame that holds air time `t`. -/
def State.planAt (s : State) (t : Nat) : Option FramePlan :=
  s.plc.plans.find? (fun p => decide (p.start ≤ t) && decide (t < p.start + frameTicks))

/-- The pattern code of symbol `y` of timeline `k` in a plan. -/
def FramePlan.code (p : FramePlan) (k y : Nat) : Nat :=
  let x := F.PLC_PATTERN_CODES
  bits (SMap.get 0 p.codes (x.key (bits p.bank k 1) k (y / 16)) ^^^ x.reset 0 0) (2 * (y % 16)) 2

/-- Tile `t` holds an enabled path with carrier `c` of direction `d` enabled. -/
def State.tileCarries (s : State) (t d c : Nat) : Bool :=
  (tilePaths t).any (fun n =>
    if d = 0 then s.txOn n && s.on F.TXP_DUC_CEN n c else s.rxOn n && s.on F.RXP_DDC_CEN n c)

/-- The code of the pattern claims direction `d` for a tile of the given duplex mode: a TDD tile treats 3 as guard. -/
def codeClaims (code d : Nat) (fdd : Bool) : Bool := code == d + 1 || (code == 3 && fdd)

/-- Tile `t` is claimed for direction `d` in the symbol at air time `a` (R223). -/
def State.claimed (s : State) (t d a : Nat) : Bool :=
  let k := s.tileTl t
  match s.planAt a with
  | some p => codeClaims (p.code k (s.symNo k a)) d (!s.tdd t) &&
      p.flows.any (fun e => s.fType e.1 == d && decide (e.2 ≤ a) && s.tileCarries t d (s.layCar e.1))
  | none => false

/-- The starts of the symbols of timeline `k` that meet the span from `a` to before `e`, at most `n`, from `a` on. -/
def State.symsWithin (s : State) (k e : Nat) : Nat → Nat → List Nat
  | 0, _ => []
  | n + 1, a => if a < e then a :: State.symsWithin s k e n (s.nextAir k a) else []

/-- The carrier symbol at air time `a` is marked for direction `d` of carrier `c` (R147): the plan claims for it, in some
tile symbol that meets it, a tile that carries it; in FDD every symbol is computed. -/
def State.marked (s : State) (d c a : Nat) : Bool :=
  s.on F.PRISM_CFG_DUPLEX || (List.range 16).any (fun t => s.tileCarries t d c &&
    (s.symsWithin (s.tileTl t) (s.nextAir (s.f F.PRISM_CAR_TL d c) a) 9 a).any (fun b => s.claimed t d b))

/-- No tile is claimed in any symbol of its own that meets the symbol of timeline `k` at air time `a`: a guard symbol (R193). -/
def State.guardSym (s : State) (k a : Nat) : Bool :=
  (List.range 16).all (fun t =>
    (s.symsWithin (s.tileTl t) (s.nextAir k a) 9 a).all (fun b => !s.claimed t 0 b && !s.claimed t 1 b))

/-- Lay out the plan of the frame that starts at `at_` from the pattern, the banks and the active IQ flows now; plans of
ended frames stay as far back as a control range may name symbols (R139, R243). Log entry 32 (DEDUCED). -/
def State.planFrame (s : State) (at_ : Nat) : State :=
  let x := F.PLC_PATTERN_CODES
  let codes := s.regs.filter (fun e => decide (x.key 0 0 0 ≤ e.1) && decide (e.1 ≤ x.key 1 3 69))
  let fl := ((s.flowsIn 2).filter s.isIq).filterMap (fun f => (s.flow f).start.map (fun a => (f, a)))
  let p : FramePlan := { start := at_, codes := codes, bank := s.f F.PLC_PAT_SEL_BANK, flows := fl }
  { s with plc := { s.plc with
      plans := (s.plc.plans.filter (fun q => decide (s.now < q.start + 514 * frameTicks) && q.start != at_)) ++ [p] } }

/-! ### Buffers (R208, R238, R244) and the jobs of symbols (R314) -/

/-- Samples of symbol `idx` (R238). -/
def State.symSamples (s : State) (f idx : Nat) : Nat := s.lenOf (s.fTl f) idx / s.fRatio f

/-- Packets of `n` samples (R238). -/
def packetsOf (n : Nat) : Nat := cdiv n 1024

/-- The flow runs a kernel on an engine (R207). -/
def State.usesEngine (s : State) (f : Nat) : Bool := s.f F.FLW_DEMAND_KERNEL f != 0

/-- Where the job of symbol `idx` stands: 0 none, 1 due, 2 queued or running, 3 ended, 4 aborted. -/
def State.jobOf (s : State) (f idx : Nat) : Nat := SMap.get 0 (s.flow f).jobs idx
def State.setJob (s : State) (f idx v : Nat) : State :=
  s.setFlow f { s.flow f with jobs := SMap.set 0 (s.flow f).jobs idx v }

/-- Every packet of symbol `idx` has been accepted into the buffer. -/
def State.allGot (s : State) (f idx : Nat) : Bool :=
  (List.range (packetsOf (s.symSamples f idx))).all (fun i => (s.flow f).got.contains (idx, i))

/-- Every sample of symbol `idx` of flow `f` is in its buffer, and its job has ended where it has one (R142, R314). -/
def State.symComplete (s : State) (f idx : Nat) : Bool :=
  s.allGot f idx && (!s.usesEngine f || s.jobOf f idx == 3)

/-- The address of sample `q` of symbol `idx` in the extent of placement `p`: the extent holds the flow's samples in time order and wraps (R208; the
place of a sample within the extent is a choice of the model). Log entry 31 (DESIGN CHOICE). -/
def State.extentAddr (s : State) (f : Nat) (p : Place) (idx q : Nat) : Nat :=
  let k := s.fTl f
  0x20000000 + p.page * 4096 + (tlPhase (s.off k) (s.airOf k idx) / s.fRatio f + q) % max 1 (p.pages * 4096 / 6) * 6

/-- The address of sample `q` of symbol `idx` in the extent that carries the symbol (R220). Log entry 31 (DESIGN CHOICE). -/
def State.bufAddr (s : State) (f idx q : Nat) : Nat := s.extentAddr f (s.placeAt f (s.airOf (s.fTl f) idx)) idx q

/-- A packed complex sample at an address: 24-bit I, then 24-bit Q (R208). Log entry 31 (DESIGN CHOICE). -/
def State.sampleAt (s : State) (a : Nat) : Int × Int := (sext 24 (s.readLE a 3), sext 24 (s.readLE (a + 3) 3))
def State.putSample (s : State) (a : Nat) (x : Int × Int) : State :=
  (s.writeLE a 3 (trunc 24 x.1)).writeLE (a + 3) 3 (trunc 24 x.2)

/-- Write samples of symbol `idx` from sample `q` on. -/
def State.bufPut (s : State) (f idx q : Nat) : List (Int × Int) → State
  | [] => s
  | x :: xs => State.bufPut (s.putSample (s.bufAddr f idx q) x) f idx (q + 1) xs

/-- The samples the Prism reads now for transmit carrier `c` (R127): one of each enabled layer, at the layer's place in
its symbol.  `bad` names flows whose word could not be corrected: those samples read zero (R472). -/
def State.prismRead (s : State) (c : Nat) (bad : List Nat) : List (Nat × (Int × Int)) :=
  ((s.enabledLayers 0).filter (fun f => s.layCar f == c)).map (fun f =>
    let k := s.layTl f
    let a := s.now + s.txAdvance c
    let idx := s.symIdx k a
    let q := (a - s.airFloor k a) / s.fRatio f
    (f, if bad.contains f then (0, 0) else s.sampleAt (s.bufAddr f idx q)))

/-- One sample time of transmit carrier `c`, layer samples from the flow buffers. -/
def State.prismTxStep (s : State) (c : Nat) (bad : List Nat) : State :=
  let xs := s.prismRead c bad
  let s1 := bad.foldl (fun s f => (s.bump F.FLT_ECC_COUNT_UNCORRECTED).ledger 0x28
    (s.bufAddr f (s.symIdx (s.layTl f) (s.now + s.txAdvance c)) 0 / 8 * 8)) s
  s1.prismTxTick c xs

/-- Receive layer `f`'s sample, of the ball time of R133, goes to its flow's buffer from the start symbol on (R22, R147,
R211); the last one of a symbol makes a job due (R314). -/
def State.rxStore (s : State) (f : Nat) : State :=
  let k := s.layTl f
  let a := s.layAir f s.now - prismLatency
  let idx := s.symIdx k a
  let q := (a - s.airFloor k a) / s.fRatio f
  let l := s.layer f
  let x := s.flow f
  if x.running && x.start.all (fun t => decide (t ≤ a)) && s.fState f == 2 && s.marked 1 (s.layCar f) (s.airFloor k a) then
    let rx := if q = 0 then x.rxIn ++ [(idx, 1)] else x.rxIn.map (fun e => if e.1 = idx then (idx, q + 1) else e)
    let s1 := (s.bufPut f idx q [l.line.headD (0, 0)]).setFlow f { x with rxIn := rx }
    if q + 1 = s.symSamples f idx ∧ s.usesEngine f then s1.setJob f idx 1 else s1
  else s

/-- One sample time of receive carrier `c`. -/
def State.prismRxStep (s : State) (c : Nat) : State :=
  let s1 := s.prismRxTick c
  ((s1.enabledLayers 1).filter (fun f => s1.layCar f == c)).foldl State.rxStore s1

/-! ### Placement log (R227) -/

/-- A placement as a FROM or TO word. -/
def Place.word (p : Place) : Nat := p.port * 2 ^ 30 + p.lanes * 2 ^ 26 + p.eng * 2 ^ 22 + b2n p.engV * 2 ^ 21 + p.page * 2 ^ 9

/-- The words of a record (R227): FRAME and SYMBOL where it names a symbol, the low bits of EPOCH.COUNT, and the bits of
`v` in every part that R227 gives no meaning in a record of its kind. Log entry 81 (DESIGN CHOICE). -/
def LogRec.words (r : LogRec) (e : Option (Nat × Nat)) (count v : Nat) : List Nat :=
  let k := r.kind
  let fs := e.getD (bits v 0 10, bits v 10 11)
  let cls := if k = 8 then bits v 21 2 else r.cls
  let reason := if k = 1 ∨ k = 6 ∨ k = 8 ∨ k = 9 then bits v 23 8 else r.reason
  let event := if k = 9 then bits v 31 1 else b2n r.event
  let from_ := if k = 1 ∨ k = 2 ∨ k = 6 ∨ k = 8 then bits v 32 23 * 2 ^ 9 else r.from_
  let to_ := if k = 2 ∨ k = 4 ∨ k = 5 ∨ k = 7 then bits v 55 23 * 2 ^ 9
    else if k = 9 then bits v 78 16 * 2 ^ 16 + r.to_ else r.to_
  [k * 2 ^ 28 + cls * 2 ^ 26 + reason * 2 ^ 16 + r.fid, event * 2 ^ 31 + fs.1 * 2 ^ 21 + fs.2 * 2 ^ 10, from_ + count, to_]

/-- Write a record into the ring of R227. Log entry 81 (DESIGN CHOICE). -/
def State.writeRec (s : State) (r : LogRec) (e : Option (Nat × Nat)) : State :=
  let i := s.f F.PLC_LOG_HEAD_HEAD
  let ring := 256 * 2 ^ s.f F.PLC_LOG_BASE_SIZE
  let a := 0x20000000 + s.f F.PLC_LOG_BASE_ADDR / 4096 * 4096 + i % ring * 16
  let v := s.fresh 0xB0
  (v.2.writeWords a (r.words e (s.f F.PLC_EPOCH_COUNT % 512) v.1)).setF F.PLC_LOG_HEAD_HEAD ((i + 1) % 2 ^ 32)

/-- A record with its FRAME and SYMBOL as they stand at the end of the walk. -/
def State.writeRecNow (s : State) (r : LogRec) : State :=
  let k := s.fTl r.fid
  let at_ (a : Option Nat) : Option (Nat × Nat) := a.map (fun t => (s.frameNo k t, s.symNo k t))
  match r.eff with
  | .none => s.writeRec r none
  | .start => s.writeRec r (at_ (s.flow r.fid).start)
  | .move => s.writeRec r (at_ ((s.flow r.fid).move.bind (·.at_)))
  | .sym fr sy => s.writeRec r (some (fr, sy))

/-- A record of the walk in hand waits for its end. -/
def State.record (s : State) (r : LogRec) : State := { s with plc := { s.plc with recs := s.plc.recs ++ [r] } }

/-! ### Progress and abandoned symbols (R225, R226) -/

/-- The timeline of a flow's progress: its own for an IQ flow, else that of the placement engine (R225). -/
def State.progTl (s : State) (f : Nat) : Nat := if s.isIq f then s.fTl f else s.f F.PLC_CFG_TL

/-- AHEAD follows the last symbols started and delivered. -/
def State.setAhead (s : State) (f : Nat) : State :=
  let x := s.flow f
  match x.started, x.delivered with
  | some a, some d => s.setF F.FLW_PROGRESS_AHEAD (min 511 (a - d)) f
  | _, _ => s

/-- The flow starts symbol `idx`, whose last sample crosses the balls at `endAir` (transmit). Log entry 30 (DEDUCED). -/
def State.flowStarted (s : State) (f idx endAir : Nat) : State :=
  let x := s.flow f
  (s.setFlow f { x with started := some idx, inflight := x.inflight ++ [(idx, endAir)] }).setAhead f

/-- The record of the symbols abandoned since the last delivery (R226, R227). -/
def State.abandonRec (s : State) (f : Nat) : State :=
  let x := s.flow f
  if x.abCount = 0 then s
  else
    let k := s.progTl f
    let r : LogRec :=
      { kind := 9
        cls := s.fClass f
        reason := 0
        fid := f
        event := false
        eff := .none
        from_ := (s.place f).word
        to_ := min 65535 x.abCount }
    (s.writeRec r (some (s.idxFrame k x.abFirst, s.idxSym k x.abFirst))).setFlow f { x with abCount := 0, abFirst := 0 }

/-- Symbol `idx` of the flow is delivered whole; PROGRESS never claims more (R225, R473). -/
def State.flowDelivered (s : State) (f idx : Nat) : State :=
  let k := s.progTl f
  let x := s.flow f
  let s1 := ((s.setF F.FLW_PROGRESS_VALID 1 f).setF F.FLW_PROGRESS_FRAME (s.idxFrame k idx) f).setF F.FLW_PROGRESS_SYMBOL
    (s.idxSym k idx) f
  ((s1.setFlow f { x with
    delivered := some idx
    inflight := x.inflight.filter (fun e => e.1 != idx)
    left := SMap.erase x.left idx }).setAhead f).abandonRec f

/-- Some of symbol `idx` of the flow has been delivered: a sample has crossed the balls (transmit), or a packet has left
(R225, R226). -/
def State.partOut (s : State) (f idx : Nat) : Bool :=
  if s.fType f = 0 then decide (s.airOf (s.fTl f) idx < s.now) else SMap.get 0 (s.flow f).left idx != 0

/-- Symbol `idx` of the flow is abandoned; PARTIAL where it is the first and any of it was delivered (R226). -/
def State.abandon (s : State) (f idx : Nat) : State :=
  let x := s.flow f
  let part := s.partOut f idx
  let s1 := s.setFlow f { x with
    inflight := x.inflight.filter (fun e => e.1 != idx)
    left := SMap.erase x.left idx
    abFirst := if x.abCount = 0 then idx else x.abFirst
    abCount := x.abCount + 1 }
  let s2 := if part && x.abCount == 0 then s1.setF F.FLW_PROGRESS_PARTIAL 1 f else s1
  (s2.bump F.FLW_COUNT_ABANDONED f).ledger 0x1C f

/-- The packets of flow `f` still queued at port `p` are not sent (R226); a posted response among them is over. -/
def State.dropQueued (f : Nat) (s : State) (p : Nat) : State :=
  let q := s.port p
  let s1 := s.setPort p { q with outq := q.outq.filter (fun m => m.flow != some f) }
  (q.outq.filter (fun m => m.flow == some f)).foldl (fun s m =>
    match m.posted with
    | some r => s.setF F.LNK_MGMT_POST_BUSY 0 r
    | none => s) s1

/-- A packet of flow `f` that lane `l` has begun leaves whole, and delivers no symbol. -/
def State.deadSending (f : Nat) (s : State) (l : Nat) : State :=
  match (s.lane l).cur with
  | some c => if c.pkt.flow = some f then s.setLane l { s.lane l with cur := some { c with pkt := { c.pkt with dead := true } } } else s
  | none => s

/-- Every symbol the flow has started is abandoned, and nothing of it is sent any more. Log entry 29 (DEDUCED). -/
def State.abandonAll (s : State) (f : Nat) : State :=
  let x := s.flow f
  let s1 := x.inflight.foldl (fun s e => s.abandon f e.1) s
  let s2 := (List.range 16).foldl (State.deadSending f) ((List.range 4).foldl (State.dropQueued f) s1)
  s2.setFlow f { s2.flow f with rxIn := [], rxPkt := 0, rxBad := false, capBusy := false, left := [] }

/-- Transmit symbols of the flow whose last sample crosses the balls now are delivered (R225). Log entry 30 (DEDUCED). -/
def State.flowTick (s : State) (f : Nat) : State :=
  if s.fType f = 0 then
    ((s.flow f).inflight.filter (fun e => decide (e.2 ≤ s.now))).foldl (fun s e => s.flowDelivered f e.1) s
  else s

/-! ### Leaving the active state (R202, R203, R216, R218, R222) -/

/-- The layer of an IQ flow stops: LEN falls on its Prism boundary, or at once where the layer does not run; ranges
still queued are dropped and counted (R202, R222). Log entries 20 (DEDUCED), 29 (DEDUCED). -/
def State.layerStop (s : State) (f : Nat) : State :=
  if s.isIq f then
    let l := s.layer f
    let s1 := (s.bumpBy F.FLW_COUNT_DROPPED l.queue.length f).setLayer f { l with queue := [] }
    s1.writeLen f 0
  else s

/-- A pending move is cancelled (R222): logged as MOVE with reason 7. Log entry 29 (DEDUCED). -/
def State.cancelMove (s : State) (f : Nat) : State :=
  match (s.flow f).move with
  | none => s
  | some m =>
    let r : LogRec :=
      { kind := 3
        cls := s.fClass f
        reason := 7
        fid := f
        event := true
        eff := .none
        from_ := (s.place f).word
        to_ := m.to_.word }
    let s1 := s.writeRec r (m.at_.map (fun t => (s.frameNo (s.fTl f) t, s.symNo (s.fTl f) t)))
    (s1.setFlow f { s1.flow f with move := none }).setF F.FLW_STATUS_MOVE_PEND 0 f

/-- The flow gives up its lanes, engine, buffer and Prism units. -/
def State.dropResources (s : State) (f : Nat) : State :=
  let s1 := ((s.abandonAll f).layerStop f).setPlace f {}
  (s1.setFlow f { s1.flow f with start := none, owed := false, running := false, move := none, oldExt := none, got := [], jobs := [] }).setF
    F.FLW_STATUS_MOVE_PEND 0 f

/-- The flow is suspended with a cause. -/
def State.suspendFlow (s : State) (f cause : Nat) : State :=
  ((s.dropResources f).setF F.FLW_STATUS_STATE 3 f).setF F.FLW_STATUS_CAUSE cause f

/-! ### Requests (R203, R213) -/

/-- A trigger of an event epoch: a walk begins, or RERUN is set during one (R213).  Nothing begins while the placement
engine is off. Log entry 25 (DEDUCED). -/
def State.epochTrigger (s : State) : State :=
  if !s.plcOn then s
  else if s.on F.PLC_EPOCH_BUSY then s.setF F.PLC_EPOCH_RERUN 1
  else { (s.setF F.PLC_EPOCH_BUSY 1) with plc := { s.plc with walk := .begun false } }

/-- EPOCH_GO (R213). -/
def execEpochGo (w : Word) (s : State) : Out :=
  s.regCmd (regAddr .PLC_EPOCH) (if bit (w.toNat ||| 2 ^ 31) 31 then s.epochTrigger else s)

/-- A record made by a request write. Log entry 29 (DEDUCED). -/
def State.reqRec (s : State) (f kind : Nat) : State :=
  s.writeRec
    { kind := kind
      cls := s.fClass f
      reason := 8
      fid := f
      event := true
      eff := .none
      from_ := (s.place f).word
      to_ := 0 } none

/-- The walk that follows lays out the plan of the following frame again (R224). -/
def State.planAgain (s : State) : State := { s with plc := { s.plc with replan := true } }

/-- REQ = 1 (R203). -/
def State.admitReq (s : State) (f : Nat) : State :=
  if s.fState f = 0 ∨ s.fState f = 3 then
    (s.setF F.FLW_STATUS_STATE 1 f).setF F.FLW_STATUS_CAUSE 0 f
  else s

/-- REQ = 2 (R203, R222, R226). -/
def State.releaseReq (s : State) (f : Nat) : State :=
  if s.fState f = 2 ∨ s.fState f = 3 then
    let s1 := (s.cancelMove f).reqRec f 7
    (((((s1.abandonAll f).layerStop f).setFlow f
      { ((s1.abandonAll f).layerStop f).flow f with running := false, start := none, owed := false }).setF
        F.FLW_STATUS_STATE 4 f).setF F.FLW_STATUS_CAUSE 0 f).planAgain
  else s

/-- REQ = 3 (R203, R222, R226). -/
def State.suspendReq (s : State) (f : Nat) : State :=
  if s.fState f = 2 then (((s.cancelMove f).reqRec f 5).suspendFlow f 3).planAgain else s

/-- A write of FLW[f].CTRL: its class S fields, then REQ, which starts an event epoch whatever it changed (R213).
Log entry 25 (DEDUCED). -/
def State.flowCtrlWrite (s : State) (f v : Nat) : State :=
  let s1 := s.writeReg .FLW_CTRL v f
  let q := bits v 30 2
  if q = 0 then s1
  else (if q = 1 then s1.admitReq f else if q = 2 then s1.releaseReq f else s1.suspendReq f).epochTrigger

/-- ADMIT_REQUEST (R203). -/
def execAdmitRequest (f : Fin 512) (w : Word) (s : State) : Out :=
  s.regCmd (regAddr .FLW_CTRL f) (s.flowCtrlWrite f (2 ^ 30 + w.toNat % 2 ^ 30))
/-- RELEASE_REQUEST (R203). -/
def execReleaseRequest (f : Fin 512) (w : Word) (s : State) : Out :=
  s.regCmd (regAddr .FLW_CTRL f) (s.flowCtrlWrite f (2 * 2 ^ 30 + w.toNat % 2 ^ 30))
/-- SUSPEND_REQUEST (R203). -/
def execSuspendRequest (f : Fin 512) (w : Word) (s : State) : Out :=
  s.regCmd (regAddr .FLW_CTRL f) (s.flowCtrlWrite f (3 * 2 ^ 30 + w.toNat % 2 ^ 30))

/-- The last symbol of a releasing flow has been delivered or abandoned: the flow is FREE (R203). Log entry 29 (DEDUCED). -/
def State.flowReleaseDone (s : State) (f : Nat) : State :=
  if s.fState f = 4 ∧ (s.flow f).inflight = [] then
    let s1 := (s.abandonRec f).dropResources f
    ((s1.setF F.FLW_STATUS_STATE 0 f).setF F.FLW_STATUS_CHARGE 0 f).setFlow f
      { s1.flow f with started := none, delivered := none }
  else s

/-- FLOW_RELEASE_DONE (R203). -/
def execFlowReleaseDone (f : Fin 512) (s : State) : Out := .next (s.core (s.flowReleaseDone f))

/-- The boundary at which a flow's symbol at air time `a` begins in the device: the Prism boundary of an IQ flow
(R132, R202), else the air boundary (R32). -/
def State.flowBoundary (s : State) (f a : Nat) : Nat :=
  if s.fType f = 0 then a - s.txAdvance (s.layCar f)
  else if s.fType f = 1 then a + s.targetRx (s.layCar f) else a

/-- The start symbol is reached: traffic begins and the layer of an IQ flow is enabled (R202, R211). -/
def State.flowStart (s : State) (f : Nat) : State :=
  match (s.flow f).start with
  | some a =>
    if s.fState f = 2 ∧ (s.flow f).running = false ∧ s.flowBoundary f a ≤ s.now then
      let s1 := s.setFlow f { s.flow f with running := true }
      if s.isIq f then s1.setLen f 1 else s1
    else s
  | none => s

/-- FLOW_START (R211). -/
def execFlowStart (f : Fin 512) (s : State) : Out := .next (s.core (s.flowStart f))

/-- At the air boundary of E the move hands the flow over (R219, R220). -/
def State.moveEffective (s : State) (f : Nat) : State :=
  match (s.flow f).move with
  | some m =>
    if m.at_.any (fun a => decide (a ≤ s.now)) then
      let x := s.flow f
      let old := m.at_.map (fun e => (e, s.place f))
      (((s.setPlace f m.to_).setFlow f { x with move := none, oldExt := old }).setF F.FLW_STATUS_MOVE_PEND 0 f).bump
        F.FLW_COUNT_MOVES f
    else s
  | none => s

/-- MOVE_EFFECTIVE (R220). -/
def execMoveEffective (f : Fin 512) (s : State) : Out := .next (s.core (s.moveEffective f))

/-- A receive symbol's measured latency exceeded LAT_MAX (R209): the oldest not yet recorded. Log entry 35 (DEDUCED). -/
def State.flowLatency (s : State) (f : Nat) : State :=
  match (s.flow f).lates with
  | _ :: ds => (((s.setFlow f { s.flow f with lates := ds }).bump F.FLW_COUNT_LAT_VIOL f).ledger 0x19 f).pulse 346
  | [] => s

/-- FLOW_LATENCY (R209). -/
def execFlowLatency (f : Fin 512) (s : State) : Out := .next (s.core (s.flowLatency f))

/-- A write of a pattern word: discarded for the selected bank while the placement engine runs (R224). -/
def State.patternWrite (s : State) (b k w v : Nat) : State :=
  if s.plcOn && bits (s.f F.PLC_PAT_SEL_BANK) k 1 == b then s.discarded (regAddr .PLC_PATTERN b k w)
  else s.writeReg .PLC_PATTERN v b k w

/-- PATTERN_WRITE (R224). -/
def execPatternWrite (b : Fin 2) (k : Fin 4) (ix : Fin 70) (w : Word) (s : State) : Out :=
  s.regCmd (regAddr .PLC_PATTERN b k ix) (s.patternWrite b k ix w.toNat)

/-- R39 holds for TX path `n`: its LO is locked, its timeline runs, a flow of one of its carriers is admitted and a tag
has reached it. -/
def State.r39 (s : State) (n : Nat) : Bool :=
  s.txOn n && s.on F.RFC_LOS_STATUS_LOCKED (s.tileSynth (n / 4)) && s.tlOn (s.tileTl (n / 4)) && (s.txp n).tagged &&
  (s.flowsIn 2).any (fun f => s.fType f == 0 && s.on F.TXP_DUC_CEN n (s.layCar f))

end Sys2Proof.Machine
end

