-- ==== Sys2Proof/Machine/Reserve.lean ====
section
/-!
DEFINITION. Sys2Proof/Machine/Reserve.lean: which pairs a Mirror round measures (R181, R182) and where the placement engine
lays out its probes (R178, R193).
-/
namespace Sys2Proof.Machine

def State.mirTl (s : State) : Nat := s.f F.PRISM_CFG_TL

/-- Grid position of element `e`. -/
def State.mirX (s : State) (e : Nat) : Nat := s.f F.MIR_GEOM_X e
def State.mirY (s : State) (e : Nat) : Nat := s.f F.MIR_GEOM_Y e
def dist (a b : Nat) : Nat := (a - b) + (b - a)

/-- Elements `i` and `j` are neighbours (R181). -/
def State.mirNear (s : State) (i j : Nat) : Bool :=
  s.on F.MIR_GEOM_PRESENT i && s.on F.MIR_GEOM_PRESENT j &&
  max (dist (s.mirX i) (s.mirX j)) (dist (s.mirY i) (s.mirY j)) == 1

/-- Two present elements share a position (R181). -/
def State.mirClash (s : State) : Bool :=
  let l := idxWhere 64 (fun e => s.on F.MIR_GEOM_PRESENT e)
  l.any (fun i => l.any (fun j => decide (i < j) && s.mirX i == s.mirX j && s.mirY i == s.mirY j))

/-- The pair (i → j) is measured (R182). -/
def State.measured (s : State) (i j : Nat) : Bool :=
  s.mirNear i j && i / 4 != j / 4 && s.tdd (i / 4) && s.tdd (j / 4) &&
  s.tileTl (i / 4) == s.mirTl && s.tileTl (j / 4) == s.mirTl && s.r39 i && s.rxOn j &&
  s.f F.RFC_LOS_STATUS_FREQ_IN_EFFECT (s.tileSynth (i / 4)) == s.f F.RFC_LOS_STATUS_FREQ_IN_EFFECT (s.tileSynth (j / 4))

/-- The receiving elements of a probe from `i`. -/
def State.receivers (s : State) (i : Nat) : List Nat := idxWhere 64 (s.measured i)

/-- Element `e` has a measurable pair in either direction (R182). -/
def State.eligible (s : State) (e : Nat) : Bool :=
  (List.range 64).any (fun j => s.measured e j || s.measured j e)

/-- REPS within the limit of the numerology (R187). -/
def State.mirReps (s : State) : Nat := min (s.f F.MIR_PROBE_REPS) ([8, 8, 7, 3].getD (s.mu s.mirTl) 8)

/-! ### Reservations (R178, R193) -/

/-- The elements still to probe and not yet reserved before air time `b`: eligible ones not tried yet, ascending, then
retries, at most two each (R190, R193). Log entry 24 (DEDUCED). -/
def State.probeOrder (s : State) (b : Nat) : List Nat :=
  let held := ((s.mir.plan.filter (fun p => decide (p.2 < b))).map (·.1)) ++ (s.mir.probe.map (·.el)).toList
  let l := idxWhere 64 (fun e => s.eligible e && !s.mir.done.contains e && !held.contains e)
  l.filter (fun e => SMap.get 0 s.mir.tries e == 0) ++
    l.filter (fun e => SMap.get 0 s.mir.tries e != 0 && decide (SMap.get 0 s.mir.tries e < 3))

/-- From the air boundary of a probe to that of the earliest next one: its periods, 20 µs for its records, and the 2,048
ticks by which the next is presented.  The spec leaves the choice of guard symbols to the engine. Log entry 24 (DEDUCED). -/
def State.probeGap (s : State) : Nat := 1024 * s.mir.reps + 9831 + 2048

/-- The guard symbol at `a` takes the next element in order, within the share `lim` of its receiver in the frame. -/
def State.layOne (s : State) (lim : Nat) (acc : List Nat × List (Nat × Nat)) (a : Nat) : List Nat × List (Nat × Nat) :=
  match acc.1 with
  | [] => acc
  | e :: es =>
    let used := (acc.2.filter (fun p => p.1 / 8 == e / 8)).length
    if (used + 1) * 16 ≤ lim ∧ acc.2.all (fun p => decide (p.2 + s.probeGap ≤ a)) = true then (es, acc.2 ++ [(e, a)]) else acc

/-- Lay out the reservations of the frame of the placement timeline that starts at `b`: one probe per guard symbol, in
order, within the share of each receiver; the excess waits for later frames (R178, R193, R214). Log entry 24 (DEDUCED). -/
def State.layProbes (s : State) (b : Nat) : State :=
  let k := s.mirTl
  let earlier := s.mir.plan.filter (fun p => decide (p.2 < b))
  let new := if s.on F.MIR_ROUND_BUSY && s.prismOn && s.tlOn k then
      let guards := (s.symsWithin k (b + frameTicks) 1121 (s.nextAir k (b - 1))).filter (s.guardSym k)
      (guards.foldl (s.layOne (s.f F.DPD_CFG_MIR_SHARE * symPerFrame (s.mu (s.f F.PLC_CFG_TL)))) (s.probeOrder b, [])).2
    else []
  { s with mir := { s.mir with plan := earlier ++ new } }

end Sys2Proof.Machine
end

