-- ==== Sys2Proof/Machine/Placement.lean ====
section
/-!
DEFINITION. Sys2Proof/Machine/Placement.lean: the walk of a placement epoch: capacities, admission, repair, shedding,
rebalancing and the effective symbols of moves (R205 to R222).
-/
namespace Sys2Proof.Machine

/-! ### Loads and capacities (R205 to R208).  Lane loads are held in 1/12 Mbit/s: a charge splits over 1 to 4 lanes. -/

/-- Lane numbers of a mask. -/
def lanesOf (m : Nat) : List Nat := idxWhere 4 (bit m)

/-- The mask of lane numbers. -/
def laneMask (l : List Nat) : Nat := l.foldl (fun m j => setBit m j) 0

/-- A charge on each of `n` lanes, in 1/12 Mbit/s. -/
def share12 (charge n : Nat) : Nat := charge * 12 / n

/-- The flows that hold lanes and an engine: active ones, and releasing ones until they are FREE (R203). -/
def State.holders (s : State) : List Nat := idxWhere 512 (fun f => s.fState f == 2 || s.fState f == 4)

/-- Load of lane `j` of port `p` by the flows that hold lanes, but `f`. Log entry 28 (DEDUCED). -/
def State.laneLoadBut (s : State) (f p j : Nat) : Nat :=
  s.holders.foldl (fun a g =>
    let q := s.aimed g
    if g != f && q.port == p && bit q.lanes j then a + share12 (s.f F.FLW_STATUS_CHARGE g) (lanesOf q.lanes).length else a) 0

/-- Load of a lane; 512 names no flow. -/
def State.laneLoad (s : State) (p j : Nat) : Nat := s.laneLoadBut 512 p j

def State.laneReady (s : State) (p j : Nat) : Bool := s.on F.LANE_STATE_READY p j

/-- Capacity of a lane in Mbit/s × 256 (R206); 0 where it is not ready. Log entry 66 (DESIGN CHOICE). -/
def State.laneCap (s : State) (p j : Nat) : Nat :=
  if s.laneReady p j then [6400, 12800, 20000, 25600].getD (s.f F.LNK_LANE_CFG_RATE p) 0 * s.f F.PLC_CFG_FILL else 0

/-- Lane `j` of port `p` with `x` (1/12 Mbit/s) on it is within its capacity. -/
def State.laneFits (s : State) (p j x : Nat) : Bool := decide (x * 256 ≤ 12 * s.laneCap p j)

/-- The divider of PLL_CORE in effect, by level or override (R380, R384). -/
def State.coreDiv (s : State) : Nat := max 1 (s.f F.CLK_CORE_CFG_DIV_IN_EFFECT)

/-- One cycle of CLK_CORE in the unit of `State.coreCycles`: 360,360 is a multiple of every divider. -/
def coreUnit : Nat := 49152 * 360360

/-- Cycles of CLK_CORE, 3.6 GHz over the divider in effect, in `n` ticks of FS_P (R380). -/
def State.coreCycles (s : State) (n : Nat) : Nat := n * 360000 * (360360 / s.coreDiv)

/-- Engine clock in MHz at the level in effect (R428). -/
def State.coreMhz (s : State) : Nat := [1200, 900, 600, 300].getD (s.f F.PWR_PERF_IN_EFFECT) 1200

/-- Cycles a second a flow charges its engine (R207). -/
def State.engCharge (s : State) (f : Nat) : Nat :=
  if s.f F.FLW_DEMAND_KERNEL f = 0 then 0 else s.f F.FLW_DEMAND_LOAD f * 1024 * 14000 * 2 ^ s.mu (s.fTl f)

/-- Load of engine `n` by the flows that hold engines, but `f`. -/
def State.engLoadBut (s : State) (f n : Nat) : Nat :=
  s.holders.foldl (fun a g =>
    let q := s.aimed g
    if g != f && q.engV && q.eng == n then a + s.engCharge g else a) 0
def State.engLoad (s : State) (n : Nat) : Nat := s.engLoadBut 512 n

/-- Engine `n` is available to placement (R207). -/
def State.engAvail (s : State) (n : Nat) : Bool := bit (s.f F.PLC_ENG_CFG_AVAIL) n && !s.absent n

/-- Engine `n` with load `x` is within its capacity. -/
def State.engFits (s : State) (n x : Nat) : Bool :=
  s.engAvail n && decide (x * 256 ≤ s.coreMhz * 1000000 * s.f F.PLC_ENG_CFG_ENG_FILL)

/-- The old extent of flow `f` is held until E − 1 has been read out: at E for an inbound flow, once its receive symbols
before E have left for an outbound one (R220). Log entry 28 (DEDUCED). -/
def State.oldHeld (s : State) (f : Nat) : List (Nat × Nat) :=
  match (s.flow f).oldExt with
  | some (e, p) =>
    if s.fType f = 1 ∧ (s.now < e + s.targetRx (s.layCar f) + 96 ∨
        (s.flow f).rxIn.any (fun x => decide (s.airOf (s.fTl f) x.1 < e)) = true) then [(p.page, p.pages)] else []
  | none => []

/-- Extents held by flows: first page and pages. -/
def State.heldExtents (s : State) : List (Nat × Nat) :=
  ((List.range 512).filter (fun f => s.fState f != 0)).flatMap (fun f =>
    let x := s.flow f
    [((s.place f).page, (s.place f).pages)] ++ (x.move.map (fun m => (m.to_.page, m.to_.pages))).toList ++ s.oldHeld f)

/-- The lowest-addressed free extent of `n` pages in the pool, above page `lo` where given (R208, R212). -/
def State.freeExtent (s : State) (n : Nat) : Option Nat :=
  let b := s.f F.PLC_POOL_BASE_ADDR / 4096
  let e := b + s.f F.PLC_POOL_SIZE_SIZE / 4096
  let held := s.heldExtents.filter (fun x => x.2 != 0)
  let ok (p : Nat) : Bool := decide (b ≤ p) && decide (p + n ≤ e) &&
    held.all (fun x => decide (p + n ≤ x.1) || decide (x.1 + x.2 ≤ p))
  ((b :: held.map (fun x => x.1 + x.2)).filter ok).foldl (fun m p => match m with
    | none => some p
    | some q => some (min p q)) none

/-! ### Choices (R209, R212, R218) -/

/-- R209 holds for flow `f` on lanes `ls` of port `p`. -/
def State.latencyOk (s : State) (f p : Nat) (ls : List Nat) : Bool :=
  let c := s.fClass f
  let lim := s.f F.FLW_LIMITS_LAT_MAX f
  if s.fType f = 1 ∧ (c = 1 ∨ c = 2) ∧ lim ≠ 0 then
    let n := n0 (s.mu (s.fTl f))
    let sh := share12 (s.chargeOf f) ls.length
    let u := ls.foldl (fun m j => max m (cdiv (n * (s.laneLoadBut f p j + sh) * 256) (12 * s.laneCap p j))) 0
    let e := if s.f F.FLW_DEMAND_KERNEL f = 0 then 0 else cdiv (s.f F.FLW_DEMAND_LOAD f * 1024 * 49152) (100 * s.coreMhz)
    decide (n + s.targetRx (s.layCar f) + 96 + e + u + 256 ≤ lim * 16)
  else true

/-- The lanes hold the flow's charge beside what they carry. -/
def State.lanesHold (s : State) (f p : Nat) (ls : List Nat) : Bool :=
  ls != [] && ls.all (fun j => s.laneReady p j && s.laneFits p j (s.laneLoadBut f p j + share12 (s.chargeOf f) ls.length))

/-- Insert a lane by load, the lower number first on a tie. -/
def insertLane (x : Nat × Nat) : List (Nat × Nat) → List (Nat × Nat)
  | [] => [x]
  | y :: ys => if x.1 < y.1 ∨ (x.1 = y.1 ∧ x.2 < y.2) then x :: y :: ys else y :: insertLane x ys

/-- Lane `j` of any port is one the flow's pins allow (R218). -/
def State.laneAllowed (s : State) (f j : Nat) : Bool := !s.on F.FLW_PIN_PIN_LANES f || bit (s.f F.FLW_PIN_LANES f) j

/-- Lanes `js` of port `p`, least loaded first. -/
def State.byLoad (s : State) (f p : Nat) (js : List Nat) : List Nat :=
  (js.foldl (fun l j => insertLane (s.laneLoadBut f p j, j) l) []).map (·.2)

/-- The lane sets of a port that hold the charge: the lanes `keep`, and as few as will do of the ready lanes that satisfy
`ok`, least loaded first (R212, R215). -/
def State.laneSetsFrom (s : State) (f p : Nat) (keep : List Nat) (ok : Nat → Bool) : List (List Nat) :=
  let l := s.byLoad f p ((List.range 4).filter (fun j => s.laneReady p j && ok j && !keep.contains j))
  ((List.range (l.length + 1)).map (fun i => keep ++ l.take i)).filter (s.lanesHold f p)

/-- The lane sets of a port that hold the charge, fewest lanes first (R212). -/
def State.laneSets (s : State) (f p : Nat) : List (List Nat) := s.laneSetsFrom f p [] (fun _ => true)

/-- Port `p` and the ports equivalent to it, in ascending number after it (R212). -/
def State.portOrder (s : State) (p : Nat) : List Nat := p :: (List.range 4).filter (fun q => q != p && s.equivalent p q)

/-- The lane sets a flow may use on the given ports, in order of choice, ignoring its pins. -/
def State.freeChoices (s : State) (f : Nat) (ports : List Nat) : List (Nat × List Nat) :=
  ports.flatMap (fun q => (s.laneSets f q).map (fun l => (q, l)))

/-- The ports of a list that the flow's pins allow (R218). -/
def State.pinnedPorts (s : State) (f : Nat) (ports : List Nat) : List Nat :=
  if s.on F.FLW_PIN_PIN_PORT f then [s.f F.FLW_CTRL_HOME_PORT f] else ports

/-- The lane sets the flow's pins allow, in order of choice (R212, R218). Log entry 26 (DEDUCED). -/
def State.pinnedChoices (s : State) (f : Nat) (ports : List Nat) : List (Nat × List Nat) :=
  (s.pinnedPorts f ports).flatMap (fun q => (s.laneSetsFrom f q [] (s.laneAllowed f)).map (fun l => (q, l)))

/-- The least-charged available engine with room (R212). -/
def State.chooseEngine (s : State) (f : Nat) : Option Nat :=
  let l := (((List.range 16).filter s.engAvail).foldl (fun l n => insertLane (s.engLoadBut f n, n) l) []).map (·.2)
  l.find? (fun n => s.engFits n (s.engLoadBut f n + s.engCharge f))

/-- The engine the pins allow. -/
def State.pinnedEngine (s : State) (f : Nat) : Option Nat :=
  if s.on F.FLW_PIN_PIN_ENGINE f then
    let n := s.f F.FLW_PIN_ENGINE f
    if s.engFits n (s.engLoadBut f n + s.engCharge f) then some n else none
  else s.chooseEngine f

/-! ### Admission (R210) -/

/-- A field of the context is reserved or out of range, or R202 is broken. Log entry 66 (DESIGN CHOICE). -/
def State.contextBad (s : State) (f : Nat) : Bool :=
  let d := s.f F.FLW_LIMITS_DEPTH f
  decide (4 < s.fType f) || decide (4 < s.f F.FLW_CTRL_MANT f) ||
    (if s.isIq f then decide (d < 5) || decide (16 < d) || s.layDir f != s.fType f || s.fTl f != s.layTl f
     else d == 0)

/-- The flow's timeline does not run, or its carrier breaks R29 on a path that carries it. -/
def State.timelineBad (s : State) (f : Nat) : Bool :=
  !s.tlOn (s.fTl f) ||
  (s.isIq f && (List.range 64).any (fun n =>
    let ks := if s.fType f = 0 then (s.txFollows n).tail else (s.rxFollows n).tail
    let on := if s.fType f = 0 then s.on F.TXP_DUC_CEN n (s.layCar f) else s.on F.RXP_DDC_CEN n (s.layCar f)
    on && ks.any (fun k => s.off k != s.off (s.fTl f))))

/-- Units of admitted IQ flows of direction `d` whose layer is not enabled yet. Log entry 32 (DEDUCED). -/
def State.owedUnits (s : State) (d : Nat) (c : Option Nat) : Nat :=
  (((s.flowsIn 2).filter (fun f => s.fType f == d && !s.on F.PRISM_LAYER_CFG_LEN f &&
    c.all (fun c => s.layCar f == c)))).foldl (fun u f => u + s.layerCost d (s.layCar f)) 0

/-- The test of R149 for an IQ flow, with the layers of flows admitted but not started counted. -/
def State.prismRoom (s : State) (f : Nat) : Bool :=
  let d := s.fType f
  let c := s.layCar f
  let owed := ((s.flowsIn 2).filter (fun g => s.fType g == d && !s.on F.PRISM_LAYER_CFG_LEN g)).length
  decide (s.usedUnits d + s.owedUnits d none + s.layerCost d c ≤ s.dirShare d) &&
  decide (s.carUnits d c + s.owedUnits d (some c) + s.layerCost d c ≤ s.f F.PRISM_CAR_CAP_MAX d c) &&
  decide ((s.enabledLayers d).length + owed + 1 ≤ 256)

/-- The flow's direction on the link: inbound and outbound. -/
def State.linkDirs (s : State) (f : Nat) : Bool × Bool := (s.fType f == 0 || s.fType f == 2 || s.fType f == 3, s.fType f == 1 || s.fType f == 3 || s.fType f == 4)

/-- Another admitted flow of the same direction on the port or an equivalent one has the LINK_ID; a suspended flow is on
no port (R203). -/
def State.linkIdTaken (s : State) (f p : Nat) : Bool :=
  (List.range 512).any (fun g => g != f && (s.fState g == 2 || s.fState g == 4) &&
    s.f F.FLW_CTRL_LINK_ID g == s.f F.FLW_CTRL_LINK_ID f &&
    (s.equivalent p (s.place g).port || s.equivalent p (s.aimed g).port) &&
    (((s.linkDirs f).1 && (s.linkDirs g).1) || ((s.linkDirs f).2 && (s.linkDirs g).2)))

/-- The placement an admission gives, or the code that refuses it (R210). Log entry 26 (DEDUCED). -/
def State.admission (s : State) (f : Nat) : Nat × Place :=
  let h := s.f F.FLW_CTRL_HOME_PORT f
  let free := s.freeChoices f (s.portOrder h)
  let needEng := s.f F.FLW_DEMAND_KERNEL f != 0
  let pins := s.pinnedChoices f (s.portOrder h)
  if s.contextBad f then (1, {})
  else if s.timelineBad f then (2, {})
  else if s.isIq f && !s.prismRoom f then (3, {})
  else if (s.portOrder h).all (fun p => !s.portReady p) then (4, {})
  else if free = [] then (5, {})
  else if needEng && (s.chooseEngine f).isNone then (6, {})
  else match s.freeExtent (s.pagesOf f) with
    | none => (7, {})
    | some page =>
      if free.all (fun c => !s.latencyOk f c.1 c.2) then (8, {})
      else if pins = [] || (needEng && (s.pinnedEngine f).isNone) then (9, {})
      else match pins.find? (fun c => s.latencyOk f c.1 c.2) with
        | none => (8, {})
        | some c =>
          if s.linkIdTaken f c.1 then (10, {})
          else (0,
            { port := c.1
              lanes := laneMask c.2
              eng := if needEng then (s.pinnedEngine f).getD 0 else 0
              engV := needEng
              pages := s.pagesOf f
              page := page })

/-- The flow takes a placement: ACTIVE at once, its start owed by the walk (R211). -/
def State.grant (s : State) (f : Nat) (p : Place) (kind : Nat) (event : Bool) : State :=
  let s1 := (((s.setPlace f p).setF F.FLW_STATUS_STATE 2 f).setF F.FLW_STATUS_CAUSE 0 f).setF F.FLW_STATUS_REFUSAL 0 f
  let s2 := (s1.setF F.FLW_STATUS_CHARGE (s.chargeOf f) f).setFlow f { s1.flow f with owed := true, running := false }
  s2.record
    { kind := kind
      cls := s.fClass f
      reason := 0
      fid := f
      event := event
      eff := .start
      from_ := 0
      to_ := p.word }

/-- The key of a sequence number: 0 IQ in, 1 control in, 2 native in, 3 IQ out, 4 native out by identifier; 5 and 6 a
port's own messages in and out (R236). -/
def seqKey (cls id : Nat) : Nat := cls * 65536 + id

/-- The numbers received for the flow's identifier are forgotten at its admission (R236). Log entry 33 (DEDUCED). -/
def State.forgetSeqs (s : State) (f : Nat) : State :=
  let id := s.f F.FLW_CTRL_LINK_ID f
  let ks := match s.fType f with
    | 0 => [seqKey 0 id]
    | 2 => [seqKey 1 id, seqKey 2 id]
    | 3 => [seqKey 2 id]
    | _ => []
  { s with seqs := ks.foldl SMap.erase s.seqs }

/-- An admitting flow is admitted or refused (R210). -/
def State.admitOne (event : Bool) (s : State) (f : Nat) : State :=
  let a := s.admission f
  if a.1 = 0 then
    let s0 := (s.forgetSeqs f).grant f a.2 1 event
    { (s0.bump F.PLC_COUNT_ADMITS) with plc := { s0.plc with replan := true } }
  else
    let s1 := ((s.setF F.FLW_STATUS_STATE 0 f).setF F.FLW_STATUS_REFUSAL a.1 f).bump F.PLC_COUNT_REFUSALS
    let s2 := s1.record
      { kind := 2
        cls := s.fClass f
        reason := a.1
        fid := f
        event := event
        eff := .none
        from_ := 0
        to_ := 0 }
    if a.1 = 7 then { s2 with plc := { s2.plc with wanted := max s2.plc.wanted (s.pagesOf f) } } else s2

/-- A suspended flow is tried again at a frame epoch (R214). -/
def State.resumeOne (s : State) (f : Nat) : State :=
  let a := s.admission f
  if a.1 = 0 then { (s.grant f a.2 6 false) with plc := { (s.grant f a.2 6 false).plc with replan := true } } else s

/-! ### Repair and suspension (R215, R218) -/

/-- Why a flow's lanes no longer hold: 1 a lane failed, 2 its port failed, 4 capacity fell; 0 they hold. -/
def State.laneTrouble (s : State) (f : Nat) : Nat :=
  let p := s.aimed f
  if (lanesOf p.lanes).any (fun j => !s.laneReady p.port j) then (if s.portReady p.port then 1 else 2)
  else if (lanesOf p.lanes).any (fun j => !s.laneFits p.port j (s.laneLoad p.port j)) then 4
  else if s.fClass f = 1 ∧ s.latencyOk f p.port (lanesOf p.lanes) = false then 4 else 0

/-- Why its engine no longer holds: 3 failed or absent, 4 capacity fell. -/
def State.engTrouble (s : State) (f : Nat) : Nat :=
  let p := s.aimed f
  if !p.engV then 0 else if !s.engAvail p.eng then 3 else if !s.engFits p.eng (s.engLoad p.eng) then 4 else 0

/-- Record and account a suspension of a walk. Log entry 26 (DEDUCED). -/
def State.walkSuspend (s : State) (f kind cause reason : Nat) (event : Bool) (code : Nat) : State :=
  let r : LogRec :=
    { kind := kind
      cls := s.fClass f
      reason := reason
      fid := f
      event := event
      eff := .none
      from_ := (s.place f).word
      to_ := 0 }
  let s1 := (((s.suspendFlow f cause).record r).ledger code f).pulse 345
  { s1 with plc := { s1.plc with replan := true } }

/-- Decide a move (R219). -/
def State.decideMove (s : State) (f : Nat) (p : Place) (reason : Nat) (event : Bool) : State :=
  let s1 := (s.setFlow f { s.flow f with move := some { to_ := p, reason := reason } }).setF F.FLW_STATUS_MOVE_PEND 1 f
  (s1.bump F.PLC_COUNT_MOVES).record
    { kind := 3
      cls := s.fClass f
      reason := reason
      fid := f
      event := event
      eff := .move
      from_ := (s.place f).word
      to_ := p.word }

/-- The ports a repair tries: the flow's own, then the home port and its equivalents (R212, R215). Log entry 26 (DEDUCED). -/
def State.repairPorts (s : State) (f : Nat) : List Nat :=
  (s.aimed f).port :: (s.portOrder (s.f F.FLW_CTRL_HOME_PORT f)).filter (fun q => q != (s.aimed f).port)

/-- The lane sets a repair chooses from: on the flow's own port the lanes that still hold, with others for those that
failed, then lanes of equivalent ports (R212, R215). Log entry 26 (DEDUCED). -/
def State.repairChoices (s : State) (f : Nat) : List (Nat × List Nat) :=
  let p := s.aimed f
  let good := (lanesOf p.lanes).filter (fun j => s.laneReady p.port j && s.laneFits p.port j (s.laneLoad p.port j))
  let keep := if good.length = (lanesOf p.lanes).length then [] else good
  (s.pinnedPorts f (s.repairPorts f)).flatMap (fun q =>
    (s.laneSetsFrom f q (if q = p.port then keep else []) (s.laneAllowed f)).map (fun l => (q, l)))

/-- Keep, repair or suspend an active flow. Log entry 26 (DEDUCED). -/
def State.checkOne (event : Bool) (s : State) (f : Nat) : State :=
  let lt := s.laneTrouble f
  let et := s.engTrouble f
  let p := s.aimed f
  let pinFail := (s.on F.FLW_PIN_PIN_LANES f && (lt == 1 || lt == 2)) || (s.on F.FLW_PIN_PIN_PORT f && lt == 2) ||
    (s.on F.FLW_PIN_PIN_ENGINE f && et == 3)
  if lt = 0 ∧ et = 0 then s
  else if pinFail then s.walkSuspend f 5 2 (if lt = 1 ∨ lt = 2 then lt else 3) event 0x1B
  else
    let lane := if lt = 0 then some (p.port, lanesOf p.lanes)
      else (s.repairChoices f).find? (fun c => s.fClass f != 1 || s.latencyOk f c.1 c.2)
    let eng := if et = 0 then some p.eng else s.pinnedEngine f
    match lane, eng with
    | some c, some e =>
      let q : Place := { p with port := c.1, lanes := laneMask c.2, eng := e }
      if q = p then s else s.decideMove f q (if lt ≠ 0 then lt else et) event
    | _, _ =>
      if s.fClass f = 0 then s.walkSuspend f 5 2 (if lt ≠ 0 then lt else et) event 0x1B else s

/-! ### Shedding (R216) -/

/-- The flow uses a lane or an engine above its capacity. -/
def State.usesOver (s : State) (f : Nat) : Bool :=
  let p := s.aimed f
  (lanesOf p.lanes).any (fun j => !s.laneFits p.port j (s.laneLoad p.port j)) ||
    (p.engV && decide (0 < s.engLoad p.eng) && !s.engFits p.eng (s.engLoad p.eng))

/-- The flow to shed next: SC3, then SC2, then SC1, the highest FID first. -/
def State.toShed (s : State) : Option Nat :=
  let c := (s.flowsIn 2).filter s.usesOver
  ((c.filter (fun f => s.fClass f == 3)).getLast?).or
    (((c.filter (fun f => s.fClass f == 2)).getLast?).or ((c.filter (fun f => s.fClass f == 1)).getLast?))

/-- Suspend flow `f` because it no longer fits where it stands. -/
def State.shedOne (s : State) (event : Bool) (f : Nat) : State :=
  let lt := s.laneTrouble f
  let r := if lt = 1 ∨ lt = 2 then lt else if s.engTrouble f = 3 then 3 else 4
  (s.walkSuspend f 4 1 r event 0x1A).bump F.PLC_COUNT_SHEDS

/-- Shed until no resource is above its capacity. -/
def State.shedAll (event : Bool) : Nat → State → State
  | 0, s => s
  | n + 1, s => s.toShed.elim s (fun f => State.shedAll event n (s.shedOne event f))

/-! ### Rebalancing and compaction (R217) -/

/-- The most and the least loaded ready lane of a port. -/
def State.extremes (s : State) (p : Nat) : Option (Nat × Nat) :=
  let l := ((List.range 4).filter (s.laneReady p)).foldl (fun l j => insertLane (s.laneLoad p j, j) l) []
  match l.head?, l.foldl (fun m x => match m with
      | none => some x
      | some y => if y.1 < x.1 then some x else some y) none with
  | some a, some b => if a.2 = b.2 then none else some (b.2, a.2)
  | _, _ => none

/-- A flow that R217 may move: SC2 or SC3, no move pending. Log entry 27 (DEDUCED). -/
def State.movable (s : State) (f : Nat) : Bool := decide (2 ≤ s.fClass f) && (s.flow f).move.isNone

/-- A flow with a pin of R218, which is never rebalanced. -/
def State.pinned (s : State) (f : Nat) : Bool :=
  s.on F.FLW_PIN_PIN_PORT f || s.on F.FLW_PIN_PIN_LANES f || s.on F.FLW_PIN_PIN_ENGINE f

/-- What the greatest of the loads exceeds the least by. Log entry 27 (DEDUCED). -/
def spread (l : List Nat) : Nat := l.foldl max 0 - l.foldl min (l.headD 0)

/-- What flow `f` puts on each of its lanes, in 1/12 Mbit/s. -/
def State.laneShare (s : State) (f : Nat) : Nat := share12 (s.f F.FLW_STATUS_CHARGE f) (lanesOf (s.aimed f).lanes).length

/-- One rebalancing move on port `p` from its most to its least loaded lane, if one narrows the spread: a flow on several
lanes moves the part it has on the first. Log entry 27 (DEDUCED). -/
def State.balanceOne (s : State) (p : Nat) : Option State :=
  match s.extremes p with
  | none => none
  | some (hi, lo) =>
    let d := s.laneLoad p hi - s.laneLoad p lo
    let ready := (List.range 4).filter (s.laneReady p)
    if 12 * s.laneCap p hi * s.f F.PLC_EQUIV_BAL < d * 256 * 256 then
      let c := (s.flowsIn 2).filter (fun f => s.movable f && !s.pinned f && (s.aimed f).port == p &&
        bit (s.aimed f).lanes hi && !bit (s.aimed f).lanes lo && s.laneFits p lo (s.laneLoad p lo + s.laneShare f) &&
        decide (spread (ready.map (fun j => let x := s.laneShare f
          if j = hi then s.laneLoad p j - x else if j = lo then s.laneLoad p j + x else s.laneLoad p j)) < d))
      (((c.filter (fun f => s.fClass f == 3)).head?).or (c.head?)).map
        (fun f => s.decideMove f { s.aimed f with lanes := setBit (clrBit (s.aimed f).lanes hi) lo } 5 false)
    else none

/-- One compacting move: the SC2 or SC3 flow lowest in the pool that fits lower. Log entry 27 (DEDUCED). -/
def State.compactOne (s : State) : Option State :=
  if s.plc.wanted = 0 ∨ (s.freeExtent s.plc.wanted).isSome then none
  else
    let c := (s.flowsIn 2).filter (fun f => s.movable f && !s.on F.FLW_PIN_PIN_BUFFER f &&
      (s.freeExtent (s.place f).pages).any (fun p => decide (p < (s.place f).page)))
    (c.foldl (fun m f => match m with
      | none => some f
      | some g => if (s.place f).page < (s.place g).page then some f else some g) none).map (fun f =>
        s.decideMove f { s.aimed f with page := (s.freeExtent (s.place f).pages).getD (s.place f).page } 6 false)

/-- At most MAX_MOVES moves in one frame epoch. Log entry 27 (DEDUCED). -/
def State.rebalance : Nat → State → State
  | 0, s => s
  | n + 1, s =>
    match (List.range 4).findSome? s.balanceOne with
    | some s1 => State.rebalance n s1
    | none =>
      match s.compactOne with
      | some s1 => State.rebalance n s1
      | none => s

/-! ### Capture time (R180) -/

/-- Ticks a refresh period needs for the pairs in use of receiver `k`'s group. -/
def State.captureNeeded (s : State) (k : Nat) : Nat :=
  (s.pairs.filter (fun e => e.1 / 128 == k && (e.2.used || e.2.due))).length * (2 ^ s.f F.ORX_CTRL_CAP_LOG2 k / 4)

/-- Burst ticks of a refresh period less the Mirror share, by the plan in hand. -/
def State.captureAvail (s : State) (k : Nat) : Nat :=
  let tl := s.tileTl (2 * k)
  let spf := symPerFrame (s.mu tl)
  let first := s.symIdx tl s.now / spf * spf
  let ticks := (List.range spf).foldl (fun a y =>
    let t := s.airOf tl (first + y)
    if s.claimed (2 * k) 0 t || s.claimed (2 * k + 1) 0 t then a + s.lenOf tl (first + y) else a) 0
  ticks * s.f F.DPD_CFG_REFRESH / 10 * (16 - s.f F.DPD_CFG_MIR_SHARE) / 16

/-- The SHORTFALL record of receiver `k`, at every epoch (R180). -/
def State.shortfall (ev : Bool) (s : State) (k : Nat) : State :=
  let n := s.captureNeeded k
  let a := s.captureAvail k
  if a < n then
    s.record
      { kind := 8
        cls := 0
        reason := 0
        fid := k
        event := ev
        eff := .none
        from_ := 0
        to_ := min 65535 (n / 1024) * 65536 + min 65535 (a / 1024) }
  else s

/-! ### The walk (R213, R214) -/

/-- The active flows in class order, ascending FID within a class. -/
def State.byClass (s : State) (l : List Nat) : List Nat :=
  (List.range 4).flatMap (fun c => l.filter (fun f => s.fClass f == c))

/-- The decisions of a walk. Log entry 25 (DEDUCED). -/
def State.walkDecide (s : State) (frame : Bool) : State :=
  let ev := !frame
  let s1 := (s.byClass (s.flowsIn 2)).foldl (State.checkOne ev) s
  let s2 := State.shedAll ev 513 s1
  let s3 := (s2.flowsIn 1).foldl (State.admitOne ev) s2
  let s4 := if frame then
      let r := ((s3.byClass (s3.flowsIn 3)).filter (fun f => s3.f F.FLW_STATUS_CAUSE f != 3)).foldl State.resumeOne s3
      let m := State.rebalance (r.f F.PLC_CFG_MAX_MOVES) r
      { m with plc := { m.plc with wanted := 0, replan := true } }
    else s3
  let s5 := (List.range 8).foldl (State.shortfall ev) s4
  { s5 with plc := { s5.plc with walk := .decided frame } }

/-- A frame epoch at a PLC boundary (R213, R224): pending class B values land, and a walk begins, or the walk that
follows the one in hand becomes a frame epoch's. -/
def State.frameEpoch (s : State) : State :=
  let k := s.f F.PLC_CFG_TL
  if s.plc.walk = .begun true then s.walkDecide true
  else if s.plcOn && s.tlOn k && s.isFrame k s.now then
    let s1 := s.commitShadow .plc 4
    if s1.on F.PLC_EPOCH_BUSY then { (s1.setF F.PLC_EPOCH_RERUN 1) with plc := { s1.plc with rerunFrame := true } }
    else (s1.setF F.PLC_EPOCH_BUSY 1).walkDecide true
  else s

/-- FRAME_EPOCH (R214). -/
def execFrameEpoch (s : State) : Out := .next (s.core s.frameEpoch)

/-- An event epoch's walk (R213, R214). -/
def State.eventEpoch (s : State) : State := if s.plc.walk = .begun false then s.walkDecide false else s

/-- EVENT_EPOCH (R214). -/
def execEventEpoch (s : State) : Out := .next (s.core s.eventEpoch)

/-- The first symbol of the flow at or after air time `a` whose earliest arrival is at or after `t` (R219, R244). -/
def State.arrivalFrom (s : State) (f t : Nat) : Nat → Nat → Nat
  | 0, a => a
  | n + 1, a =>
    let k := s.fTl f
    let early := if s.fType f = 0 then
        a - s.txAdvance (s.layCar f) + (s.nextAir k a - a) - s.f F.FLW_LIMITS_DEPTH f * n0 (s.mu k) / 4
      else a
    if t ≤ early then a else State.arrivalFrom s f t n (s.nextAir k a)

/-- Samples of symbols from air time `e` on that an inbound flow received before the walk ended go over to the extent of a
buffer move, so that none is lost (R220). Log entry 28 (DEDUCED). -/
def State.carryOver (s : State) (f e : Nat) : State :=
  match (s.flow f).move with
  | some m =>
    if m.to_.page = (s.place f).page then s
    else ((s.flow f).got.filter (fun x => decide (e ≤ s.airOf (s.fTl f) x.1))).foldl (fun s x =>
      let n := min 1024 (s.symSamples f x.1 - 1024 * x.2)
      s.bufPut f x.1 (1024 * x.2) ((List.range n).map (fun q =>
        s.sampleAt (s.extentAddr f (s.place f) x.1 (1024 * x.2 + q))))) s
  | none => s

/-- The effective symbol of a move whose walk ends now (R219), and the notices of a port move (R221, R254). -/
def State.setEffective (s : State) (f : Nat) : State :=
  match (s.flow f).move with
  | some m =>
    if m.at_.isSome then s
    else
      let k := s.fTl f
      let e0 := s.nextAir k (s.now + 49152 - 1)
      let moved := s.inbound f && m.to_.port != (s.place f).port
      let e := if moved && s.fType f != 3 then s.arrivalFrom f (s.now + usTicks (s.f F.PLC_CFG_NOTICE)) 200 e0 else e0
      (s.setFlow f { s.flow f with
        move := some { m with at_ := some e, sent := if moved then 0 else 3, due := s.elapsed } }).carryOver f e
  | none => s

/-- The start symbol of a flow admitted by the walk that ends now (R211); the preload of its first entry begins.
Log entry 21 (DEDUCED). -/
def State.setStart (s : State) (f : Nat) : State :=
  if (s.flow f).owed then
    let k := s.fTl f
    let a := frameCeil (s.off k) (s.now + 49152)
    let s1 := s.setFlow f { s.flow f with owed := false, start := some a }
    if s.isIq f then s1.preloadBegin f (s.symIdx k a) else s1
  else s

/-- LANE_LOAD and ENG_LOAD as the walk left them (R227). Log entry 32 (DEDUCED). -/
def State.showLoads (s : State) : State :=
  let s1 := (List.range 16).foldl (fun s l =>
    (s.setF F.PLC_LANE_LOAD_READY (b2n (s.laneReady (l / 4) (l % 4))) l).setF F.PLC_LANE_LOAD_MBPS
      (min 65535 (s.laneLoad (l / 4) (l % 4) / 12)) l) s
  (List.range 16).foldl (fun s n =>
    (s.setF F.PLC_ENG_LOAD_AVAIL (b2n (s.engAvail n)) n).setF F.PLC_ENG_LOAD_MCPS (min 65535 (s.engLoad n / 1000000)) n) s1

/-- The plan and the receiver reservations of the following frame are laid out again unless the frame begins within 100 µs
of an event epoch's end (R214, R224). -/
def State.replan (s : State) (frame : Bool) : State :=
  let k := s.f F.PLC_CFG_TL
  let b := frameCeil (s.off k) (s.now + 1)
  let s1 : State := { s with plc := { s.plc with replan := false } }
  if !s.plc.replan then s1
  else if frame || decide (s.now + 49152 ≤ b) then (s1.planFrame b).layProbes b else s1

/-- The walk ends (R213): effective and start symbols, records, loads, the plan, COUNT and line 344; a rerun begins.
Log entries 1 (DESIGN CHOICE), 25 (DEDUCED). -/
def State.epochWalkEnd (s : State) : State :=
  match s.plc.walk with
  | .decided frame =>
    let act := s.flowsIn 2
    let s1 := act.foldl State.setStart (act.foldl State.setEffective s)
    let s2 := s1.plc.recs.foldl State.writeRecNow s1
    let s3 := ({ s2 with plc := { s2.plc with recs := [], walk := .idle } }.showLoads).replan frame
    let s4 := (s3.setF F.PLC_EPOCH_COUNT ((s3.f F.PLC_EPOCH_COUNT + 1) % 65536)).setF F.PLC_EPOCH_BUSY 0
    let s5 := if s4.on F.PLC_EPOCH_RERUN then
        { ((s4.setF F.PLC_EPOCH_RERUN 0).setF F.PLC_EPOCH_BUSY 1) with
          plc := { s4.plc with walk := .begun s4.plc.rerunFrame, rerunFrame := false } }
      else s4
    s5.pulse 344
  | _ => s

/-- EPOCH_WALK_END (R213). -/
def execEpochWalkEnd (s : State) : Out := .next (s.core s.epochWalkEnd)

end Sys2Proof.Machine
end

