-- ==== Sys2Proof/Machine/LinkOut.lean ====
section
/-!
DEFINITION. Sys2Proof/Machine/LinkOut.lean: the outbound side of a Trourn Link port (chapter 9): packet formats, block
floating point, the queue and its priorities, progress of outbound flows, and what a lane that leaves ready costs.
-/
namespace Sys2Proof.Machine

/-! ### Lanes -/

/-- The line rate of a port in Mbit/s (R266). -/
def State.rateMbps (s : State) (p : Nat) : Nat := [8000, 16000, 25000, 32000].getD (s.f F.LNK_LANE_CFG_RATE p) 8000

/-- Serial bits of lane `l` in `n` ticks at its port's rate, in 1/49,152 (R266). -/
def State.bitsIn (s : State) (l n : Nat) : Nat := n * s.rateMbps (l / 4) * 100

/-- `n` serial bits in 1/49,152. -/
def bitUnits (n : Nat) : Nat := n * 49152

/-- Line time of lane `l` (1/49,152 UI). -/
def State.lineNow (s : State) (l : Nat) : Nat := s.bitsIn l s.elapsed

/-- The lanes of a port that its width uses (R265). -/
def State.width (s : State) (p : Nat) : Nat := [1, 2, 4].getD (s.f F.LNK_LANE_CFG_WIDTH p) 4

def State.ready? (s : State) (l : Nat) : Bool := s.on F.LANE_STATE_READY (l / 4) (l % 4)
def State.txLpi (s : State) (l : Nat) : Bool := s.on F.LANE_STATE_TX_LPI (l / 4) (l % 4)
def State.rxLpi (s : State) (l : Nat) : Bool := s.on F.LANE_STATE_RX_LPI (l / 4) (l % 4)

/-- A port sends and accepts packets only while enabled with a ready lane (R228). -/
def State.portOpen (s : State) (p : Nat) : Bool := s.on F.LNK_CFG_EN p && s.portReady p

/-- Ticks that `n` bytes take on a lane in 8b/10b, rounded up. -/
def State.byteTicks (s : State) (p n : Nat) : Nat := cdiv (n * 49152) (10 * s.rateMbps p)

/-! ### Words and lines -/

/-- The bytes of a word, most significant first (R230). -/
def netBytes (w : Word) : List Byte := [BitVec.ofNat 8 (w.toNat / 2 ^ 24), BitVec.ofNat 8 (w.toNat / 2 ^ 16),
  BitVec.ofNat 8 (w.toNat / 2 ^ 8), BitVec.ofNat 8 w.toNat]

/-- The CRC of words in line order (R232). -/
def lineCrc (ws : List Word) : Nat := crc32 (ws.flatMap netBytes)

/-- A number of `32 n` bits as words, most significant first. -/
def wordsOf (n v : Nat) : List Nat := (List.range n).map (fun i => v / 2 ^ (32 * (n - 1 - i)) % 2 ^ 32)

/-- Words, most significant first, as a number. -/
def numOf (ws : List Nat) : Nat := ws.foldl (fun a w => a * 2 ^ 32 + w % 2 ^ 32) 0

/-! ### Block floating point (R239, R240) -/

/-- The shift of exponent `e` at mantissa width `m`. -/
def bfpShift (m e : Nat) : Nat := e + b2n (m == 8)

/-- Every value fits exponent `e` (R240). -/
def bfpFits (m e : Nat) (vs : List Int) : Bool := vs.all (fun v => !overW m (rshr v (bfpShift m e)))

/-- The exponent of a block. -/
def bfpExp (m : Nat) (vs : List Int) : Nat := ((List.range 16).find? (fun e => bfpFits m e vs)).getD 15

/-- Append one block to a bit stream held as a number. -/
def bfpBlock (m : Nat) (acc : Nat) (b : List (Int × Int)) : Nat :=
  let vs := b.flatMap (fun x => [x.1, x.2])
  let e := bfpExp m vs
  vs.foldl (fun a v => a * 2 ^ m + trunc m (satW m (rshr v (bfpShift m e)))) (acc * 16 + e)

/-- The blocks of 16 samples of a list, by count. -/
def blocksOf {α : Type} (n : Nat) (l : List α) : List (List α) := (List.range n).map (fun i => (l.drop (16 * i)).take 16)

/-- Payload bits of `n` samples at mantissa width `m` (R241). -/
def payloadBits (m n : Nat) : Nat := 4 * cdiv n 16 + 2 * m * n

/-- The payload words of samples at mantissa width `m` (R239). -/
def compress (m : Nat) (xs : List (Int × Int)) : List Nat :=
  let b := payloadBits m xs.length
  let n := cdiv b 32
  wordsOf n ((blocksOf (cdiv xs.length 16) xs).foldl (bfpBlock m) 0 * 2 ^ (32 * n - b))

/-- `w` bits of a payload of `total` bits at bit position `pos` from its start. -/
def fieldAt (v total pos w : Nat) : Nat := v / 2 ^ (total - pos - w) % 2 ^ w

/-- The `n` samples of payload words (R240). -/
def expand (m n : Nat) (ws : List Nat) : List (Int × Int) :=
  let v := numOf ws
  let total := 32 * ws.length
  (List.range n).map (fun q =>
    let at_ := q / 16 * (4 + 32 * m)
    let e := fieldAt v total at_ 4
    let one (k : Nat) : Int := satW 24 (sext m (fieldAt v total (at_ + 4 + m * (2 * (q % 16) + k)) m) * (2 ^ bfpShift m e : Nat))
    (one 0, one 1))

/-! ### Timestamps (R257 to R259, R483) -/

/-- The skew of a port in 1/65,536 tick. -/
def State.skew (s : State) (p : Nat) : Int := if s.on F.PTB_CTRL_EN then sext 16 (s.f F.PTB_SKEW_SKEW p) * 1024 else 0

/-- Device time now in 1/65,536 tick, at an instant within the tick that the spec does not fix.
Log entry 38 (DESIGN CHOICE). -/
def State.stamp (s : State) : Nat × State :=
  let r := s.fresh 0x90
  (s.now * 65536 + r.1 % 65536, r.2)

/-- A time in 1/65,536 tick as units of 2^−16 ns (R259). -/
def nsUnits (t : Nat) : Nat := t * 3125 / 1536

/-- The five payload words of a one-way delay message: Measurement ID, action, timestamp and compensation (R259; the
layout is that of eCPRI 2.0). Log entry 34 (PRESUMED). -/
def delayWords (meas action t : Nat) (negative : Bool) : List Nat :=
  let v := nsUnits t
  let rho := v % 65536
  let comp := if negative then (2 ^ 64 - rho) % 2 ^ 64 else rho
  wordsOf 5 (meas * 2 ^ 152 + action * 2 ^ 144 + v / 65536 / 1000000000 % 2 ^ 48 * 2 ^ 96 +
    v / 65536 % 1000000000 * 2 ^ 64 + comp)

/-! ### Forming a packet -/

/-- The next sequence number of a key, advanced modulo `m` (R236). Log entry 33 (DEDUCED). -/
def State.nextSeq (s : State) (key m : Nat) : Nat × State :=
  let n := SMap.get 0 s.seqs key
  (n, { s with seqs := SMap.set 0 s.seqs key ((n + 1) % m) })

/-- The Trourn header the device sends (R231). -/
def State.trournHead (s : State) (p kind : Nat) : Nat := 2 ^ 30 + kind * 2 ^ 28 + s.f F.LNK_TAG_TX_TAG p

/-- A KIND 0 packet of an eCPRI type and payload (R233). -/
def State.ecpri (s : State) (p type : Nat) (payload : List Nat) : List Word :=
  let ws := ([s.trournHead p 0, 2 ^ 28 + type * 2 ^ 16 + 4 * payload.length] ++ payload).map (BitVec.ofNat 32)
  ws ++ [BitVec.ofNat 32 (lineCrc ws)]

/-- A KIND 1 packet of an NTYPE, identifier, sequence number and body (R234). -/
def State.native (s : State) (p ntype id seq : Nat) (body : List Nat) : List Word :=
  let ws := ([s.trournHead p 1, ntype * 2 ^ 24 + 4 * body.length, id * 2 ^ 16 + seq] ++ body).map (BitVec.ofNat 32)
  ws ++ [BitVec.ofNat 32 (lineCrc ws)]

/-- A native message with its sequence number. -/
def State.sendNative (s : State) (p ntype id : Nat) (body : List Nat) : List Word × State :=
  let r := s.nextSeq (if id = 0xFFFF then seqKey 6 p else seqKey 4 id) 65536
  (s.native p ntype id r.1 body, r.2)

/-- The words of a packet as it leaves, with what its sending notes at the port. -/
def State.form (s : State) (p : Nat) (m : OutPkt) : List Word × State :=
  match m.kind with
  | .timeSync =>
    let r := s.stamp
    let t := trunc 80 ((r.1 : Int) + s.skew p)
    let q := r.2.port p
    let body := [t / 2 ^ 48 % 2 ^ 32, t / 2 ^ 16 % 2 ^ 32, t % 2 ^ 16 * 2 ^ 16 + q.syncSeq, 0]
    (r.2.setPort p { q with syncSeq := (q.syncSeq + 1) % 65536 }).sendNative p 1 0xFFFF body
  | .delayReq =>
    let r := s.stamp
    let q := r.2.port p
    let s1 := (r.2.setPort p { q with meas := (q.meas + 1) % 256, dep := some r.1, depAt := s.elapsed }).setF
      F.LNK_DM_CTRL_BUSY 1 p
    (s1.ecpri p 5 (delayWords q.meas 0 (trunc 80 ((r.1 : Int) + s.skew p)) false), s1.setF F.LNK_DM_CTRL_MEAS_ID q.meas p)
  | .delayRsp meas t2 => (s.ecpri p 5 (delayWords meas 2 (trunc 80 ((t2 : Int) + s.skew p)) true), s)
  | .notice => s.sendNative p 2 m.id m.body
  | .event => s.sendNative p 3 m.id ([m.body.headD 0, s.now / 2 ^ 32, s.now % 2 ^ 32] ++ m.body.drop 3)
  | .mgmt => s.sendNative p 5 m.id m.body
  | .iq | .capture =>
    let r := s.nextSeq (seqKey 3 m.id) 256
    (s.ecpri p 0 ([m.id * 2 ^ 16 + r.1 * 256 + 128] ++ m.body), r.2)

/-! ### The queue (R264) -/

/-- The priority of a packet, 0 first. -/
def OutKind.prio : OutKind → Nat
  | .timeSync | .delayReq | .delayRsp _ _ => 0
  | .notice | .event => 1
  | .mgmt => 2
  | .iq => 3
  | .capture => 4

/-- The order of a packet among those waiting: priority, then the air boundary for receive IQ. -/
def OutPkt.rank (m : OutPkt) : Nat × Nat := (m.kind.prio, if m.kind = .iq then m.air else 0)

/-- Packet `m` may travel on lane `l`: the lane it was dealt, the timing lane (R257), or any. Log entry 37 (DEDUCED). -/
def State.mayUse (s : State) (l : Nat) (m : OutPkt) : Bool :=
  match m.lane with
  | some l' => l' == l
  | none => if m.kind.prio = 0 then l % 4 == s.lowLane (l / 4) else true

/-- Rank order. -/
def rankLt (a b : Nat × Nat) : Bool := decide (a.1 < b.1) || (a.1 == b.1 && decide (a.2 < b.2))

/-- Some packet of flow `f` of a symbol before air time `e` is queued or being sent. -/
def State.before (s : State) (f e : Nat) : Bool :=
  ((List.range 4).flatMap (fun p => (s.port p).outq) ++ (List.range 16).flatMap (fun l => ((s.lane l).cur.map (·.pkt)).toList)).any
    (fun m => m.flow == some f && decide (m.air < e))

/-- Packet `m` is held: its flow's lanes change at E, and packets of the symbols before E have not all left the old lanes
(R220). Log entry 28 (DEDUCED). -/
def State.moveHeld (s : State) (m : OutPkt) : Bool :=
  match m.flow with
  | some f => match s.moveAt f with
    | some (e, a, b) => decide (e ≤ m.air) && (a.port != b.port || a.lanes != b.lanes) && s.before f e
    | none => false
  | none => false

/-- The position of the packet lane `l` sends next. -/
def State.pick (s : State) (l : Nat) : Option Nat :=
  (((s.port (l / 4)).outq.zipIdx).filter (fun e => s.mayUse l e.1 && !s.moveHeld e.1)).foldl (fun b e => match b with
    | none => some (e.1.rank, e.2)
    | some c => if rankLt e.1.rank c.1 then some (e.1.rank, e.2) else some c) none |>.map (·.2)

/-- A hold of some injector of a kind is in progress on target `x` (R482). Log entry 37 (DEDUCED). -/
def State.bpHeld (s : State) (kind x : Nat) : Bool :=
  s.ptb.holds.any (fun e => e.2 % 1024 == kind * 512 + x)

/-- A packet of a flow starts on a lane: the first of its symbol to leave starts the symbol (R225). -/
def State.pktStarted (s : State) (m : OutPkt) : State :=
  match m.flow with
  | some f => if m.dead || (s.flow f).inflight.any (fun e => e.1 == m.idx) then s else s.flowStarted f m.idx 0
  | none => s

/-- 5,120 characters have passed since lane `l` sent its last SKP (R269). Log entry 84 (DEDUCED). -/
def State.skpDue (s : State) (l : Nat) : Bool := decide (bitUnits 51200 ≤ s.lineNow l - (s.lane l).skpAt)

/-- Between packets a ready lane sends the SKP that is due (R269). -/
def State.skpTick (s : State) (l : Nat) : State :=
  let x := s.lane l
  if s.ready? l && !s.txLpi l && x.cur.isNone && s.skpDue l then s.setLane l { x with skpAt := s.lineNow l } else s

/-- A lane sends packet number `i` of its port's queue, after its SOP and an SKP that is due (R230, R269). -/
def State.sendPkt (s : State) (l i : Nat) (m : OutPkt) : State :=
  let p := l / 4
  let q := s.port p
  let m' := if m.kind = .mgmt then { m with idx := s.symIdx (s.f F.PLC_CFG_TL) s.now } else m
  let s1 := s.setPort p { q with outq := q.outq.eraseIdx i }
  let r := s1.form p m'
  (r.2.setLane l { r.2.lane l with
    cur := some { pkt := m', words := r.1, done := s.elapsed + s.byteTicks p (4 * r.1.length + (if s.skpDue l then 8 else 4)) },
    skpAt := if s.skpDue l then s.lineNow l else (s.lane l).skpAt }).pktStarted m'

/-- At a packet boundary lane `l` starts its next packet (R264); a port held by back-pressure starts none (R482). -/
def State.packetTransmit (s : State) (l : Nat) : State :=
  let p := l / 4
  let x := s.lane l
  if s.portOpen p && s.ready? l && !s.txLpi l && x.cur.isNone && x.wake.isNone then
    match s.pick l with
    | none => s
    | some i =>
      match (s.port p).outq[i]? with
      | none => s
      | some m =>
        if s.bpHeld 0 p then
          if m.held then s
          else (s.bump F.PTB_COUNT_HELD).setPort p { s.port p with outq := (s.port p).outq.set i { m with held := true } }
        else s.sendPkt l i m
  else s

/-- PACKET_TRANSMIT (R264). -/
def execPacketTransmit (l : Fin 16) (s : State) : Out := .next (s.core (s.packetTransmit l))

/-- The latency of a receive symbol whose last byte leaves now (R209). Log entry 35 (DEDUCED). -/
def State.rxLatency (s : State) (f air : Nat) : State :=
  let d := s.now - air
  let lim := s.f F.FLW_LIMITS_LAT_MAX f
  let s1 := s.setF F.FLW_LAT_WORST (max (s.f F.FLW_LAT_WORST f) (min 65535 (d / 16))) f
  if (s.fClass f = 1 ∨ s.fClass f = 2) ∧ lim ≠ 0 ∧ lim * 16 < d then
    s1.setFlow f { s1.flow f with lates := (s1.flow f).lates ++ [d] } else s1

/-- Some packet of a capture of flow `f` is still queued or being sent (R242). -/
def State.capSending (s : State) (f : Nat) : Bool :=
  ((List.range 4).flatMap (fun p => (s.port p).outq) ++ (List.range 16).flatMap (fun l => ((s.lane l).cur.map (·.pkt)).toList)).any
    (fun m => m.flow == some f && m.kind == .capture)

/-- A packet of a flow has left whole: its symbol is delivered once all its packets have (R225). -/
def State.flowPktSent (s : State) (f : Nat) (m : OutPkt) : State :=
  let x := s.flow f
  let n := SMap.get 0 x.left m.idx + 1
  let s1 := if m.dead then s
    else if m.kind = .mgmt then
      (s.setFlow f { x with inflight := x.inflight.filter (fun e => e.1 != m.idx) }).flowDelivered f
        (s.symIdx (s.f F.PLC_CFG_TL) s.now)
    else if m.parts ≤ n then
      let s1 := s.flowDelivered f m.idx
      if m.kind = .iq then s1.rxLatency f m.air else s1
    else s.setFlow f { x with left := SMap.set 0 x.left m.idx n }
  if m.kind = .capture then s1.setFlow f { s1.flow f with capBusy := s1.capSending f } else s1

/-- The port whose posted response a packet is may post the next (R253). -/
def State.postOver (s : State) (m : OutPkt) : State :=
  match m.posted with
  | some r => s.setF F.LNK_MGMT_POST_BUSY 0 r
  | none => s

/-- The last byte of a packet has left lane `l`. -/
def State.packetSent (s : State) (l : Nat) : State :=
  match (s.lane l).cur with
  | none => s
  | some c =>
    let s1 := (s.setLane l { s.lane l with cur := none, idle := s.elapsed }).postOver c.pkt
    match c.pkt.flow with
    | none => s1
    | some f => s1.flowPktSent f c.pkt

/-- Lane `l` in a tick: a packet whose last byte has left is done. -/
def State.laneSend (s : State) (l : Nat) : State :=
  match (s.lane l).cur with
  | some c => if c.done ≤ s.elapsed then s.packetSent l else s
  | none => s

/-! ### Receive IQ (R237, R238, R247) -/

/-- The ready lanes of flow `f` for the symbol at air time `a`. -/
def State.flowLanes (s : State) (f a : Nat) : List Nat :=
  let p := s.placeAt f a
  if s.on F.LNK_CFG_EN p.port then ((lanesOf p.lanes).filter (s.laneReady p.port)).map (fun j => 4 * p.port + j) else []

/-- Deal a packet of the flow to one of its lanes in turn (R264). -/
def State.deal (s : State) (f a : Nat) : Option Nat × State :=
  let ls := s.flowLanes f a
  let x := s.flow f
  (ls[x.rot % max 1 ls.length]?, s.setFlow f { x with rot := x.rot + 1 })

/-- Samples `start … start + n − 1` of symbol `idx` as they stand in the buffer. -/
def State.samplesOf (s : State) (f idx start n : Nat) : List (Int × Int) :=
  (List.range n).map (fun q => s.sampleAt (s.bufAddr f idx (start + q)))

/-- The samples of `as`, zero where one overlaps the 64-bit word of address `w` (R472). -/
def zeroWord (xs : List (Nat × (Int × Int))) (w : Nat) : List (Int × Int) :=
  xs.map (fun e => if e.1 < w + 8 ∧ w < e.1 + 6 then (0, 0) else e.2)

/-- The body of an IQ packet after PC_ID and SEQ_ID (R237): the section header and the payload. -/
def iqBody (frame symbol mant start timeLo : Nat) (last : Bool) (xs : List (Int × Int)) : List Nat :=
  [frame * 2 ^ 22 + symbol * 2 ^ 11 + mant * 2 ^ 8 + b2n last * 128, start % 65536 * 2 ^ 16 + xs.length, timeLo] ++
    compress (mantBits mant) xs

/-- A stamped time of a port in whole ticks, low word (R483). -/
def State.timeLo (s : State) (p t : Nat) : Nat := trunc 32 ((t : Int) + rshr (s.skew p) 16)

/-- The first symbol written for the flow is done with: sent or abandoned. -/
def State.rxSymOver (s : State) (f : Nat) : State :=
  let x := s.flow f
  s.setFlow f { x with rxIn := x.rxIn.drop 1, rxPkt := 0, rxBad := false }

/-- The flow's samples and job allow packet `i` of symbol `idx` to be queued (R247, R314). -/
def State.rxMay (s : State) (f idx n i : Nat) : Bool :=
  let start := 1024 * i
  let cnt := min 1024 (s.symSamples f idx - start)
  s.fType f == 1 && s.fState f == 2 && decide (start + cnt ≤ n) && (!s.usesEngine f || decide (3 ≤ s.jobOf f idx))

/-- Build and queue the next packet of the flow's first receive symbol.  `bad` is a sample whose 64-bit word cannot be
corrected. -/
def State.rxIqSend (s : State) (f : Nat) (bad : Option Nat) : State :=
  match (s.flow f).rxIn with
  | [] => s
  | (idx, n) :: _ =>
    let x := s.flow f
    let k := s.fTl f
    let a := s.airOf k idx
    let i := x.rxPkt
    let total := s.symSamples f idx
    let cnt := min 1024 (total - 1024 * i)
    let lastPk := decide (packetsOf total ≤ i + 1)
    if !s.rxMay f idx n i then s
    else
      match s.deal f a with
      | (none, s1) => (if x.rxBad then s1 else s1.abandon f idx).rxSymOver f
      | (some l, s1) =>
        let xs := (List.range cnt).map (fun q => (s.bufAddr f idx (1024 * i + q), s.sampleAt (s.bufAddr f idx (1024 * i + q))))
        let badW := (bad.bind (fun b => xs[b]?)).map (fun e => e.1 / 8 * 8)
        let s2 := match badW with
          | some w => (s1.bump F.FLT_ECC_COUNT_UNCORRECTED).ledger 0x28 w
          | none => s1
        let ys := match badW with
          | some w => zeroWord xs w
          | none => xs.map (·.2)
        let m : OutPkt :=
          { kind := .iq
            id := s.f F.FLW_CTRL_LINK_ID f
            flow := some f
            idx := idx
            air := a
            lane := some l
            parts := packetsOf total
            dead := x.rxBad
            body := iqBody (s.idxFrame k idx) (s.idxSym k idx) (s.f F.FLW_CTRL_MANT f) (1024 * i)
              (s.timeLo (l / 4) (a + 1024 * i * s.fRatio f)) lastPk ys }
        let s3 := s2.enqueue (l / 4) m
        if lastPk then (s3.rxSymOver f).setJob f idx 0 else s3.setFlow f { s3.flow f with rxPkt := i + 1 }

/-- RX_IQ_PACKET_SEND (R247). -/
def execRxIqPacketSend (f : Fin 512) (bad : Option (Fin 1024)) (s : State) : Out :=
  .next (s.core (s.rxIqSend f (bad.map (·.val))))

/-! ### Captures (R242) -/

/-- Queue the packets of a capture, oldest first. -/
def State.captureQueue (s : State) (f : Nat) (idx count : Nat) : Nat → State
  | 0 => s
  | n + 1 =>
    let total := packetsOf count
    let i := total - (n + 1)
    let k := s.f F.PLC_CFG_TL
    let pl := s.place f
    let xs := (List.range (min 1024 (count - 1024 * i))).map (fun q =>
      s.sampleAt (0x20000000 + pl.page * 4096 + 6 * (1024 * i + q)))
    match s.deal f s.now with
    | (none, s1) => s1
    | (some l, s1) =>
      let m : OutPkt :=
        { kind := .capture
          id := s.f F.FLW_CTRL_LINK_ID f
          flow := some f
          idx := idx
          air := s.now
          lane := some l
          parts := total
          body := iqBody (s.frameNo k s.now) (s.symNo k s.now) (s.f F.FLW_CTRL_MANT f) (1024 * i)
            (s.timeLo (l / 4) s.now) (n == 0) xs }
      State.captureQueue (s1.enqueue (l / 4) m) f idx count n

/-- A write of LNK.CAP_POST: its fields, then a capture on GO; a flow carries none before its start symbol (R211, R242).
Log entry 36 (DEDUCED). -/
def State.capPostWrite (s : State) (p v : Nat) : State :=
  let s1 := s.writeReg .LNK_CAP_POST v p
  if !bit v 31 then s1
  else
    let f := s1.f F.LNK_CAP_POST_FID p
    if s1.fState f = 2 ∧ s1.fType f = 4 ∧ s1.carries f s1.now ∧ (s1.flow f).capBusy = false then
      if s1.flowLanes f s1.now = [] then s1
      else
        let c := max 1 (s1.f F.LNK_CAP_POST_COUNT p)
        (s1.setFlow f { s1.flow f with capBusy := true }).captureQueue f (s1.symIdx (s1.f F.PLC_CFG_TL) s1.now) c (packetsOf c)
    else s1.ledger 0x1D f

/-- CAPTURE_POST (R242). -/
def execCapturePost (p : Fin 4) (w : Word) (s : State) : Out :=
  s.regCmd (regAddr .LNK_CAP_POST p) (s.capPostWrite p (w.toNat ||| 2 ^ 31))

/-! ### Management responses (R251 to R253) -/

/-- The management flow a response slot answers: that of the request in the ring slot of the same number, else the
lowest ACTIVE management flow of the port (assumption log). Log entry 33 (DEDUCED). -/
def State.mgmtFlow (s : State) (p slot : Nat) : Option Nat :=
  let r := SMap.get 0 (s.port p).reqFlow slot
  if r ≠ 0 then some (r - 1) else (s.flowsIn 2).find? (fun f => s.fType f == 3 && s.carries f s.now && s.equivalent (s.place f).port p)

/-- Queue an MGMT_RSP of a management flow, or of the port itself where no flow is known; `post` is the port that posted
it. -/
def State.mgmtSend (s : State) (p : Nat) (fl : Option Nat) (post : Option Nat) (body : List Nat) : State :=
  let m : OutPkt := { kind := .mgmt, flow := fl, air := s.now, posted := post, body := body }
  match fl with
  | none => s.enqueue p m
  | some f =>
    match s.deal f s.now with
    | (none, s1) => s1.postOver m
    | (some l, s1) => s1.enqueue (l / 4) { m with id := s.f F.FLW_CTRL_LINK_ID f, lane := some l }

/-- A write of LNK.MGMT_POST: its fields, then the response on GO unless one is being sent. -/
def State.mgmtPostWrite (s : State) (p v : Nat) : State :=
  let s1 := s.writeReg .LNK_MGMT_POST v p
  if !bit v 31 || s1.on F.LNK_MGMT_POST_BUSY p || !s1.portOpen p then s1
  else
    let slot := s1.f F.LNK_MGMT_POST_SLOT p
    let n := max 1 (s1.f F.LNK_MGMT_POST_WORDS p)
    let base := 0x20000000 + s1.f F.LNK_MGMT_RING_BASE p / 16384 * 16384 + 8192 + slot * 512
    (s1.setF F.LNK_MGMT_POST_BUSY 1 p).mgmtSend p (s1.mgmtFlow p slot) (some p)
      ((List.range n).map (fun i => s1.rd32 (base + 4 * i)))

/-- MGMT_POST (R253). -/
def execMgmtPost (p : Fin 4) (w : Word) (s : State) : Out :=
  s.regCmd (regAddr .LNK_MGMT_POST p) (s.mgmtPostWrite p (w.toNat ||| 2 ^ 31))

/-! ### Timing messages (R258, R260) -/

/-- A delay Request joins the queue. Log entry 33 (DEDUCED). -/
def State.askDelay (s : State) (p : Nat) : State := if s.portOpen p then s.enqueue p { kind := .delayReq } else s

/-- A write of LNK.DM_CTRL. -/
def State.dmCtrlWrite (s : State) (p v : Nat) : State := if bit v 31 then s.askDelay p else s

/-- DELAY_MEASURE_GO (R260). -/
def execDelayMeasureGo (p : Fin 4) (w : Word) (s : State) : Out :=
  s.regCmd (regAddr .LNK_DM_CTRL p) (s.dmCtrlWrite p (w.toNat ||| 2 ^ 31))

/-- A master port sends a TIME_SYNC every SYNC_INT ms (R258). -/
def State.timeSyncTimer (s : State) (p : Nat) : State :=
  let q := s.port p
  if s.portOpen p && s.f F.LNK_CFG_TIME_ROLE p == 1 &&
      decide (q.syncAt + s.f F.LNK_CFG_SYNC_INT p * msTicks ≤ s.elapsed) then
    (s.setPort p { q with syncAt := s.elapsed }).enqueue p { kind := .timeSync }
  else s

/-- TIME_SYNC_TIMER (R258). -/
def execTimeSyncTimer (p : Fin 4) (s : State) : Out := .next (s.core (s.timeSyncTimer p))

/-! ### Placement notices and events (R254 to R256) -/

/-- The two words of a notice (R254). Log entry 37 (DEDUCED). -/
def State.noticeBody (s : State) (f : Nat) (m : Move) (e : Nat) : List Nat :=
  let k := s.fTl f
  [s.f F.FLW_CTRL_LINK_ID f * 2 ^ 16 + m.to_.port * 2 ^ 13 + (s.place f).port * 2 ^ 11 + k * 2 ^ 9 + f,
   s.frameNo k e * 2 ^ 22 + s.symNo k e * 2 ^ 11]

/-- A copy of the notice of a port move is sent on the old and the new port, on the new one only where the old has no
ready lane (R221). Log entry 37 (DEDUCED). -/
def State.noticeSend (s : State) (f : Nat) : State :=
  match (s.flow f).move with
  | some m =>
    match m.at_ with
    | some e =>
      if m.sent < 3 ∧ m.due ≤ s.elapsed then
        let s1 := s.setFlow f { s.flow f with move := some { m with sent := m.sent + 1, due := s.elapsed + usTicks 10 } }
        [(s.place f).port, m.to_.port].foldl (fun s p =>
          if s.portOpen p then s.enqueue p { kind := .notice, body := s.noticeBody f m e } else s) s1
      else s
    | none => s
  | none => s

/-- PLACEMENT_NOTICE_SEND (R254). -/
def execPlacementNoticeSend (f : Fin 512) (s : State) : Out := .next (s.core (s.noticeSend f))

/-- A port's event moderation timer expires (R255); under GDIS the target acts on nothing (R511). -/
def State.eventModTimer (s : State) (p : Nat) : State :=
  let q := s.port p
  if q.evTimer = true ∧ q.evStart ≤ s.el25 then
    let s1 := s.setPort p { q with evTimer := false }
    if s.on F.EVC_CTRL_GDIS then s1 else s1.sendEvents p 32
  else s

/-! ### Lanes that leave ready (R226, R256, R261, R263) -/

/-- One lost packet: an EVENT is queued again; a flow's symbol is abandoned once. Log entry 37 (DEDUCED). -/
def State.loseOne (p : Nat) (s : State) (m : OutPkt) : State :=
  let s1 := s.postOver m
  match m.kind, m.flow with
  | .event, _ => s1.enqueue p { m with lane := none }
  | .iq, some f =>
    let s2 := if m.dead then s1 else s1.abandon f m.idx
    if (s1.flow f).rxIn.head?.map (·.1) = some m.idx then s2.setFlow f { s2.flow f with rxBad := true } else s2
  | .capture, some f =>
    let s2 := if m.dead then s1 else s1.abandon f m.idx
    s2.setFlow f { s2.flow f with capBusy := s2.capSending f }
  | .mgmt, some f => if (s1.flow f).inflight.any (fun e => e.1 == m.idx) then s1.abandon f m.idx else s1
  | _, _ => s1

/-- The first packet of each symbol in a list. -/
def firstOfSyms : List OutPkt → List OutPkt
  | [] => []
  | m :: ms => m :: (firstOfSyms ms).filter (fun x => m.flow.isNone || m.kind == .mgmt || x.flow != m.flow || x.idx != m.idx)

/-- The packets lane `l` had begun or queued are lost; what remains of their symbols, wherever it is queued or being
sent, no longer delivers one. -/
def State.losePackets (s : State) (l : Nat) : State :=
  let p := l / 4
  let q := s.port p
  let lost := ((s.lane l).cur.map (·.pkt)).toList ++ q.outq.filter (fun m => m.lane == some l)
  let hit (m : OutPkt) : Bool := m.flow.isSome && m.kind != .mgmt && lost.any (fun x => x.flow == m.flow && x.idx == m.idx)
  let s0 := (s.setPort p { q with outq := q.outq.filter (fun m => m.lane != some l) }).setLane l { s.lane l with cur := none }
  let s1 := (List.range 4).foldl (fun s r => s.setPort r { s.port r with
    outq := (s.port r).outq.map (fun m => if hit m then { m with dead := true } else m) }) s0
  let s2 := (List.range 16).foldl (fun s j => match (s.lane j).cur with
    | some c => if hit c.pkt then s.setLane j { s.lane j with cur := some { c with pkt := { c.pkt with dead := true } } } else s
    | none => s) s1
  (firstOfSyms lost).foldl (State.loseOne p) s2

/-- The timing lane of port `p` has changed: VALID clears and an exchange in hand is void (R261). -/
def State.timingLost (s : State) (p : Nat) : State :=
  ((s.setF F.LNK_TIME_DELAY_VALID 0 p).setF F.LNK_DM_CTRL_BUSY 0 p).setPort p { s.port p with sync := none, dep := none }

/-- The ready lanes of a port as bits. -/
def State.readyMask (s : State) (p : Nat) : Nat := laneMask ((List.range 4).filter (fun j => s.on F.LANE_STATE_READY p j))

/-- LANE.STATE.READY of lane `l` changes (R278): its copy in LANE_STATUS, line 360 + l, the timing lane, and the
orientation, which is forgotten when no lane is ready (R274). -/
def State.setReady (s : State) (l : Nat) (v : Bool) : State :=
  let p := l / 4
  if s.ready? l = v then s
  else
    let low := s.lowLane p
    let had := s.portReady p
    let s0 := s.setF F.LANE_STATE_READY (b2n v) p (l % 4)
    let s1 := s0.setF F.LNK_LANE_STATUS_READY (s0.readyMask p) p
    let s2 := if s1.portReady p = had ∧ s1.lowLane p = low then s1 else s1.timingLost p
    let s3 := if s2.portReady p then s2 else (s2.setF F.LNK_LANE_STATUS_ORIENT_VALID 0 p).setF F.LNK_LANE_STATUS_REVERSED 0 p
    s3.pulse (360 + l)

end Sys2Proof.Machine
end

