-- ==== Sys2Proof/Machine/LaneCtl.lean ====
section
/-!
DEFINITION. Sys2Proof/Machine/LaneCtl.lean: the link lanes of chapter 10: bring-up, leaving ready, equalisation, pattern
testing, margin measurement and low-power idle.
-/
namespace Sys2Proof.Machine

/-! ### Ordered sets (R268, R272) -/

/-- A character before 8b/10b coding (R267): control K`x`.`y` or data D`x`.`y`. -/
inductive LineChar
  | k (x y : Nat)
  | d (x y : Nat)
  deriving DecidableEq, Repr

/-- The data character of byte value `b`. -/
def LineChar.byte (b : Nat) : LineChar := .d (b % 32) (b / 32 % 8)

/-- The ordered sets of R268; TS with its lane number and flags. -/
inductive OrderedSet
  | ts (k flags : Nat)
  | dsk | idle | skp | sop | lpi
  deriving DecidableEq, Repr

/-- The four characters of an ordered set as sent (R268). -/
def OrderedSet.chars : OrderedSet → List LineChar
  | .ts k flags => [.k 28 5, .d 21 5, .byte k, .byte flags]
  | .dsk => List.replicate 4 (.k 28 1)
  | .idle => .k 28 5 :: List.replicate 3 (.d 16 2)
  | .skp => .k 28 5 :: List.replicate 3 (.k 28 1)
  | .sop => .k 28 1 :: List.replicate 3 (.d 21 5)
  | .lpi => .k 28 5 :: List.replicate 3 (.d 12 4)

/-- The flags character of TS: width code, rate code and READY (R272). -/
def State.tsFlags (s : State) (l : Nat) : Nat :=
  s.f F.LNK_LANE_CFG_WIDTH (l / 4) * 64 + s.f F.LNK_LANE_CFG_RATE (l / 4) * 16 + (if (s.lane l).stage = 8 then 8 else 0)

/-- The TS that transmit lane `l` sends: its own number and the flags (R272, R274). -/
def State.tsOf (s : State) (l : Nat) : OrderedSet := .ts (l % 4) (s.tsFlags l)

/-- The ordered set lane `l` repeats between packets: TS in bring-up, IDLE while ready, and none at electrical idle, in
low-power idle or on a lane that is off (R268, R269, R277, R287). -/
def State.filler (s : State) (l : Nat) : Option OrderedSet :=
  if !s.on F.LNK_CFG_EN (l / 4) || decide (s.width (l / 4) ≤ l % 4) || s.txLpi l then none
  else if s.ready? l then some .idle
  else if (s.lane l).hold.isSome then none
  else some (s.tsOf l)

/-! ### Stages -/

/-- LANE.STATE.STAGE as the lane stands: 10 in pattern testing, the pair's stage from stage 6 on, else that of the
receive lane of the same number (R271, R282); a receive lane that has joined a pair keeps showing stage 5. -/
def State.stageOf (s : State) (l : Nat) : Nat :=
  let x := s.lane l
  if !s.on F.LNK_CFG_EN (l / 4) then
    (if l % 4 < s.width (l / 4) ∧ (s.on F.LANE_PRBS_CTRL_GEN (l / 4) (l % 4) ∨ s.on F.LANE_PRBS_CTRL_CHK (l / 4) (l % 4)) then 10 else 0)
  else if l % 4 < s.width (l / 4) then (if x.stage ≠ 0 then x.stage else if x.rxStage ≠ 0 then x.rxStage else 5) else 0

/-- STATE.STAGE follows; the spec gives it no value during the 20 µs hold of R277 and R278, where it is free.
Log entry 39 (DESIGN CHOICE). -/
def State.showStage (s : State) (l : Nat) : State :=
  let x := s.lane l
  if s.on F.LNK_CFG_EN (l / 4) ∧ x.hold.isSome ∧ x.stage = 0 then
    let r := s.fresh 0xA0
    r.2.setF F.LANE_STATE_STAGE r.1 (l / 4) (l % 4)
  else s.setF F.LANE_STATE_STAGE (s.stageOf l) (l / 4) (l % 4)

/-- The lane number to which receive lane `l` belongs under the port's orientation (R274). -/
def State.ownerLane (s : State) (l : Nat) : Nat :=
  if s.on F.LNK_LANE_STATUS_REVERSED (l / 4) then 4 * (l / 4) + (s.width (l / 4) - 1 - l % 4) else l

/-- Both equalisers of a lane are frozen (R281). -/
def State.bothFrozen (s : State) (l : Nat) : Bool :=
  s.on F.LANE_CTRL_CTLE_FRZ (l / 4) (l % 4) && s.on F.LANE_CTRL_DFE_FRZ (l / 4) (l % 4)

/-- The equalisers of a receive lane adapt (R280, R281): from stage 2 on, or while its checker runs. -/
def State.adapting (s : State) (l : Nat) : Bool :=
  !s.rxLpi l && (decide (2 ≤ s.stageOf l ∧ s.stageOf l ≤ 9) || s.on F.LANE_PRBS_CTRL_CHK (l / 4) (l % 4))

/-- Receive lane `l` enters a stage of 1 to 5. -/
def State.rxEnter (s : State) (l st : Nat) : State :=
  let x := { s.lane l with rxStage := st, rxAt := s.elapsed, rxInv := (s.lane l).rxInv && st != 1 }
  (s.setLane l (if st = 2 then { x with eqAt := List.replicate 10 (s.lineNow l) } else x)).showStage l

/-- Lane `l` enters a stage of 6 to 8; both frozen ends stage 7 at once. -/
def State.enter (s : State) (l st : Nat) : State :=
  let st' := if st = 7 ∧ s.bothFrozen l = true then 8 else st
  (s.setLane l { s.lane l with stage := st', at_ := s.elapsed, skew := none }).showStage l

/-- A margin measurement of lane `l` is stopped (R286). -/
def State.eyeAbort (s : State) (l : Nat) : State :=
  if s.on F.LANE_EYE_CTRL_BUSY (l / 4) (l % 4) then
    (s.setF F.LANE_EYE_CTRL_BUSY 0 (l / 4) (l % 4)).setF F.LANE_EYE_CTRL_ABORTED 1 (l / 4) (l % 4)
  else s

/-! ### Enabling and disabling a port (R271, R278, R282) -/

/-- Lane `l` begins bring-up, or stays powered down beyond the width (R265). -/
def State.laneBegin (s : State) (l : Nat) : State :=
  let p := l / 4
  let j := l % 4
  let s1 := s.eyeAbort l
  let s2 := (((s1.setF F.LANE_PRBS_CTRL_GEN 0 p j).setF F.LANE_PRBS_CTRL_CHK 0 p j).setF F.LANE_PRBS_CTRL_LOCK 0 p j)
  let s3 := s2.setLane l (if j < s.width p then { rxStage := 1, rxAt := s.elapsed } else {})
  (s3.setF F.LANE_STATE_RX_INV 0 p j).showStage l

def portLanes (p : Nat) : List Nat := [4 * p, 4 * p + 1, 4 * p + 2, 4 * p + 3]

/-- The port starts: pattern testing ends and its lanes begin bring-up. -/
def State.portStart (s : State) (p : Nat) : State :=
  let s1 := (portLanes p).foldl State.laneBegin s
  { s1.setPort p { s1.port p with syncAt := s.elapsed } with seqs := SMap.erase s1.seqs (seqKey 5 p) }

/-- Lane `l` leaves ready with a cause (R278): its registers, its ledger entry, and the packets it carried. -/
def State.leaveReady (s : State) (l cause : Nat) : State :=
  let p := l / 4
  let j := l % 4
  let s1 := ((s.setF F.LANE_STATE_DOWN_CAUSE cause p j).bump F.LANE_ERR_DOWN_COUNT p j)
  let s2 := if cause = 7 then s1 else if cause = 6 then s1.ledger 0x22 l else s1.ledger 0x21 l cause
  let s3 := ((s2.setF F.LANE_STATE_TX_LPI 0 p j).setF F.LANE_STATE_RX_LPI 0 p j).eyeAbort l
  (s3.losePackets l).setReady l false

/-- Lane `l` is out of ready and holds electrical idle for 20 µs before its receive lane starts again at stage 1. -/
def State.laneHold (s : State) (l : Nat) : State :=
  let x := s.lane l
  (s.setLane l { hold := some (s.el25 + us25 20), holdRx := 4 * (l / 4) + x.src, fails := x.fails, failRec := x.failRec,
                 rxStage := if x.src = l % 4 then 0 else x.rxStage, rxAt := x.rxAt, rxInv := x.rxInv }).showStage l

/-- A ready lane leaves ready and returns to stage 1 after the hold. -/
def State.laneDown (s : State) (l cause : Nat) : State := if s.ready? l then (s.leaveReady l cause).laneHold l else s

/-- The port stops: its ready lanes leave ready with cause 7, and every lane is off. -/
def State.portStop (s : State) (p : Nat) : State :=
  let s1 := (portLanes p).foldl (fun s l => if s.ready? l then s.leaveReady l 7 else s) s
  let s2 := (portLanes p).foldl (fun s l => (s.setLane l {}).showStage l) s1
  let s3 := (s2.setF F.LNK_LANE_STATUS_ORIENT_VALID 0 p).setF F.LNK_LANE_STATUS_REVERSED 0 p
  s3.setPort p { s3.port p with outq := (s3.port p).outq.filter (fun m => m.kind == .event) }

/-- A write of LNK[p].CFG. -/
def State.portCfgWrite (s : State) (p v : Nat) : State :=
  let s1 := s.writeReg .LNK_CFG v p
  if s1.on F.LNK_CFG_EN p = s.on F.LNK_CFG_EN p then s1
  else if s1.on F.LNK_CFG_EN p then s1.portStart p else s1.portStop p

/-- PORT_ENABLE (R271). -/
def execPortEnable (p : Fin 4) (w : Word) (s : State) : Out :=
  s.regCmd (regAddr .LNK_CFG p) (s.portCfgWrite p (w.toNat ||| 2 ^ 31))
/-- PORT_DISABLE (R278). -/
def execPortDisable (p : Fin 4) (w : Word) (s : State) : Out :=
  s.regCmd (regAddr .LNK_CFG p) (s.portCfgWrite p (w.toNat % 2 ^ 31))

/-! ### Bring-up (R271 to R277) -/

/-- Skew in UI that 40 ns are at the port's rate (R266, R271). -/
def State.skewLimit (s : State) (p : Nat) : Nat := s.rateMbps p * 40 / 1000

/-- Some other lane of the port is in stages 6 to 8 (R275). -/
def State.otherDeskew (s : State) (l : Nat) : Bool :=
  (portLanes (l / 4)).any (fun m => m != l && decide (6 ≤ (s.lane m).stage ∧ (s.lane m).stage ≤ 8))

/-- The orientation receive lane `l` shows by carrying number `k`: straight, reversed, or neither (R274). -/
def State.orientOf (s : State) (l k : Nat) : Option Bool :=
  if k < s.width (l / 4) then
    if k = l % 4 then some false else if k + l % 4 + 1 = s.width (l / 4) then some true else none
  else none

/-- Receive lane `l` in stage 5 carries number `k` with width and rate codes (R274). -/
def State.laneIdEnd (s : State) (l k width rate : Nat) : State :=
  let p := l / 4
  match s.orientOf l k with
  | none => s
  | some rev =>
    let valid := s.on F.LNK_LANE_STATUS_ORIENT_VALID p
    let same := s.on F.LNK_LANE_STATUS_REVERSED p == rev
    if width ≠ s.f F.LNK_LANE_CFG_WIDTH p ∨ rate ≠ s.f F.LNK_LANE_CFG_RATE p ∨ (valid && !same) = true then s
    else
      let s1 := (s.setF F.LNK_LANE_STATUS_ORIENT_VALID 1 p).setF F.LNK_LANE_STATUS_REVERSED (b2n rev) p
      let inv := (s.lane l).rxInv
      let s2 := (s1.setLane l { s1.lane l with rxStage := 0 }).showStage l
      let m := 4 * p + k
      let s3 := (s2.setF F.LANE_STATE_RX_SRC (l % 4) p k).setF F.LANE_STATE_RX_INV (b2n inv) p k
      (s3.setLane m { s3.lane m with src := l % 4 }).enter m 6

/-- The limit of a stage in microseconds (R271); stage 1 has none. -/
def stageLimit (st : Nat) : Nat := [0, 0, 200, 10, 10, 20, 20, 2000, 100].getD st 0

/-- A stage entered at elapsed tick `t` has exceeded its limit (R271, R277). -/
def State.overLimit (s : State) (st t : Nat) : Bool := decide (2 ≤ st) && decide (us25 (stageLimit st) < (s.elapsed - t) * 25)

/-- Receive lane `l` is in stage `st` and within its limit. -/
def State.inRx (s : State) (l st : Nat) : Bool := (s.lane l).rxStage == st && !s.overLimit st (s.lane l).rxAt

/-- Lane `l` is in stage `st` of 6 to 8 and within its limit. -/
def State.inStage (s : State) (l st : Nat) : Bool := (s.lane l).stage == st && !s.overLimit st (s.lane l).at_

/-- Two skew measurements agree within 1 UI. -/
def skewAgree (v : Nat) : Option Nat → Bool
  | some w => decide (v ≤ w + 1) && decide (w ≤ v + 1)
  | none => false

/-- A DSK measures the skew of lane `l` in stages 6 to 8: 0 where the lane is alone there (R275).  Stage 6 ends with two
consecutive measurements that agree and are at most 40 ns; the first comes after its entry (R271).
Log entry 84 (DEDUCED). -/
def State.skewMeasured (s : State) (l sk : Nat) : State :=
  let x := s.lane l
  if 6 ≤ x.stage ∧ x.stage ≤ 8 then
    let v := if s.otherDeskew l then sk else 0
    let s1 := s.setF F.LANE_STATE_SKEW v (l / 4) (l % 4)
    if x.stage = 6 then
      let s2 := s1.setLane l { x with skew := some v }
      if s.inStage l 6 && skewAgree v x.skew && decide (max v (x.skew.getD 0) ≤ s.skewLimit (l / 4)) then s2.enter l 7 else s2
    else s1
  else s

/-- A lane meets the ending condition of its stage, within the stage's limit, and enters the next one (R271). -/
def State.laneStageEnd (s : State) (l : Nat) (x : StageEnd) : State :=
  let p := l / 4
  match x with
  | .idleExit => if s.inRx l 1 then s.rxEnter l 2 else s
  | .cdr => if s.inRx l 2 then s.rxEnter l 3 else s
  | .comma => if s.inRx l 3 then s.rxEnter l 4 else s
  | .polarity inv =>
    if s.inRx l 4 then ((s.setLane l { s.lane l with rxInv := inv }).setF F.LANE_STATE_RX_INV (b2n inv) p (l % 4)).rxEnter l 5 else s
  | .laneId k w r => if s.inRx l 5 then s.laneIdEnd l k w r else s
  | .deskew sk => s.skewMeasured l sk
  | .eq => if s.inStage l 7 then s.enter l 8 else s

/-- LANE_STAGE_END (R271). -/
def execLaneStageEnd (l : Fin 16) (x : StageEnd) (s : State) : Out := .next (s.core (s.laneStageEnd l x))

/-- The records of a stage that exceeded its limit (R277). -/
def State.failRecord (s : State) (l st : Nat) : State :=
  let p := l / 4
  let x := s.lane l
  let s1 := (s.setF F.LANE_STATE_FAIL_STAGE st p (l % 4)).bump F.LANE_ERR_TRAIN_FAIL p (l % 4)
  let rec_ := decide (x.fails + 1 = 3) && !x.failRec
  let s2 := s1.setLane l { s1.lane l with fails := x.fails + 1, failRec := x.failRec || rec_ }
  if rec_ then s2.ledger 0x20 l st else s2

/-- A stage of 2 to 8 exceeds its limit (R277): of receive lane `l`, or of lane `l` from stage 6 on. -/
def State.trainFail (s : State) (l : Nat) (rx : Bool) : State :=
  let x := s.lane l
  if rx then
    if s.overLimit x.rxStage x.rxAt then
      let s1 := s.failRecord l x.rxStage
      let m := s1.ownerLane l
      let s2 := s1.setLane l { s1.lane l with rxStage := 0, rxInv := false }
      if (s2.lane m).stage = 0 then
        (s2.setLane m { s2.lane m with hold := some (s.el25 + us25 20), holdRx := l }).showStage l
      else s2.rxEnter l 1
    else s
  else if 6 ≤ x.stage ∧ x.stage ≤ 8 ∧ s.overLimit x.stage x.at_ then
    (s.failRecord l x.stage).laneHold l
  else s

/-- LANE_TRAIN_FAIL (R277). -/
def execLaneTrainFail (l : Fin 16) (rx : Bool) (s : State) : Out := .next (s.core (s.trainFail l rx))

/-- The 20 µs hold of lane `l` ends, and its receive lane starts again at stage 1. -/
def State.holdEnd (s : State) (l : Nat) : State :=
  match (s.lane l).hold with
  | some t =>
    if t ≤ s.el25 then
      let r := (s.lane l).holdRx
      ((s.setLane l { s.lane l with hold := none, src := 0 }).rxEnter r 1).showStage l
    else s
  | none => s

/-- LANE_IDLE_HOLD_END (R277). -/
def execLaneIdleHoldEnd (l : Fin 16) (s : State) : Out := .next (s.core (s.holdEnd l))

/-- Lane `l` has sent 16 TS with READY = 1, which it sends from the entry of stage 8 (R276). -/
def State.readySent (s : State) (l : Nat) : Bool := decide (bitUnits 640 ≤ s.bitsIn l (s.elapsed - (s.lane l).at_))

/-- The handshake completes (R276): the lane is ready; EVENT messages that waited for a lane leave (R256).  Character
errors of R278 count from here. Log entry 84 (DEDUCED). -/
def State.laneReadyNow (s : State) (l : Nat) : State :=
  if s.inStage l 8 && s.readySent l then
    let s1 := s.setLane l { s.lane l with stage := 9, at_ := s.elapsed, errs := [], skpAt := s.lineNow l, fails := 0, failRec := false, idle := s.elapsed }
    let s2 := (s1.showStage l).setReady l true
    if (s2.port (l / 4)).evDue && !s2.on F.EVC_CTRL_GDIS then s2.sendEvents (l / 4) 32 else s2
  else s

/-- LANE_READY (R276). -/
def execLaneReady (l : Fin 16) (s : State) : Out := .next (s.core (s.laneReadyNow l))

/-! ### Leaving ready (R278, R288) -/

/-- The number of a cause the receiver sees. -/
def causeNum : DownCause → Nat
  | .signal => 1
  | .errors => 2
  | .noSkp => 3
  | .partner => 4

/-- What the block has counted itself bears the cause out (R278): sixteen character errors within 1,024 characters, to one
tick, and no less than 37,120 characters of readiness without SKP. Log entry 84 (DEDUCED). -/
def State.causeHolds (s : State) (l : Nat) : DownCause → Bool
  | .errors => match (s.lane l).errs[15]? with
    | some t => decide (s.bitsIn l ((s.lane l).errs.headD 0 - t) < bitUnits 10240)
    | none => false
  | .noSkp => decide (bitUnits 371200 ≤ s.bitsIn l (s.elapsed - (s.lane l).at_))
  | .signal | .partner => true

/-- The receiver finds a cause; causes 1 and 3 are suspended in receive low-power idle (R287). -/
def State.laneDownFor (s : State) (l : Nat) (c : DownCause) : State :=
  if (s.rxLpi l && (c == .signal || c == .noSkp)) || !s.causeHolds l c then s else s.laneDown l (causeNum c)

/-- LANE_DOWN (R278). -/
def execLaneDown (l : Fin 16) (c : DownCause) (s : State) : Out := .next (s.core (s.laneDownFor l c))

/-- RETRAIN: a ready lane leaves ready with cause 5; a lane in bring-up returns to stage 1 at once (R277, R278). -/
def State.retrain (s : State) (l : Nat) : State :=
  if !s.on F.LNK_CFG_EN (l / 4) ∨ s.width (l / 4) ≤ l % 4 then s
  else if s.ready? l then s.laneDown l 5
  else
    let x := s.lane l
    if x.stage ≠ 0 then
      let r := 4 * (l / 4) + x.src
      ((s.setLane l { x with stage := 0, src := 0 }).rxEnter r 1).showStage l
    else if x.hold.isSome then ((s.setLane l { x with hold := none, src := 0 }).rxEnter x.holdRx 1).showStage l
    else if x.rxStage ≠ 0 then s.rxEnter l 1 else s

/-- The bits between two moves of a value of the equaliser (R280): 1 ms for the CTLE (0), 4,096 characters for a tap. -/
def State.eqPeriod (s : State) (l i : Nat) : Nat := if i = 0 then s.rateMbps (l / 4) * 49152000 else bitUnits 40960

/-- How far value `i` of the equaliser can have moved since `Lane.eqAt`. Log entry 39 (DESIGN CHOICE). -/
def State.eqMoves (s : State) (l i : Nat) : Nat :=
  let b := (s.lane l).eqAt.getD i 0
  if s.lineNow l < b then 0 else (s.lineNow l - b) / s.eqPeriod l i + 1

/-- The value adaptation has made of `v`, a free one in `lo … hi` at most one step a period away (R280), and the moves it
took. -/
def eqMoved (v lo hi : Int) (n free : Nat) : Int × Nat :=
  let a := max lo (v - n)
  let b := min hi (v + n)
  let w := a + (free : Int) % (b - a + 1)
  (w, (w - v).natAbs)

/-- Value `i` of the equaliser moves as adaptation has it (R280). Log entry 39 (DESIGN CHOICE). -/
def State.eqAdapt (s : State) (l i : Nat) : State :=
  let p := l / 4
  let j := l % 4
  let r := s.fresh (if i = 0 then 0xA2 else 0xA1)
  let b := (s.lane l).eqAt.getD i 0
  let put := fun (u : State) (k : Nat) =>
    u.setLane l { u.lane l with eqAt := (u.lane l).eqAt.set i (max (b + k * s.eqPeriod l i) (s.lineNow l)) }
  if i = 0 then
    let m := eqMoved (s.f F.LANE_CTRL_CTLE p j) 0 15 (s.eqMoves l i) r.1
    put (r.2.setF F.LANE_CTRL_CTLE m.1.toNat p j) m.2
  else
    let m := eqMoved (sext 7 (s.f F.LANE_DFE_TAP_TAP p j (i - 1))) (-64) 63 (s.eqMoves l i) r.1
    put (r.2.setF F.LANE_DFE_TAP_TAP (trunc 7 m.1) p j (i - 1)) m.2

/-- The DFE taps move as adaptation has them. -/
def State.dfeAdapt (s : State) (l : Nat) : State := (List.range 9).foldl (fun s i => s.eqAdapt l (i + 1)) s

/-- Adaptation of lane `l` moves on from now (R280, R281). -/
def State.eqResume (s : State) (l : Nat) : State :=
  s.setLane l { s.lane l with eqAt := List.replicate 10 (s.lineNow l) }

/-- The equaliser part of a write of LANE.CTRL (R281): the CTLE value counts while frozen before or after the write; taps
freeze at the values in use, which adaptation leaves free. Log entry 39 (DESIGN CHOICE). -/
def State.eqWrite (s : State) (l v : Nat) : State :=
  let p := l / 4
  let j := l % 4
  let ctle := s.on F.LANE_CTRL_CTLE_FRZ p j || bit v 30
  let fresh := bit v 29 && !s.on F.LANE_CTRL_DFE_FRZ p j && s.adapting l
  let thaw := (s.on F.LANE_CTRL_CTLE_FRZ p j && !bit v 30) || (s.on F.LANE_CTRL_DFE_FRZ p j && !bit v 29)
  let s1 := if ctle then s.setF F.LANE_CTRL_CTLE (bits v 0 4) p j else s
  let s2 := if fresh then s1.dfeAdapt l else s1
  let s2' := if thaw then s2.eqResume l else s2
  let s3 := (s2'.setF F.LANE_CTRL_CTLE_FRZ (bits v 30 1) p j).setF F.LANE_CTRL_DFE_FRZ (bits v 29 1) p j
  if (s3.lane l).stage = 7 ∧ s3.bothFrozen l = true then s3.enter l 8 else s3

/-- A write of LANE.CTRL. -/
def State.laneCtrlWrite (s : State) (l v : Nat) : State :=
  let s1 := s.eqWrite l v
  if bit v 31 then s1.retrain l else s1

/-- LANE_RETRAIN (R278). -/
def execLaneRetrain (l : Fin 16) (w : Word) (s : State) : Out :=
  s.regCmd (regAddr .LANE_CTRL (l / 4) (l % 4)) (s.laneCtrlWrite l (w.toNat ||| 2 ^ 31))
/-- EQUALISER_FREEZE_WRITE (R281). -/
def execEqualiserFreezeWrite (l : Fin 16) (w : Word) (s : State) : Out :=
  s.regCmd (regAddr .LANE_CTRL (l / 4) (l % 4)) (s.laneCtrlWrite l (w.toNat % 2 ^ 31))

/-- A write of a DFE tap: ignored while not frozen (R281). -/
def State.dfeTapWrite (s : State) (l j v : Nat) : State :=
  if s.on F.LANE_CTRL_DFE_FRZ (l / 4) (l % 4) then s.setF F.LANE_DFE_TAP_TAP v (l / 4) (l % 4) j else s

/-- DFE_TAP_WRITE (R281). -/
def execDfeTapWrite (l : Fin 16) (j : Fin 9) (w : Word) (s : State) : Out :=
  s.regCmd (regAddr .LANE_DFE_TAP (l / 4) (l % 4) j) (s.dfeTapWrite l j w.toNat)

/-- A read of LANE.CTRL or a tap while the lane adapts: the value in use is one that adaptation can have reached (R280).
Log entry 39 (DESIGN CHOICE). -/
def State.adaptRead (s : State) (l : Nat) : State :=
  let p := l / 4
  let j := l % 4
  if !s.adapting l then s
  else
    let s1 := if s.on F.LANE_CTRL_CTLE_FRZ p j then s else s.eqAdapt l 0
    if s1.on F.LANE_CTRL_DFE_FRZ p j then s1 else s1.dfeAdapt l

/-- A character error (R267); the latest sixteen stand for cause 2 of R278. -/
def State.characterError (s : State) (l : Nat) : State :=
  if s.on F.LNK_CFG_EN (l / 4) ∧ l % 4 < s.width (l / 4) then
    (s.bump F.LANE_ERR_CHAR_ERR (l / 4) (l % 4)).setLane l { s.lane l with errs := (s.elapsed :: (s.lane l).errs).take 16 }
  else s

/-- CHARACTER_ERROR (R267). -/
def execCharacterError (l : Fin 16) (s : State) : Out := .next (s.core (s.characterError l))

/-! ### Pattern testing (R282 to R284) -/

/-- A write of LANE.PRBS_CTRL: class S fields, so only while the port is disabled; CHK rising clears the counters. -/
def State.prbsCtrlWrite (s : State) (l v : Nat) : State :=
  let p := l / 4
  let j := l % 4
  let s1 := s.writeReg .LANE_PRBS_CTRL v p j
  let was := s.on F.LANE_PRBS_CTRL_CHK p j
  let is := s1.on F.LANE_PRBS_CTRL_CHK p j
  let s2 := if is && !was then
      (((s1.setF F.LANE_PRBS_CTRL_LOSS 0 p j).setF F.LANE_PRBS_CTRL_LOCK 0 p j).setLane l
        { s1.lane l with prbsBits := 0, prbsErrs := 0, prbsFrac := 0, prbsRecent := [] })
    else if was && !is then s1.setF F.LANE_PRBS_CTRL_LOCK 0 p j else s1
  let s3 := if s.stageOf l = 10 ∧ s2.stageOf l ≠ 10 then s2.eyeAbort l else s2
  if s.on F.LNK_CFG_EN p then s3 else s3.showStage l

/-- PRBS_CTRL_WRITE (R282). -/
def execPrbsCtrlWrite (l : Fin 16) (w : Word) (s : State) : Out :=
  s.regCmd (regAddr .LANE_PRBS_CTRL (l / 4) (l % 4)) (s.prbsCtrlWrite l w.toNat)

/-- The checker locks (R283). -/
def State.prbsLock (s : State) (l : Nat) : State :=
  if s.stageOf l = 10 ∧ s.on F.LANE_PRBS_CTRL_CHK (l / 4) (l % 4) then s.setF F.LANE_PRBS_CTRL_LOCK 1 (l / 4) (l % 4) else s

/-- PRBS_LOCK (R283). -/
def execPrbsLock (l : Fin 16) (s : State) : Out := .next (s.core (s.prbsLock l))

/-- The checker has found 64 mismatches within 1,024 bits, to the bits of one tick (R283). Log entry 84 (DEDUCED). -/
def State.prbsLost (s : State) (l : Nat) : Bool :=
  let x := s.lane l
  decide (64 ≤ ((x.prbsRecent.filter (fun e => decide (x.prbsBits ≤ e.1 + 1024 + s.rateMbps (l / 4) / 400))).map (·.2)).sum)

/-- The checker drops lock (R283). -/
def State.prbsLockLoss (s : State) (l : Nat) : State :=
  if s.on F.LANE_PRBS_CTRL_LOCK (l / 4) (l % 4) && s.prbsLost l then
    ((s.setF F.LANE_PRBS_CTRL_LOCK 0 (l / 4) (l % 4)).bump F.LANE_PRBS_CTRL_LOSS (l / 4) (l % 4)).setLane l
      { s.lane l with prbsRecent := [] }
  else s

/-- PRBS_LOCK_LOSS (R283). -/
def execPrbsLockLoss (l : Fin 16) (s : State) : Out := .next (s.core (s.prbsLockLoss l))

/-- The checker of lane `l` in a tick: bits counted while locked, and the mismatches found. -/
def State.prbsTick (s : State) (l : Nat) : State :=
  if s.on F.LANE_PRBS_CTRL_LOCK (l / 4) (l % 4) then
    let x := s.lane l
    let n := x.prbsFrac + s.rateMbps (l / 4) * 100
    s.setLane l { x with prbsBits := min (2 ^ 64 - 1) (x.prbsBits + n / 49152), prbsFrac := n % 49152 }
  else s

/-- Mismatches found by the checker. -/
def State.prbsErrors (s : State) (l n : Nat) : State :=
  if s.on F.LANE_PRBS_CTRL_LOCK (l / 4) (l % 4) then
    let x := s.lane l
    let near := x.prbsRecent.filter (fun e => decide (x.prbsBits ≤ e.1 + 1024 + s.rateMbps (l / 4) / 400))
    s.setLane l { x with prbsErrs := min (2 ^ 32 - 1) (x.prbsErrs + n), prbsRecent := near ++ [(x.prbsBits, n)] }
  else s

/-- A read of PRBS_BITS_LO shows the counters of one instant (R283). -/
def State.prbsLatch (s : State) (l : Nat) : State :=
  let x := s.lane l
  ((s.setF F.LANE_PRBS_BITS_LO_BITS x.prbsBits (l / 4) (l % 4)).setF F.LANE_PRBS_BITS_HI_BITS (x.prbsBits / 2 ^ 32)
    (l / 4) (l % 4)).setF F.LANE_PRBS_ERR_ERRORS x.prbsErrs (l / 4) (l % 4)

/-- The lane sends serial bits that injection can invert: in pattern testing or on a ready lane (R284). -/
def State.sendsBits (s : State) (l : Nat) : Bool :=
  (s.stageOf l == 10 && s.on F.LANE_PRBS_CTRL_GEN (l / 4) (l % 4)) || (s.ready? l && !s.txLpi l)

/-- A write of LANE.INJECT (R284): ONE inverts the next bit sent. Log entry 39 (DESIGN CHOICE). -/
def State.injectWrite (s : State) (l v : Nat) : State :=
  let s1 := s.writeReg .LANE_INJECT v (l / 4) (l % 4)
  let s2 := if s1.f F.LANE_INJECT_RATE_LOG2 (l / 4) (l % 4) = s.f F.LANE_INJECT_RATE_LOG2 (l / 4) (l % 4) then s1
    else s1.setLane l { s1.lane l with injBits := 0 }
  if bit v 31 && s2.sendsBits l then s2.bump F.LANE_INJECT_INJECTED (l / 4) (l % 4) else s2

/-- INJECT_ONE (R284). -/
def execInjectOne (l : Fin 16) (w : Word) (s : State) : Out :=
  s.regCmd (regAddr .LANE_INJECT (l / 4) (l % 4)) (s.injectWrite l (w.toNat ||| 2 ^ 31))

/-- Serial bits sent in a tick count toward the next inversion. -/
def State.injectTick (s : State) (l : Nat) : State :=
  if s.f F.LANE_INJECT_RATE_LOG2 (l / 4) (l % 4) ≠ 0 ∧ s.sendsBits l then
    s.setLane l { s.lane l with injBits := (s.lane l).injBits + s.rateMbps (l / 4) * 100 }
  else s

/-- One bit in 2^RATE_LOG2 is inverted (R284). -/
def State.injectRate (s : State) (l : Nat) : State :=
  let q := s.f F.LANE_INJECT_RATE_LOG2 (l / 4) (l % 4)
  let x := s.lane l
  if q ≠ 0 ∧ 2 ^ q * 49152 ≤ x.injBits then
    (s.setLane l { x with injBits := x.injBits - 2 ^ q * 49152 }).bump F.LANE_INJECT_INJECTED (l / 4) (l % 4)
  else s

/-- INJECT_RATE (R284). -/
def execInjectRate (l : Fin 16) (s : State) : Out := .next (s.core (s.injectRate l))

/-! ### Margin measurement (R285, R286) -/

/-- A write of LANE.EYE_CTRL: its fields, and GO unless a measurement runs.  On a lane neither ready nor in pattern
testing, or in receive low-power idle, the measurement is stopped at once. Log entry 39 (DESIGN CHOICE). -/
def State.eyeCtrlWrite (s : State) (l v : Nat) : State :=
  let p := l / 4
  let j := l % 4
  let s1 := s.writeReg .LANE_EYE_CTRL v p j
  if !bit v 31 || s.on F.LANE_EYE_CTRL_BUSY p j then s1
  else
    let s2 := ((s1.setF F.LANE_EYE_CTRL_BUSY 1 p j).setF F.LANE_EYE_CTRL_ABORTED 0 p j).setLane l
      { s1.lane l with eyeScan := s1.on F.LANE_EYE_CTRL_MODE p j, eyeAt := s.elapsed, eyeDwell := s1.f F.LANE_EYE_CTRL_DWELL_LOG2 p j }
    if (s.ready? l && !s.rxLpi l) || s.stageOf l == 10 then s2 else s2.eyeAbort l

/-- EYE_MEASURE_GO (R285). -/
def execEyeMeasureGo (l : Fin 16) (w : Word) (s : State) : Out :=
  s.regCmd (regAddr .LANE_EYE_CTRL (l / 4) (l % 4)) (s.eyeCtrlWrite l (w.toNat ||| 2 ^ 31))

/-- Positions a measurement with this result has dwelt at (R285): a scan stops on each axis at the first with a
disagreement, or at the axis's end. -/
def eyeVisited : EyeResult → Nat
  | .point _ => 1
  | .scan a b c d => if a + b + c + d = 0 then 1 else 1 + min 32 (a + 1) + min 31 (b + 1) + min 63 (c + 1) + min 63 (d + 1)

/-- The measurement of lane `l` has dwelt at every position of the result (R285). -/
def State.eyeDwelt (s : State) (l : Nat) (r : EyeResult) : Bool :=
  decide (bitUnits (eyeVisited r * 2 ^ (s.lane l).eyeDwell) ≤ s.bitsIn l (s.elapsed - (s.lane l).eyeAt))

/-- A measurement completes with the result of its mode. -/
def State.eyeDone (s : State) (l : Nat) (r : EyeResult) : State :=
  let p := l / 4
  let j := l % 4
  if !s.on F.LANE_EYE_CTRL_BUSY p j || !s.eyeDwelt l r then s
  else
    let s1 := s.setF F.LANE_EYE_CTRL_BUSY 0 p j
    match r with
    | .point n => if (s.lane l).eyeScan then s else s1.setF F.LANE_EYE_POINT_ERRORS n.toNat p j
    | .scan a b c d =>
      if (s.lane l).eyeScan then
        (((s1.setF F.LANE_EYE_SCAN_LEFT (min 32 a) p j).setF F.LANE_EYE_SCAN_RIGHT (min 31 b) p j).setF
          F.LANE_EYE_SCAN_UP (min 63 c) p j).setF F.LANE_EYE_SCAN_DOWN (min 63 d) p j
      else s

/-- EYE_MEASURE_DONE (R285). -/
def execEyeMeasureDone (l : Fin 16) (r : EyeResult) (s : State) : Out := .next (s.core (s.eyeDone l r))

/-! ### Low-power idle (R287, R288) -/

/-- Something is queued for lane `l`: dealt to it, a timing message where it is the timing lane, or a port message while
it is the lowest ready lane and every ready lane sleeps (R256, R288). -/
def State.queuedFor (s : State) (l : Nat) : Bool :=
  let p := l / 4
  (s.port p).outq.any (fun m => match m.lane with
    | some l' => l' == l
    | none => l % 4 == s.lowLane p &&
        (m.kind.prio == 0 || (List.range 4).all (fun j => !s.laneReady p j || s.on F.LANE_STATE_TX_LPI p j)))

/-- An ACTIVE receive IQ or capture flow is placed on lane `l` (R287). -/
def State.sendsOn (s : State) (l : Nat) : Bool :=
  (s.flowsIn 2).any (fun f => (s.fType f == 1 || s.fType f == 4) && (s.place f).port == l / 4 && bit (s.place f).lanes (l % 4))

/-- The device is in Dusk or at check 7 of its entry, where every ready lane sleeps (R287, R409). -/
def State.duskIdle (s : State) : Bool := (s.power.entry == 2 && decide (6 ≤ s.power.passed)) || s.power.st == .dusk

/-- The transmit direction of a ready lane enters low-power idle (R287). -/
def State.lpiEntry (s : State) (l : Nat) : State :=
  let p := l / 4
  let x := s.lane l
  let quiet := x.cur.isNone && x.wake.isNone && !s.queuedFor l
  let normal := s.on F.LNK_LANE_CFG_LPI_EN p && !s.sendsOn l &&
    decide (us25 (s.f F.LNK_LANE_CFG_LPI_DELAY p) ≤ (s.elapsed - x.idle) * 25)
  if s.ready? l && !s.txLpi l && quiet && (normal || s.duskIdle) then s.setF F.LANE_STATE_TX_LPI 1 p (l % 4) else s

/-- LPI_ENTRY (R287). -/
def execLpiEntry (l : Fin 16) (s : State) : Out := .next (s.core (s.lpiEntry l))

/-- A received LPI (R287). -/
def State.lpiReceive (s : State) (l : Nat) : State :=
  if s.ready? l then (s.setF F.LANE_STATE_RX_LPI 1 (l / 4) (l % 4)).eyeAbort l else s

/-- LPI_RECEIVE (R287). -/
def execLpiReceive (l : Fin 16) (s : State) : Out := .next (s.core (s.lpiReceive l))

/-- Something queued wakes the transmit direction (R288). -/
def State.lpiWake (s : State) (l : Nat) : State :=
  if s.txLpi l && s.queuedFor l then
    (s.setF F.LANE_STATE_TX_LPI 0 (l / 4) (l % 4)).setLane l { s.lane l with wake := some s.el25 }
  else s

/-- LPI_WAKE (R288). -/
def execLpiWake (l : Fin 16) (s : State) : Out := .next (s.core (s.lpiWake l))

/-- After 10 µs of IDLE the lane sends again. -/
def State.lpiWakeDone (s : State) (l : Nat) : State :=
  match (s.lane l).wake with
  | some t => if t + us25 10 ≤ s.el25 then s.setLane l { s.lane l with wake := none, idle := s.elapsed } else s
  | none => s

/-- LPI_WAKE_DONE (R288). -/
def execLpiWakeDone (l : Fin 16) (s : State) : Out := .next (s.core (s.lpiWakeDone l))

/-- The receiver has not realigned after the partner's wake (R288): cause 6. -/
def State.laneWakeFail (s : State) (l : Nat) : State :=
  if s.ready? l && (s.rxLpi l || (s.lane l).rxWake.isSome) then s.laneDown l 6 else s

/-- LANE_WAKE_FAIL (R288). -/
def execLaneWakeFail (l : Fin 16) (s : State) : Out := .next (s.core (s.laneWakeFail l))

end Sys2Proof.Machine
end

