-- ==== Sys2Proof/Machine/DmaCtl.lean ====
section
/-!
DEFINITION. Sys2Proof/Machine/DmaCtl.lean: doorbells, stops, errors and the quiesce of the DMA channels (R340, R348 to
R350).
-/
namespace Sys2Proof.Machine

def State.dmaC (s : State) (c : Nat) : DmaChan := SMap.get {} s.dma c

/-- Keep a channel's record with the status fields that show it. -/
def State.setDma (s : State) (c : Nat) (v : DmaChan) : State :=
  ({ s with dma := SMap.set {} s.dma c v }.setF F.DMA_CH_STATUS_BUSY (b2n v.desc.isSome) c).setF F.DMA_CH_STATUS_QDEPTH
    v.queue.length c

/-- The channel stops with a cause; CH_DESC shows what comes next. -/
def State.dmaStopped (s : State) (c cause nextAddr : Nat) : State :=
  ((s.setF F.DMA_CH_STATUS_STOPPED 1 c).setF F.DMA_CH_STATUS_STOP_CAUSE cause c).setF F.DMA_CH_DESC_ADDR nextAddr c

/-- The channel runs again. -/
def State.dmaGoOn (s : State) (c : Nat) : State :=
  (s.setF F.DMA_CH_STATUS_STOPPED 0 c).setF F.DMA_CH_STATUS_STOP_CAUSE 0 c

/-- A doorbell (R340). -/
def State.doorbellWrite (s : State) (c v : Nat) : State :=
  let x := s.dmaC c
  if 4 ≤ x.queue.length then (s.bump F.DMA_CH_COUNT_DROPPED c).ledger 0x29 c
  else s.setDma c { x with queue := x.queue ++ [v / 32 * 32] }

/-- DMA_DOORBELL (R340). -/
def execDmaDoorbell (c : Fin 32) (w : Word) (s : State) : Out :=
  s.regCmd (regAddr .DMA_CH_DOORBELL c) (s.doorbellWrite c w.toNat)

/-- STOP (R348): at the descriptor boundary, or at once on a channel that runs none. -/
def State.dmaStop (s : State) (c : Nat) : State :=
  let x := s.dmaC c
  if s.f F.DMA_CH_STATUS_STOP_CAUSE c = 1 ∨ s.f F.DMA_CH_STATUS_STOP_CAUSE c = 3 then s
  else if x.desc.isSome then s.setDma c { x with stopReq := true }
  else (s.setDma c { x with held := false, next := none }).dmaStopped c 1 (x.next.getD 0)

/-- RESUME (R348): a channel stopped on request or by an error goes on with CH_DESC, or else with its next doorbell. -/
def State.dmaResume (s : State) (c : Nat) : State :=
  if s.f F.DMA_CH_STATUS_STOP_CAUSE c = 1 ∨ s.f F.DMA_CH_STATUS_STOP_CAUSE c = 3 then
    let d := s.f F.DMA_CH_DESC_ADDR c
    (s.setDma c { s.dmaC c with next := if d = 0 then none else some d }).dmaGoOn c
  else s

/-- A write of CH_CTRL; with both bits set the channel restarts and is then stopped. -/
def State.chCtrlWrite (s : State) (c v : Nat) : State :=
  let s1 := if bit v 30 then s.dmaResume c else s
  if bit v 31 then s1.dmaStop c else s1

/-- DMA_STOP (R348). -/
def execDmaStop (c : Fin 32) (w : Word) (s : State) : Out :=
  s.regCmd (regAddr .DMA_CH_CTRL c) (s.chCtrlWrite c (w.toNat ||| 2 ^ 31))
/-- DMA_RESUME (R348). -/
def execDmaResume (c : Fin 32) (w : Word) (s : State) : Out :=
  s.regCmd (regAddr .DMA_CH_CTRL c) (s.chCtrlWrite c (w.toNat ||| 2 ^ 30))

/-- The quiesce is in force: checks 1 to 5 of an entry to Dusk or Dark have passed (R350, R409). -/
def State.dmaQuiet (s : State) : Bool := decide (2 ≤ s.power.entry) && decide (5 ≤ s.power.passed)

/-- Write result word W7 of a descriptor at `a` where the DMA may write there (R347, R349); whether it could. -/
def State.writeW7 (s : State) (a v : Nat) : State × Bool :=
  if s.permitted .dma .write (a + 28) 4 && !s.absentAt (a + 28) && regionOf (a + 28) != .reg && regionOf (a + 28) != .compat then
    (s.wr32 (a + 28) v, true)
  else (s, false)

/-- An error stops the channel inside its descriptor (R349). -/
def State.dmaFail (s : State) (c code written : Nat) : State :=
  let x := s.dmaC c
  let a := s.f F.DMA_CH_DESC_ADDR c
  let wb := (x.desc.map (fun d => bit (d.getD 0 0) 28)).getD false
  let s1 := if wb then (s.writeW7 a (3 * 2 ^ 30 + code * 2 ^ 26 + written % 2 ^ 24)).1 else s
  let s2 := (s1.setDma c { x with desc := none, err := 0, stopReq := false, held := false, next := none }).dmaStopped c 3 0
  (((s2.setF F.DMA_CH_STATUS_ERR_CODE code c).bump F.DMA_CH_COUNT_ERRORS c).ledger 0x2A c code).pulse 448

/-- Held channels continue once the power-down is refused or over (R350). -/
def State.dmaRelease (s : State) : State :=
  (List.range 32).foldl (fun s c =>
    if (s.dmaC c).held then (s.setDma c { s.dmaC c with held := false }).dmaGoOn c else s) s

/-- Domain 19 resets (R474): running descriptors end with error code 2 and the queues are emptied. -/
def State.dmaReset (s : State) : State :=
  (List.range 32).foldl (fun s c =>
    let s1 := if (s.dmaC c).desc.isSome then s.dmaFail c 2 0 else s
    s1.setDma c {}) s

end Sys2Proof.Machine
end

