-- ==== Sys2Proof/Machine/EngCtl.lean ====
section
/-!
DEFINITION. Sys2Proof/Machine/EngCtl.lean: the job side of the signal engines (R313 to R319): queues, starts, aborts, faults
and restarts, and the register file of an engine.
-/
namespace Sys2Proof.Machine

/-- Base of the local memory of engine `n` (R290). -/
def seBase (n : Nat) : Nat := 0x10000000 + n * 0x00100000

/-- Register numbers within a set (R292): D0–15, A0–3, P0–7, B0–7, L0–7, M0–7, LC0–1, CC, WB0–1, RA. -/
def rD (k : Nat) : Nat := k
def rA (k : Nat) : Nat := 16 + k
def rP (k : Nat) : Nat := 20 + k
def rB (k : Nat) : Nat := 28 + k
def rL (k : Nat) : Nat := 36 + k
def rM (k : Nat) : Nat := 44 + k
def rLC (k : Nat) : Nat := 52 + k
def rCC : Nat := 54
def rWB (k : Nat) : Nat := 55 + k
def rRA : Nat := 57

/-- Destinations within CC: the fields SETCC writes, the flags N, Z, C, V; and none. -/
def rMode : Nat := 58
def rFlags : Nat := 59
def rNone : Nat := 60

/-- The width of a register (R292). -/
def regWidth (r : Nat) : Nat :=
  if r < 16 then 24 else if r < 20 then 56 else if r < 52 then 20 else if r < 54 then 17 else if r = 54 then 32
  else if r < 57 then 20 else 16

def Engine.get (e : Engine) (set_ r : Nat) : Nat := SMap.get 0 e.regs (128 * set_ + r)
def Engine.put (e : Engine) (set_ r v : Nat) : Engine :=
  { e with regs := SMap.set 0 e.regs (128 * set_ + r) (v % 2 ^ regWidth r) }

/-- A register of the set in use. -/
def Engine.r (e : Engine) (r : Nat) : Nat := e.get e.set_ r

def State.eng (s : State) (n : Nat) : Engine := SMap.get {} s.engines n

/-- Keep an engine's record and the fields of STATUS and POST that show it. -/
def State.setEng (s : State) (n : Nat) (e : Engine) : State :=
  let s1 : State := { s with engines := SMap.set {} s.engines n e }
  let s2 := ((s1.setF F.SE_STATUS_BUSY (b2n e.job.isSome) n).setF F.SE_STATUS_IN_HANDLER e.set_ n).setF
    F.SE_STATUS_QDEPTH e.queue.length n
  s2.setF F.SE_POST_FULL (b2n (16 ≤ e.queue.length)) n

/-! ### Results (R301, R303) -/

/-- One result is written, with the sticky flag it sets; SETCC clears the sticky flags (R293). Log entry 47 (DEDUCED). -/
def Engine.write (e : Engine) (x : Result) : Engine :=
  let cc := e.get x.set_ rCC
  let e1 :=
    if x.reg = rMode then e.put x.set_ rCC (x.val / 2 ^ 15 * 2 ^ 15 + cc % 16)
    else if x.reg = rFlags then e.put x.set_ rCC (cc / 16 * 16 + x.val % 16)
    else if x.reg = rNone then e
    else e.put x.set_ x.reg x.val
  match x.sat with
  | some b => e1.put x.set_ rCC (setBit (e1.get x.set_ rCC) b)
  | none => e1

/-- Insert a result in order of its bundle, after those of the same bundle: the later-issued value stands. -/
def insertDue (x : Result) : List Result → List Result
  | [] => [x]
  | y :: ys => if x.due < y.due then x :: y :: ys else y :: insertDue x ys

/-- The results that satisfy `p` are written in order. -/
def Engine.flush (e : Engine) (p : Result → Bool) : Engine :=
  (((e.results.filter p).foldl (fun l x => insertDue x l) []).foldl Engine.write e) |> fun e1 =>
    { e1 with results := e.results.filter (fun x => !p x) }

/-- The end of the bundle in hand: the results due by it are written. -/
def Engine.endBundle (e : Engine) : Engine := { e.flush (fun x => decide (x.due ≤ e.count)) with open_ := false }

/-! ### Jobs -/

/-- The flow of a job; 0 for a host job (R318). -/
def Job.fid : Job → Nat
  | .flow f .. => f
  | .host .. => 0

/-- A flow job is over: ended (3) or aborted (4). -/
def State.jobOver (s : State) (j : Job) (v : Nat) : State :=
  match j with
  | .flow f idx .. => s.setJob f idx v
  | .host .. => s

/-- A job is aborted without running, with its ledger code (R317). Log entry 72 (DEDUCED). -/
def State.jobUnrun (s : State) (n : Nat) (j : Job) (code : Nat) : State :=
  ((s.jobOver j 4).bump F.SE_COUNT_ABORTS n).ledger code n j.fid

/-- A job falls due at engine `n` (R313, R317). Log entry 72 (DEDUCED). -/
def State.jobDue (s : State) (n : Nat) (j : Job) : State :=
  let e := s.eng n
  if s.absent n then s.jobOver j 4
  else if s.on F.SE_STATUS_FAULTED n then s.jobUnrun n j 0x24
  else if 16 ≤ e.queue.length then s.jobUnrun n j 0x23
  else s.setEng n { e with queue := e.queue ++ [j] }

/-- The first symbol of an IQ flow whose job is due but not yet queued. -/
def State.nextDue (s : State) (f : Nat) : Option Nat := ((s.flow f).jobs.find? (fun e => e.2 == 1)).map (·.1)

/-- A flow job falls due at its trigger (R314): an IQ flow's when its symbol's samples are complete, another flow's at the
PLC timeline's symbol boundary. -/
def State.flowJobDue (s : State) (f : Nat) : State :=
  if s.usesEngine f && s.fState f == 2 then
    if s.isIq f then
      match s.nextDue f with
      | some idx =>
        let p := s.placeAt f (s.airOf (s.fTl f) idx)
        (s.setJob f idx 2).jobDue p.eng
          (.flow f idx (s.idxFrame (s.fTl f) idx) (s.idxSym (s.fTl f) idx) (s.f F.FLW_DEMAND_KERNEL f))
      | none => s
    else
      let k := s.f F.PLC_CFG_TL
      let idx := s.symIdx k s.now
      if s.tlOn k && s.isAir k s.now && (s.flow f).running && s.jobOf f idx == 0 then
        (s.setFlow f { s.flow f with jobs := [(idx, 2)] }).jobDue (s.placeAt f s.now).eng
          (.flow f idx (s.idxFrame k idx) (s.idxSym k idx) (s.f F.FLW_DEMAND_KERNEL f))
      else s
  else s

/-- FLOW_JOB_DUE (R314). -/
def execFlowJobDue (f : Fin 512) (s : State) : Out := .next (s.core (s.flowJobDue f))

/-- A write of SEn.POST (R318): a full queue discards the post. -/
def State.sePostWrite (s : State) (n v : Nat) : State :=
  let s1 := s.writeReg .SE_POST v n
  if bit v 31 && !s1.on F.SE_POST_FULL n then
    s1.jobDue n (.host (s1.f F.SE_POST_KERNEL n) (s1.f F.SE_POST_ARG n))
  else s1

/-- HOST_JOB_POST (R318). -/
def execHostJobPost (n : Fin 16) (w : Word) (s : State) : Out :=
  s.regCmd (regAddr .SE_POST n) (s.sePostWrite n (w.toNat ||| 2 ^ 31))

/-- A job of the same flow and an earlier symbol is queued or running on some engine (R315). -/
def State.jobHeld (s : State) : Job → Bool
  | .host .. => false
  | .flow f idx .. =>
    let earlier (j : Job) : Bool := match j with
      | .flow g i .. => g == f && decide (i < idx)
      | .host .. => false
    (List.range 16).any (fun m => (s.eng m).queue.any earlier || (s.eng m).job.any earlier)

/-- The kernel table's word (R313): a bundle index. -/
def State.kernelEntry (s : State) (n k : Nat) : Nat := s.rd32 (seBase n + 4 * k) % 65536

/-- The registers a job starts with (R313). -/
def State.jobRegs (s : State) (n : Nat) (e : Engine) : Job → Engine
  | .host k arg => { ((e.put 0 (rD 0) arg).put 0 (rD 1) 0).put 0 rCC 0 with pc := s.kernelEntry n k }
  | .flow f idx frame sym k =>
    let rec_ := 0x20000000 + s.f F.SE_JOB_CFG_STATE_BASE n / 64 * 64 + f * 64
    let e1 := ((e.put 0 (rD 0) f).put 0 (rD 1) (frame * 2048 + sym)).put 0 rCC 0
    let e2 := (e1.put 0 (rWB 0) (0x20000 + (s.placeAt f (s.airOf (s.fTl f) idx)).page)).put 0 (rWB 1) (rec_ / 4096)
    { e2.put 0 (rP 1) (0xC0000 + rec_ % 4096) with pc := s.kernelEntry n k }

/-- The engine can start a job: enabled, present, not stopped, and idle. -/
def State.engIdle (s : State) (n : Nat) : Bool :=
  s.on F.SE_CTRL_EN n && !s.absent n && !s.on F.SE_STATUS_FAULTED n && (s.eng n).job.isNone && (s.eng n).set_ == 0 &&
  (s.eng n).stall == .none && (s.eng n).sync == .none

/-- CKPT at a job's start (R316, R473). -/
def State.ckptStart (s : State) (n : Nat) (j : Job) : State :=
  let v := match j with
    | .flow f _ _ sym _ => (0, f, sym)
    | .host .. => (1, 0, 0)
  ((((s.setF F.SE_CKPT_STATE 1 n).setF F.SE_CKPT_HOST v.1 n).setF F.SE_CKPT_FID v.2.1 n).setF F.SE_CKPT_SYMBOL
    v.2.2 n).setF F.SE_CKPT_STEP 0 n

/-- An idle engine starts its next queued job (R313, R315, R316). -/
def State.jobStart (s : State) (n : Nat) : State :=
  let e := s.eng n
  match e.queue with
  | j :: js =>
    if s.engIdle n && !s.jobHeld j then
      (s.setEng n { s.jobRegs n e j with
        queue := js
        job := some j
        ran := 0
        loops := e.loops.filter (fun l => l.set_ != 0)
        branch := none
        delay := 0
        open_ := false }).ckptStart n j
    else s
  | [] => s

/-- JOB_START (R313). -/
def execJobStart (n : Fin 16) (s : State) : Out := .next (s.core (s.jobStart n))

/-! ### Aborts (R317) -/

/-- The running job is aborted: its results are written, its stores have drained. -/
def State.abortDone (s : State) (n : Nat) : State :=
  let e := (s.eng n).flush (fun x => x.set_ == 0)
  match e.job with
  | some j =>
    let s1 := s.setEng n { e with job := none, abortReq := false, sync := .none, branch := none, delay := 0, open_ := false }
    ((((s1.jobOver j 4).setF F.SE_CKPT_STATE 3 n).bump F.SE_COUNT_ABORTS n)).ledger 0x24 n j.fid
  | none => s.setEng n { e with abortReq := false, sync := .none }

/-- An abort that is owed takes effect at the first bundle boundary in the main set, after a drain (R317). -/
def State.abortTry (s : State) (n : Nat) : State :=
  let e := s.eng n
  if e.abortReq && e.set_ == 0 && !e.open_ && e.stall == .none && (e.sync == .none || e.sync == .abort) then
    if e.buf.isEmpty && e.errs.isEmpty then s.abortDone n
    else s.setEng n { e with sync := .abort }
  else s

/-- An abort is asked for while a job runs. -/
def State.abortAsk (s : State) (n : Nat) : State :=
  if (s.eng n).job.isSome && !s.on F.SE_STATUS_FAULTED n then (s.setEng n { s.eng n with abortReq := true }).abortTry n else s

/-- A write of SEn.CTRL. -/
def State.seCtrlWrite (s : State) (n v : Nat) : State :=
  let s1 := s.writeReg .SE_CTRL v n
  if bit v 29 then s1.abortAsk n else s1

/-- ENGINE_ABORT (R317). -/
def execEngineAbort (n : Fin 16) (w : Word) (s : State) : Out :=
  s.regCmd (regAddr .SE_CTRL n) (s.seCtrlWrite n (w.toNat ||| 2 ^ 29))

/-- A flow job has run longer than WDOG × max(LOAD, 1) × 1,024 engine cycles (R317). -/
def State.jobWatchdog (s : State) (n : Nat) : State :=
  match (s.eng n).job with
  | some (.flow f ..) =>
    if s.f F.SE_JOB_CFG_WDOG n * max (s.f F.FLW_DEMAND_LOAD f) 1 * 1024 < (s.eng n).ran then s.abortAsk n else s
  | _ => s

/-- JOB_WATCHDOG (R317). -/
def execJobWatchdog (n : Fin 16) (s : State) : Out := .next (s.core (s.jobWatchdog n))

/-! ### Faults (R319) -/

/-- The engine stops on a cause: results on their way are written or lost (the spec does not say which), stores issued
stay in the write buffer, and the job's symbol is handled as an aborted one's.
Log entries 43 (DESIGN CHOICE), 47 (DEDUCED). -/
def State.engFault (s : State) (n cause addr : Nat) : State :=
  let e := s.eng n
  let keep := Config.choice 0x11 s.free % 2 == 0
  let e1 := if keep then e.flush (fun _ => true) else { e with results := [] }
  let s1 := { s with free := s.free + 1 }.setEng n { e1 with
    job := none
    stall := .none
    sync := .none
    branch := none
    delay := 0
    open_ := false
    abortReq := false }
  let s2 := match e.job with
    | some j => s1.jobOver j 4
    | none => s1
  let s3 := ((s2.setF F.SE_STATUS_FAULTED 1 n).setF F.SE_STATUS_CAUSE cause n).setF F.SE_FAULT_ADDR_ADDR addr n
  ((s3.setF F.SE_CKPT_STATE 4 n).ledger 0x25 n cause).pulse (384 + n)

/-- A write of SEn.STATUS: 1 to FAULTED restarts a stopped engine with its next queued job, in the main set. -/
def State.seStatusWrite (s : State) (n v : Nat) : State :=
  let was := s.on F.SE_STATUS_FAULTED n
  let s1 := s.writeReg .SE_STATUS v n
  if bit v 29 && was then s1.setEng n { s1.eng n with set_ := 0, loops := [] } else s1

/-- ENGINE_RESTART (R319). -/
def execEngineRestart (n : Fin 16) (w : Word) (s : State) : Out :=
  s.regCmd (regAddr .SE_STATUS n) (s.seStatusWrite n (w.toNat ||| 2 ^ 29))

/-- Domain `n` resets (R474): the running job and every queued job are aborted, both register sets are 0.
Log entry 72 (DEDUCED). -/
def State.engReset (s : State) (n ckptState : Nat) : State :=
  let e := s.eng n
  let s1 := match e.job with
    | some j => (((s.jobOver j 4).bump F.SE_COUNT_ABORTS n).ledger 0x24 n j.fid)
    | none => s
  let s2 := e.queue.foldl (fun s j => s.jobUnrun n j 0x24) s1
  (s2.setEng n {}).setF F.SE_CKPT_STATE (if e.job.isSome then ckptState else s.f F.SE_CKPT_STATE n) n

end Sys2Proof.Machine
end

