-- ==== Sys2Proof/Machine/Hk.lean ====
section
/-!
DEFINITION. Sys2Proof/Machine/Hk.lean: the housekeeping converters and the PWM generators (chapter 14).
Codes of conversions come with the commands: they are measurements of the outside world.
-/
namespace Sys2Proof.Machine

def State.hkC (s : State) (k : Nat) : HkConv := SMap.get {} s.hk k

/-- Keep a converter's record and the STATUS and CAL bits that show it. -/
def State.setHk (s : State) (k : Nat) (v : HkConv) : State :=
  let s1 : State := { s with hk := SMap.set {} s.hk k v }
  let s2 := ((s1.setF F.HKA_STATUS_PASS_RUN (b2n v.pass) k).setF F.HKA_STATUS_INJ_OCC (b2n v.occ) k).setF
    F.HKA_STATUS_INJ_RUN (b2n v.inj) k
  ((s2.setF F.HKA_STATUS_CAL_RUN (b2n v.cal) k).setF F.HKA_CAL_BUSY (b2n v.cal) k).setF F.HKA_STATUS_ENTRY v.entry k

def State.pwmG (s : State) (n : Nat) : PwmGen := SMap.get {} s.pwm n
def State.setPwm (s : State) (n : Nat) (v : PwmGen) : State := { s with pwm := SMap.set {} s.pwm n v }

/-- Converter `k` is enabled and its domain present. -/
def State.hkOn (s : State) (k : Nat) : Bool := s.on F.HKA_CTRL_EN k && !s.absent 20

/-- Event line `j` of converter `k`. -/
def hkLine (k j : Nat) : Nat := 16 + 8 * k + j

/-- What a code of channel `ch` means (R365): µV of a ball, 1/16 °C of a sensor, µV of a rail; channels 30 and 31 as their
source. -/
def hkPhysical (ch code : Nat) : Int :=
  if ch ≤ 17 then code * 1200000 / 4096
  else if ch ≤ 21 then code - 128 * 16
  else if ch ≤ 29 then code * 2400000 / 4096
  else code * 1200000 / 4096

/-- The temperature sensor that channel 18 to 21 converts, in the tile of its number (R365). -/
def hkSensor (ch sub_ : Nat) : Nat := 4 * (ch - 18) + sub_

/-- An open-wire conversion of channel 0 to 17 (R374): configuration word channel + 32 × sub + 128 × mark. -/
def owActive (cfg : Nat) : Bool := bit cfg 7 && decide (cfg % 32 ≤ 17)

/-- A conversion takes 1.0 µs, sampling included, and an open-wire one 2 × (1 + SETTLE) µs (R365, R374). -/
def State.hkTime (s : State) (k cfg : Nat) : Nat :=
  if owActive cfg then us25 (2 * (1 + s.f F.HKA_OWCFG_SETTLE k)) else us25 1

/-- A calibration takes 68 µs (R372). -/
def hkCalTime : Nat := us25 68

/-- A constant the spec leaves open: whether the first pass or injected conversion counts as number 0 or 1.
Log entry 55 (DESIGN CHOICE). -/
def passBase : Nat := Config.choice 0x14 0 % 2

/-- Abandon a regular conversion in progress, both halves of an open-wire one (R371, R375). Log entry 55 (DESIGN CHOICE). -/
def State.hkAbandon (s : State) (k : Nat) : State :=
  let x := s.hkC k
  if x.conv then (s.setHk k { x with conv := false }).bump F.HKA_COUNT_ABANDONED k else s

/-- The injected conversion of converter `k` begins: the channel and open-wire mark are read now. -/
def State.hkStartInj (s : State) (k : Nat) : State :=
  let s1 := s.hkAbandon k
  let cfg := s.f F.HKA_INJ_ICH k + 32 * s.f F.HKA_INJ_ISUB k + 128 * s.f F.HKA_INJ_IOW k
  s1.setHk k { s1.hkC k with inj := true, injCfg := cfg, due := s.el25 + s.hkTime k cfg }

/-- Converter `k` neither calibrates nor runs an injected conversion. -/
def HkConv.clear (x : HkConv) : Bool := !x.cal && !x.inj

/-- Entry `e` begins converting: it is read now (R367). -/
def State.hkStartReg (s : State) (k e : Nat) : State :=
  let cfg := s.f F.HKA_SEQ_CH k e + 32 * s.f F.HKA_SEQ_SUB k e + 128 * s.f F.HKA_SEQ_OW k e
  s.setHk k { s.hkC k with conv := true, entry := e, cfg := cfg, due := s.el25 + s.hkTime k cfg }

/-- What converter `k` does next while nothing occupies it: a calibration asked for, the injected slot, the pass in
hand, a pass whose trigger waited (R369, R371, R372). -/
def State.hkNext (s : State) (k : Nat) : State :=
  let x := s.hkC k
  if !s.hkOn k || x.cal || x.inj then s
  else if x.calWait && !x.occ then (s.hkAbandon k).setHk k { (s.hkAbandon k).hkC k with cal := true, calWait := false, due := s.el25 + hkCalTime }
  else if x.occ && !x.xchk then s.hkStartInj k
  else if x.occ && (s.hkC (1 - k)).clear && (s.hkC (1 - k)).xchk then (s.hkStartInj k).hkStartInj (1 - k)
  else if x.conv then s
  else if x.pass then s.hkStartReg k x.entry
  else if x.regWait then
    let s1 := s.setHk k { x with pass := true, regWait := false }
    s1.hkStartReg k 0
  else s

/-- A calibration is requested (R372). -/
def State.hkCalReq (s : State) (k : Nat) : State :=
  let x := s.hkC k
  if !s.hkOn k || x.cal then s else (s.setHk k { x with calWait := true }).hkNext k

/-- A regular trigger (R369). -/
def State.hkRegTrig (s : State) (k : Nat) : State :=
  let x := s.hkC k
  if !s.hkOn k then s
  else if x.pass || x.regWait then (s.bump F.HKA_COUNT_OVR_REG k).pulse (hkLine k 3)
  else (s.setHk k { x with regWait := true }).hkNext k

/-- An injected trigger (R370, R371, R376). -/
def State.hkInjTrig (s : State) (k : Nat) : State :=
  let x := s.hkC k
  let cross := s.f F.HKA_INJ_ICH k == 31 && s.on F.HKA_XCFG_MODE
  let o := s.hkC (1 - k)
  if !s.hkOn k then s
  else if x.occ || (cross && o.occ) then (s.bump F.HKA_COUNT_OVR_INJ k).pulse (hkLine k 3)
  else if cross then
    (((s.setHk k { x with occ := true, xchk := true }).setHk (1 - k) { o with occ := true, xchk := true })).hkNext k
  else (s.setHk k { x with occ := true }).hkNext k

/-- Converter `k` has been enabled: its timers start and it calibrates first (R372). -/
def State.hkBegin (s : State) (k : Nat) : State :=
  (s.setHk k { s.hkC k with
    timer := some (s.el25 + us25 (s.f F.HKA_TRIG_PERIOD_US k))
    calTimer := some (s.el25 + us25 (1000 * s.f F.HKA_CAL_PERIOD_MS k)) }).hkCalReq k

/-- A write of HKA[k].CTRL: its fields, the enable with its calibration, then the triggers; an injected trigger of the
same write as a calibration request goes first (R372). Log entry 55 (DESIGN CHOICE). -/
def State.hkaCtrlWrite (s : State) (k v : Nat) : State :=
  let was := s.on F.HKA_CTRL_EN k
  let s1 := s.writeReg .HKA_CTRL v k
  if bit v 31 then
    let s2 := if was then s1 else s1.hkBegin k
    let s3 := if bit v 29 && !s2.on F.HKA_INJ_ITRIG k then s2.hkInjTrig k else s2
    let s4 := if bit v 30 then s3.hkCalReq k else s3
    if bit v 28 && s4.f F.HKA_CTRL_TRIG k == 0 then s4.hkRegTrig k else s4
  else s1.setHk k { injCount := (s1.hkC k).injCount }

/-- A write of CTRL with bits of `m` forced. Log entry 9 (DESIGN CHOICE). -/
def forceBits (v m : Nat) : Nat := Nat.lor v m

/-- HK_ENABLE (R372). -/
def execHkEnable (k : Fin 2) (w : Word) (s : State) : Out :=
  s.regCmd (regAddr .HKA_CTRL k) (s.hkaCtrlWrite k (forceBits w.toNat (2 ^ 31)))
/-- SEQ_GO (R368). -/
def execSeqGo (k : Fin 2) (w : Word) (s : State) : Out :=
  s.regCmd (regAddr .HKA_CTRL k) (s.hkaCtrlWrite k (forceBits w.toNat (2 ^ 28)))
/-- INJ_GO (R370). -/
def execInjGo (k : Fin 2) (w : Word) (s : State) : Out :=
  s.regCmd (regAddr .HKA_CTRL k) (s.hkaCtrlWrite k (forceBits w.toNat (2 ^ 29)))
/-- CAL_GO (R372). -/
def execCalGo (k : Fin 2) (w : Word) (s : State) : Out :=
  s.regCmd (regAddr .HKA_CTRL k) (s.hkaCtrlWrite k (forceBits w.toNat (2 ^ 30)))

/-- The timer, or the delay after a PWM edge, gives a regular trigger (R368). -/
def State.hkTriggerTimer (s : State) (k : Nat) : State :=
  let x := s.hkC k
  if !s.hkOn k then s
  else if s.f F.HKA_CTRL_TRIG k = 1 then
    match x.timer with
    | some t =>
      if t ≤ s.el25 then
        (s.setHk k { x with timer := some (t + us25 (s.f F.HKA_TRIG_PERIOD_US k)) }).hkRegTrig k
      else s
    | none => s
  else if s.f F.HKA_CTRL_TRIG k = 2 then
    match x.regDelay with
    | t :: ts => if t ≤ s.el25 then (s.setHk k { x with regDelay := ts }).hkRegTrig k else s
    | [] => s
  else s

/-- HK_TRIGGER_TIMER (R368). -/
def execHkTriggerTimer (k : Fin 2) (s : State) : Out := .next (s.core (s.hkTriggerTimer k))

/-- The delay after a PWM edge gives an injected trigger (R370). -/
def State.hkInjTriggerTimer (s : State) (k : Nat) : State :=
  let x := s.hkC k
  match x.injDelay with
  | t :: ts => if t ≤ s.el25 ∧ s.hkOn k then (s.setHk k { x with injDelay := ts }).hkInjTrig k else s
  | [] => s

/-- HK_INJ_TRIGGER_TIMER (R370). -/
def execHkInjTriggerTimer (k : Fin 2) (s : State) : Out := .next (s.core (s.hkInjTriggerTimer k))

/-- The code of a conversion: the mean of two halves where it is an open-wire one. -/
def owCode (cfg c1 c2 : Nat) : Nat := if owActive cfg then (c1 + c2) / 2 else c1

/-- The halves differ by more than THR. -/
def State.owOpen (s : State) (k cfg c1 c2 : Nat) : Bool :=
  owActive cfg && decide (s.f F.HKA_OWCFG_THR k < max c1 c2 - min c1 c2)

/-- An open wire is counted and recorded (R374). -/
def State.owReport (s : State) (k cfg : Nat) (open_ : Bool) : State :=
  if open_ then ((s.bump F.HKA_COUNT_OPEN k).pulse (hkLine k 4)).ledger 0x2C k (cfg % 32) else s

/-- A regular conversion completes when its time has passed (R365, R367). -/
def State.conversionComplete (s : State) (k c1 c2 : Nat) : State :=
  let x := s.hkC k
  if x.conv && s.hkOn k && decide (x.due ≤ s.el25) then
    let e := x.entry
    let o := s.owOpen k x.cfg c1 c2
    let s1 := (((s.setF F.HKA_RESULT_VALID 1 k e).setF F.HKA_RESULT_OPEN (b2n o) k e).setF F.HKA_RESULT_PASS
      ((s.f F.HKA_STATUS_PASSES k + passBase) % 256) k e).setF F.HKA_RESULT_CODE (owCode x.cfg c1 c2) k e
    let s2 := s1.owReport k x.cfg o
    if e < s.f F.HKA_CTRL_LEN k then (s2.setHk k { x with conv := false, entry := e + 1 }).hkNext k
    else
      (((s2.setHk k { x with conv := false, pass := false, entry := 0 }).setF F.HKA_STATUS_PASSES
        ((s.f F.HKA_STATUS_PASSES k + 1) % 65536) k).pulse (hkLine k 0)).hkNext k
  else s

/-- CONVERSION_COMPLETE (R367). -/
def execConversionComplete (k : Fin 2) (c1 c2 : Fin 4096) (s : State) : Out := .next (s.core (s.conversionComplete k c1 c2))

/-- INJ_RESULT of converter `k` takes a code; the slot is free (R370). -/
def State.injWrite (s : State) (k code : Nat) (open_ : Bool) : State :=
  let x := s.hkC k
  let s1 := (((s.setF F.HKA_INJ_RESULT_VALID 1 k).setF F.HKA_INJ_RESULT_OPEN (b2n open_) k).setF F.HKA_INJ_RESULT_PASS
    ((x.injCount + passBase) % 256) k).setF F.HKA_INJ_RESULT_CODE code k
  (s1.setHk k { x with occ := false, inj := false, xchk := false, injCount := x.injCount + 1 }).pulse (hkLine k 1)

/-- The end of a cross-check (R377). -/
def State.crossEnd (s : State) (c0 c1 : Nat) : State :=
  let s1 := (((s.injWrite 0 c0 false).injWrite 1 c1 false).setF F.HKA_XSTATUS_CODE0 c0).setF F.HKA_XSTATUS_CODE1 c1
  let s2 := s1.bump F.HKA_XCOUNT_CHECKS
  let s3 := if s.f F.HKA_XCFG_THR < max c0 c1 - min c0 c1 then
      (((s2.setF F.HKA_XSTATUS_MISMATCH 1).bump F.HKA_XCOUNT_MISMATCHES).pulse 21).ledger 0x2D c0 c1
    else s2
  (s3.hkNext 0).hkNext 1

/-- An injected conversion or cross-check completes when its time has passed (R365, R370, R374, R377).  `c1` and `c2` are the halves of converter `k`,
`other` the code of the other converter in a cross-check. -/
def State.injectedComplete (s : State) (k c1 c2 other : Nat) : State :=
  let x := s.hkC k
  if x.inj && s.hkOn k && decide (x.due ≤ s.el25) then
    if x.xchk then (if k = 0 then s.crossEnd c1 other else s.crossEnd other c1)
    else
      let o := s.owOpen k x.injCfg c1 c2
      ((s.injWrite k (owCode x.injCfg c1 c2) o).owReport k x.injCfg o).hkNext k
  else s

/-- INJECTED_COMPLETE (R370). -/
def execInjectedComplete (k : Fin 2) (c1 c2 other : Fin 4096) (s : State) : Out :=
  .next (s.core (s.injectedComplete k c1 c2 other))

/-- A periodic calibration falls due (R372); the next one is counted from this one. -/
def State.hkCalTimer (s : State) (k : Nat) : State :=
  let x := s.hkC k
  let p := s.f F.HKA_CAL_PERIOD_MS k
  match x.calTimer with
  | some t =>
    if t ≤ s.el25 ∧ p ≠ 0 ∧ s.hkOn k then
      (s.setHk k { x with calTimer := some (s.el25 + us25 (1000 * p)) }).hkCalReq k
    else s
  | none => s

/-- HK_CAL_TIMER (R372). -/
def execHkCalTimer (k : Fin 2) (s : State) : Out := .next (s.core (s.hkCalTimer k))

/-- A calibration ends after its 68 µs; a trim out of range keeps the previous trims (R373).  What waited proceeds. -/
def State.hkCalEnd (s : State) (k : Nat) (ok : Bool) : State :=
  let x := s.hkC k
  if x.cal && decide (x.due ≤ s.el25) then
    let s1 := (s.setHk k { x with cal := false }).pulse (hkLine k 2)
    let s2 := if ok then s1 else (s1.setF F.HKA_CAL_FAIL 1 k).ledger 0x2B k
    (s2.hkNext k).hkNext (1 - k)
  else s

/-- HK_CAL_END (R373). -/
def execHkCalEnd (k : Fin 2) (ok : Bool) (s : State) : Out := .next (s.core (s.hkCalEnd k ok))

/-! ### PWM generators (R378, R379) -/

/-- The length of one count in 1/25,000 tick: 4 ns × 2^PRESC. -/
def State.pwmUnit (s : State) (n : Nat) : Nat := 49152 * 2 ^ s.f F.PWM_CTRL_PRESC n

/-- The count of the period in progress. -/
def State.pwmCount (s : State) (n : Nat) : Nat := (s.elapsed * 25000 - (s.pwmG n).start) / s.pwmUnit n

/-- Generator `n` starts a period with the values its registers hold. -/
def State.pwmStart (s : State) (n : Nat) : State :=
  s.setPwm n
    { run := true
      start := s.elapsed * 25000
      period := s.f F.PWM_PERIOD_PERIOD n
      duty := s.f F.PWM_DUTY_DUTY n
      level := false
      hiz := false }

/-- A write of PWM[n].CTRL: EN = 1 starts the generator; EN = 0 stops it at the end of its period. -/
def State.pwmCtrlWrite (s : State) (n v : Nat) : State :=
  let s1 := s.writeReg .PWM_CTRL v n
  if bit v 31 && !(s.pwmG n).run then s1.pwmStart n else s1

/-- An internal edge of generator `n` starts the delays of the converters that select it (R368, R370). -/
def State.pwmTrigger (s : State) (n : Nat) (rising : Bool) (k : Nat) : State :=
  let x := s.hkC k
  let at_ (d : Nat) : Nat := s.el25 + cdiv (d * 49152) 1000
  let s1 := if s.hkOn k && s.f F.HKA_CTRL_TRIG k == 2 && s.f F.HKA_CTRL_PWM_SEL k == n && s.on F.HKA_CTRL_EDGE k == !rising
    then s.setHk k { x with regDelay := x.regDelay ++ [at_ (s.f F.HKA_TRIG_DELAY k)] } else s
  if s.hkOn k && s.on F.HKA_INJ_ITRIG k && s.f F.HKA_INJ_IPWM k == n && s.on F.HKA_INJ_IEDGE k == !rising
    then s1.setHk k { s1.hkC k with injDelay := (s1.hkC k).injDelay ++ [at_ (s.f F.HKA_INJ_IDELAY k)] } else s1

/-- The output changes level: active for counts 0 to DUTY − 1. -/
def State.pwmEdge (s : State) (n : Nat) : State :=
  let g := s.pwmG n
  let want := decide (s.pwmCount n < g.duty)
  if g.run && want != g.level && !s.absent 20 then
    ((s.setPwm n { g with level := want }).pwmTrigger n want 0).pwmTrigger n want 1
  else s

/-- PWM_EDGE (R378). -/
def execPwmEdge (n : Fin 8) (s : State) : Out := .next (s.core (s.pwmEdge n))

/-- A period ends: PERIOD and DUTY are loaded and line 32 + n pulses; a disabled generator stops. -/
def State.pwmPeriodEnd (s : State) (n : Nat) : State :=
  let g := s.pwmG n
  if g.run && decide (g.period < s.pwmCount n) && !s.absent 20 then
    let s1 := if s.on F.PWM_CTRL_EN n then
        s.setPwm n { g with
          start := g.start + (g.period + 1) * s.pwmUnit n
          period := s.f F.PWM_PERIOD_PERIOD n
          duty := s.f F.PWM_DUTY_DUTY n
          hiz := false }
      else s.setPwm n {}
    s1.pulse (32 + n)
  else s

/-- PWM_PERIOD_END (R378). -/
def execPwmPeriodEnd (n : Fin 8) (s : State) : Out := .next (s.core (s.pwmPeriodEnd n))

/-- The PWM ball: none at high impedance (R379), else its level after POL. -/
def State.pwmBall (s : State) (n : Nat) : Option Bool :=
  let g := s.pwmG n
  if g.run && !g.hiz && (s.power.st == .bright || s.power.st == .dim) then some (g.level != s.on F.PWM_CTRL_POL n) else none

/-- Domain 20 resets (R474): conversions abandoned, VALID clear, PWM balls at high impedance until their next period,
and each enabled converter calibrates again. -/
def State.hkReset (s : State) : State :=
  let s1 := (List.range 2).foldl (fun s k => (s.setHk k { s.hkC k with
      conv := false
      pass := false
      regWait := false
      occ := false
      inj := false
      xchk := false
      cal := false
      calWait := s.on F.HKA_CTRL_EN k
      entry := 0
      injCount := 0
      regDelay := []
      injDelay := [] })) s
  (List.range 8).foldl (fun s n => s.setPwm n { s.pwmG n with hiz := true, start := s.elapsed * 25000, level := false }) s1

end Sys2Proof.Machine
end

