-- ==== Sys2Proof/Machine/Dpd.lean ====
section
/-!
DEFINITION. Sys2Proof/Machine/Dpd.lean: the predistortion of chapter 6: DPD memory, the model, cluster switching at the TX
path boundary, adaptation and the stability monitor.
-/
namespace Sys2Proof.Machine

/-! ### DPD memory (R155 to R159) -/

def dpdBase : Nat := 0x24300000
/-- Coefficient set `e` of path `n`. -/
def setAddr (n e : Nat) : Nat := dpdBase + (16 * n + e) * 0x200
def candAddr (n : Nat) : Nat := 0x24380000 + n * 0x200
def prevAddr (n : Nat) : Nat := 0x24388000 + n * 0x200
def descAddr (n i : Nat) : Nat := 0x24390000 + n * 0x100 + 4 * i
def mapAddr (n key : Nat) : Nat := 0x24394000 + n * 0x100 + key
def resultAddr (b : Nat) : Nat := 0x24398000 + b * 0x4800

/-- A set's VALID and GEN (R156). -/
def State.setValid (s : State) (n e : Nat) : Bool := bit (s.rd32 (setAddr n e)) 31
def State.setGen (s : State) (n e : Nat) : Nat := s.rd32 (setAddr n e) % 65536

/-- The 64 coefficients stored at a set, slot or copy (R156): Q4.20 pairs. -/
def State.loadCoefs (s : State) (a : Nat) : List (Int × Int) :=
  (List.range 64).map (fun i => (sext 24 (s.readLE (a + 0x20 + 6 * i) 3), sext 24 (s.readLE (a + 0x23 + 6 * i) 3)))

/-- The coefficients of a byte image in the format of R156. -/
def coefsOf (bs : List Byte) : List (Int × Int) :=
  (List.range 64).map (fun i => (sext 24 (entryLE bs (0x20 + 6 * i) 3), sext 24 (entryLE bs (0x23 + 6 * i) 3)))

/-- Store coefficients at a set. -/
def State.storeCoefs (s : State) (a : Nat) (cs : List (Int × Int)) : State :=
  cs.zipIdx.foldl (fun s e =>
    (s.writeLE (a + 0x20 + 6 * e.2) 3 (trunc 24 e.1.1)).writeLE (a + 0x23 + 6 * e.2) 3 (trunc 24 e.1.2)) s

/-- Copy `n` bytes. -/
def State.copyBytes (s : State) (src dst n : Nat) : State := s.writeBytes dst (s.readBytes src n)

def State.dpdOf (s : State) (n : Nat) : DpdPath := (s.txp n).dpd
def State.setDpd (s : State) (n : Nat) (d : DpdPath) : State := s.setTxp n { s.txp n with dpd := d }

/-- The target set shown in DPD_STATUS. -/
def State.targetSet (s : State) (n : Nat) : Nat := s.f F.TXP_DPD_STATUS_TARGET_SET n

/-- Set `e` of path `n` is in effect or the target of a blend (R159). -/
def State.setInUse (s : State) (n e : Nat) : Bool := s.txOn n && (s.dpdOf n).applied && s.targetSet n == e

/-- The correlator is writing result buffer `b`. -/
def State.resultBusy (s : State) (b : Nat) : Bool :=
  (s.orxR (b / 2)).cap.any (fun c => c.buf == b) || (s.orxR (b / 2)).ended.any (fun c => c.1.buf == b)

/-- A write to the byte at offset `o` of DPD memory is discarded (R157, R159, R170). -/
def State.dpdGuard (s : State) (o : Nat) : Bool :=
  if o < 0x80000 then decide (o % 0x200 < 0x1A0) && s.setInUse (o / 0x200 / 16) (o / 0x200 % 16)
  else if o < 0x88000 then (s.dpdOf ((o - 0x80000) / 0x200)).staged.any (fun g => !g.done)
  else if o < 0x90000 then false
  else if o < 0x94000 then s.on F.TXP_CTRL_EN ((o - 0x90000) / 0x100)
  else if o < 0x98000 then false
  else if o < 0xE0000 then decide (o < 0x98000 + 16 * 0x4800) && s.resultBusy ((o - 0x98000) / 0x4800)
  else false

/-- Offsets from 0xE0000 up are reserved: they read 0 and ignore writes (R155). -/
def dpdReserved (o : Nat) : Bool := decide (0xE0000 ≤ o)

/-- A write of bytes into DPD memory at offset `o`: discarded whole with its address when a byte is guarded. -/
def State.dpdMemWrite (s : State) (o : Nat) (bs : List Byte) : State :=
  if (List.range bs.length).any (fun i => s.dpdGuard (o + i)) then s.discarded (dpdBase + o)
  else bs.zipIdx.foldl (fun s e => if dpdReserved (o + e.2) then s else s.writeByte (dpdBase + o + e.2) e.1) s

/-- The four bytes of a word, low byte first (R6). -/
def wordBytes (v : Nat) : List Byte := (List.range 4).map (fun i => BitVec.ofNat 8 (v / 256 ^ i))

/-- DPD_DESCRIPTOR_WRITE (R157). -/
def execDpdDescriptorWrite (n : Fin 64) (ix : Fin 64) (w : Word) (s : State) : Out :=
  s.regCmd (dpdBase + 0x90000 + n * 0x100 + 4 * ix) (s.dpdMemWrite (0x90000 + n * 0x100 + 4 * ix) (wordBytes w.toNat))

/-- `a` counts words of DPD memory. -/
def execDpdSetWrite (a : Fin 262144) (w : Word) (s : State) : Out :=
  s.regCmd (dpdBase + 4 * a) (s.dpdMemWrite (4 * a) (wordBytes w.toNat))

/-! ### The model (R151 to R154) -/

/-- A descriptor word's fields (R157). -/
structure Basis where
  en : Bool
  ty : Nat
  k : Nat
  m : Nat
  l : Nat
  j : Nat
  deriving DecidableEq, Repr

def basisOf (v : Nat) : Basis := ⟨bit v 31, bits v 29 2, bits v 26 3 + 1, bits v 22 4, bits v 20 2 + 1, bits v 18 2⟩

/-- Descriptor `i` lies within its row of R152. -/
def Basis.legal (b : Basis) (i : Nat) : Bool :=
  b.en && (if i < 48 then
    (b.ty == 0 || (b.ty == 1 && decide (2 ≤ b.k) && decide (b.m + b.l ≤ 15)) ||
      (b.ty == 2 && decide (2 ≤ b.k) && decide (b.l ≤ b.m)))
    else b.ty == 3 && decide (b.k ≤ 4) && decide (b.m ≤ 7))

/-- Neighbour `j` of path `n`, where it is present (R153). -/
def State.neighbour (s : State) (n j : Nat) : Option Nat :=
  let m := if j = 0 then s.f F.TXP_DPD_NBR_N0 n else if j = 1 then s.f F.TXP_DPD_NBR_N1 n
    else if j = 2 then s.f F.TXP_DPD_NBR_N2 n else s.f F.TXP_DPD_NBR_N3 n
  let d := (m - n) + (n - m)
  if bit (s.f F.TXP_DPD_NBR_NV n) j && decide (1 ≤ d) && decide (d ≤ 9) then some m else none

/-- The NV bits as read: a neighbour that breaks the distance rule reads 0 (R153). -/
def State.nvRead (s : State) (n : Nat) : Nat :=
  (List.range 4).foldl (fun v j => if (s.neighbour n j).isSome then v + 2 ^ j else v) 0

/-- An envelope power |x|^(k−1) and its product with a sample, each rounded to Q1.23 (R154); neither is limited, since the
spec names no saturation before the sum. Log entry 17 (UNVERIFIED). -/
def envelope (x e : Int × Int) (k : Nat) : Int × Int :=
  if k ≤ 1 then x
  else
    let p := rshr ((magnitude e ^ (k - 1) : Nat) : Int) (23 * (k - 2))
    (rshr (x.1 * p) 23, rshr (x.2 * p) 23)

/-- The value of basis function `i` (R152): `x d` and `nb j d` are the path's sample and that of neighbour `j`, `d` FS_CONV
samples back; `sp` is the tap spacing. -/
def Basis.value (b : Basis) (i sp : Nat) (x : Nat → Int × Int) (nb : Nat → Nat → Int × Int) : Int × Int :=
  if !b.legal i then (0, 0)
  else if b.ty = 0 then envelope (x (b.m * sp)) (x (b.m * sp)) b.k
  else if b.ty = 1 then envelope (x (b.m * sp)) (x ((b.m + b.l) * sp)) b.k
  else if b.ty = 2 then envelope (x (b.m * sp)) (x ((b.m - b.l) * sp)) b.k
  else envelope (nb b.j (b.m * sp)) (x (b.m * sp)) b.k

/-- The descriptors of path `n` and its tap spacing Δ (R152, R157). -/
def State.basisList (s : State) (n : Nat) : List Basis := (List.range 64).map (fun i => basisOf (s.rd32 (descAddr n i)))
def State.tapSpacing (s : State) (n : Nat) : Nat := 2 ^ s.f F.TXP_DPD_CTRL_TAP n

/-- The value of basis function `i` at FS_CONV sample `o` (0 the newest) of path `n` (R152, R153). -/
def State.basisAt (s : State) (n i o : Nat) : Int × Int :=
  (basisOf (s.rd32 (descAddr n i))).value i (s.tapSpacing n)
    (fun d => (s.txp n).lineX.getD (o + d) (0, 0))
    (fun j d => match s.neighbour n j with
      | some m => (s.txp m).lineN.getD (o + d) (0, 0)
      | none => (0, 0))

/-- The model is applied to the symbol in hand (R151, R175, R186). -/
def State.modelOn (s : State) (n : Nat) : Bool := (s.dpdOf n).applied && !(s.txp n).tag.probe

/-- The datapath's output `o` of this tick (0 the newest), 2 ticks after its input, with the coefficients of its sample's
symbol, and whether it saturated (R34, R151, R154). -/
def State.dpdOut (s : State) (n o : Nat) : (Int × Int) × Bool :=
  let set := s.txSetAt n 5
  if set.model then stageOut (sumC (set.cur.zipIdx.map (fun e => cmul e.1 (s.basisAt n e.2 (o + 16))))) 20
  else ((s.txp n).lineX.getD (o + 16) (0, 0), false)

/-- One tick of the datapath: eight outputs, the monitor's sums (R154, R172), then the limiters and the shaper.
Log entry 13 (DEDUCED). -/
def State.dpdTick (s : State) (n : Nat) : State :=
  let outs := (List.range 8).map (s.dpdOut n)
  let zs := outs.map (·.1)
  let xs := ((s.txp n).lineX.drop 16).take 8
  let d := s.dpdOf n
  let s1 := s.setDpd n { d with
    sat := d.sat || outs.any (·.2)
    sumX := d.sumX + (xs.map magSq).sum
    sumZ := d.sumZ + (zs.map magSq).sum
    maxX := (xs.map magSq).foldl max d.maxX
    maxZ := (zs.map magSq).foldl max d.maxZ }
  (s1.setTxp n { s1.txp n with outs := zs }).txEnd n zs

/-- A tick of a path that is not enabled: its neighbours see zeros (R153). -/
def State.txRest (s : State) (n : Nat) : State :=
  let x := s.txp n
  let l := (List.replicate 8 (0, 0) ++ x.lineN).take 152
  s.setTxp n { x with lineN := if l.all (· == (0, 0)) then [] else l }

/-! ### Adaptation (R170 to R174) -/

/-- A write of TXP[n].DPD_UPDATE (R170). -/
def State.dpdGo (s : State) (n v : Nat) : State :=
  let s1 := s.writeReg .TXP_DPD_UPDATE v n
  let e := bits v 16 4
  if bit v 31 then
    if s.on F.TXP_DPD_UPDATE_PENDING n || s.on F.TXP_DPD_UPDATE_TRIAL n || bit (s.f F.TXP_DPD_STALE_FROZEN n) e ||
        !bit (s.rd32 (candAddr n)) 31 then s1.bump F.TXP_DPD_COUNT_REFUSED n
    else (s1.setF F.TXP_DPD_UPDATE_PENDING 1 n).setDpd n
      { s1.dpdOf n with staged := some { bytes := s.readBytes (candAddr n) 0x200, set_ := e } }
  else s1

/-- DPD_GO (R170). Log entry 9 (DESIGN CHOICE). -/
def execDpdGo (n : Fin 64) (w : Word) (s : State) : Out :=
  s.regCmd (regAddr .TXP_DPD_UPDATE n) (s.dpdGo n (w.toNat ||| 2 ^ 31))

/-- The staging copy completes (R170). -/
def State.dpdStagingDone (s : State) (n : Nat) : State :=
  match (s.dpdOf n).staged with
  | some g => if g.done then s else s.setDpd n { s.dpdOf n with staged := some { g with done := true, at_ := s.elapsed } }
  | none => s

/-- DPD_STAGING_DONE (R170). -/
def execDpdStagingDone (n : Fin 64) (s : State) : Out := .next (s.core (s.dpdStagingDone n))

/-- The TX path boundary of path `n` falls now: its first sample enters carrier combining TARGET ticks before the
air boundary (R32, R109). Log entry 13 (DEDUCED). -/
def State.atTxBoundary (s : State) (n : Nat) : Bool :=
  let k := s.f F.RFC_TILE_CTRL_TL (n / 4)
  s.txOn n && s.tlOn k && s.isAir k (s.now + s.f F.TXP_ALIGN_TARGET n)

/-- The lookup and the blend step of the boundary that falls now have been made (R176). -/
def State.boundaryMade (s : State) (n : Nat) : Bool := s.atTxBoundary n && (s.txp n).tagAt == some s.elapsed

/-- The boundary that falls now is still to come: what precedes the lookup may act (R176). -/
def State.boundaryDue (s : State) (n : Nat) : Bool := s.atTxBoundary n && (s.txp n).tagAt != some s.elapsed

/-- old + (new − old) × i/B, rounded to Q4.20 (R162), halves up. Log entry 13 (DEDUCED). -/
def blendOne (i b : Nat) (old new : Int) : Int := old + ((new - old) * (2 * i) + b) / (2 * b : Nat)

/-- The coefficients of blend symbol `i` of `b` (R162). Log entry 13 (DEDUCED). -/
def blendCoefs (i b : Nat) (old new : List (Int × Int)) : List (Int × Int) :=
  List.zipWith (fun o w => (blendOne i b o.1 w.1, blendOne i b o.2 w.2)) old new

/-- The install of R171 for one coefficient: a step in sixteenths, rounded to Q4.20 and saturated. -/
def installOne (step : Nat) (old new : Int) : Int := satW 24 (old + rshr ((new - old) * (step : Int)) 4)

/-- An uncorrectable word was read from a set (R472): the path is held at zero scale for the symbol and the load is
owed. -/
def State.setLoadBad (s : State) (n a : Nat) : State :=
  let s1 := ((s.bump F.FLT_ECC_COUNT_UNCORRECTED).ledger 0x28 a).zsHold 8 n
  s1.setTxp n { s1.txp n with end8 := none, dpd := { s1.dpdOf n with retry := true } }

/-- The install lands at a TX path boundary at least 4 cycles after the staging copy (R171); after the lookup and the
blend step of the same boundary (R176).  `bad` names an uncorrectable 32-bit word of the set (R472). -/
def State.dpdInstall (s : State) (n : Nat) (bad : Option Nat) : State :=
  let d := s.dpdOf n
  match d.staged with
  | some g =>
    if g.done && decide (g.at_ + 4 ≤ s.elapsed) && s.boundaryMade n then
      match bad with
      | some w => s.setLoadBad n (setAddr n g.set_ + 4 * w)
      | none =>
        let a := setAddr n g.set_
        let step := s.f F.TXP_DPD_CTRL_STEP n
        let new := List.zipWith (fun o w => (installOne step o.1 w.1, installOne step o.2 w.2)) (s.loadCoefs a) (coefsOf g.bytes)
        let s1 := ((s.copyBytes a (prevAddr n) 0x200).storeCoefs a new).writeLE a 2 (entryLE g.bytes 0 2)
        let s2 := (s1.wr32 (a + 4) (s.now % 2 ^ 32)).setF F.TXP_DPD_UPDATE_PENDING 0 n
        let s3 := s2.setF F.TXP_DPD_UPDATE_TRIAL 1 n
        let cur := if d.applied && s.targetSet n == g.set_ then
          (if d.full then new else blendCoefs (s.f F.TXP_DPD_STATUS_BLEND_POS n) d.blen d.old new) else d.cur
        s3.setDpd n { d with staged := none, trialSet := g.set_, installAt := s.now, cur := cur }
    else s
  | none => s

/-- DPD_INSTALL (R171). -/
def execDpdInstall (n : Fin 64) (bad : Option (Fin 128)) (s : State) : Out := .next (s.core (s.dpdInstall n (bad.map (·.val))))

/-- The count of rollbacks in a row of set `e` (R174). -/
def State.setRolls (s : State) (n e v : Nat) : State :=
  s.setDpd n { s.dpdOf n with rolls := SMap.set 0 (s.dpdOf n).rolls e v }

/-- The rollback of R172: recorded now, restored at the TX path boundary; R174 freezes the set. -/
def State.dpdRollback (s : State) (n : Nat) : State :=
  let e := (s.dpdOf n).trialSet
  let r := SMap.get 0 (s.dpdOf n).rolls e + 1
  let s1 := ((s.setF F.TXP_DPD_UPDATE_TRIAL 0 n).setF F.TXP_DPD_UPDATE_LAST 2 n).bump F.TXP_DPD_COUNT_ROLLBACKS n
  let s2 := ((s1.ledger 0x11 n e).pulse 328).setRolls n e r
  let s3 := s2.setDpd n { s2.dpdOf n with rollback := true }
  if s.f F.DPD_MON_CFG_FREEZE_AFTER ≤ r ∧ bit (s.f F.TXP_DPD_STALE_FROZEN n) e = false then
    ((s3.setB F.TXP_DPD_STALE_FROZEN e n).bump F.DPD_COUNT_DIVERGED).ledger 0x12 n e
  else s3

/-- G_sym and E_sym of the symbol in hand, in 1/64 dB. -/
def State.gSym (s : State) (n : Nat) : Int := dbRatio (s.dpdOf n).sumZ (s.dpdOf n).sumX
def State.eSym (s : State) (n : Nat) : Int := dbRatio (s.dpdOf n).maxZ (s.dpdOf n).maxX

/-- E_sym exceeds EXP_MAX × 0.05 dB. -/
def State.expanded (s : State) (n : Nat) : Bool := decide ((16 * s.f F.DPD_MON_CFG_EXP_MAX : Nat) < 5 * s.eSym n)

/-- The symbol in hand is the trial symbol (R171). -/
def State.isTrial (s : State) (n : Nat) : Bool :=
  let d := s.dpdOf n
  s.on F.TXP_DPD_UPDATE_TRIAL n && d.full && s.targetSet n == d.trialSet && d.sumX != 0

/-- The trial symbol fails (R172). -/
def State.trialFails (s : State) (n : Nat) : Bool :=
  let d := s.dpdOf n
  let a := setAddr n d.trialSet
  let g := s.gSym n - sext 16 (s.rd32 (a + 8) / 65536)
  (bit (s.rd32 (a + 12)) 31 && decide ((16 * s.f F.DPD_MON_CFG_GAIN_TOL : Nat) < 5 * g ∨
    (16 * s.f F.DPD_MON_CFG_GAIN_TOL : Nat) < -(5 * g))) || s.expanded n || d.sat || d.ovl

/-- The verdict at the end of the trial symbol, ahead of that boundary's changes (R172, R176). -/
def State.dpdTrialVerdict (s : State) (n : Nat) : State :=
  if s.boundaryDue n && s.isTrial n then
    let s0 := s.setDpd n { s.dpdOf n with judged := true }
    if s.trialFails n then s0.dpdRollback n
    else ((s0.setF F.TXP_DPD_UPDATE_TRIAL 0 n).setF F.TXP_DPD_UPDATE_LAST 1 n).setRolls n (s.dpdOf n).trialSet 0
  else s

/-- DPD_TRIAL_VERDICT (R172). -/
def execDpdTrialVerdict (n : Fin 64) (s : State) : Out := .next (s.core (s.dpdTrialVerdict n))

/-- The second frame boundary after the install has come without a trial symbol (R171, R174). Log entry 13 (DEDUCED). -/
def State.dpdTrialLapse (s : State) (n : Nat) : State :=
  let o := s.off (s.f F.RFC_TILE_CTRL_TL (n / 4))
  let d := s.dpdOf n
  if s.on F.TXP_DPD_UPDATE_TRIAL n && decide (frameCeil o (d.installAt + 1) + frameTicks ≤ s.now) && !s.isTrial n then
    (((s.setF F.TXP_DPD_UPDATE_TRIAL 0 n).setF F.TXP_DPD_UPDATE_LAST 3 n).bump F.DPD_COUNT_LAPSED).setRolls n d.trialSet 0
  else s

/-- DPD_TRIAL_LAPSE (R171). -/
def execDpdTrialLapse (n : Fin 64) (s : State) : Out := .next (s.core (s.dpdTrialLapse n))

/-- A write of TXP[n].DPD_STALE: a 1 unfreezes a set and restarts its count (R174). -/
def State.dpdUnfreeze (s : State) (n v : Nat) : State :=
  (idxWhere 16 (fun e => bit v (16 + e))).foldl (fun s e => s.setRolls n e 0) (s.writeReg .TXP_DPD_STALE v n)

/-- DPD_UNFREEZE (R174). -/
def execDpdUnfreeze (n : Fin 64) (w : Word) (s : State) : Out :=
  s.regCmd (regAddr .TXP_DPD_STALE n) (s.dpdUnfreeze n w.toNat)

/-- Failing symbols in a row, the ended symbol included (R175): a counted symbol has the model applied and non-zero
input; the trial symbol is skipped; no run stands while the path is bypassed. Log entry 22 (DEDUCED). -/
def State.failsAfter (s : State) (n : Nat) : Nat :=
  let d := s.dpdOf n
  if s.on F.TXP_DPD_STATUS_BYPASSED n then 0
  else if !s.modelOn n || d.sumX == 0 || d.judged || s.isTrial n then d.fails
  else if s.expanded n || d.sat then d.fails + 1 else 0

/-- The path is bypassed from the boundary that ends the FAIL_LIMIT-th failing symbol (R175). Log entry 22 (DEDUCED). -/
def State.dpdBypass (s : State) (n : Nat) : State :=
  if s.boundaryDue n && decide (s.f F.DPD_MON_CFG_FAIL_LIMIT ≤ s.failsAfter n) && !s.on F.TXP_DPD_STATUS_BYPASSED n then
    let s1 := ((s.setF F.TXP_DPD_STATUS_BYPASSED 1 n).bump F.DPD_COUNT_UNSTABLE).ledger 0x13 n
    let s2 := s1.setDpd n { s1.dpdOf n with fails := 0, unbypass := false, judged := (s.dpdOf n).judged || s.isTrial n }
    if s.on F.TXP_DPD_UPDATE_TRIAL n then s2.dpdRollback n else s2
  else s

/-- DPD_BYPASS (R175). -/
def execDpdBypass (n : Fin 64) (s : State) : Out := .next (s.core (s.dpdBypass n))

/-- A write of TXP[n].DPD_STATUS: a 1 to BYPASSED ends the bypass at the next boundary, as an exception to R9 (R175). -/
def State.dpdBypassEndRequest (s : State) (n v : Nat) : State :=
  if bit v 31 && s.on F.TXP_DPD_STATUS_BYPASSED n then s.setDpd n { s.dpdOf n with unbypass := true } else s

/-- DPD_BYPASS_END_REQUEST (R175). -/
def execDpdBypassEndRequest (n : Fin 64) (w : Word) (s : State) : Out :=
  s.regCmd (regAddr .TXP_DPD_STATUS n) (s.dpdBypassEndRequest n (w.toNat ||| 2 ^ 31))

/-! ### The TX path boundary (R161 to R163, R173, R176) -/

/-- The pair (path, set) is in full use: due for a capture, and used in the refresh period in progress (R177, R179). -/
def State.pairUsed (s : State) (n e : Nat) : State := s.setPair n e { s.pair n e with due := true, used := true }

/-- What the ended symbol leaves: saturation counters, the monitor's values, REF (R154, R107, R113, R172, R173), the
pair's use (R177, R179) and the run of failing symbols (R175). -/
def State.txSymbolEnd (s : State) (n : Nat) : State :=
  let x := s.txp n
  let d := x.dpd
  let e := s.targetSet n
  let a := setAddr n e
  let s1 := if x.satSym then s.bump F.TXP_SAT_COUNT_SAT_SYMBOLS n else s
  let s2 := if x.dipSym then s1.bump F.TXP_PLIM_COUNT_DIP_SYMBOLS n else s1
  let s3 := if d.sat then s2.bump F.TXP_DPD_COUNT_SAT_SYMBOLS n else s2
  let s4 := if d.sumX ≠ 0 then (s3.setF F.TXP_DPD_MON_GAIN (trunc 16 (s.gSym n)) n).setF F.TXP_DPD_MON_EXP (trunc 16 (s.eSym n)) n
    else s3
  let s5 := if d.full && !d.judged && !s.isTrial n && d.sumX != 0 then
      (s4.wr32 (a + 8) (trunc 16 (s.gSym n) * 65536 + trunc 16 (s.eSym n))).wr32 (a + 12) (setBit (s.rd32 (a + 12)) 31)
    else s4
  let s6 := if d.full then s5.pairUsed n e else s5
  s6.setTxp n { s6.txp n with
    satSym := false
    dipSym := false
    dpd := { d with fails := s.failsAfter n, judged := false, sat := false, ovl := false, sumX := 0, sumZ := 0, maxX := 0, maxZ := 0 } }

/-- The key layer of transmit carrier `c`: the lowest FID among the enabled layers with an entry (R160). -/
def State.keyLayerOf (s : State) (c : Nat) : Option BeamCopy :=
  ((List.range 512).find? (fun f => s.on F.PRISM_LAYER_CFG_LEN f && s.layDir f == 0 && s.layCar f == c &&
    (s.layer f).act.isSome)).bind (fun f => (s.layer f).act)

/-- The entry of the key layer, carrier 0 first (R160). -/
def State.keyLayer (s : State) : Option BeamCopy :=
  match s.keyLayerOf 0 with
  | some b => some b
  | none => s.keyLayerOf 1

/-- A probe of the Mirror round is on path `n` in the symbol that crosses the balls at `air` (R186). -/
def State.probeOn (s : State) (n air : Nat) : Bool := s.mir.onAir.any (fun p => p.el == n && p.air == air)

/-- The tag of the symbol that enters the path now (R34, R160). -/
def State.newTag (s : State) (n : Nat) : Tag :=
  let k := s.f F.RFC_TILE_CTRL_TL (n / 4)
  let air := s.now + s.f F.TXP_ALIGN_TARGET n
  let x := s.txp n
  let b := s.keyLayer
  { tl := k
    frame := s.frameNo k air
    symbol := s.symNo k air
    entry := (b.map (·.entry)).getD x.tag.entry
    gen := (b.map BeamCopy.gen).getD x.tag.gen
    key := (b.map BeamCopy.key).getD x.tag.key
    gated := x.gated
    probe := s.probeOn n air }

/-- The target set the map gives for `key`, none where it gives no valid set (R161). -/
def State.mappedSet (s : State) (n key : Nat) : Option Nat :=
  let b := (s.readByte (mapAddr n key)).toNat
  if bit b 7 && s.setValid n (b % 16) then some (b % 16) else none

/-- The target set with the default of R161; none where the symbol passes as under EN = 0. -/
def State.lookupSet (s : State) (n key : Nat) : Option Nat :=
  match s.mappedSet n key with
  | some e => some e
  | none => if s.setValid n (s.f F.TXP_DPD_CTRL_DEF_SET n) then some (s.f F.TXP_DPD_CTRL_DEF_SET n) else none

/-- The counters and the ledger entry of a lookup without a valid mapped set: DEF_USED once, and once more where the
default is invalid as well (R161). -/
def State.lookupNotes (s : State) (n key : Nat) : State :=
  match s.mappedSet n key with
  | some _ => s
  | none =>
    let s1 := (s.bump F.TXP_DPD_COUNT_DEF_USED n).ledger 0x10 n key
    if s.setValid n (s.f F.TXP_DPD_CTRL_DEF_SET n) then s1 else s1.bump F.TXP_DPD_COUNT_DEF_USED n

/-- The model is not applied in this symbol. -/
def State.dpdPass (s : State) (n : Nat) : State :=
  (s.setF F.TXP_DPD_STATUS_BLEND_POS 0 n).setDpd n { s.dpdOf n with applied := false, full := false, cur := [], old := [] }

/-- The target set takes full effect. -/
def State.dpdFull (s : State) (n e pos : Nat) : State :=
  (((s.setF F.TXP_DPD_STATUS_TARGET_SET e n).setF F.TXP_DPD_STATUS_BLEND_POS pos n).pairUsed n e).setDpd n
    { s.dpdOf n with applied := true, full := true, cur := s.loadCoefs (setAddr n e) }

/-- Blend symbol `i` of `b` toward set `e` from the coefficients `old` (R162, R163). -/
def State.dpdBlend (s : State) (n e i b : Nat) (old : List (Int × Int)) : State :=
  if b ≤ i then (s.dpdFull n e (if b = 1 then 0 else i)).setDpd n { (s.dpdFull n e i).dpdOf n with old := old, blen := b }
  else
    ((s.setF F.TXP_DPD_STATUS_TARGET_SET e n).setF F.TXP_DPD_STATUS_BLEND_POS i n).setDpd n
      { s.dpdOf n with
        applied := true
        full := false
        old := old
        blen := b
        cur := blendCoefs i b old (s.loadCoefs (setAddr n e)) }

/-- The lookup alone: counters, ledger and the target set, which is the default where the map gives no valid set; it
goes on while the path is bypassed (R161, R175). Log entry 22 (DEDUCED). -/
def State.trackSet (s : State) (n key : Nat) : State :=
  (s.lookupNotes n key).setF F.TXP_DPD_STATUS_TARGET_SET
    ((s.mappedSet n key).getD (s.f F.TXP_DPD_CTRL_DEF_SET n)) n

/-- The lookup and the blend step of a boundary for the key of its tag (R161 to R163). -/
def State.dpdStep (s : State) (n key : Nat) (bad : Option Nat) : State :=
  match s.lookupSet n key with
  | none => (s.trackSet n key).dpdPass n
  | some e =>
    match bad with
    | some w => (s.lookupNotes n key).setLoadBad n (setAddr n e + 4 * w)
    | none =>
      let s1 := s.lookupNotes n key
      let d := s.dpdOf n
      let pos := s.f F.TXP_DPD_STATUS_BLEND_POS n
      if !d.applied then s1.dpdFull n e 0
      else if e ≠ s.targetSet n then s1.dpdBlend n e 1 (s.f F.TXP_DPD_CTRL_BLEND n + 1) d.cur
      else if pos ≠ 0 ∧ pos < d.blen then s1.dpdBlend n e (pos + 1) d.blen d.old
      else s1.dpdFull n e 0

/-- The predistortion changes of a boundary in the order of R176: rollback or bypass, then the lookup and blend step.  Zero
scale cause 8 ends at the first sample of the symbol that begins here (R121). -/
def State.dpdBoundary (s : State) (n key : Nat) (probe : Bool) (bad : Option Nat) : State :=
  if s.absent 17 then s else
  let d := s.dpdOf n
  let s0 := if d.rollback then (s.copyBytes (prevAddr n) (setAddr n d.trialSet) 0x200).setDpd n { d with rollback := false } else s
  let s1 := if (s0.dpdOf n).retry then s0.setTxp n { s0.txp n with
      end8 := some (s0.now + s0.f F.TXP_ALIGN_TARGET n)
      dpd := { s0.dpdOf n with retry := false } }
    else s0
  let s2 := s1.setF F.TXP_DPD_STATUS_KEY key n
  let s3 := if s2.on F.TXP_DPD_STATUS_BYPASSED n && (s2.dpdOf n).unbypass then
      (s2.setF F.TXP_DPD_STATUS_BYPASSED 0 n).setDpd n { s2.dpdOf n with unbypass := false } else s2
  if !s3.on F.TXP_DPD_CTRL_EN n then s3.dpdPass n
  else if s3.on F.TXP_DPD_STATUS_BYPASSED n then (if probe then s3 else s3.trackSet n key).dpdPass n
  else if probe then s3.setDpd n { s3.dpdOf n with full := false }
  else s3.dpdStep n key bad

/-- Zero scale cause 7 with its record, made once (R120). -/
def State.inputMissing (s : State) (n : Nat) : State :=
  let x := s.txp n
  let s1 := (s.setTxp n { x with end7 := none, missed := true }).zsHold 7 n
  if x.missed then s1 else s1.ledger 0x0B n

/-- The antenna samples of a symbol within a burst fail to arrive while the Prism is off or absent (R120 bit 7); the cause
ends at the first sample of the next symbol that arrives complete (R121). -/
def State.inputCheck (s : State) (n : Nat) : State :=
  let air := s.now + s.f F.TXP_ALIGN_TARGET n
  let inBurst := (s.tile (n / 4)).burst.any (fun b => b.covers air && !b.cut)
  let carries := s.on F.TXP_DUC_CEN n 0 || s.on F.TXP_DUC_CEN n 1
  if carries && inBurst && (s.absent 16 || !s.prismOn) then s.inputMissing n
  else if bit (s.f F.TXP_ZS_STATUS_CAUSE n) 7 && !s.absent 16 && s.prismOn &&
      (s.prism.back == 0 || decide (s.prism.back + 96 ≤ s.elapsed)) then
    s.setTxp n { s.txp n with end7 := some air, missed := false }
  else s

/-- The TX path boundary of path `n` (R32, R35, R161, R176): the registers show the new values, and each stage follows when
the tagged sample reaches it (R34).  `bad` names a 32-bit word of the target set whose read could not be corrected
(R472). -/
def State.txPathBoundary (s : State) (n : Nat) (bad : Option Nat) : State :=
  if s.atTxBoundary n then
    let skew := s.landing (.txp n) (regAddr .TXP_SKEW n) 4
    let s1 := (s.txSymbolEnd n).commitShadow (.txp n) 4
    let k := n / 8
    let s2 := if 8 * k + s.f F.ORX_STATUS_SEL k = n then s1.commitShadow (.orx k) 1 else s1
    let s3 := s2.setF F.TXP_CFIR_CTRL_ACTIVE (s2.f F.TXP_CFIR_CTRL_BANK n) n
    let s4 := if skew then s3.txAlign n else s3
    let tag := s4.newTag n
    let x := s4.txp n
    ((s4.setTxp n { x with
      tag := tag
      tagged := true
      tagAt := some s.elapsed
      sets := (s.now + s.f F.TXP_ALIGN_TARGET n, s.txSet n) :: dropOld x.sets s.now }).dpdBoundary n tag.key tag.probe bad).inputCheck n
  else s

/-- TX_PATH_BOUNDARY (R161). -/
def execTxPathBoundary (n : Fin 64) (bad : Option (Fin 128)) (s : State) : Out :=
  .next (s.core (s.txPathBoundary n (bad.map (·.val))))

end Sys2Proof.Machine
end

