-- ==== Sys2Proof/Machine/Correlate.lean ====
section
/-!
DEFINITION. Sys2Proof/Machine/Correlate.lean: what the correlators compute from the samples of a capture: the fit of the
observation receivers (R168, R169) and the responses of the Mirror block (R189).
-/
namespace Sys2Proof.Machine

/-- A quotient rounded to the nearest integer, halves up. -/
def divRound (a b : Int) : Int := (2 * a + b) / (2 * b)

/-- Complex conjugate. -/
def conjC (x : Int × Int) : Int × Int := (x.1, -x.2)

/-- The word of a signed number, limited to 32 bits. -/
def word32 (x : Int) : Word := BitVec.ofInt 32 (satW 32 x)

/-! ### Observation receivers (R168) -/

/-- The receiver's sample `k` of a capture in Q1.23; zero outside what was taken. -/
def Capture.y (c : Capture) (k : Int) : Int × Int :=
  if k + 64 < 0 then (0, 0) else scaleC 256 (c.ys.reverse.getD (k + 64).toNat (0, 0))

/-- A datapath sample list of a capture at FS_CONV sample `m` from its start; zero outside what was taken. -/
def atConv (l : List (Int × Int)) (m : Int) : Int × Int :=
  if m + 128 < 0 then (0, 0) else l.reverse.getD (m + 128).toNat (0, 0)

/-- The observed stream `pos` 1/64 ticks after its first sample, between samples by interpolation with gain 1.
Log entry 23 (DEDUCED). -/
def Capture.yFine (c : Capture) (pos : Int) : Int × Int :=
  let f := (pos % 16).toNat
  let k := pos / 16 + (if f = 0 then 0 else 1)
  (stageOut (fracDelay 40 ((16 - f) % 16) 16 ((List.range 8).map (fun (i : Nat) => c.y (k + 3 - (i : Int))))) 22).1

/-- The correlation of the datapath's input with the observation, `rho` 1/64 ticks later, over the first 1,024 samples. -/
def Capture.corr (c : Capture) (rho : Int) : Int × Int :=
  sumC ((List.range 1024).map (fun (k : Nat) => cmul (conjC (atConv c.xs (2 * k))) (c.yFine (16 * k + rho))))

/-- The lags of the search, in whole samples: ±4 ticks. -/
def lags : List Int := (List.range 33).map (fun (d : Nat) => (d : Int) - 16)

/-- The lag with the largest correlation, the first of equals. -/
def Capture.lag (c : Capture) : Int :=
  lags.foldl (fun b d => if magSq (c.corr (16 * b)) < magSq (c.corr (16 * d)) then d else b) (-16)

/-- The search finds a peak: not zero, and at least 10 dB above the mean over the lags (R168). Log entry 23 (DEDUCED). -/
def Capture.aligned (c : Capture) : Bool :=
  let p := magSq (c.corr (16 * c.lag))
  let sum := lags.foldl (fun a d => a + magSq (c.corr (16 * d))) 0
  p != 0 && decide (10 * sum ≤ 33 * p)

/-- The residual delay in 1/64 tick, within ±4 ticks of DELAY (R168): the best lag, and within it a part the spec gives no
method for. Log entry 23 (DEDUCED). -/
def Capture.residual (c : Capture) : Int :=
  clampI (-256) 256 (16 * c.lag + (Config.choice 0x90 (64 * c.time + c.path) % 16 : Nat) - 8 - (c.rem : Int))

/-- The correlation at the residual delay, and the input's energy: G is their quotient (R168). -/
def Capture.atPeak (c : Capture) : Int × Int := c.corr (c.residual + c.rem)
def Capture.energy (c : Capture) : Nat := ((List.range 1024).map (fun (k : Nat) => magSq (atConv c.xs (2 * k)))).sum

/-- The normalised observation y/G at FS_CONV sample `m` (R168). -/
def Capture.norm (c : Capture) (m : Int) : Int × Int :=
  let g := c.atPeak
  let v := scaleC c.energy (cmul (c.yFine (8 * m + c.residual + c.rem)) (conjC g))
  (divRound v.1 (magSq g), divRound v.2 (magSq g))

/-- The basis functions at sample `k`, on the normalised observation and the neighbours' inputs (R168). -/
def Capture.phi (c : Capture) (bs : List Basis) (sp k : Nat) : List (Int × Int) :=
  bs.zipIdx.map (fun b => b.1.value b.2 sp (fun d => c.norm (2 * k - d))
    (fun j d => atConv (SMap.get [] c.nbs j) (2 * k - d)))

/-- R_ij for i ≤ j by rows, then p_i, whole (R168). -/
def Capture.sums (c : Capture) (phis : List (List (Int × Int))) : List (Int × Int) × List (Int × Int) :=
  let at_ (l : List (Int × Int)) (i : Nat) : Int × Int := l.getD i (0, 0)
  ((List.range 64).flatMap (fun i => (List.range (64 - i)).map (fun d =>
      sumC (phis.map (fun l => cmul (conjC (at_ l i)) (at_ l (i + d)))))),
    (List.range 64).map (fun i => sumC (phis.zipIdx.map (fun l => cmul (conjC (at_ l.1 i)) (atConv c.us (2 * l.2))))))

/-- The residual of the set in effect against Σ|u|² (R168). -/
def Capture.nmse (c : Capture) (phis : List (List (Int × Int))) : Nat :=
  let err (l : List (Int × Int) × Nat) : Nat :=
    let z := sumC (List.zipWith cmul c.coefs l.1)
    magSq (addC (atConv c.us (2 * l.2)) (-(rshr z.1 20), -(rshr z.2 20)))
  dbCode 160 (phis.zipIdx.map err).sum ((List.range phis.length).map (fun (k : Nat) => magSq (atConv c.us (2 * k)))).sum 16

/-- The places by which the sums are shifted so that all fit 32 bits; the spec does not say how many more.
Log entry 23 (DEDUCED). -/
def Capture.shift (c : Capture) (l : List (Int × Int)) : Nat :=
  let m := l.foldl (fun m x => max m (max x.1.natAbs x.2.natAbs)) 0
  Nat.log2 m - 29 + Config.choice 0x91 (64 * c.time + c.path) % 8

/-- The statistics of a capture of a path with descriptors `bs` and tap spacing `sp` (R168, R169): sums in units of
2^−46 of full-scale power. -/
def Capture.stats (c : Capture) (bs : List Basis) (sp : Nat) : CaptureStats :=
  let phis := (List.range c.size).map (c.phi bs sp)
  let v := c.sums phis
  let sh := c.shift (v.1 ++ v.2)
  let pair (x : Int × Int) : Word × Word := (word32 (rshr x.1 sh), word32 (rshr x.2 sh))
  let g (x : Int) : Nat := trunc 16 (satW 16 (divRound (x * 2 ^ 14) c.energy))
  { exp := BitVec.ofInt 32 ((sh : Int) - 46)
    nmse := BitVec.ofNat 16 (c.nmse phis)
    gain := BitVec.ofNat 32 (g c.atPeak.1 * 65536 + g c.atPeak.2)
    delay := BitVec.ofInt 32 c.residual
    p := v.2.map pair
    r := v.1.map pair }

/-! ### The Mirror correlator (R189) -/

/-- Cosine and sine of a phase of 32 bits, scaled by 2^30. -/
def turn30 (p : Nat) : Int × Int := let v := circle p; (rshr v.1 18, rshr v.2 18)

/-- The angle of a complex value as a phase of 32 bits; free where it is zero. -/
def argOf (site : Nat) (x : Int × Int) : Nat :=
  if x = (0, 0) then Config.choice 0x93 site % 2 ^ 32
  else
    let q := if 0 < x.1 ∧ 0 ≤ x.2 then (0, x) else if x.1 ≤ 0 ∧ 0 < x.2 then (1, (x.2, -x.1))
      else if x.1 < 0 ∧ x.2 ≤ 0 then (2, (-x.1, -x.2)) else (3, (-x.2, x.1))
    q.1 * 2 ^ 30 + largest (fun p => let v := quarter p; decide (0 ≤ v.1 * q.2.2 - v.2 * q.2.1)) 30 0

/-- The response at bin `k` of 480 kHz: the spectrum of the summed periods, against that of the probe, which is flat:
exp(jπk²/1,024 − jπ/4) (R183, R189), scaled by 2^60. -/
def binResponse (sum : Nat → Int × Int) (k : Int) : Int × Int :=
  let x := sumC ((List.range 1024).map (fun (i : Nat) => cmul (sum i) (turn30 (trunc 32 (-(k * i) * 2 ^ 22)))))
  cmul x (turn30 (trunc 32 (2 ^ 29 - k * k * 2 ^ 21)))

/-- Phases unwrapped outward from a first one. -/
def unwrap (first : Int) (l : List Nat) : List Int :=
  (l.foldl (fun (a : Int × List Int) (p : Nat) =>
    let q := a.1 + sext 32 (trunc 32 ((p : Int) - a.1))
    (q, a.2 ++ [q])) (first, [])).2

/-- The slope of the phase over ±416 bins, ±200 MHz, by least squares: turns × 2^32 per bin as a numerator over Σk² (R189). -/
def phaseSlope (ph : Int → Nat) : Int :=
  let n : List Nat := (List.range 416).map (· + 1)
  let up := unwrap (ph 0) (n.map (fun (k : Nat) => ph (k : Int)))
  let down := unwrap (ph 0) (n.map (fun (k : Nat) => ph (-(k : Int))))
  ((List.zipWith (fun (a b : Int) => a - b) up down).zipIdx.map (fun e => ((e.2 : Int) + 1) * e.1)).foldl (· + ·) 0

/-- Σk² over ±416. -/
def slopeDen : Int := 416 * 417 * 833 / 3

/-- The values of one capture (R189): `sum` holds the sums of `periods` periods, `amp` the amplitude A, `att` the nominal
attenuation in 0.25 dB steps; `site` names the capture.  H is the response of the bin at the LO. Log entry 24 (DEDUCED). -/
def mirValueOf (sum : Nat → Int × Int) (periods : Nat) (amp : Int) (att rx site : Nat) : MirValue :=
  let h := binResponse sum
  let slope := phaseSlope (fun k => argOf (1024 * site + (k + 512).toNat) (h k))
  let ks : List Int := (List.range 833).map (fun (i : Nat) => (i : Int) - 416)
  let fit (k : Int) : Int × Int :=
    let v := cmul (h 0) (turn30 (trunc 32 (divRound (slope * k) slopeDen)))
    (rshr v.1 30, rshr v.2 30)
  let sig := (ks.map (fun k => magSq (h k))).sum
  let res := (ks.map (fun k => magSq (addC (h k) (scaleC (-1) (fit k))))).sum
  let den : Int := amp * (32 * periods : Nat) * 2 ^ 60
  let part (x : Int) (i : Nat) : Word :=
    if den = 0 then BitVec.ofNat 32 (Config.choice 0x92 (2 * site + i)) else word32 (divRound (x * (pow10 24 att 80 64 : Nat)) den)
  { rx := rx
    snr := BitVec.ofInt 16 (dbRatio sig res / 4)
    re := part (h 0).1 0
    im := part (h 0).2 1
    tau := word32 (divRound (-slope) (slopeDen * 4096)) }

end Sys2Proof.Machine
end

