-- ==== Sys2Proof/Machine/Orx.lean ====
section
/-!
DEFINITION. Sys2Proof/Machine/Orx.lean: the observation receivers of chapter 6: the select balls, captures and their
results, staleness.
-/
namespace Sys2Proof.Machine

/-! ### Observation receivers (R165 to R169, R177) -/

/-- Capture length in ticks: N/4 (R166). -/
def State.capTicks (s : State) (k : Nat) : Nat := 2 ^ s.f F.ORX_CTRL_CAP_LOG2 k / 4

/-- The pairs rule 3 of R177 may choose among the paths `ns`, with the time of their last accepted capture. -/
def State.duePairs (s : State) (ns : List Nat) : List (Nat × Nat × Nat) :=
  ns.flatMap (fun n => (idxWhere 16 (fun e => (s.pair n e).due && !bit (s.f F.TXP_DPD_STALE_FROZEN n) e)).map
    (fun e => ((s.pair n e).last, n, e)))

/-- The pair that has gone longest without an accepted capture, ties to the lower path and then the lower set. -/
def oldestPair : List (Nat × Nat × Nat) → Option (Nat × Nat × Nat)
  | [] => none
  | p :: ps => some (ps.foldl (fun b q => if q.1 < b.1 then q else b) p)

/-- The paths of receiver `k`'s group. -/
def orxGroup (k : Nat) : List Nat := (List.range 8).map (fun i => 8 * k + i)

/-- A Mirror probe holds receiver `k` from its presentation to the close of its window (rule 1 of R177). -/
def State.orxReserved (s : State) (k : Nat) : Bool := s.mir.probe.any (fun p => p.el / 8 == k && !p.closed)

/-- The select code for the next capture: the Mirror reservation, else the pending request, else the due pair, of those
whose set is in full use first, else as it is (R165, R177). -/
def State.nextSel (s : State) (k : Nat) : Nat :=
  match s.mir.probe.filter (fun p => p.el / 8 == k && !p.closed) with
  | some p => p.el % 8
  | none =>
  if s.on F.ORX_REQ_PEND k then s.f F.ORX_REQ_PATH k
  else if s.on F.DPD_CFG_SCHED_EN then
    let l := s.duePairs (orxGroup k)
    match (oldestPair (l.filter (fun p => (s.dpdOf p.2.1).full && s.targetSet p.2.1 == p.2.2))).or (oldestPair l) with
    | some p => p.2.1 % 8
    | none => s.f F.ORX_STATUS_SEL k
  else s.f F.ORX_STATUS_SEL k

/-- Drive the select code that the next capture needs (R165): at the end of a capture, when the receiver is first turned
on, and once known while no capture runs. Log entry 23 (DEDUCED). -/
def State.driveSel (s : State) (k : Nat) : State :=
  if s.nextSel k = s.f F.ORX_STATUS_SEL k then s
  else (s.setF F.ORX_STATUS_SEL (s.nextSel k) k).setOrx k { s.orxR k with selAt := s.elapsed }

/-- A write of ORX[k].CTRL (R165): the select balls are driven from the first EN = 1 on; EN = 0 lets pending values take
effect and ends a capture in progress without a result. Log entry 23 (DEDUCED). -/
def State.orxCtrlWrite (s : State) (k v : Nat) : State :=
  let s1 := s.writeReg .ORX_CTRL v k
  if bit v 31 then
    if (s1.orxR k).driven then s1
    else
      let s2 := s1.setF F.ORX_STATUS_SEL (s1.nextSel k) k
      s2.setOrx k { s2.orxR k with driven := true, selAt := s.elapsed }
  else ((s1.flushShadow (.orx k)).setF F.ORX_STATUS_BUSY 0 k).setOrx k { s1.orxR k with cap := none }

/-- Path `n` and its set in effect meet R166 now but for the buffer. -/
def State.mayCapture (s : State) (k n : Nat) : Bool :=
  let air := s.now + s.f F.TXP_ALIGN_TARGET n + 16 * s.f F.ORX_CTRL_SKIP k
  (s.dpdOf n).full && !(s.on F.TXP_DPD_UPDATE_TRIAL n && s.targetSet n == (s.dpdOf n).trialSet) && s.boundaryMade n &&
  (s.tile (n / 4)).burst.any (fun b => !b.refused && !b.cut && decide (b.first ≤ air) &&
    decide (air + s.capTicks k ≤ b.first + b.len)) &&
  s.f F.ORX_STATUS_SEL k == n % 8 && decide ((s.orxR k).selAt + 4 * s.f F.ORX_CTRL_SW_SETTLE k ≤ s.elapsed)

/-- A free result buffer of receiver `k` (R166). -/
def State.freeBuf (s : State) (k : Nat) : Option Nat :=
  (List.range 2).find? (fun h => !bit (s.f F.ORX_BUF_HELD k) h && !s.resultBusy (2 * k + h))

/-- The path rules 2 and 3 of R177 choose among those whose boundary falls now. -/
def State.orxPick (s : State) (k : Nat) : Option Nat :=
  let r := 8 * k + s.f F.ORX_REQ_PATH k
  if s.on F.ORX_REQ_PEND k && s.mayCapture k r then some r
  else if s.on F.DPD_CFG_SCHED_EN then
    (oldestPair ((s.duePairs ((orxGroup k).filter (s.mayCapture k))).filter (fun p => s.targetSet p.2.1 == p.2.2))).map (·.2.1)
  else none

/-- The capture of path `n` that receiver `k` starts at the boundary that falls now, into buffer half `h` (R166): its
first datapath sample is SKIP × 16 ticks after the symbol's first output, and the receiver's follows by DELAY.
Log entry 23 (DEDUCED). -/
def State.newCapture (s : State) (k n h : Nat) : Capture :=
  let t := (s.txp n).tag
  let e := s.targetSet n
  let ahead := (s.txDelay n 5 + 63) / 64 + 16 * s.f F.ORX_CTRL_SKIP k
  let delay := s.f F.ORX_DELAY_DELAY k
  let u := s.elapsed + ahead
  let y := 4 * u + delay / 16
  { path := n
    set_ := e
    gen := s.setGen n e
    buf := 2 * k + h
    size := 4 * s.capTicks k
    start := u
    last := max (u + s.capTicks k + 4) ((y + 4 * s.capTicks k + 3) / 4)
    yAt := y
    rem := delay % 16
    time := s.now + ahead + delay / 64
    key := t.key
    entry := t.entry
    egen := t.gen
    sel := s.f F.RFC_LOP_STATUS_ACTIVE_SEL (n / 32)
    inst := (s.dpdOf n).installAt
    coefs := (s.dpdOf n).cur
    copy := if s.on F.ORX_COPY_CEN k then some (0x20000000 + s.f F.ORX_COPY_ADDR k / 1024 * 1024) else none }

/-- An idle receiver starts at most one capture (R166, R177). Log entry 23 (DEDUCED). -/
def State.orxCaptureStart (s : State) (k : Nat) : State :=
  if s.on F.ORX_CTRL_EN k && (s.orxR k).cap.isNone && !s.orxReserved k then
    match s.orxPick k with
    | none => s
    | some n =>
      match s.freeBuf k with
      | none => s.bump F.ORX_DISCARD_BUF_SKIP k
      | some h =>
        let s1 := ((s.setF F.ORX_STATUS_BUSY 1 k).setF F.ORX_STATUS_PATH n k).setF F.ORX_STATUS_SET (s.targetSet n) k
        let s2 := if s.on F.ORX_REQ_PEND k && n == 8 * k + s.f F.ORX_REQ_PATH k then s1.setF F.ORX_REQ_PEND 0 k else s1
        s2.setOrx k { s2.orxR k with cap := some (s.newCapture k n h) }
  else s

/-- ORX_CAPTURE_START (R166). -/
def execOrxCaptureStart (k : Fin 8) (s : State) : Out := .next (s.core (s.orxCaptureStart k))

/-! ### The samples of a capture (R166, R167) -/

/-- A receiver sample reaches full scale on I or Q. Log entry 23 (DEDUCED). -/
def fullScale (x : Int × Int) : Bool := decide (32767 ≤ x.1.natAbs) || decide (32767 ≤ x.2.natAbs)

/-- The tick lies within the span of the capture's datapath samples. -/
def Capture.spans (c : Capture) (t : Nat) : Bool := decide (c.start ≤ t) && decide (t < c.start + c.size / 4)

/-- The datapath's samples of tick `t`, eight each, newest first. -/
def Capture.takeU (c : Capture) (t : Nat) (u x : List (Int × Int)) (nb : Nat → List (Int × Int)) : Capture :=
  if c.start ≤ t + 16 ∧ t < c.start + c.size / 4 + 4 then
    { c with
      us := u ++ c.us
      xs := x ++ c.xs
      nbs := (List.range 4).foldl (fun m j => SMap.set [] m j (nb j ++ SMap.get [] c.nbs j)) c.nbs }
  else c

/-- The receiver's sample at quarter tick `q`. -/
def Capture.takeOne (c : Capture) (q : Nat) (v : Int × Int) : Capture :=
  if c.yAt ≤ q + 64 ∧ q < c.yAt + c.size then
    { c with ys := v :: c.ys, clips := c.clips + b2n (decide (c.yAt ≤ q) && fullScale v) }
  else c

/-- The receiver's four samples of tick `t`, oldest first. -/
def Capture.takeY (c : Capture) (t : Nat) (y : List (Int × Int)) : Capture :=
  y.zipIdx.foldl (fun c e => c.takeOne (4 * t + e.2) e.1) c

/-- What the tick shows against the capture (R167): a later tag in the span, a blend or an install, zero scale of the path
or a present neighbour, a hop or an unlocked synthesiser. -/
def State.watch (s : State) (c : Capture) : Capture :=
  let x := s.txSetAt c.path 5
  let span := c.spans s.elapsed
  { c with
    beam := c.beam || (span && (x.tag.key != c.key || x.tag.entry != c.entry || x.tag.gen != c.egen || !x.full ||
      x.set_ != c.set_ || x.inst != c.inst))
    zs := c.zs || (span && (s.on F.TXP_ZS_STATUS_ZERO c.path ||
      (List.range 4).any (fun j => (s.neighbour c.path j).any (fun m => s.on F.TXP_ZS_STATUS_ZERO m))))
    lo := c.lo || (decide (c.start ≤ s.elapsed) && (s.f F.RFC_LOP_STATUS_ACTIVE_SEL (c.path / 32) != c.sel ||
      !s.on F.RFC_LOS_STATUS_LOCKED (s.tileSynth (c.path / 4)))) }

/-- The word of a sample in the copy: I at the lower address, then Q, both Q1.15 (R166). -/
def copyWord (v : Int × Int) : Nat := trunc 16 v.1 + 65536 * trunc 16 v.2

/-- The tick's samples of the capture go to shared memory where a copy is made (R166). -/
def State.copyTick (s : State) (c : Capture) (y : List (Int × Int)) : State :=
  match c.copy with
  | none => s
  | some a => y.zipIdx.foldl (fun s e =>
      let q := 4 * s.elapsed + e.2
      if c.yAt ≤ q ∧ q < c.yAt + c.size then s.wr32 (a + 4 * (q - c.yAt)) (copyWord e.1) else s) s

/-- One tick of an observation receiver with its four samples, oldest first (R166): a capture takes them beside the
datapath's; with no capture running, the select code of the next one is driven. -/
def State.orxTick (s : State) (k : Nat) (y : List (Int × Int)) : State :=
  match (s.orxR k).cap with
  | some c =>
    let x := s.txp c.path
    let nb (j : Nat) : List (Int × Int) := match s.neighbour c.path j with
      | some m => ((s.txp m).lineN.drop 16).take 8
      | none => List.replicate 8 (0, 0)
    let c1 := ((s.watch c).takeU s.elapsed x.outs ((x.lineX.drop 16).take 8) nb).takeY s.elapsed y
    (s.copyTick c y).setOrx k { s.orxR k with cap := some c1 }
  | none => if s.on F.ORX_CTRL_EN k then s.driveSel k else s

/-! ### Discard, end and result (R167 to R169) -/

/-- The alignment search of R168 can be made: the first 1,024 samples and their lags have been taken. -/
def State.searched (s : State) (c : Capture) : Bool :=
  decide (c.start + 260 ≤ s.elapsed) && decide (c.yAt + 1024 ≤ 4 * s.elapsed)

/-- The cause of R167 holds for the capture. -/
def State.discardDue (s : State) (c : Capture) : DiscardCause → Bool
  | .beam => c.beam
  | .zs => c.zs
  | .lo => c.lo
  | .clip => decide (16 < c.clips)
  | .align => s.searched c && !c.aligned

/-- The counter of a cause. -/
def discardFld : DiscardCause → Fld
  | .beam => F.ORX_DISCARD_BEAM
  | .zs => F.ORX_DISCARD_ZS
  | .lo => F.ORX_DISCARD_LO
  | .clip => F.ORX_DISCARD_CLIP
  | .align => F.ORX_DISCARD_ALIGN

/-- The capture in progress is discarded (R167): nothing is written, its buffer is free, the copy is not accepted. -/
def State.orxDiscard (s : State) (k : Nat) (c : DiscardCause) : State :=
  match (s.orxR k).cap with
  | none => s
  | some p =>
    if s.discardDue p c then
      let s1 := (((s.bump (discardFld c) k).setF F.ORX_STATUS_BUSY 0 k).setF F.ORX_STATUS_COPY_OK 0 k)
      (s1.setOrx k { s1.orxR k with cap := none }).driveSel k
    else s

/-- ORX_CAPTURE_DISCARD (R167). -/
def execOrxCaptureDiscard (k : Fin 8) (c : DiscardCause) (s : State) : Out := .next (s.core (s.orxDiscard k c))

/-- The last sample has been taken (R168): a capture that a cause of R167 has spoilt is discarded, and of an accepted one
the statistics stand and the copy is complete. Log entries 1 (DESIGN CHOICE), 23 (DEDUCED). -/
def State.orxCaptureEnd (s : State) (k : Nat) : State :=
  match (s.orxR k).cap with
  | none => s
  | some p =>
    if p.last ≤ s.elapsed ∧ (s.orxR k).ended = none then
      match [DiscardCause.beam, .zs, .lo, .clip, .align].find? (s.discardDue p) with
      | some c => s.orxDiscard k c
      | none =>
        let st := p.stats (s.basisList p.path) (s.tapSpacing p.path)
        let s1 := (s.setF F.ORX_STATUS_BUSY 0 k).setF F.ORX_STATUS_COPY_OK (b2n p.copy.isSome) k
        (s1.setOrx k { s1.orxR k with cap := none, ended := some (p, st) }).driveSel k
    else s

/-- ORX_CAPTURE_END (R168); the operand has one value, since the samples came with the ticks (log entry 19). -/
def execOrxCaptureEnd (k : Fin 8) (_ : Unit) (s : State) : Out := .next (s.core (s.orxCaptureEnd k))

/-- The words of a list of pairs. -/
def pairWords (l : List (Word × Word)) : List Nat := l.flatMap (fun e => [e.1.toNat, e.2.toNat])

/-- The correlator writes its result buffer, marks it held and raises line 320 + k (R169); an accepted capture clears
the pair's stale bit (R179). -/
def State.orxResultWrite (s : State) (k : Nat) : State :=
  match (s.orxR k).ended with
  | none => s
  | some (p, st) =>
    let b := resultAddr p.buf
    let head := [2 ^ 31 + p.path * 2 ^ 24 + p.set_ * 2 ^ 16 + p.gen, p.time % 2 ^ 32, p.time / 2 ^ 32 % 2 ^ 32,
      p.size, st.exp.toNat, st.nmse.toNat, st.gain.toNat, st.delay.toNat]
    let s1 := ((s.writeWords b head).writeWords (b + 0x40) (pairWords (st.p.take 64))).writeWords (b + 0x240)
      (pairWords (st.r.take 2080))
    let s2 := (s1.setB F.ORX_BUF_HELD (p.buf % 2) k).clrB F.TXP_DPD_STALE_STALE p.set_ p.path
    let s3 := s2.setPair p.path p.set_ { s2.pair p.path p.set_ with due := false, captured := true, last := s.elapsed }
    (s3.setOrx k { s3.orxR k with ended := none }).pulse (320 + k)

/-- ORX_RESULT_WRITE (R169). -/
def execOrxResultWrite (k : Fin 8) (s : State) : Out := .next (s.core (s.orxResultWrite k))

/-- A write of ORX[k].REQ (R177). -/
def State.orxRequest (s : State) (k v : Nat) : State :=
  let s1 := s.writeReg .ORX_REQ v k
  if bit v 31 then s1.setF F.ORX_REQ_PEND 1 k else s1

/-- ORX_REQUEST (R177). -/
def execOrxRequest (k : Fin 8) (w : Word) (s : State) : Out :=
  s.regCmd (regAddr .ORX_REQ k) (s.orxRequest k (w.toNat ||| 2 ^ 31))

/-- A write of ORX[k].BUF: a 1 to a HELD bit frees the buffer (R169). -/
def execOrxBufferRelease (k : Fin 8) (w : Word) (s : State) : Out :=
  s.regCmd (regAddr .ORX_BUF k) (s.writeReg .ORX_BUF w.toNat k)

/-- One pair at the end of a refresh period (R179). -/
def State.refreshPair (s : State) (n e : Nat) : State :=
  let p := s.pair n e
  let s1 := s.setPair n e { p with used := false, captured := false }
  if p.used && !p.captured then
    if bit (s.f F.TXP_DPD_STALE_STALE n) e then s1
    else ((s1.setB F.TXP_DPD_STALE_STALE e n).ledger 0x14 n e).bump F.DPD_COUNT_STALE_EVENTS
  else s1

/-- The end of a refresh period: a multiple of REFRESH × 491,520 ticks of device time (R179). -/
def State.dpdRefreshEnd (s : State) : State :=
  if s.now % (s.f F.DPD_CFG_REFRESH * msTicks) = 0 then
    (s.pairs.map (·.1)).foldl (fun s i => s.refreshPair (i / 16) (i % 16)) s
  else s

/-- DPD_REFRESH_END (R179). -/
def execDpdRefreshEnd (s : State) : Out := .next (s.core s.dpdRefreshEnd)

end Sys2Proof.Machine
end

