-- ==== Sys2Proof/Machine/Radio.lean ====
section
/-!
DEFINITION. Sys2Proof/Machine/Radio.lean: the radio front end of chapter 2: synthesisers and hops, the tile state
machine, front-end controls, analogue calibrations, duty limit and fuses.
A step whose condition does not hold leaves the state as it is (assumption log).
-/
namespace Sys2Proof.Machine

/-! ### Synthesisers and hops -/

/-- A relock starts (R41): LOCKED falls, the oscillator calibration runs. -/
def State.relockStart (s : State) (m : Nat) : State :=
  ((s.setF F.RFC_LOS_STATUS_LOCKED 0 m).setF F.RFC_LOS_STATUS_OSC_BUSY 1 m).setSynth m
    { s.synth m with relock := true, start := s.elapsed }

/-- A write of RFC.LOS_FREQ[m] (R42 to R44, R46). -/
def State.loFrequencyWrite (s : State) (m v : Nat) : State :=
  let khz := bits v 0 24
  if s.enabled (.synth m) then s.discarded (regAddr .RFC_LOS_FREQ m)
  else if khz < 3300000 ∨ 15400000 < khz ∨ s.loPermitted khz = false then
    (s.setF F.RFC_LOS_STATUS_REFUSED 1 m).ledger 0x02 m
  else
    let s1 := ((s.setF F.RFC_LOS_FREQ_FREQ_KHZ khz m).setF F.RFC_LOS_STATUS_FREQ_IN_EFFECT khz m).setF
      F.RFC_LOS_STATUS_REFUSED 0 m
    if s.on F.RFC_LOS_CTRL_EN m then s1.relockStart m else s1

/-- LO_FREQUENCY_WRITE (R42). -/
def execLoFrequencyWrite (m : Fin 4) (w : Word) (s : State) : Out :=
  s.regCmd (regAddr .RFC_LOS_FREQ m) (s.loFrequencyWrite m w.toNat)

/-- The conditions of the OFF to IDLE transition (R48). -/
def State.offToIdle (s : State) (t : Nat) : Bool :=
  s.on F.RFC_TILE_CTRL_EN t && s.on F.RFC_LOS_CTRL_EN (s.tileSynth t)

/-- Start the OFF to IDLE transition of a tile in OFF when both conditions hold; abandon it when one has fallen. -/
def State.tryLeaveOff (s : State) (t : Nat) : State :=
  let x := s.tile t
  if s.f F.RFC_TILE_STATE_TILE t ≠ 0 then s
  else if s.offToIdle t && !x.parked then
    if x.going = .idle then s else s.setTile t { x with going := .idle, goAt := s.elapsed }
  else if x.going = .idle then s.setTile t { x with going := .none } else s

/-- The tiles of a pair look again at their conditions. -/
def State.pairTiles (s : State) (g : Nat) : State := (List.range 8).foldl (fun s i => s.tryLeaveOff (8 * g + i)) s

/-- A write of RFC.LOS_CTRL[m] (R41, R43): EN rising with a frequency in effect starts a relock. Log entry 14 (DEDUCED). -/
def State.synthEnableWrite (s : State) (m v : Nat) : State :=
  let was := s.on F.RFC_LOS_CTRL_EN m
  let s1 := s.writeReg .RFC_LOS_CTRL v m
  let s2 :=
    if bit v 31 then
      if was = false ∧ s.f F.RFC_LOS_STATUS_FREQ_IN_EFFECT m ≠ 0 then s1.relockStart m else s1
    else ((s1.setF F.RFC_LOS_STATUS_LOCKED 0 m).setF F.RFC_LOS_STATUS_OSC_BUSY 0 m).setSynth m
      { s1.synth m with relock := false }
  s2.pairTiles (m / 2)

/-- SYNTH_ENABLE_WRITE (R43). -/
def execSynthEnableWrite (m : Fin 4) (w : Word) (s : State) : Out :=
  s.regCmd (regAddr .RFC_LOS_CTRL m) (s.synthEnableWrite m (w.toNat ||| 2 ^ 31))

/-- The oscillator calibration of a relock takes 120 µs; then the loop settles (R41, R57). -/
def State.oscTick (s : State) (m : Nat) : State :=
  if (s.synth m).relock && s.on F.RFC_LOS_STATUS_OSC_BUSY m && decide ((s.synth m).start * 25 + us25 120 ≤ s.el25) then
    s.setF F.RFC_LOS_STATUS_OSC_BUSY 0 m
  else s

/-- A relock completes (R41), its oscillator calibration having ended; an active synthesiser's relock ends a Mirror round
and calls for another (R192, R194). Log entry 1 (DESIGN CHOICE). -/
def State.synthLock (s : State) (m : Nat) : State :=
  if (s.synth m).relock && !s.on F.RFC_LOS_STATUS_OSC_BUSY m then
    let s1 := (s.setF F.RFC_LOS_STATUS_LOCKED 1 m).setSynth m
      { s.synth m with relock := false, lockedAt := s.elapsed }
    if s.on F.RFC_LOS_STATUS_ACTIVE m then s1.mirAbort.mirTrigger else s1
  else s

/-- SYNTH_LOCK (R41). -/
def execSynthLock (m : Fin 4) (s : State) : Out := .next (s.core (s.synthLock m))

/-- A write of RFC.LOP_CTRL[g] (R45, R46): HOP arms a hop unless a tile out of OFF follows another timeline. -/
def State.hopArm (s : State) (g v : Nat) : State :=
  let conflict := (List.range 8).any (fun i =>
    s.f F.RFC_TILE_STATE_TILE (8 * g + i) != 0 && s.tileTl (8 * g + i) != s.f F.RFC_LOP_CTRL_TL g)
  let s1 := s.writeSkip (descOf .RFC_LOP_CTRL) (fun _ => false) g 0 0 v (bit v 31 && conflict)
  if bit v 31 && !conflict && !s.on F.RFC_LOP_STATUS_HOP_PENDING g then
    { (s1.setF F.RFC_LOP_STATUS_HOP_PENDING 1 g) with
      radio := { s1.radio with hopArmed := SMap.set 0 s1.radio.hopArmed g s.elapsed } }
  else s1

/-- HOP_ARM (R45). Log entry 9 (DESIGN CHOICE). -/
def execHopArm (g : Fin 2) (w : Word) (s : State) : Out :=
  s.regCmd (regAddr .RFC_LOP_CTRL g) (s.hopArm g (w.toNat ||| 2 ^ 31))

/-- The hop of pair `g` can land now (R45). -/
def State.hopReady (s : State) (g : Nat) : Bool :=
  let m := 2 * g + 1 - s.f F.RFC_LOP_STATUS_ACTIVE_SEL g
  s.on F.RFC_LOP_STATUS_HOP_PENDING g && s.tlOn (s.f F.RFC_LOP_CTRL_TL g) &&
  s.isAir (s.f F.RFC_LOP_CTRL_TL g) s.now && s.on F.RFC_LOS_STATUS_LOCKED m &&
  !s.on F.RFC_LOS_STATUS_REFUSED m && decide ((s.synth m).lockedAt + 2048 ≤ s.elapsed) &&
  decide (SMap.get 0 s.radio.hopArmed g + 2048 ≤ s.elapsed)

/-- The synthesisers of the pair exchange roles (R45), and tiles in OFF look again at the active one (R48); a running
Mirror round is abandoned (R194). -/
def State.hopLand (s : State) (g : Nat) : State :=
  if s.hopReady g then
    let a := s.f F.RFC_LOP_STATUS_ACTIVE_SEL g
    let s1 := (((s.setF F.RFC_LOP_STATUS_ACTIVE_SEL (1 - a) g).setF F.RFC_LOP_STATUS_HOP_PENDING 0 g).bump
      F.RFC_LOP_STATUS_HOP_COUNT g)
    let s2 := (s1.setF F.RFC_LOS_STATUS_ACTIVE 0 (2 * g + a)).setF F.RFC_LOS_STATUS_ACTIVE 1 (2 * g + (1 - a))
    (s2.pairTiles g).mirAbort.mirTrigger
  else s

/-- HOP_LAND (R45). -/
def execHopLand (g : Fin 2) (s : State) : Out := .next (s.core (s.hopLand g))

/-! ### Halves and requests -/

def State.tileState (s : State) (t : Nat) : Nat := s.f F.RFC_TILE_STATE_TILE t
def State.txh (s : State) (t : Nat) : Nat := s.f F.RFC_TILE_STATE_TXH t
def State.rxh (s : State) (t : Nat) : Nat := s.f F.RFC_TILE_STATE_RXH t

/-- The RX half goes off: LNA_EN falls with it (R54), and the power measurements lose their values (R90). -/
def State.rxOff (s : State) (t : Nat) : State :=
  let s1 := s.setF F.RFC_TILE_STATE_RXH 0 t
  let s2 := if (s.tile t).lna.on then s1.setTile t { s.tile t with lna := { on := false, edge := s.elapsed } } else s1
  (tilePaths t).foldl (fun s n => (s.setF F.RXP_PWR_COARSE_VALID 0 n).setF F.RXP_PWR_FINE_VALID 0 n) s2

/-- The TX half leaves off for a waiting burst (R48, R49). -/
def State.startTx (s : State) (t : Nat) : State :=
  match (s.tile t).burst with
  | some b =>
    if b.live s.now && s.tileState t == 1 && (s.tile t).going == .none && s.txh t == 0 && !(s.tile t).bg.running &&
        (!s.tdd t || s.rxh t == 0) then s.setF F.RFC_TILE_STATE_TXH 1 t
    else s
  | none => s

/-- The RX half leaves off for a waiting run (R48, R49); in TDD a burst due within 598 ticks goes first (R50). -/
def State.startRx (s : State) (t : Nat) : State :=
  match (s.tile t).run with
  | some r =>
    if r.live s.now && s.tileState t == 1 && (s.tile t).going == .none && s.rxh t == 0 && !(s.tile t).bg.running &&
        (!s.tdd t || s.txh t == 0) then s.setF F.RFC_TILE_STATE_RXH 1 t
    else s
  | none => s

def State.startHalves (s : State) (t : Nat) : State := (s.startTx t).startRx t

/-- The symbol in progress is idle for the tile: no burst and no run covers it (R52, R62). -/
def State.idleSym (s : State) (t : Nat) : Bool :=
  !((s.tile t).burst.any (fun b => b.covers s.now)) && !((s.tile t).run.any (fun r => r.covers s.now))

/-- The kind (1 FILT, 2 OFS, 3 IMG) of the lowest bit of a mask of calibrations; 0 for none. -/
def lowKind (mask : Nat) : Nat := if bit mask 0 then 1 else if bit mask 1 then 2 else if bit mask 2 then 3 else 0

/-- A background step starts where the tile is idle and its calibration may run (R62). -/
def State.bgTry (s : State) (t : Nat) : State :=
  let x := s.tile t
  let k := lowKind x.bg.todo
  if x.bg.todo ≠ 0 ∧ x.bg.running = false ∧ s.tileState t = 1 ∧ x.going = .none ∧ s.txh t = 0 ∧ s.rxh t = 0 ∧
      s.idleSym t ∧ (k = 1 ∨ s.on F.RFC_LOS_STATUS_LOCKED (s.tileSynth t)) then
    ((s.setTile t { x with bg := { x.bg with running := true }, calAt := s.elapsed }).setF F.RFC_TILE_STATE_CAL_RUN k t).setF
      F.RFC_TILE_STATE_CAL_FG 0 t
  else s

/-- A step is cut short and will be repeated (R62). -/
def State.bgCut (s : State) (t : Nat) : State :=
  let x := s.tile t
  if x.bg.running then
    (s.setTile t { x with bg := { x.bg with running := false } }).setF F.RFC_TILE_STATE_CAL_RUN 0 t
  else s

/-- The tile sets off toward OFF once both halves are off (R48). -/
def State.tryGoOff (s : State) (t : Nat) : State :=
  if s.tileState t ≠ 0 ∧ s.txh t = 0 ∧ s.rxh t = 0 ∧ (s.tile t).going ≠ .off then
    (s.bgCut t).setTile t { (s.bgCut t).tile t with going := .off, goAt := s.elapsed }
  else s

/-- A request is waiting or being served. -/
def Tile.engaged (x : Tile) (now : Nat) : Bool :=
  x.burst.any (fun b => b.live now) || x.run.any (fun r => r.live now) || x.nextBurst.isSome || x.nextRun.isSome

/-- The automatic return of an enabled tile in a symbol the schedule does not claim, after a burst or run (R52); a tile
sent to OFF stays there until a request comes.  A tile that has served a burst or run returns also after EN has been 0
and 1 again, before any new request. Log entry 15 (DEDUCED). -/
def State.autoReturn (s : State) (t : Nat) : State :=
  let x := s.tile t
  let r := s.f F.RFC_TILE_CTRL_RETURN t
  if s.on F.RFC_TILE_CTRL_EN t && x.used && s.tileState t == 1 && x.going == .none && s.idleSym t && !x.engaged s.now then
    if r = 1 ∧ s.tdd t then
      if s.rxh t = 0 ∧ s.txh t = 0 ∧ x.bg.running = false then s.setF F.RFC_TILE_STATE_RXH 1 t else s
    else
      let s1 := if s.rxh t = 0 then s else s.rxOff t
      if r = 2 ∧ s.txh t = 0 then (s1.setTile t { s1.tile t with parked := true }).tryGoOff t else s1
  else s

/-- What a tile does when it becomes free: a waiting request starts, else it returns, else a background step runs. -/
def State.tileSettle (s : State) (t : Nat) : State := ((s.startHalves t).autoReturn t).bgTry t

/-- In TDD the RX half leaves on 598 ticks before a burst, whose TX half then prepares (R50). -/
def State.turnTick (s : State) (t : Nat) : State :=
  if s.tdd t && s.rxh t != 0 && (s.tile t).burst.any (fun b => b.live s.now && decide (s.now < b.first) &&
      decide (b.first ≤ s.now + 598)) then (s.rxOff t).startTx t
  else s

/-! ### Enable and disable -/

/-- The background timer starts at `now`, and a pass over `kinds` with it; a pass that still runs goes on (R62).
Log entry 15 (DEDUCED). -/
def BgCal.begin (b : BgCal) (now kinds : Nat) : BgCal :=
  if b.todo = 0 then { timer := true, start := now, todo := kinds } else { b with timer := true, start := now }

/-- A write of RFC.TILE_CTRL[t] with EN = 1 (R31, R48): discarded enable where the tile's timeline does not run. -/
def State.tileEnable (s : State) (t v : Nat) : State :=
  let d := descOf .RFC_TILE_CTRL
  let own := fun c => s.ownerOf .RFC_TILE_CTRL t 0 c
  let r := s.applyFields d.flds (fun lo => lo == 31) t 0 0 v own (fun c => s.enabled (own c))
  let ok := r.1.tlOn (r.1.tileTl t)
  let s1 := if ok then
      let u := r.1.setF F.RFC_TILE_CTRL_EN 1 t
      (if s.on F.RFC_TILE_CTRL_EN t then u else u.setTile t { u.tile t with parked := false }).tryLeaveOff t
    else r.1
  let s2 := if r.2 || !ok then s1.discarded (d.addr t 0 0) else s1
  let was := s.f F.RFC_TILE_CTRL_BG_EN t
  let x := s2.tile t
  if s2.f F.RFC_TILE_CTRL_BG_EN t = 0 then s2.setTile t { x with bg := { x.bg with timer := false } }
  else if was = 0 ∧ s2.tileState t ≠ 0 then
    (s2.setTile t { x with bg := x.bg.begin s.elapsed (s2.f F.RFC_TILE_CTRL_BG_EN t) }).bgTry t
  else s2

/-- TILE_ENABLE (R48). -/
def execTileEnable (t : Fin 16) (w : Word) (s : State) : Out :=
  s.regCmd (regAddr .RFC_TILE_CTRL t) (s.tileEnable t (w.toNat ||| 2 ^ 31))

/-- A write of RFC.TILE_CTRL[t].EN = 0 (R512, R60, R18): the halves stop, the burst, run and foreground run are cut,
pending class B values take effect. -/
def State.tileDisable (s : State) (t v : Nat) : State :=
  let s1 := (s.writeReg .RFC_TILE_CTRL v t).flushShadow (.tile t)
  let x := s1.tile t
  let s2 := s1.setTile t { x with
    burst := x.burst.map (fun b => { b with cut := true })
    run := x.run.map (fun r => { r with cut := true })
    ended := if x.burst.any (fun b => b.live s.now) then some s.now else x.ended
    nextBurst := none
    nextRun := none
    parked := false }
  let s3 := if s2.txh t = 1 ∨ s2.txh t = 2 then (s2.setF F.RFC_TILE_STATE_TXH 3 t).zsHoldTile 1 t else s2
  let s4 := s3.rxOff t
  let s5 := if s4.on F.RFC_TILE_CAL_FG_BUSY t then
      (((s4.setF F.RFC_TILE_CAL_FG_BUSY 0 t).setF F.RFC_TILE_STATE_CAL_FG 0 t).setF F.RFC_TILE_STATE_CAL_RUN 0 t).setF
        F.RFC_TILE_STATE_TILE 1 t
    else s4
  ((s5.bgCut t).tryLeaveOff t).tryGoOff t

/-- TILE_DISABLE (R512). -/
def execTileDisable (t : Fin 16) (w : Word) (s : State) : Out :=
  s.regCmd (regAddr .RFC_TILE_CTRL t) (s.tileDisable t (w.toNat % 2 ^ 31))

/-- The OFF to IDLE transition completes (R48); the background timer starts with a pass, or with the pass that OFF
interrupted (R62). Log entry 1 (DESIGN CHOICE). -/
def State.tileIdleReached (s : State) (t : Nat) : State :=
  let x := s.tile t
  if x.going = .idle ∧ s.offToIdle t then
    let bg := s.f F.RFC_TILE_CTRL_BG_EN t
    let s1 := (s.setF F.RFC_TILE_STATE_TILE 1 t).setTile t { x with
      going := .none
      bg := if bg = 0 then x.bg else x.bg.begin s.elapsed bg }
    s1.tileSettle t
  else s

/-- TILE_IDLE_REACHED (R48). -/
def execTileIdleReached (t : Fin 16) (s : State) : Out := .next (s.core (s.tileIdleReached t))

/-- The IDLE to OFF transition completes (R48): the background timer stops, the pass and a step cut short keep their
place (R62), and the balls go inactive (R56). -/
def State.tileOffReached (s : State) (t : Nat) : State :=
  let x := s.tile t
  if x.going = .off ∧ s.txh t = 0 ∧ s.rxh t = 0 then
    let s1 := (s.setF F.RFC_TILE_STATE_TILE 0 t).setTile t { x with
      going := .none
      bg := { x.bg with timer := false } }
    s1.tryLeaveOff t
  else s

/-- TILE_OFF_REACHED (R48). -/
def execTileOffReached (t : Fin 16) (s : State) : Out := .next (s.core (s.tileOffReached t))

/-! ### Requests (R47, R61) -/

/-- A request of `len` ticks from 2,048 ticks ahead begins and ends on air boundaries of the tile's running timeline
(R47); the schedule presents no other. Log entry 15 (DEDUCED). -/
def State.onGrid (s : State) (t len : Nat) : Bool :=
  s.tlOn (s.tileTl t) && s.isAir (s.tileTl t) (s.now + 2048) && s.isAir (s.tileTl t) (s.now + 2048 + len)

/-- A burst request reaches the tile 2,048 ticks before its first boundary (R47, R61). -/
def State.burstRequest (s : State) (t len : Nat) : State :=
  let x := s.tile t
  let b : Burst := { first := s.now + 2048, len := len }
  if s.on F.RFC_TILE_CTRL_EN t = false ∨ s.onGrid t len = false then s
  else if s.tileState t = 2 then
    (((s.setTile t { x with burst := some { b with refused := true }, used := true }).zsHoldTile 4 t).bump
      F.RFC_TILE_COUNT_TX_BLOCKED t).ledger 0x04 t
  else
    let busy := x.burst.any (fun o => decide (s.now < o.first + o.len))
    let y : Tile := if busy then { x with nextBurst := some b } else { x with burst := some b }
    ((s.setTile t { y with used := true, parked := false }).tryLeaveOff t).startTx t

/-- BURST_REQUEST (R47). -/
def execBurstRequest (t : Fin 16) (len : Nat) (s : State) : Out := .next (s.core (s.burstRequest t len))

/-- An RX run request reaches the tile (R47); in CAL the run is blanked and recorded once (R61). -/
def State.rxRunRequest (s : State) (t len : Nat) : State :=
  let x := s.tile t
  let r : RxRun := { first := s.now + 2048, len := len }
  if s.on F.RFC_TILE_CTRL_EN t = false ∨ s.onGrid t len = false then s
  else if s.tileState t = 2 then
    ((s.setTile t { x with run := some { r with blocked := true }, used := true }).bump
      F.RFC_TILE_COUNT_RX_BLOCKED t).ledger 0x05 t
  else
    let busy := x.run.any (fun o => decide (s.now < o.first + o.len))
    let y : Tile := if busy then { x with nextRun := some r } else { x with run := some r }
    ((s.setTile t { y with used := true, parked := false }).tryLeaveOff t).startRx t

/-- RX_RUN_REQUEST (R47). -/
def execRxRunRequest (t : Fin 16) (len : Nat) (s : State) : Out := .next (s.core (s.rxRunRequest t len))

/-- The TX half goes from prep to on (R48). -/
def State.txHalfOn (s : State) (t : Nat) : State := if s.txh t = 1 then s.setF F.RFC_TILE_STATE_TXH 2 t else s
/-- TX_HALF_ON (R48). -/
def execTxHalfOn (t : Fin 16) (s : State) : Out := .next (s.core (s.txHalfOn t))

/-- The driver ramp-down completes: the TX half goes off, and what waited for it starts (R48, R49).  Where EN has been 0
and is 1 again, the tile settles in IDLE; a transition to OFF that has begun goes on. Log entry 15 (DEDUCED). -/
def State.txHalfOff (s : State) (t : Nat) : State :=
  if s.txh t = 3 then
    let s1 := s.setF F.RFC_TILE_STATE_TXH 0 t
    if s1.on F.RFC_TILE_CTRL_EN t then s1.tileSettle t else s1.tryGoOff t
  else s
/-- TX_HALF_OFF (R48). -/
def execTxHalfOff (t : Fin 16) (s : State) : Out := .next (s.core (s.txHalfOff t))

/-- The RX half goes from prep to on (R48), in TDD 689 ticks after a burst's end at the earliest (R50). -/
def State.rxHalfOn (s : State) (t : Nat) : State :=
  if s.rxh t = 1 ∧ (s.tdd t = false ∨ (s.tile t).ended.all (fun e => decide (e + 689 ≤ s.now))) then
    s.setF F.RFC_TILE_STATE_RXH 2 t
  else s
/-- RX_HALF_ON (R48). -/
def execRxHalfOn (t : Fin 16) (s : State) : Out := .next (s.core (s.rxHalfOn t))

/-! ### Front-end controls (R54 to R56) -/

/-- The tile is within the interval that reaches from `lead` ticks before a served burst to `lag` ticks after its end at
time `t0`; after the end a function only stays active (R54). -/
def Tile.within (x : Tile) (t0 lead lag : Nat) (on : Bool) : Bool :=
  let covers (b : Burst) : Bool := !b.refused && !b.cut && decide (b.first ≤ t0 + lead) && decide (t0 < b.first + b.len + lag)
  x.burst.any covers || x.nextBurst.any covers || (on && x.ended.any (fun e => decide (e ≤ t0) && decide (t0 < e + lag)))

/-- TR_SW is to be active at time `t0` (R54): its edges keep the programmed times. -/
def State.trDue (s : State) (t t0 : Nat) : Bool :=
  (s.tile t).within t0 (4 * s.f F.RFC_TILE_TIMING_TR_LEAD t) (4 * s.f F.RFC_TILE_TIMING_TR_LAG t) (s.tile t).tr.on

/-- The level a function takes now: the interval of R54, with PA_EN and LNA_EN moved to keep the orders of R55.
Log entry 15 (DEDUCED). -/
def State.gpioDue (s : State) (t : Nat) (fn : GpioFunc) : Bool :=
  let x := s.tile t
  let settled := decide (x.tr.edge + 16 ≤ s.elapsed)
  match fn with
  | .tr => s.trDue t s.now
  | .pa => x.within s.now (4 * s.f F.RFC_TILE_TIMING_PA_LEAD t) (4 * s.f F.RFC_TILE_TIMING_PA_LAG t) x.pa.on &&
      x.tr.on && settled && s.trDue t (s.now + 16)
  | .lna => s.rxh t == 2 && !x.tr.on && settled && !s.trDue t (s.now + 16)

/-- A function's ball level. -/
def Tile.fn (x : Tile) (fn : GpioFunc) : GpioFn := match fn with | .pa => x.pa | .tr => x.tr | .lna => x.lna

/-- A function takes the level R54 and R55 give it now. -/
def State.gpioSet (s : State) (t : Nat) (fn : GpioFunc) : State :=
  let x := s.tile t
  let due := s.gpioDue t fn
  let e : GpioFn := { on := due, edge := s.elapsed }
  if (x.fn fn).on = due then s
  else match fn with
    | .pa => s.setTile t { x with pa := e }
    | .tr => s.setTile t { x with tr := e }
    | .lna => s.setTile t { x with lna := e }

/-- The ball functions of a tile in a tick, PA_EN and LNA_EN before the TR_SW they depend on. -/
def State.gpioTick (s : State) (t : Nat) : State := ((s.gpioSet t .pa).gpioSet t .lna).gpioSet t .tr

/-- A PA_EN, TR_SW or LNA_EN function changes to the level that is due. -/
def State.gpioEdge (s : State) (t : Nat) (fn : GpioFunc) (level : Bool) : State :=
  if s.gpioDue t fn = level then s.gpioSet t fn else s

/-- GPIO_EDGE (R54). -/
def execGpioEdge (t : Fin 16) (fn : GpioFunc) (level : Bool) (s : State) : Out := .next (s.core (s.gpioEdge t fn level))

/-- The level of ball `g`: none = high impedance (R56, R406); POL gives the inactive level. -/
def State.gpioBall (s : State) (g : Nat) : Option Bool :=
  let x := s.tile (s.f F.RFC_GPIO_CFG_TILE g)
  let fn := s.f F.RFC_GPIO_CFG_FUNC g
  let act := (if fn = 0 then x.pa.on else if fn = 1 then x.lna.on else if fn = 2 then x.tr.on else false)
  let act := act && s.tileState (s.f F.RFC_GPIO_CFG_TILE g) != 0
  if s.on F.RFC_GPIO_CFG_EN g && (s.power.st == .bright || s.power.st == .dim) then
    some (act != s.on F.RFC_GPIO_CFG_POL g)
  else none

/-! ### Calibrations (R57 to R63) -/

/-- A write of RFC.TILE_CAL[t] (R59): a bit written while its calibration has started asks for a second run. -/
def State.calRequest (s : State) (t v : Nat) : State :=
  let s1 := s.writeReg .RFC_TILE_CAL v t
  let x := s1.tile t
  if s.on F.RFC_TILE_CAL_FG_BUSY t then
    s1.setTile t { x with fgAgain := Nat.lor x.fgAgain (Nat.land (bits v 16 3) x.fgDone) }
  else s1

/-- CAL_REQUEST (R59). -/
def execCalRequest (t : Fin 16) (w : Word) (s : State) : Out :=
  s.regCmd (regAddr .RFC_TILE_CAL t) (s.calRequest t w.toNat)

/-- The tile leaves CAL (R48): what was requested meanwhile starts (R61). -/
def State.calLeave (s : State) (t : Nat) : State :=
  let s1 := (((s.setF F.RFC_TILE_STATE_TILE 1 t).setF F.RFC_TILE_CAL_FG_BUSY 0 t).setF F.RFC_TILE_STATE_CAL_FG 0 t).setF
    F.RFC_TILE_STATE_CAL_RUN 0 t
  let x := s1.tile t
  (s1.setTile t { x with fgDone := 0, fgAgain := 0 }).tileSettle t

/-- Calibration `k` ends: its REQ bit clears unless it was asked for again (R59). -/
def State.calDone (s : State) (t k : Nat) : State :=
  let x := s.tile t
  let again := bit x.fgAgain (k - 1)
  let s1 := if again then s else s.clrB F.RFC_TILE_CAL_REQ (k - 1) t
  s1

/-- Calibration `k` fails (R63). -/
def State.calFail (s : State) (t k : Nat) : State := (s.setB F.RFC_TILE_CAL_FAIL (k - 1) t).ledger 0x06 t k

/-- The next requested calibration of the run starts; OFS and IMG without lock end at once as failed (R59, R60).
Three kinds, so `fuel` 8 covers two runs. -/
def State.calNext (s : State) (t : Nat) : Nat → State
  | 0 => s.calLeave t
  | fuel + 1 =>
    let x := s.tile t
    let req := s.f F.RFC_TILE_CAL_REQ t
    let k := lowKind (req - Nat.land req x.fgDone)
    if k = 0 then
      if x.fgAgain = 0 then s.calLeave t
      else State.calNext (s.setTile t { x with fgDone := 0, fgAgain := 0 }) t fuel
    else
      let s1 := s.setTile t { x with fgDone := setBit x.fgDone (k - 1) }
      if k ≠ 1 ∧ s.on F.RFC_LOS_STATUS_LOCKED (s.tileSynth t) = false then
        State.calNext ((s1.calFail t k).calDone t k) t fuel
      else (s1.setTile t { s1.tile t with calAt := s.elapsed }).setF F.RFC_TILE_STATE_CAL_RUN k t

/-- A foreground run starts when both halves are off (R59): the tile enters CAL. -/
def State.calStart (s : State) (t : Nat) : State :=
  let x := s.tile t
  if s.f F.RFC_TILE_CAL_REQ t ≠ 0 ∧ s.tileState t = 1 ∧ s.on F.RFC_TILE_CTRL_EN t ∧ x.going = .none ∧
      s.txh t = 0 ∧ s.rxh t = 0 ∧ x.bg.running = false ∧ s.on F.RFC_TILE_CAL_FG_BUSY t = false then
    ((((s.setF F.RFC_TILE_STATE_TILE 2 t).setF F.RFC_TILE_CAL_FG_BUSY 1 t).setF F.RFC_TILE_STATE_CAL_FG 1 t).setTile t
      { x with fgDone := 0, fgAgain := 0 }).calNext t 8
  else s

/-- CAL_START (R59). -/
def execCalStart (t : Fin 16) (s : State) : Out := .next (s.core (s.calStart t))

/-- Microseconds of a foreground calibration of a kind (R57). -/
def fgMicros (k : Nat) : Nat := if k = 1 then 60 else if k = 2 then 100 else 320

/-- The calibration or step in progress has run for `us` microseconds. -/
def State.calRan (s : State) (t us : Nat) : Bool := decide ((s.tile t).calAt * 25 + us25 us ≤ s.el25)

/-- The running foreground calibration ends with its result once it has run its time (R57, R59, R63).
Log entry 15 (DEDUCED). -/
def State.calEnd (s : State) (t : Nat) (r : CalResult) : State :=
  let k := s.f F.RFC_TILE_STATE_CAL_RUN t
  if s.tileState t = 2 ∧ k ≠ 0 ∧ s.calRan t (fgMicros k) then
    let s1 := match r with
      | .pass => s
      | .outside => s.calFail t k
    (s1.calDone t k).calNext t 8
  else s

/-- CAL_END (R59). -/
def execCalEnd (t : Fin 16) (r : CalResult) (s : State) : Out := .next (s.core (s.calEnd t r))

/-- The tile's background timer starts a pass, or skips it while the previous one runs (R62). -/
def State.bgPassTimer (s : State) (t : Nat) : State :=
  let x := s.tile t
  let period := s.f F.RFC_TILE_CAL_BG_PERIOD t * msTicks
  let due := x.bg.timer && (if period = 0 then x.bg.todo == 0
    else decide (x.bg.start < s.elapsed) && (s.elapsed - x.bg.start) % period == 0)
  if due ∧ s.tileState t ≠ 0 ∧ x.bg.todo = 0 then
    (s.setTile t { x with bg := { x.bg with todo := s.f F.RFC_TILE_CTRL_BG_EN t, step := 0 } }).bgTry t
  else s

/-- BG_PASS_TIMER (R62). -/
def execBgPassTimer (t : Fin 16) (s : State) : Out := .next (s.core (s.bgPassTimer t))

/-- Steps per background pass of a kind (R57). -/
def bgSteps (k : Nat) : Nat := if k = 1 then 30 else if k = 2 then 50 else 160

/-- A background step completes after 2 µs (R57, R62): the last step of a kind gives its result (R63); a waiting request
starts; else the next step begins in an idle symbol. -/
def State.bgCalStep (s : State) (t : Nat) (r : CalResult) : State :=
  let x := s.tile t
  let k := lowKind x.bg.todo
  if x.bg.running && s.calRan t 2 then
    let last := x.bg.step + 1 = bgSteps k
    let todo := if last then clrBit x.bg.todo (k - 1) else x.bg.todo
    let todo2 := if todo = 0 ∧ s.f F.RFC_TILE_CAL_BG_PERIOD t = 0 then s.f F.RFC_TILE_CTRL_BG_EN t else todo
    let s1 := (s.setTile t { x with
      bg := { x.bg with running := false, step := if last then 0 else x.bg.step + 1, todo := todo2 } }).setF
        F.RFC_TILE_STATE_CAL_RUN 0 t
    let s2 := match r with
      | .pass => s1
      | .outside => if last then s1.calFail t k else s1
    s2.tileSettle t
  else s

/-- BG_CAL_STEP (R62). -/
def execBgCalStep (t : Fin 16) (r : CalResult) (s : State) : Out := .next (s.core (s.bgCalStep t r))

/-! ### Duty limit (R71) -/

/-- The tile's count reaches the limit: zero scale for the rest of the slice.  A gate that lasts over several slices
counts once in DUTY_GATED. Log entry 15 (DEDUCED). -/
def State.dutyReached (s : State) (t : Nat) : State :=
  if s.dutyLimit ≤ dutySum (s.tile t).slices ∧ s.on F.RFC_TILE_STATE_DUTY_GATE t = false then
    ((((s.setF F.RFC_TILE_STATE_DUTY_GATE 1 t).setTile t { s.tile t with gateEnded := false }).zsHoldTile 5 t).bump
      F.RFC_TILE_COUNT_DUTY_GATED t).ledger 0x07 t
  else s

/-- DUTY_LIMIT (R71). -/
def execDutyLimit (t : Fin 16) (s : State) : Out := .next (s.core (s.dutyReached t))

/-- A 1 ms slice ends at a multiple of 491,520 ticks: the window moves on. -/
def State.dutySliceEnd (s : State) (t : Nat) : State :=
  if s.now % msTicks = 0 then
    let x := s.tile t
    let sl := 0 :: (x.slices.take 9)
    (s.setTile t { x with slices := sl, gateEnded := true }).setF F.RFC_TILE_DUTY_TX_TICKS (dutySum sl) t
  else s

/-- DUTY_SLICE_END (R71). -/
def execDutySliceEnd (t : Fin 16) (s : State) : Out := .next (s.core (s.dutySliceEnd t))

/-- One tick of TX within a non-suppressed burst counts, one cut by EN = 0 among them, unless the duty gate holds (R71). -/
def State.dutyTick (s : State) (t : Nat) : State :=
  let x := s.tile t
  match x.burst with
  | some b =>
    if b.covers s.now && !b.refused && !b.suppressed && !s.on F.RFC_TILE_STATE_DUTY_GATE t then
      let sl := (x.slices.headD 0 + 1) :: x.slices.tail
      (s.setTile t { x with slices := sl }).setF F.RFC_TILE_DUTY_TX_TICKS (dutySum sl) t
    else s
  | none => s

/-! ### Fuses (R74) -/

/-- Blow regulatory fuse bit `b` (the index table of R74). -/
def State.blowReg (s : State) (b : Nat) : State :=
  if b < 512 then s.setB F.FUSE_REG_PMAX_FUSE (b % 8) (b / 8)
  else if b < 744 then
    let w := (b - 512) / 29
    let k := (b - 512) % 29
    if k < 14 then s.setB F.FUSE_REG_LOWIN_LO_MHZ k w
    else if k < 28 then s.setB F.FUSE_REG_LOWIN_HI_MHZ (k - 14) w
    else s.setF F.FUSE_REG_LOWIN_VALID 1 w
  else if b < 752 then s.setB F.FUSE_REG_DUTY_DUTY (b - 744)
  else s.setF F.FUSE_REG_DUTY_CLOSED 1

/-- A write of FUSE.REG_PROG (R74): GO programs the named bit, or is refused with ERR. -/
def State.fuseProgram (s : State) (v : Nat) : State :=
  let s1 := s.writeReg .FUSE_REG_PROG v
  let b := bits v 0 10
  if bit v 31 = false then s1
  else if s.on F.SYS_SEAL_SEAL || s.on F.FUSE_REG_DUTY_CLOSED || decide (752 < b) || s.on F.FUSE_REG_PROG_BUSY then
    s1.setF F.FUSE_REG_PROG_ERR 1
  else
    let s2 := (s1.setF F.FUSE_REG_PROG_ERR 0).setF F.FUSE_REG_PROG_BUSY 1
    { s2 with radio := { s2.radio with fuseBit := b } }

/-- FUSE_PROGRAM (R74). -/
def execFuseProgram (w : Word) (s : State) : Out :=
  s.regCmd (regAddr .FUSE_REG_PROG) (s.fuseProgram (w.toNat ||| 2 ^ 31))

end Sys2Proof.Machine
end

