-- ==== Sys2Proof/Machine/Boundary.lean ====
section
/-!
DEFINITION. Sys2Proof/Machine/Boundary.lean: what happens at the boundaries of tiles and of the Prism, where the plan of
chapter 8 meets the blocks of chapters 2, 3 and 5: burst checks, automatic return, symbol gating, the exchange of beam
banks, the preload cut-off and control ranges.
-/
namespace Sys2Proof.Machine

/-! ### The tile boundary (R51, R52, R64, R65, R71, R92, R434, R435) -/

/-- The duty gate opens at the first boundary after a slice end with the count below the limit (R71). -/
def State.dutyRelease (s : State) (t : Nat) : State :=
  if s.on F.RFC_TILE_STATE_DUTY_GATE t && (s.tile t).gateEnded && decide (dutySum (s.tile t).slices < s.dutyLimit) then
    (s.setF F.RFC_TILE_STATE_DUTY_GATE 0 t).zsEndTile 5 t
  else s

/-- A burst that ends here: the TX half stops unless the next burst begins at once (R48, R120); paths that a Mirror probe
does not drive go to zero scale (R185). -/
def State.burstEnd (s : State) (t : Nat) : State :=
  let x := s.tile t
  match x.burst with
  | some b =>
    if b.first + b.len ≤ s.now then
      let s1 := (s.setTile t { x with
        burst := x.nextBurst
        nextBurst := none
        ended := if b.refused || b.cut then x.ended else some (b.first + b.len) }).zsEndTile 4 t
      if x.nextBurst.any (fun c => decide (c.first ≤ s.now) && !c.refused) then
        ((tilePaths t).filter (fun n => x.nextBurst.any (fun c => c.only.any (· != n)))).foldl (fun s n => s.zsHold 1 n) s1
      else
        let s2 := s1.zsHoldTile 1 t
        if s.txh t = 1 ∨ s.txh t = 2 then s2.setF F.RFC_TILE_STATE_TXH 3 t else s2
    else s
  | none => s

/-- The check of R64 fails: unlocked, calibrating, half not on; and the window case. Log entry 15 (DEDUCED). -/
def State.lockFault (s : State) (t : Nat) : Bool :=
  !s.on F.RFC_LOS_STATUS_LOCKED (s.tileSynth t) || s.on F.RFC_LOS_STATUS_OSC_BUSY (s.tileSynth t) || s.txh t != 2
def State.windowFault (s : State) (t : Nat) : Bool :=
  let khz := s.f F.RFC_LOS_STATUS_FREQ_IN_EFFECT (s.tileSynth t)
  khz != 0 && !s.loPermitted khz

/-- The burst check at the first boundary of a burst or slot (R64 to R66). -/
def State.burstCheck (s : State) (t : Nat) (b : Burst) : State :=
  let x := s.tile t
  let lf := s.lockFault t
  let wf := s.windowFault t
  if lf || wf then
    let s1 := ((s.setTile t { x with burst := some { b with suppressed := true } }).zsHoldTile 3 t).bump
      F.RFC_TILE_COUNT_LATE_LOCK t
    let s2 := if wf then s1.ledger 0x02 t else s1
    if lf then s2.ledger 0x03 t else s2
  else (s.setTile t { x with burst := some { b with suppressed := false } }).zsEndTile 3 t

/-- Within a burst: the check where it is due, and zero scale's cause 1 ends where the TX half is on; cause 0 ends for
paths that satisfy R39. -/
def State.burstSymbol (s : State) (t : Nat) : State :=
  match (s.tile t).burst with
  | some b =>
    if b.covers s.now && !b.refused && !b.cut then
      let due := s.now == b.first || isSlotStart (s.mu (s.tileTl t)) (s.off (s.tileTl t)) s.now
      let s1 := if due then s.burstCheck t b else s
      (tilePaths t).foldl (fun s n =>
        let s2 := if s.txh t = 2 ∧ b.only.all (· == n) then s.zsEnd 1 n else s
        if s2.r39 n then s2.zsEnd 0 n else s2) s1
    else s
  | none => s

/-- An RX run that ends here; the RX half goes off unless the return state keeps it on (R48, R52). -/
def State.runEnd (s : State) (t : Nat) : State :=
  let x := s.tile t
  match x.run with
  | some r =>
    if r.first + r.len ≤ s.now then
      let s1 := s.setTile t { x with run := x.nextRun, nextRun := none }
      if x.nextRun.any (fun c => decide (c.first ≤ s.now)) || (s.f F.RFC_TILE_CTRL_RETURN t == 1 && s.tdd t) then s1
      else s1.rxOff t
    else s
  | none => s

/-- The entry weights of every enabled transmit layer of the path's carriers are zero for its antenna in the shadow
bank (R435). -/
def State.silent (s : State) (n : Nat) : Bool :=
  ((s.enabledLayers 0).filter (fun f => s.on F.TXP_DUC_CEN n (s.layCar f))).all (fun f =>
    (s.layer f).shd.all (fun b => b.weight n == (0, 0)))

/-- Symbol gating of the tile and of its TX paths, with its counters (R434, R435, R436). -/
def State.gateSymbol (s : State) (t : Nat) : State :=
  let idle := s.f F.RFC_TILE_CTRL_RETURN t == 0 && s.on F.RFC_TILE_CTRL_EN t && s.idleSym t
  let s1 := if idle && s.txh t == 0 && s.rxh t == 0 then s.bump F.PWR_GATE_COUNT_IDLE_SYM t else s
  (tilePaths t).foldl (fun s n =>
    let x := s.txp n
    let g := !idle && x.gateNext && (s.tile t).burst.any (fun b => b.covers s.now)
    let s2 := s.setTxp n { x with gated := idle || g, gateNext := false }
    let s3 := if g then s2.bump F.PWR_GATE_COUNT_TX_PATH_SYM t else s2
    if idle || g then s3.zsHold 2 n else s3.zsEnd 2 n) s1

/-- Causes 7 and 8 of zero scale end at the first sample of the symbol they waited for (R121). -/
def State.zsEndDue (s : State) (n : Nat) : State :=
  let x := s.txp n
  let d7 := x.end7.any (fun a => decide (a ≤ s.now))
  let d8 := x.end8.any (fun a => decide (a ≤ s.now))
  let s1 := s.setTxp n { x with end7 := if d7 then none else x.end7, end8 := if d8 then none else x.end8 }
  let s2 := if d7 then s1.zsEnd 7 n else s1
  if d8 then s2.zsEnd 8 n else s2

/-- The air boundary at tile `t`'s balls: regulatory enforcement before class B values (R36, R37, R72). -/
def State.tileBoundary (s : State) (t : Nat) : State :=
  let k := s.tileTl t
  if s.tlOn k && s.isAir k s.now then
    let s0 := (tilePaths t).foldl State.zsEndDue s
    let s1 := (((s0.commitShadow (.tile t) 4).dutyRelease t).burstEnd t).runEnd t
    let s2 := ((s1.burstSymbol t).autoReturn t).gateSymbol t
    let s3 := (tilePaths t).foldl (fun s n => s.agcAir n) s2
    (s3.startHalves t).bgTry t
  else s

/-- TILE_BOUNDARY (R64). -/
def execTileBoundary (t : Fin 16) (s : State) : Out := .next (s.core (s.tileBoundary t))

/-- The tagged first sample of a symbol reaches stage `g` of a TX path, 0 to 9 (D, C, alignment, B, A, predistortion, the
two limiters, the shaper, the DAC): from then on the stage's samples have that symbol's settings (`txSetAt`), and the stage
holds their tag (R34). -/
def State.taggedStage (s : State) (n g : Nat) : State :=
  let x := s.txp n
  s.setTxp n { x with stageTags := SMap.set {} x.stageTags g (s.txSetAt n g).tag }

/-- TAGGED_SAMPLE_STAGE (R34). -/
def execTaggedSampleStage (n : Fin 64) (g : Fin 10) (s : State) : Out := .next (s.core (s.taggedStage n g))

/-! ### Prism boundaries (R134, R137, R138, R142, R147) -/

/-- The shadow entry becomes active; the outgoing one stays in use for 64 ticks unless it contributed zero (R134).
Log entry 21 (DEDUCED). -/
def State.swapBanks (s : State) (f : Nat) (zero : Bool) : State :=
  let l := s.layer f
  s.setLayer f { l with
    act := l.shd
    outgoing := if l.zero then none else l.act
    switched := s.elapsed
    frozen := false
    zero := zero }

/-- The Prism transmit boundary of layer `f`: pending values of its carrier and its LEN take effect, whether or not the
layer runs; then what the boundary means for a running layer. Log entry 12 (DEDUCED). -/
def State.prismTxBoundary (s : State) (f : Nat) : State :=
  let k := s.layTl f
  let a := s.layAir f s.now
  let c := s.layCar f
  if s.carRuns f && s.layDir f == 0 && s.isAir k a then
    let s1 := (s.commitShadow (.car 0 c) 2).landLen f 2
    if !s1.on F.PRISM_LAYER_CFG_LEN f then s1
    else
      let idx := s.symIdx k a
      let m := s1.marked 0 c a
      let nobeam := (s1.layer f).shd.isNone
      let under := !s1.symComplete f idx
      let s2 := if m && nobeam then s1.bump F.PRISM_LAYER_COUNT_NOBEAM f else s1
      let s3 := if m && under then (s2.bump F.PRISM_LAYER_COUNT_UNDERRUN f).ledger 0x0F f else s2
      let s4 := s3.swapBanks f (!m || nobeam || under)
      let s5 := if m && s4.fState f == 2 && (s4.flow f).running then s4.flowStarted f idx (a + s.lenOf k idx) else s4
      (s5.setFlow f { s5.flow f with
        got := (s5.flow f).got.filter (fun e => decide (idx < e.1))
        jobs := (s5.flow f).jobs.filter (fun e => decide (idx < e.1)) }).preloadBegin f (idx + 1)
  else s

/-- PRISM_TX_BOUNDARY (R138). -/
def execPrismTxBoundary (f : Fin 512) (s : State) : Out := .next (s.core (s.prismTxBoundary f))

/-- The Prism receive boundary of layer `f`: the new weights apply from its first sample of the symbol (R134). -/
def State.prismRxBoundary (s : State) (f : Nat) : State :=
  let k := s.layTl f
  let a := s.layAir f s.now
  let c := s.layCar f
  if s.carRuns f && s.layDir f == 1 && s.isAir k a then
    let s1 := (s.commitShadow (.car 1 c) 2).landLen f 2
    if !s1.on F.PRISM_LAYER_CFG_LEN f then s1
    else
      let m := s1.marked 1 c a
      let nobeam := (s1.layer f).shd.isNone
      let s2 := if m && nobeam then s1.bump F.PRISM_LAYER_COUNT_NOBEAM f else s1
      (s2.swapBanks f (!m || nobeam)).preloadBegin f (s.symIdx k a + 1)
  else s

/-- PRISM_RX_BOUNDARY (R134). -/
def execPrismRxBoundary (f : Fin 512) (s : State) : Out := .next (s.core (s.prismRxBoundary f))

/-- The gating decision for path `n`'s next symbol, at the cut-off (R435). -/
def State.gateDecide (s : State) (air : Nat) (n : Nat) : State :=
  s.setTxp n { s.txp n with
    gateNext := s.on F.PWR_GATE_CFG_PATH_EN && s.f F.TXP_TONE_CFG_MODE n == 0 && !s.probeOn n air && s.silent n }

/-- The cut-off of layer `f`, 984 ticks before its Prism boundary: spent ranges retire, the shadow of a layer that runs or
will run from that boundary freezes, and transmit paths are gated or not (R136, R138, R435). Log entry 21 (DEDUCED). -/
def State.preloadCutoff (s : State) (f : Nat) : State :=
  let k := s.layTl f
  let a := s.layAir f (s.now + cutoffTicks)
  let comes := s.lastB F.PRISM_LAYER_CFG_LEN f 0 0 != 0 || ((s.flow f).start.any (· == a) && s.fState f == 2)
  if s.carRuns f && s.isAir k a then
    let idx := s.symIdx k a
    let l := s.layer f
    let s1 := s.setLayer f { l with
      frozen := l.frozen || s.on F.PRISM_LAYER_CFG_LEN f || comes
      queue := l.queue.filter (fun r => decide (idx + 1 < r.first + r.count)) }
    if s.layDir f = 0 then
      (idxWhere 64 (fun n => s.on F.TXP_DUC_CEN n (s.layCar f))).foldl (State.gateDecide · a) s1
    else s1
  else s

/-- PRELOAD_CUTOFF (R138). -/
def execPreloadCutoff (f : Fin 512) (s : State) : Out := .next (s.core (s.preloadCutoff f))

/-- A range for layer `f` from a control packet (R136, R139); one that names a flow no longer active is dropped and
counted (R222). -/
def State.controlRange (s : State) (f frame sym count : Nat) (entry : Option Nat) : State :=
  if s.fState f = 3 ∨ s.fState f = 4 then s.bump F.FLW_COUNT_DROPPED f
  else s.rangeAccept (fun idx => s.marked (s.layDir f) (s.layCar f) (s.airOf (s.layTl f) idx)) f frame sym count entry

/-- CONTROL_RANGE_ACCEPT (R136). -/
def execControlRangeAccept (f : Fin 512) (frame : Fin 1024) (sym : Fin 2048) (count : Fin 2048)
    (entry : Option (Fin 8192)) (s : State) : Out :=
  .next (s.core (s.controlRange f frame sym count (entry.map (·.val))))

end Sys2Proof.Machine
end

