-- ==== Sys2Proof/Machine/Mirror.lean ====
section
/-!
DEFINITION. Sys2Proof/Machine/Mirror.lean: Mirror rounds, probes, records, hand-over and commit of chapter 7.
-/
namespace Sys2Proof.Machine

/-- A write of MIR.CFG (R31, R181, R194). -/
def State.mirEnableWrite (s : State) (v : Nat) : State :=
  let d := descOf .MIR_CFG
  let own := fun (c : ChClass) => s.ownerOf .MIR_CFG 0 0 c
  let r := s.applyFields d.flds (fun lo => lo == 31) 0 0 0 v own (fun c => s.enabled (own c))
  if bit v 31 then
    let ok := s.on F.MIR_CFG_EN || (s.tlOn s.mirTl && !s.mirClash)
    let s1 := if ok && !s.on F.MIR_CFG_EN then
        { (r.1.setF F.MIR_CFG_EN 1) with mir := { r.1.mir with
            lastFrame := some (tlPhase (s.off s.mirTl) s.now / frameTicks) } }
      else r.1
    if r.2 || !ok then s1.discarded (d.addr 0 0 0) else s1
  else
    let s1 := ((r.1.setF F.MIR_CFG_EN 0).flushShadow .mir).mirAbort
    if r.2 then s1.discarded (d.addr 0 0 0) else s1

/-- MIR_ENABLE_WRITE (R181). -/
def execMirEnableWrite (w : Word) (s : State) : Out :=
  s.regCmd (regAddr .MIR_CFG) (s.mirEnableWrite w.toNat)

/-- A write of MIR.ROUND (R192). -/
def State.mirStartWrite (s : State) (v : Nat) : State :=
  let s1 := s.writeReg .MIR_ROUND v
  if bit v 31 then { s1 with mir := { s1.mir with trigger := true } } else s1

/-- MIR_START_WRITE (R192). -/
def execMirStartWrite (w : Word) (s : State) : Out :=
  s.regCmd (regAddr .MIR_ROUND) (s.mirStartWrite (w.toNat ||| 2 ^ 31))

/-- A Mirror boundary: pending class B values land, and a round starts where one is due (R192); it is abandoned at once with
PRISM.CFG.EN = 0 (R194). Log entry 24 (DEDUCED). -/
def State.mirRoundStart (s : State) : State :=
  let k := s.mirTl
  if s.on F.MIR_CFG_EN && s.tlOn k && s.isFrame k s.now then
    let s1 := s.commitShadow .mir 4
    let fr := tlPhase (s.off k) s.now / frameTicks
    let due := s.mir.trigger || s.mir.lastFrame.any (fun f => decide (f + s.f F.MIR_CFG_PERIOD ≤ fr))
    if due && !s.on F.MIR_ROUND_BUSY then
      let s2 := (((s1.setF F.MIR_ROUND_NUMBER ((s1.f F.MIR_ROUND_NUMBER + 1) % 65536)).setF F.MIR_ROUND_PROBED 0).setF
        F.MIR_ROUND_BUSY 1).bump F.MIR_COUNT_ROUNDS
      let s3 : State := { s2 with mir := { s2.mir with
          trigger := false
          lastFrame := some fr
          startTime := s.now
          base := s1.on F.MIR_ROUND_BASE
          reps := s1.mirReps
          done := []
          tries := []
          have_ := []
          plan := []
          probe := none } }
      if s.prismOn then s3 else s3.mirAbort
    else s1
  else s

/-- MIR_ROUND_START (R192). -/
def execMirRoundStart (s : State) : Out := .next (s.core s.mirRoundStart)

/-- The Mirror block runs a round (R194: one ends with PRISM.CFG.EN = 0). -/
def State.mirRuns (s : State) : Bool := s.on F.MIR_ROUND_BUSY && s.prismOn

/-- Element `e`'s probe symbol at air time `a` is presented: a burst of one symbol to its tile, which only its path
drives, and an RX run of one symbol to each receiving tile (R185). -/
def State.presentProbe (s : State) (e a : Nat) (rcv : List Nat) : State :=
  let len := s.nextAir s.mirTl a - a
  let tiles := (List.range 16).filter (fun t => rcv.any (fun j => j / 4 == t))
  let s1 := tiles.foldl (fun s t => s.rxRunRequest t len) (s.burstRequest (e / 4) len)
  let y := s1.tile (e / 4)
  s1.setTile (e / 4) { y with
    burst := y.burst.map (fun b => if b.first = a then { b with only := some e } else b)
    nextBurst := y.nextBurst.map (fun b => if b.first = a then { b with only := some e } else b) }

/-- The reservation whose guard symbol begins in 2,048 ticks is presented, unless the symbol carries traffic now or a
capture of the receiver runs (R178, R185, R188, R193). Log entry 24 (DEDUCED). -/
def State.mirProbe (s : State) : State :=
  let a := s.now + 2048
  match s.mir.plan.find? (fun p => p.2 == a) with
  | none => s
  | some r =>
    let e := r.1
    let s0 : State := { s with mir := { s.mir with plan := s.mir.plan.filter (fun p => decide (a < p.2)) } }
    if s.mirRuns && s.mir.probe.isNone && s.eligible e && s.isAir s.mirTl a && s.guardSym s.mirTl a &&
        (s.orxR (e / 8)).cap.isNone then
      let rcv := s.receivers e
      let s1 := s0.presentProbe e a rcv
      let s2 := if SMap.get 0 s.mir.tries e = 0 then s1.setF F.MIR_ROUND_PROBED (s1.f F.MIR_ROUND_PROBED + 1) else s1
      let p : Probe := { el := e, air := a, reps := s.mir.reps, rcv := rcv }
      { s2 with mir := { s2.mir with
          probe := some p
          onAir := p :: s.mir.onAir.take 1
          tries := SMap.set 0 s.mir.tries e (SMap.get 0 s.mir.tries e + 1) } }
    else s0

/-- MIR_PROBE (R185). -/
def execMirProbe (s : State) : Out := .next (s.core s.mirProbe)

/-- The capture window of the probe is open (R187). -/
def Probe.open_ (p : Probe) (now : Nat) : Bool :=
  !p.closed && decide (p.air + 1024 ≤ now) && decide (now < p.air + p.reps * 1024)

/-- One sample of capture `j` joins the sums of the periods (R188, R189). -/
def Probe.take (p : Probe) (now j : Nat) (v : Int × Int) : Probe :=
  let i := 1024 * j + (now - p.air) % 1024
  { p with acc := SMap.set (0, 0) p.acc i (addC (SMap.get (0, 0) p.acc i) v) }

/-- One tick of a probe within its window: the stage B output of each receiving path and one sample of the observation
receiver, of which `y` are the four of the tick; zero scale of the probing path and full scale are noted (R187, R188, R190).
Log entry 24 (DEDUCED). -/
def State.mirTick (s : State) (y : Nat → List (Int × Int)) : State :=
  match s.mir.probe with
  | some p =>
    if p.open_ s.now then
      let v := (y (p.el / 8)).headD (0, 0)
      let q := (p.rcv.foldl (fun p j => p.take s.now j (SMap.get (0, 0) (s.rxp j).out 2)) p).take s.now 64 (scaleC 256 v)
      { s with mir := { s.mir with probe := some { q with
          zs := p.zs || s.on F.TXP_ZS_STATUS_ZERO p.el
          clips := p.clips + b2n (fullScale v) } } }
    else s
  | none => s

/-- The nominal attenuation of capture `j` of a probe, in 0.25 dB steps (R189). -/
def State.mirAtt (s : State) (p : Probe) (j : Nat) : Nat :=
  s.f F.RFC_TX_ATT_ATT (p.el / 4) (p.el % 4) +
    4 * (if j = 64 then s.f F.MIR_PROBE_ORX_ATT else s.f F.RFC_RX_ATT_IN_EFFECT (j / 4) (j % 4))

/-- The values of capture `j` (R189). -/
def State.mirValue (s : State) (p : Probe) (j : Nat) : MirValue :=
  mirValueOf (fun i => SMap.get (0, 0) p.acc (1024 * j + i)) (p.reps - 1) (s.probeAmp p.el (s.txSet p.el)) (s.mirAtt p j) j
    (128 * (p.air * 64 + p.el) + j)

/-- The capture window closes REPS × 1,024 ticks after the air boundary (R187, R190): captures of receivers whose ADC
overloaded, a clipped observation capture or one of a receiver that is off, and all of them when the probing path was at
zero scale, are lost; the values of the others stand. Log entry 24 (DEDUCED). -/
def State.mirWindowEnd (s : State) : State :=
  match s.mir.probe with
  | none => s
  | some p =>
    if p.closed = false ∧ p.air + p.reps * 1024 ≤ s.now then
      let obs := p.zs || decide (16 < p.clips) || !s.on F.ORX_CTRL_EN (p.el / 8)
      let lost := p.rcv.filter (fun j => p.zs || p.lost.contains j) ++ (if obs then [64] else [])
      let kept := (p.rcv ++ [64]).filter (fun j => !lost.contains j)
      let s1 : State := { (s.bumpBy F.MIR_COUNT1_LOST lost.length) with
        mir := { s.mir with probe := some { p with closed := true, lost := lost, acc := [], vals := kept.map (s.mirValue p) } } }
      if s.on F.ORX_CTRL_EN (p.el / 8) then s1.driveSel (p.el / 8) else s1
    else s

/-- MIR_CAPTURE_WINDOW_END (R190); its operands have one value, since the samples came with the ticks (log entry 19). -/
def execMirCaptureWindowEnd (_ _ : Unit) (s : State) : Out := .next (s.core s.mirWindowEnd)

/-- One record, if its capture was kept and none of it stands yet (R190, R191). -/
def State.mirRecord (s : State) (p : Probe) (v : MirValue) : State :=
  let key := p.el * 128 + v.rx
  if (v.rx == 64 || p.rcv.contains v.rx) && !p.lost.contains v.rx && !s.mir.have_.contains key &&
      decide (s.mir.have_.length < 576) then
    let a := s.mirBuf + 0x40 + 16 * s.mir.have_.length
    let obs := v.rx == 64
    let s1 := s.writeWords a [2 ^ 31 + b2n obs * 2 ^ 30 + p.el * 2 ^ 24 + (if obs then 0 else v.rx) * 2 ^ 16 + v.snr.toNat,
      v.re.toNat, v.im.toNat, v.tau.toNat]
    { s1 with mir := { s1.mir with have_ := s1.mir.have_ ++ [key] } }
  else s

/-- The records of every capture of a probe that was kept are written; the element is done unless the observation capture,
or every pair capture, was lost (R190, R191). -/
def State.mirRecords (s : State) : State :=
  match s.mir.probe with
  | none => s
  | some p =>
    if p.closed then
      let s1 := p.vals.foldl (fun s v => s.mirRecord p v) s
      let bad := p.lost.contains 64 || (!p.rcv.isEmpty && p.rcv.all p.lost.contains)
      { s1 with mir := { s1.mir with
          probe := none
          done := if bad then s1.mir.done else s1.mir.done ++ [p.el] } }
    else s

/-- MIR_RECORDS_WRITE (R191); the operand has one value, since the values stand in the probe (log entry 19). -/
def execMirRecordsWrite (_ : Unit) (s : State) : Out := .next (s.core s.mirRecords)

/-- The round ends when nothing is left to probe or ROUND_MAX frames have passed (R193). -/
def State.mirRoundEnd (s : State) : State :=
  let k := s.mirTl
  let late := decide (s.mir.startTime + s.f F.MIR_CFG_ROUND_MAX * frameTicks ≤ s.now)
  if s.mirRuns && s.tlOn k && s.mir.probe.isNone && ((s.probeOrder 0).isEmpty || late) then
    let inc := (List.range 64).any (fun e => s.eligible e && !s.mir.done.contains e)
    let s1 := (s.mirHeader inc false).mirOver false
    let s2 := if inc then s1.ledger 0x15 (s.f F.MIR_ROUND_NUMBER) else s1
    s2.pulse 336
  else s

/-- MIR_ROUND_END (R193). -/
def execMirRoundEnd (s : State) : Out := .next (s.core s.mirRoundEnd)

/-- An outcome in MIR.STATUS for round `r`, with event line 338. -/
def State.mirOutcome (s : State) (last r : Nat) : State :=
  ((s.setF F.MIR_STATUS_LAST last).setF F.MIR_STATUS_LAST_ROUND r).pulse 338

/-- The 128 result values of the round's buffer (R197). -/
def State.mirResult (s : State) (r : Nat) : List Nat :=
  let a := 0x20000000 + s.f F.MIR_BUF_ADDR / 0x8000 * 0x8000 + r % 2 * 0x4000 + 0x2800
  (List.range 128).map (fun i => s.rd32 (a + 4 * i))

/-- A write of MIR.SOLVE (R196 to R198). Log entry 24 (DEDUCED). -/
def State.mirSolve (s : State) (v : Nat) : State :=
  let s1 := s.writeReg .MIR_SOLVE v
  let r := bits v 0 16
  if bit v 31 = false then s1
  else if s.mir.ended ≠ some r ∨ s.mir.aborted ∨ s.mir.spoiled ∨ s.on F.MIR_SOLVE_PENDING then
    ((s1.mirOutcome 3 r).bump F.MIR_COUNT1_REFUSED).ledger 0x17 r
  else if bit v 30 = false then
    ((s1.mirOutcome 2 r).bump F.MIR_COUNT_REJECTED).ledger 0x18 r (bits v 24 5)
  else if s.mir.endedBase then s1
  else { (s1.setF F.MIR_SOLVE_PENDING 1) with mir := { s1.mir with waiting := true, result := s.mirResult r, sent := r } }

/-- MIR_SOLVE_GO (R196). -/
def execMirSolveGo (w : Word) (s : State) : Out :=
  s.regCmd (regAddr .MIR_SOLVE) (s.mirSolve (w.toNat ||| 2 ^ 31))

/-- Write the 128 values to PRISM.CORR_PEND: K_TX then K_RX. -/
def State.putCorr (s : State) (l : List Nat) : State :=
  l.zipIdx.foldl (fun s e => (s.setF F.PRISM_CORR_PEND_I (e.1 / 65536) (e.2 / 64) (e.2 % 64)).setF F.PRISM_CORR_PEND_Q
    (e.1 % 65536) (e.2 / 64) (e.2 % 64)) s

/-- Once ARMED = 0 the values go to CORR_PEND and the commit is armed in one operation (R144, R197); with the Prism off
it lands at once (R145). Log entry 78 (DEDUCED). -/
def State.mirCommitArm (s : State) : State :=
  if s.mir.waiting && !s.on F.PRISM_CORR_COMMIT_ARMED && !s.absent 16 then
    let s1 := (s.putCorr s.mir.result).armCommit
    let s2 : State := { s1 with mir := { s1.mir with waiting := false, armed := true, result := [] } }
    if s2.on F.PRISM_CORR_COMMIT_ARMED then s2 else s2.mirLanded
  else s

/-- MIR_COMMIT_ARM (R197). -/
def execMirCommitArm (s : State) : Out := .next (s.core s.mirCommitArm)

/-- A Prism domain reset drops a hand-over not yet landed (R197). Log entry 78 (DEDUCED). -/
def State.mirDrop (s : State) : State :=
  if s.on F.MIR_SOLVE_PENDING then
    let r := s.mir.sent
    let s1 : State := { (s.setF F.MIR_SOLVE_PENDING 0) with mir := { s.mir with waiting := false, armed := false, result := [] } }
    (s1.mirOutcome 3 r).ledger 0x17 r
  else s

end Sys2Proof.Machine
end

