-- ==== Sys2Proof/Machine/Domain.lean ====
section
/-!
DEFINITION. Sys2Proof/Machine/Domain.lean: partial resets and absent domains (R326, R474, R475).
-/
namespace Sys2Proof.Machine

/-- The field stored under a key, if it is one of the register maps. -/
def fldOfKey (k : Nat) : Option Fld := (findReg (k / 32)).bind (fun r => r.1.flds.find? (fun x => x.lo == k % 32))

/-- The field is one a domain reset returns to its reset value: RO, RC or W1C (R474). -/
def resetsWith (k : Nat) : Bool := (fldOfKey k).any (fun x => x.acc == .ro || x.acc == .rc || x.acc == .w1c)

/-- The RO, RC and W1C fields of the registers of domain `d` read their reset values, but for registers `keep` names. -/
def State.resetFields (s : State) (d : Nat) (keep : Nat → Bool) : State :=
  { s with regs := SMap.drop (fun k => domainOf (k / 32) == some d && resetsWith k && !keep (k / 32)) s.regs }

/-- Answer a request at once: a write has no effect and a read returns 0 (R326, R329). -/
def State.answer (s : State) (ini code data : Nat) : State :=
  { s with fab := { s.fab with rsp := SMap.set {} s.fab.rsp ini { code := code, data := data } } }

/-- Requests outstanding at domain `d` are answered DOMAIN_ABSENT (R326). -/
def State.dropWaiting (s : State) (d : Nat) : State :=
  let gone (r : Request) : Bool := domainOf r.addr == some d
  let s1 := s.fab.waiting.foldl (fun s e => (e.2.filter gone).foldl (fun s r =>
    (s.bump F.FAB_COUNT1_ABSENT_RSP).answer r.ini 2 0) s) s
  { s1 with fab := { s1.fab with
      waiting := (s1.fab.waiting.map (fun e => (e.1, e.2.filter (fun r => !gone r)))).filter (fun e => e.2 != []) } }

/-- The transmit symbols a path at zero scale cause 7 or 8 cannot deliver whole are abandoned (R226).
Log entry 30 (DEDUCED). -/
def State.abandonTx (s : State) (paths : List Nat) : State :=
  (s.flowsIn 2).foldl (fun s f =>
    if s.fType f == 0 && paths.any (fun n => s.txOn n && s.on F.TXP_DUC_CEN n (s.layCar f)) then
      (s.flow f).inflight.foldl (fun s e => s.abandon f e.1) s
    else s) s

/-- The Prism's samples cease to arrive at path `n` (R120, R474): cause 7, recorded where a symbol of a burst loses samples. -/
def State.inputLost (s : State) (n : Nat) : State :=
  if s.txOn n && (s.on F.TXP_DUC_CEN n 0 || s.on F.TXP_DUC_CEN n 1) &&
      (s.tile (n / 4)).burst.any (fun b => b.covers s.now && !b.cut) then s.inputMissing n
  else (s.setTxp n { s.txp n with end7 := none }).zsHold 7 n

/-- Domain 16 resets: banks and queues empty, the armed commit dropped, every TX path at zero scale cause 7. -/
def State.prismReset (s : State) : State :=
  let s1 : State := { s.mirDrop with prism := {} }
  let s2 := s1.resetFields 16 (fun a => within a 0x40300A00 0x200)
  ((List.range 64).foldl State.inputLost s2).formUsed.abandonTx (List.range 64)

/-- Domain 17 resets: captures, staged installs and trials discarded, enabled paths at zero scale cause 8 until their
first boundary. -/
def State.dpdReset (s : State) : State :=
  let on := idxWhere 64 (fun n => s.on F.TXP_DPD_CTRL_EN n)
  let orx := (idxWhere 8 (fun k => (s.orxR k).driven)).foldl (fun m k => SMap.set ({} : Orx) m k { driven := true }) []
  let s1 : State := { s with orx := orx, pairs := [] }.resetFields 17 (fun _ => false)
  let s2 := (List.range 64).foldl (fun s n => s.setTxp n { s.txp n with end8 := none, dpd := { retry := on.contains n } }) s1
  (on.foldl (fun s n => s.zsHold 8 n) s2).abandonTx on

/-- The reset of one domain: its work in flight is discarded, then its RO, RC and W1C fields are reset (R474). -/
def State.domainReset (s : State) (d : Nat) : State :=
  if d < 16 then
    let runs := (s.eng d).job.isSome
    (s.engReset d 3).resetFields d (fun a => runs && a == regAddr .SE_CKPT d)
  else if d = 16 then s.prismReset
  else if d = 17 then s.dpdReset
  else if d = 18 then ({ s.mirAbort.mirDrop with mir := {} }).resetFields 18 (fun _ => false)
  else if d = 19 then s.dmaReset.resetFields 19 (fun _ => false)
  else s.hkReset.resetFields 20 (fun _ => false)

/-- The abandoning of a running engine job and its symbols of flows (R226: the flow's engine domain becomes absent). -/
def State.abandonEngine (s : State) (d : Nat) : State :=
  if d < 16 then
    (s.flowsIn 2).foldl (fun s f => if (s.place f).engV && (s.place f).eng == d then
      (s.flow f).inflight.foldl (fun s e => s.abandon f e.1) s else s) s
  else s

/-- GO for a present domain: it is absent while its reset runs (R474). -/
def State.domainGo (s : State) (d ini : Nat) : State :=
  if 20 < d ∨ s.absent d then s
  else
    let s1 := ((s.setB F.FLT_DOM_STATUS_ABSENT d).setF F.FLT_DOM_RESET_BUSY 1).ledger 0x35 d ini
    ((s1.domainReset d).abandonEngine d).dropWaiting d

/-- A write of FLT.DOM_RESET by initiator number `ini`; during a power-state entry GO waits (R475). Log entry 62 (DEDUCED). -/
def State.domResetWrite (s : State) (v ini : Nat) : State :=
  let s1 := s.writeReg .FLT_DOM_RESET v
  let d := s1.f F.FLT_DOM_RESET_DOMAIN
  if !bit v 31 then s1
  else if 2 ≤ s1.power.entry then { s1 with faults := { s1.faults with domWait := s1.faults.domWait ++ [(d, ini)] } }
  else s1.domainGo d ini

/-- DOMAIN_RESET (R474). -/
def execDomainReset (w : Word) (ini : Initiator) (s : State) : Out :=
  s.regCmd (regAddr .FLT_DOM_RESET) (s.domResetWrite (w.toNat ||| 2 ^ 31) (iniNum ini))

/-- A domain reset ends (R474): the domain is present again; each enabled converter of domain 20 calibrates. -/
def State.domainDone (s : State) (d : Nat) : State :=
  if s.absent d then
    let s1 := s.clrB F.FLT_DOM_STATUS_ABSENT d
    let s2 := s1.setF F.FLT_DOM_RESET_BUSY (b2n (s1.f F.FLT_DOM_STATUS_ABSENT != 0))
    if d = 16 then { s2 with prism := { s2.prism with back := s2.elapsed } }
    else if d = 20 then (List.range 2).foldl (fun s k => if s.hkOn k then s.hkNext k else s) s2
    else s2
  else s

/-- DOMAIN_RESET_DONE (R474). -/
def execDomainResetDone (d : Fin 21) (s : State) : Out := .next (s.core (s.domainDone d))

/-- The requests that waited for a power-state entry to end (R475). -/
def State.domainWaiting (s : State) : State :=
  s.faults.domWait.foldl (fun s e => s.domainGo e.1 e.2) { s with faults := { s.faults with domWait := [] } }

end Sys2Proof.Machine
end

