-- ==== Sys2Proof/Machine/Wake.lean ====
section
/-!
DEFINITION. Sys2Proof/Machine/Wake.lean: refusals of entries and level changes, performance levels and the supply loop
(R426 to R432), the wake latch (R411, R420) and the timers that feed it (R256, R356).
-/
namespace Sys2Proof.Machine

/-! ### Refusals (R426, R427) -/

/-- A refusal is accounted: the refuser's counter, the record and line 4. -/
def State.refuse (s : State) (action code sub : Nat) : State :=
  let s1 := if code % 2 = 1 then s.bump F.PWR_REFUSE_CNT_CNT_HI ((code - 1) / 2) else s.bump F.PWR_REFUSE_CNT_CNT_LO ((code - 1) / 2)
  ((((s1.setF F.PWR_LAST_REFUSAL_VALID 1).setF F.PWR_LAST_REFUSAL_ACTION action).setF F.PWR_LAST_REFUSAL_SUB sub).setF
    F.PWR_LAST_REFUSAL_CODE code).pulse 4

/-! ### Performance levels (R428, R429) -/

/-- VDD_CORE of a level before trim, in mV (R428). Log entry 66 (DESIGN CHOICE). -/
def levelMv (l : Nat) : Nat := [800, 700, 630, 600].getD l 800

/-- The PLL_CORE divider of a level (R380). -/
def levelDiv (l : Nat) : Nat := [3, 4, 6, 12].getD l 3

/-- The voltage of a level with the present trim, within 0.60 to 0.85 V (R429, R431). -/
def State.targetMv (s : State) (l : Nat) : Nat :=
  (clampI 600 850 ((levelMv l : Int) + 5 * sext 8 (s.f F.PWR_AVS_STATUS_TRIM))).toNat

/-- VDD_CORE is driven over AVSBus (R430, R433). -/
def State.avsDriven (s : State) : Bool := s.on F.PWR_AVS_CFG_EN && bit (s.f F.PWR_AVS_CFG_PRESENT) 0

/-- The loop does not stand in the way: not running, or settled (R429, R432). -/
def State.avsSettled (s : State) : Bool := !s.on F.PWR_AVS_CFG_LOOP_EN || s.on F.PWR_AVS_STATUS_SETTLED

/-- DIV_IN_EFFECT follows the level or its override (R384, R385). Log entry 74 (DEDUCED). -/
def State.showDiv (s : State) : State :=
  s.setF F.CLK_CORE_CFG_DIV_IN_EFFECT (if s.on F.CLK_CORE_CFG_OVR then s.f F.CLK_CORE_CFG_DIV
    else levelDiv (s.f F.PWR_PERF_IN_EFFECT))

/-! ### Undefined registers (R385, R401) -/

/-- A stored field content of the always-on domain, which no fault of the other clocks touches. -/
def keepsAo (k : Nat) : Bool := alwaysOn (k / 32)

/-- Undefined contents as the register maps can hold them: fields outside the always-on domain, cut to their width.
Log entry 60 (DESIGN CHOICE). -/
def undefinedRegs (base : SMap Nat) : List (Nat × Nat) → SMap Nat
  | [] => base
  | (k, v) :: es =>
    match fldOfKey k with
    | some x => if keepsAo k then undefinedRegs base es else SMap.set 0 (undefinedRegs base es) k (v % 2 ^ x.w)
    | none => undefinedRegs base es

/-- The register contents outside the always-on domain become undefined; the device goes on. Log entry 60 (DESIGN CHOICE). -/
def State.undefine (s : State) : State :=
  { s with
    regs := undefinedRegs (SMap.drop (fun k => !keepsAo k) s.regs) (Config.freeRegs s.free)
    free := s.free + 1 }

/-- The logic runs beyond its timing: a reference at least twice that of REF_SEL (R385, R403). -/
def State.overclocked (s : State) : Bool := decide (2 * s.clockDen ≤ s.clockNum)

/-- The logic clocks move to their PLLs and BYPASS clears (R381); beyond their timing every block across a boundary is
undefined (R385, R403). Log entry 60 (DESIGN CHOICE). -/
def State.onPlls (s : State) : State :=
  let s1 := s.setF F.CLK_STATUS_BYPASS 0
  if s.overclocked then s1.undefine else s1

/-- The override of CLK_CORE breaks a ratio of R385: 0.24 GHz, or 1.2 GHz at a supply below that of PL0.
Log entry 60 (DESIGN CHOICE). -/
def State.ratioBroken (s : State) : Bool :=
  s.on F.CLK_CORE_CFG_OVR && (s.f F.CLK_CORE_CFG_DIV == 15 || (s.f F.CLK_CORE_CFG_DIV == 3 && s.f F.PWR_PERF_IN_EFFECT != 0))

/-- The clocks switch to a level (R384); an override of 3 that then meets a supply below that of PL0 breaks a ratio of
R385. Log entry 60 (DESIGN CHOICE). -/
def State.switchClocks (s : State) (l : Nat) : State :=
  let s1 := (s.setF F.PWR_PERF_IN_EFFECT l).showDiv
  if s1.ratioBroken && !s.ratioBroken then s1.undefine else s1

/-- VDD_CORE is written for a level. -/
def State.writeVolt (s : State) (l : Nat) : State :=
  { (s.setF F.PWR_AVS_STATUS_VOLT_MV (s.targetMv l)) with power := { s.power with avsAt := s.elapsed } }

/-- The loop becomes unsettled (R432). -/
def State.unsettle (s : State) : State :=
  { (s.setF F.PWR_AVS_STATUS_SETTLED 0) with power := { s.power with quiet := 0, loopWait := false } }

/-- The change of level is over. Log entry 74 (DEDUCED). -/
def State.levelEnd (s : State) : State :=
  { (s.setF F.PWR_PERF_BUSY 0) with power := { s.power with levelTo := none, loopAt := s.elapsed } }.pulse 6

/-- A change of level begins: up writes the voltage first, down switches the clocks first (R429). Log entry 74 (DEDUCED). -/
def State.levelStart (s : State) (l : Nat) : State :=
  let cur := s.f F.PWR_PERF_IN_EFFECT
  if s.on F.PWR_PERF_BUSY || !s.avsSettled then s.refuse 3 8 0
  else if l = cur then s
  else
    let s0 := (s.setF F.PWR_PERF_BUSY 1).unsettle
    let s1 := if cur < l then s0.switchClocks l else s0
    if s1.avsDriven then { (s1.writeVolt l) with power := { (s1.writeVolt l).power with levelTo := some l } }
    else (s1.switchClocks l).levelEnd

/-- A write of PWR.PERF: during an entry, or while the device sleeps, the request waits (R429). -/
def State.perfWrite (s : State) (v : Nat) : State :=
  let s1 := s.writeReg .PWR_PERF v
  let l := s1.f F.PWR_PERF_REQ
  if 2 ≤ s1.power.entry ∨ s1.asleep then { s1 with power := { s1.power with perfWait := some l } } else s1.levelStart l

/-- PERF_LEVEL_REQUEST (R429). -/
def execPerfLevelRequest (w : Word) (s : State) : Out := s.regCmd (regAddr .PWR_PERF) (s.perfWrite w.toNat)

/-- What waited for an entry to end now acts (R429, R475). -/
def State.afterEntry (s : State) : State :=
  let s1 := s.domainWaiting
  match s1.power.perfWait with
  | some l => { s1 with power := { s1.power with perfWait := none } }.levelStart l
  | none => s1

/-- The regulator reports its target reached (R429, R431). -/
def State.avsReached (s : State) : State :=
  match s.power.levelTo with
  | some l => (if s.f F.PWR_PERF_IN_EFFECT = l then s else s.switchClocks l).levelEnd
  | none => { s with power := { s.power with loopWait := false, loopAt := s.elapsed } }

/-- AVS_TARGET_REACHED (R429). -/
def execAvsTargetReached (s : State) : Out := .next (s.core s.avsReached)

/-- A regulator has not reported within 4 ms: the change ends with the clocks unchanged when raising (R429).
Log entry 74 (DEDUCED). -/
def State.avsTimeout (s : State) : State :=
  if s.power.levelTo.isSome ∧ us25 4000 ≤ (s.elapsed - s.power.avsAt) * 25 then
    s.levelEnd.ledger 0x32 (s.f F.PWR_AVS_CFG_RAIL_CORE)
  else s

/-- AVS_TIMEOUT (R429). -/
def execAvsTimeout (s : State) : Out := .next (s.core s.avsTimeout)

/-- An AVSBus frame on a rail failed three times (R430). -/
def State.avsBusError (s : State) (rail : Nat) : State :=
  if s.on F.PWR_AVS_CFG_EN then ((s.setF F.PWR_AVS_STATUS_BUS_ERR 1).ledger 0x32 rail).pulse 9 else s

/-- AVS_BUS_ERROR (R430). -/
def execAvsBusError (rail : Fin 16) (s : State) : Out := .next (s.core (s.avsBusError rail))

/-- VDD_CORE in mV: last written, or before any write that of its level (R433). Log entry 74 (DEDUCED). -/
def State.coreMv (s : State) : Nat :=
  if s.f F.PWR_AVS_STATUS_VOLT_MV = 0 then s.targetMv (s.f F.PWR_PERF_IN_EFFECT) else s.f F.PWR_AVS_STATUS_VOLT_MV

/-- A step of the trim by one unit where trim and voltage stay within their limits (R431). -/
def State.trimStep (s : State) (d : Int) : Option State :=
  let t := sext 8 (s.f F.PWR_AVS_STATUS_TRIM) + d
  let mv := (s.coreMv : Int) + 5 * d
  if t < -12 ∨ 12 < t ∨ mv < 600 ∨ 850 < mv then none
  else
    let s1 := (s.setF F.PWR_AVS_STATUS_TRIM (trunc 8 t)).setF F.PWR_AVS_STATUS_VOLT_MV mv.toNat
    some { s1 with power := { s1.power with loopWait := true, quiet := 0, avsAt := s1.elapsed } }

/-- An interval without a step; the fourth in a row settles the loop (R432). Log entry 74 (DEDUCED). -/
def State.quietInterval (s : State) : State :=
  let s1 : State := { s with power := { s.power with quiet := s.power.quiet + 1 } }
  if s.power.quiet + 1 = 4 ∧ s.on F.PWR_AVS_STATUS_SETTLED = false then (s1.setF F.PWR_AVS_STATUS_SETTLED 1).pulse 7 else s1

/-- INT_US has passed since the loop was enabled, its last interval ended, or the regulator reported (R431).
Log entry 74 (DEDUCED). -/
def State.loopDue (s : State) : Bool := decide (us25 (s.f F.PWR_AVS_LOOP_INT_US) ≤ (s.elapsed - s.power.loopAt) * 25)

/-- A write of PWR.AVS_CFG: the supply loop's first interval begins as LOOP_EN is set (R431). Log entry 74 (DEDUCED). -/
def State.avsCfgWrite (s : State) (v : Nat) : State :=
  let s1 := s.writeReg .PWR_AVS_CFG v
  if s1.on F.PWR_AVS_CFG_LOOP_EN && !s.on F.PWR_AVS_CFG_LOOP_EN then
    { s1 with power := { s1.power with loopAt := s1.elapsed, loopWait := false, quiet := 0 } }
  else s1

/-- An interval of the supply loop with smallest monitor code `m` of the sixteen (R431, R432). Log entry 74 (DEDUCED). -/
def State.avsInterval (s : State) (m : Nat) : State :=
  if !s.on F.PWR_AVS_CFG_LOOP_EN || s.on F.PWR_PERF_BUSY || s.power.loopWait || !s.loopDue then s
  else
    let s0 : State := { s with power := { s.power with loopAt := s.elapsed } }
    let s1 := s0.setF F.PWR_AVS_STATUS_MARGIN m
    let target := s.f F.PWR_AVS_LOOP_TARGET
    if m < target then
      match s1.trimStep 1 with
      | some s2 => (s2.setF F.PWR_AVS_STATUS_AT_LIMIT 0).setF F.PWR_AVS_STATUS_SETTLED 0
      | none => (((s1.setF F.PWR_AVS_STATUS_AT_LIMIT 1).ledger 0x33
          (trunc 32 (sext 8 (s.f F.PWR_AVS_STATUS_TRIM)))).pulse 8).quietInterval
    else if target + s.f F.PWR_AVS_LOOP_HYST < m then
      match s1.trimStep (-1) with
      | some s2 => (s2.setF F.PWR_AVS_STATUS_AT_LIMIT 0).setF F.PWR_AVS_STATUS_SETTLED 0
      | none => (s1.setF F.PWR_AVS_STATUS_AT_LIMIT 0).quietInterval
    else (s1.setF F.PWR_AVS_STATUS_AT_LIMIT 0).quietInterval

/-- AVS_LOOP_INTERVAL (R431). -/
def execAvsLoopInterval (m : Fin 64) (s : State) : Out := .next (s.core (s.avsInterval m))

/-! ### Refusing an entry (R410) -/

/-- The entry in hand is undone and accounted; WFI returns. -/
def State.refuseEntry (s : State) (code sub : Nat) : State :=
  let action := s.power.entry - 1
  let s1 : State := { s with power := { s.power with entry := 0, passed := 0, wfi := false, latched := 0 } }
  (s1.dmaRelease.refuse action code sub).afterEntry

/-! ### The wake latch (R411, R420) -/

/-- Source `src` acts in the state given: 2 Dusk, 3 Dark (R420). -/
def actsIn (src st : Nat) : Bool := st == 2 || src == 0 || src == 1 || src == 4 || src == 5

/-- The CLK_AO period that holds now, numbered from a phase the spec leaves open. -/
def State.aoPeriod (s : State) : Nat := (s.elapsed + Config.aoPhase % s.aoLen) / s.aoLen

/-- The elapsed tick of the next CLK_AO edge. -/
def State.nextAo (s : State) : Nat := (s.aoPeriod + 1) * s.aoLen - Config.aoPhase % s.aoLen

/-- A wake event: it aborts an entry, or is latched and starts a wake; later sources of the same CLK_AO period join it
(R411, R421).  With the crystal stopped nothing wakes (R402). -/
def State.wakeEvent (s : State) (src : Nat) : State :=
  let p := s.power
  if !bit (s.f F.PWR_WAKE_EN_EN) src || !s.clk.xtal then s
  else if 2 ≤ p.entry then (if actsIn src p.entry then s.refuseEntry 1 src else s)
  else if s.asleep && actsIn src (if p.st = .dusk then 2 else 3) then
    if !p.waking then
      { s with power := { p with latched := setBit 0 src, latchAt := s.aoPeriod, waking := true, attempt := 1, tryAt := s.elapsed } }
    else if p.latchAt = s.aoPeriod then { s with power := { p with latched := setBit p.latched src } }
    else s
  else s

/-- WAKE_EVENT (R411). -/
def execWakeEvent (src : Fin 6) (s : State) : Out := .next (s.wakeEvent src)

/-- PWR.TIMER reaches TIMER_CMP (R420): line 10 and wake source 0. -/
def State.timerMatch (s : State) : State :=
  if s.f F.PWR_TIMER_COUNT = s.f F.PWR_TIMER_CMP_CMP ∧ s.power.matched = false ∧ s.clk.xtal then
    let s1 : State := { s with power := { s.power with matched := true } }
    (if s1.asleep then s1 else s1.pulse 10).wakeEvent 0
  else s

/-- PWR_TIMER_MATCH (R420). -/
def execPwrTimerMatch (s : State) : Out := .next s.timerMatch

/-! ### Moderation timers (R255, R256, R355, R356) -/

/-- The moderation timer of target `t` has run out. -/
def State.modOver (s : State) (t : Nat) : Bool :=
  s.on F.EVC_TGT_STATUS_TIMER_RUN t &&
  (if s.on F.EVC_TGT_STATUS_SLOW t then (s.modT t).slow == 0 && s.clk.xtal else decide ((s.modT t).deadline ≤ s.el25))

/-- A target's moderation timer expires (R355); in Dusk and Dark that of the Lantern target is a wake source, and
presentation follows once Lantern runs. -/
def State.modExpire (s : State) (t : Nat) : State :=
  if s.modOver t then
    let s1 := ((s.setModT t { met := true }).setF F.EVC_TGT_STATUS_TIMER_RUN 0 t).setF F.EVC_TGT_STATUS_SLOW 0 t
    if s.asleep then (if t = 0 then s1.wakeEvent 1 else s1)
    else
      let s2 := s1.evalTarget t
      if t = 0 ∧ 2 ≤ s.power.entry then s2.wakeEvent 1 else s2
  else s

/-- MODERATION_TIMER_EXPIRY (R355). -/
def execModerationTimerExpiry (t : Fin 17) (s : State) : Out := .next (s.modExpire t)

/-- The Lantern target's timer moves to CLK_AO (R356). -/
def State.modSlow (s : State) : State :=
  if s.on F.EVC_TGT_STATUS_TIMER_RUN 0 && !s.on F.EVC_TGT_STATUS_SLOW 0 then
    (s.setModT 0 { s.modT 0 with slow := cdiv ((s.modT 0).deadline - s.el25) (s.aoLen * 25) + 1 }).setF F.EVC_TGT_STATUS_SLOW 1 0
  else s

/-- On the return to Bright it goes back to CLK_CORE with whole microseconds remaining, rounded up (R356).
Log entry 73 (DEDUCED). -/
def State.modFast (s : State) : State :=
  if s.on F.EVC_TGT_STATUS_SLOW 0 then
    let rem := (s.nextAo - s.elapsed + ((s.modT 0).slow - 1) * s.aoLen) * 25
    (s.setModT 0 { s.modT 0 with slow := 0, deadline := s.el25 + us25 (cdiv rem 12288) }).setF F.EVC_TGT_STATUS_SLOW 0 0
  else s

/-- A CLK_AO edge counts the Lantern target's timer down. -/
def State.modEdge (s : State) : State :=
  if s.on F.EVC_TGT_STATUS_SLOW 0 then s.setModT 0 { s.modT 0 with slow := (s.modT 0).slow - 1 } else s

/-- At a Dusk entry the moderation timers of the ports move to CLK_AO (R420). Log entry 73 (DEDUCED). -/
def State.portsSlow (s : State) : State :=
  (List.range 4).foldl (fun s p =>
    let q := s.port p
    if q.evTimer then
      s.setPort p { q with evStart := (s.nextAo + cdiv (q.evStart - s.el25) (s.aoLen * 25) * s.aoLen) * 25 }
    else s) s

/-- A port's moderation timer expires; in Dusk the message waits for the core domain and the expiry is a wake source
(R256). -/
def State.eventModOver (s : State) (p : Nat) : State :=
  let q := s.port p
  if s.power.st = .dusk then
    if q.evTimer = true ∧ q.evStart ≤ s.el25 ∧ s.clk.xtal then (s.setPort p { q with evTimer := false, evDue := true }).wakeEvent 2 else s
  else if s.power.st = .dark then s
  else
    let due := q.evTimer && decide (q.evStart ≤ s.el25)
    let s1 := s.eventModTimer p
    if due && decide (2 ≤ s.power.entry) then s1.wakeEvent 2 else s1

/-- EVENT_MOD_TIMER (R255). -/
def execEventModTimer (p : Fin 4) (s : State) : Out := .next (s.eventModOver p)

/-- The receive direction of a ready lane leaves low-power idle (R287, R288): causes 1 and 3 resume while the held
receiver realigns, and the LINK_RX source acts. -/
def State.rxLpiExit (s : State) (l : Nat) : State :=
  if s.ready? l && s.rxLpi l then
    (((s.setF F.LANE_STATE_RX_LPI 0 (l / 4) (l % 4)).setLane l { s.lane l with rxWake := some s.el25 }).eqResume l).wakeEvent 3
  else s

/-- RX_LPI_EXIT (R287). -/
def execRxLpiExit (l : Fin 16) (s : State) : Out := .next (s.rxLpiExit l)

end Sys2Proof.Machine
end

