-- ==== Sys2Proof/Machine/Clock.lean ====
section
/-!
DEFINITION. Sys2Proof/Machine/Clock.lean: the clock generator, SYNC_IN, the slew and CLKOUT, and the loss of a clock
source (chapter 15).
-/
namespace Sys2Proof.Machine

/-! ### PLLs (R381, R400) -/

/-- PLL_START (R381). Log entry 59 (DEDUCED). -/
def execPllStart (w : Word) (s : State) : Out := s.regCmd (regAddr .CLK_CFG) (s.writeReg .CLK_CFG (w.toNat ||| 2 ^ 31))

/-- BYPASS clears once every PLL has locked (R381). -/
def State.leaveBypass (s : State) : State :=
  if s.on F.CLK_STATUS_LOCK_REF && s.on F.CLK_STATUS_LOCK_SYS && s.on F.CLK_STATUS_LOCK_CORE &&
      s.f F.CLK_STATUS_LOCK_LPLL == 15 then s.onPlls else s

/-- A clock source locks: the PLLs once started; an LO synthesiser that had lost lock outside a relock shows it again.
Device time counts from the first lock of PLL_REF (R381). Log entry 59 (DEDUCED). -/
def State.pllLock (s : State) (u : Pll) : State :=
  match u with
  | .lo m => if s.on F.RFC_LOS_CTRL_EN m && s.f F.RFC_LOS_STATUS_FREQ_IN_EFFECT m != 0 && !(s.synth m).relock then
      (s.setF F.RFC_LOS_STATUS_LOCKED 1 m).setSynth m { s.synth m with lockedAt := s.elapsed } else s
  | _ =>
    if s.on F.CLK_CFG_PLL_EN then
      (match u with
      | .ref => { (s.setF F.CLK_STATUS_LOCK_REF 1) with clk := { s.clk with run := true } }
      | .sys => s.setF F.CLK_STATUS_LOCK_SYS 1
      | .core => s.setF F.CLK_STATUS_LOCK_CORE 1
      | .lane p => s.setB F.CLK_STATUS_LOCK_LPLL p
      | .lo _ => s).leaveBypass
    else s

/-- PLL_LOCK (R381). -/
def execPllLock (u : Pll) (s : State) : Out := .next (s.core (s.pllLock u))

/-- A lock bit falls; no hardware acts on it but the burst check of R64 and the capture discard of R167 (R400). -/
def State.pllLoss (s : State) (u : Pll) : State :=
  match u with
  | .ref => s.setF F.CLK_STATUS_LOCK_REF 0
  | .sys => s.setF F.CLK_STATUS_LOCK_SYS 0
  | .core => s.setF F.CLK_STATUS_LOCK_CORE 0
  | .lane p => s.clrB F.CLK_STATUS_LOCK_LPLL p
  | .lo m => s.setF F.RFC_LOS_STATUS_LOCKED 0 m

/-- PLL_LOCK_LOSS (R400). -/
def execPllLockLoss (u : Pll) (s : State) : Out := .next (s.core (s.pllLoss u))

/-! ### CLK_CORE (R384, R385) -/

/-- A write of CLK.CORE_CFG (R384); one that breaks a ratio leaves the blocks across the boundary undefined (R385). -/
def State.coreCfgWrite (s : State) (v : Nat) : State :=
  let s1 := (s.writeReg .CLK_CORE_CFG v).showDiv
  if s1.ratioBroken then s1.undefine else s1

/-! ### SYNC_IN (R388 to R392) -/

/-- The error of an edge at device time now and fraction `frac` against the nearest expected time, in 1/64 tick; none
where PHASE lies outside the period, which leaves no expected time.  At equal distance the spec names neither.
Log entry 56 (DEDUCED). -/
def State.edgeError (s : State) (frac : Nat) : Option Int :=
  let period := s.f F.CLK_SYNC_PERIOD_PERIOD * 64
  let phase := s.f F.CLK_SYNC_PHASE_PHASE * 64
  let t := s.now * 64 + frac
  if period ≤ phase then none
  else if t < phase then some ((t : Int) - phase)
  else
    let d := (t - phase) % period
    if 2 * d < period ∨ (2 * d = period ∧ Config.choice 0x15 s.free % 2 = 0) then some d else some ((d : Int) - period)

/-- The edge is captured (R388). -/
def State.edgeCapture (s : State) (frac : Nat) : State :=
  ((((s.setF F.CLK_SYNC_CAP_LO_CAP s.now).setF F.CLK_SYNC_CAP_HI_CAP (s.now / 2 ^ 32)).setF F.CLK_SYNC_STATUS_FRAC
    frac).setF F.CLK_SYNC_STATUS_VALID 1).pulse 40

/-- The one-shot load (R391, R392): the edge's tick reads SYNC_LOAD and the rest is slewed, or the whole error is. -/
def State.edgeLoad (s : State) (frac : Nat) : State :=
  let s1 : State := { s with clk := { s.clk with oneShot := false } }
  let load : Nat := s.f F.CLK_SYNC_LOAD_LO_LOAD + 2 ^ 32 * s.f F.CLK_SYNC_LOAD_HI_LOAD
  if s.anyTl then s1.stepRefused ((s.now : Int) * 64 + (frac : Int) - (load : Int) * 64)
  else (s1.timeStep load frac).setF F.CLK_SYNC_STATUS_LOADED 1

/-- In periodic mode an accepted edge meets its expected time and, with SRC = 1, gives a measurement (R388, R389). -/
def State.edgePeriodic (s : State) (frac : Nat) (e : Int) : State :=
  let met := ((s.now : Int) * 64 + frac - e).toNat / 64
  let s1 := s.edgeCapture frac
  let s2 : State := if e.natAbs ≤ 64 * s.f F.CLK_SYNC_CFG_WIN then { s1 with clk := { s1.clk with seen := some met } } else s1
  if s.f F.CLK_DISC_CFG_SRC = 1 then { s2 with free := s2.free + 1 }.discMeasure e else { s2 with free := s2.free + 1 }

/-- An edge on SYNC_IN, `frac` sixty-fourths into this tick. -/
def State.syncEdge (s : State) (rising : Bool) (frac : Nat) : State :=
  if rising == s.on F.CLK_SYNC_CFG_EDGE then s
  else if s.asleep then s.wakeEvent 5
  else
    let s1 := match s.f F.CLK_SYNC_CFG_MODE with
      | 0 => s
      | 1 => if s.clk.oneShot then (s.edgeCapture frac).edgeLoad frac else s.edgeCapture frac
      | _ =>
        match s.edgeError frac with
        | none => s.edgeCapture frac
        | some e =>
          if s.f F.CLK_DISC_STATUS_STATE = 2 ∧ 64 * s.f F.CLK_SYNC_CFG_WIN < e.natAbs then
            { (s.bump F.CLK_DISC_COUNT_SPURIOUS) with free := s.free + 1 }
          else s.edgePeriodic frac e
    if 2 ≤ s1.power.entry then s1.wakeEvent 5 else s1

/-- SYNC_EDGE (R388). -/
def execSyncEdge (rising : Bool) (frac : Fin 64) (s : State) : Out := .next (s.syncEdge rising frac)

/-- The first expected time not yet met or missed. -/
def State.nextExpected (s : State) : Nat :=
  let period := s.f F.CLK_SYNC_PERIOD_PERIOD
  let phase := s.f F.CLK_SYNC_PHASE_PHASE
  let lo := match s.clk.seen with
    | some t => max s.clk.since (t + 1)
    | none => s.clk.since
  if lo ≤ phase then phase else phase + cdiv (lo - phase) period * period

/-- An expected time has passed WIN ticks with no edge (R388). -/
def State.syncMissed (s : State) : State :=
  let t := s.nextExpected
  if s.f F.CLK_SYNC_CFG_MODE = 2 ∧ s.f F.CLK_SYNC_PHASE_PHASE < s.f F.CLK_SYNC_PERIOD_PERIOD ∧
      t + s.f F.CLK_SYNC_CFG_WIN < s.now then
    ({ s with clk := { s.clk with seen := some t } }.bump F.CLK_DISC_COUNT_MISSED).pulse 41
  else s

/-- SYNC_MISSED (R388). -/
def execSyncMissed (s : State) : Out := .next (s.core s.syncMissed)

/-- A write of SYNC_CFG: MODE = 1 arms a one-shot load (R392); periodic mode looks at expected times from now on. -/
def State.syncCfgWrite (s : State) (v : Nat) : State :=
  let was := s.f F.CLK_SYNC_CFG_MODE
  let s1 := s.writeReg .CLK_SYNC_CFG v
  let m := s1.f F.CLK_SYNC_CFG_MODE
  let c := s1.clk
  { s1 with clk := { c with
      oneShot := m == 1
      since := if m = 2 ∧ was ≠ 2 then s1.now else c.since
      seen := if m = 2 ∧ was ≠ 2 then none else c.seen } }

/-- A write of DISC_CFG: any change of SRC starts the discipline again (R393). -/
def State.discCfgWrite (s : State) (v : Nat) : State :=
  let was := s.f F.CLK_DISC_CFG_SRC
  let s1 := s.writeReg .CLK_DISC_CFG v
  if s1.f F.CLK_DISC_CFG_SRC = was then s1 else s1.discRestart

/-- A slew step is due: none in HOLDOVER, one per STEP_INT ticks (R390). Log entry 56 (DEDUCED). -/
def State.stepDue (s : State) : Bool :=
  s.clk.target != 0 && s.f F.CLK_DISC_STATUS_STATE != 3 &&
  (match s.clk.lastStep with
  | some t => decide (t + s.f F.CLK_DISC_CFG_STEP_INT ≤ s.elapsed)
  | none => true)

/-- A slew step moves toward the target; a target below 0 retards, which SLEW_TOTAL counts as positive. -/
def State.slewStep (s : State) : State :=
  if s.stepDue then
    let up : Int := if s.clk.target < 0 then 1 else -1
    { (s.setF F.CLK_SLEW_TOTAL_STEPS (trunc 32 (sext 32 (s.f F.CLK_SLEW_TOTAL_STEPS) + up))) with
      clk := { s.clk with target := s.clk.target + up, lastStep := some s.elapsed } }
  else s

/-- SLEW_STEP (R390). -/
def execSlewStep (s : State) : Out := .next (s.core s.slewStep)

/-- HOLD_MS ms have passed without a measurement (R393). -/
def State.holdover (s : State) : State :=
  let st := s.f F.CLK_DISC_STATUS_STATE
  if (st = 1 ∨ st = 2) ∧ s.clk.lastMeas + s.f F.CLK_DISC_LIMITS_HOLD_MS * msTicks ≤ s.elapsed then
    (({ s with clk := { s.clk with good := 0 } }.setF F.CLK_DISC_STATUS_STATE 3).ledger 0x2F (s.f F.CLK_DISC_CFG_SRC)).pulse 44
  else s

/-- HOLDOVER (R393). -/
def execHoldover (s : State) : Out := .next (s.core s.holdover)

/-! ### CLKOUT (R395, R396) -/

/-- Ticks, rounded up, within which an output of source `src` and division `div` has a falling edge.
Log entry 57 (DESIGN CHOICE). -/
def State.outTicks (s : State) (src div : Nat) : Nat :=
  if src = 14 then frameTicks else (if src = 8 then s.aoLen else 3) * (if div = 0 then 4096 else div)

/-- The new output is in effect. -/
def State.outTake (s : State) : State :=
  { s with clk := { s.clk with
      outSrc := s.f F.CLK_CLKOUT_CFG_SRC
      outDiv := s.f F.CLK_CLKOUT_CFG_DIV
      outAt := none } }

/-- A write of CLKOUT_CFG: a low output changes at once, another at its next falling edge. Log entry 57 (DESIGN CHOICE). -/
def State.clkoutWrite (s : State) (v : Nat) : State :=
  let s1 := s.writeReg .CLK_CLKOUT_CFG v
  if s1.clk.outSrc = 0 then s1.outTake
  else if s1.clk.outAt.isSome then s1
  else { s1 with
    clk := { s1.clk with
      outAt := some (s1.elapsed + Config.choice 0x16 s1.free % (s1.outTicks s1.clk.outSrc s1.clk.outDiv + 1)) }
    free := s1.free + 1 }

/-- CLKOUT_CFG_WRITE (R396). -/
def execClkoutCfgWrite (w : Word) (s : State) : Out := s.regCmd (regAddr .CLK_CLKOUT_CFG) (s.clkoutWrite w.toNat)

/-- The falling edge has come. Log entry 57 (DESIGN CHOICE). -/
def State.outEdge (s : State) : State :=
  match s.clk.outAt with
  | some t => if t ≤ s.elapsed then s.outTake else s
  | none => s

/-- CLKOUT is held low: by SRC = 0, and in Dusk and Dark, where only CLK_AO in Dusk comes out (R395, R396). -/
def State.outHeld (s : State) : Bool :=
  s.clk.outSrc == 0 || s.power.st == .dark || (s.power.st == .dusk && s.clk.outSrc != 8)

/-- CLKOUT in half-period `h` of the source under division `div`: an even division has a 50 % duty cycle, an odd one `n` is
high for (n + 1)/2 source periods, and division 1 passes the source (R395). Log entry 57 (DESIGN CHOICE). -/
def divHigh (div h : Nat) : Bool :=
  let n := if div = 0 then 4096 else div
  decide (h % (2 * n) < if n = 1 then 1 else 2 * ((n + 1) / 2))

/-- The level of CLKOUT, in half-period `h` of its source since the output in effect began; with SRC = 14 a pulse of 16
ticks at each frame boundary of TL0 (R395). Log entry 57 (DESIGN CHOICE). -/
def State.outHigh (s : State) (h : Nat) : Bool :=
  if s.outHeld then false
  else if s.clk.outSrc = 14 then s.tlOn 0 && decide (tlPhase (s.off 0) s.now % frameTicks < 16)
  else divHigh s.clk.outDiv h

/-! ### Loss of a clock source (R401, R402) -/

/-- REFCLK is lost: register contents outside the always-on domain are undefined (R401). Log entry 60 (DESIGN CHOICE). -/
def State.refclkLoss (s : State) : State := { s.undefine with clk := { s.clk with lost := true } }

/-- REFCLK_LOSS (R401). -/
def execRefclkLoss (s : State) : Out := .next s.refclkLoss

/-- The crystal stops: every function on CLK_AO stops (R402). Log entry 60 (DESIGN CHOICE). -/
def State.crystalStop (s : State) : State := { s with clk := { s.clk with xtal := false } }

/-- CRYSTAL_STOP (R402). -/
def execCrystalStop (s : State) : Out := .next s.crystalStop

end Sys2Proof.Machine
end

