-- ==== Sys2Proof/Machine/EvcCmd.lean ====
section
/-!
DEFINITION. Sys2Proof/Machine/EvcCmd.lean: the commands of the event concentrator (R351 to R364, R511).
-/
namespace Sys2Proof.Machine

/-- Line `l` is a pulse source. -/
def pulseLine (l : Nat) : Bool := !reservedLine l && !levelLine l

/-- A pulse source pulses. Log entry 54 (DEDUCED). -/
def State.eventPulse (s : State) (l : Nat) : State := if pulseLine l then s.pulse l else s
/-- EVENT_PULSE (R353). -/
def execEventPulse (l : Fin 1024) (s : State) : Out := .next (s.core (s.eventPulse l))

/-- A level source asserts, or de-asserts. Log entry 54 (DEDUCED). -/
def State.eventLevel (s : State) (l : Nat) (v : Bool) : State := if levelLine l then s.followLine l v else s
/-- EVENT_LEVEL_ASSERT (R353). -/
def execEventLevelAssert (l : Fin 1024) (s : State) : Out := .next (s.core (s.eventLevel l true))
/-- EVENT_LEVEL_DEASSERT (R511). -/
def execEventLevelDeassert (l : Fin 1024) (s : State) : Out := .next (s.core (s.eventLevel l false))

/-- Target `t` acts on its lines that are pending and enabled, as for lines that have just become pending.
Log entry 54 (DEDUCED). -/
def State.actAgain (s : State) (t : Nat) : State :=
  if t ≤ 16 then s.evalTarget t
  else if t ≤ 20 then s.linkAct (t - 17)
  else if t = 21 then ((List.range 32).flatMap (s.pendWord 21)).foldl (fun s l => s.prismLine l) s
  else s

/-- A write of EVC.EN[t][w]: lines newly enabled whose source is asserted become pending (R353, R511). -/
def State.evEnWrite (s : State) (t wd v : Nat) : State :=
  let was := s.f F.EVC_EN_EN t wd
  let s1 := s.writeReg .EVC_EN (if wd = 31 then v % 2 ^ 31 else v) t wd
  let new_ := (idxWhere 32 (fun b => bit (s1.f F.EVC_EN_EN t wd) b && !bit was b)).map (fun b => 32 * wd + b)
  ((new_.filter s1.asserted).foldl (fun s l => State.levelTo l s t) s1).actAgain t

/-- EVENT_ENABLE_WRITE (R353). -/
def execEventEnableWrite (t : Fin 23) (wd : Fin 32) (w : Word) (s : State) : Out :=
  s.regCmd (regAddr .EVC_EN t wd) (s.evEnWrite t wd w.toNat)

/-- The line a claim of target `t` would return (R357). -/
def State.claimLine (s : State) (t : Nat) : Nat := (s.bestLine (s.deliverable t)).getD 1023

/-- A claim by target `t` (R357): the line returned is pending no more and in service; with nothing deliverable only the
count of spurious claims changes. Log entry 54 (DEDUCED). -/
def State.claim (s : State) (t : Nat) : State :=
  match s.bestLine (s.deliverable t) with
  | some l => (((s.clrB F.EVC_PEND_PEND (l % 32) t (l / 32)).setSvc t l true).setF F.EVC_TGT_STATUS_LAST_CLAIM l t).evalTarget t
  | none => s.bump F.EVC_COUNT_SPURIOUS

/-- EVENT_CLAIM (R357). -/
def execEventClaim (s : State) : Out := s.regCmd (regAddr .EVC_CLAIM) ((s.claim 0).answer 0 0 (s.claimLine 0))

/-- A completion of line `l` by target `t`: its service ends and a level source is sampled again (R358). -/
def State.complete (s : State) (t l : Nat) : State :=
  if s.evSvc t l then
    let s1 := s.setSvc t l false
    (if s1.asserted l then State.levelTo l s1 t else s1).evalTarget t
  else s.bump F.EVC_COUNT_BAD_COMPLETE

/-- EVENT_COMPLETE (R358). -/
def execEventComplete (w : Word) (s : State) : Out := s.regCmd (regAddr .EVC_COMPLETE) (s.complete 0 (bits w.toNat 0 10))

/-- A write of EVC.CTRL (R360, R511). -/
def State.gdisWrite (s : State) (v : Nat) : State := (List.range 22).foldl State.actAgain (s.writeReg .EVC_CTRL v)
/-- GDIS_WRITE (R360). -/
def execGdisWrite (w : Word) (s : State) : Out := s.regCmd (regAddr .EVC_CTRL) (s.gdisWrite w.toNat)

/-- A write of EVC.SWSET (R361). -/
def State.swSet (s : State) (l : Nat) : State := if 512 ≤ l ∧ l ≤ 1022 then s.pulse l else s
/-- SOFTWARE_LINE_SET (R361). -/
def execSoftwareLineSet (w : Word) (s : State) : Out := s.regCmd (regAddr .EVC_SWSET) (s.swSet (bits w.toNat 0 10))

/-- A write of EVC.ALERT_CLR (R363). -/
def State.alertClear (s : State) (l : Nat) : State :=
  let s1 := s.clrB F.EVC_PEND_PEND (l % 32) 22 (l / 32)
  if s1.asserted l then State.levelTo l s1 22 else s1
/-- ALERT_CLEAR (R363). -/
def execAlertClear (w : Word) (s : State) : Out := s.regCmd (regAddr .EVC_ALERT_CLR) (s.alertClear (bits w.toNat 0 10))

/-- The ALERT_N ball is driven low: a line enabled for target 22 is pending there (R362), or the sequencer or the boot
ROM holds it (R424, R444).  Dusk keeps the level of the entry and Dark releases it (R406). -/
def State.alertLow (s : State) : Bool :=
  s.power.alertHold ||
  match s.power.st with
  | .dusk => s.power.alertEntry
  | .dark => false
  | _ => (List.range 32).any (fun w => s.pendWord 22 w != []) || s.boot.alert

/-- A write of EVC.PRIO[i] or EVC.TGT_CFG[t]: what is deliverable may change. -/
def State.prioWrite (s : State) (l v : Nat) : State := (List.range 17).foldl State.evalTarget (s.writeReg .EVC_PRIO v l)
def State.tgtWrite (s : State) (t v : Nat) : State := (s.writeReg .EVC_TGT_CFG v t).evalTarget t

end Sys2Proof.Machine
end

