-- ==== Sys2Proof/Machine/Link.lean ====
section
/-!
DEFINITION. Sys2Proof/Machine/Link.lean: the inbound side of a Trourn Link port (chapter 9): the checks of R262, the receive
window, control, beam writes, management, timing and delay measurement.
A packet arrives as its words in line order, with the age of its first character in 1/65,536 tick when its last byte
arrives (now).
-/
namespace Sys2Proof.Machine

/-- What an inbound packet claims to be (R235): the message types that a partner may send, and everything else. -/
inductive InKind where
  | iq | rtc | beamWrite | mgmtReq | timeSync | delayReq | remoteReq | delayRsp | unsupported
  deriving DecidableEq, Repr

/-- A packet's word by number. -/
def pw (ws : List Word) (i : Nat) : Nat := (ws.getD i 0).toNat

/-- The type of a KIND 0 packet (R233, R259); a type 5 message without a payload has no action that check 2 could refuse. -/
def ecpriKind (ws : List Word) : InKind :=
  let h := pw ws 1
  if bits h 28 4 ≠ 1 ∨ bit h 24 then .unsupported
  else match bits h 16 8 with
    | 0 => .iq
    | 2 => .rtc
    | 5 => if ws.length < 4 then .delayReq else (match bits (pw ws 2) 16 8 with
      | 0 => .delayReq
      | 2 => .delayRsp
      | 3 => .remoteReq
      | _ => .unsupported)
    | _ => .unsupported

/-- What check 2 of R262 makes of the headers. -/
def inKind (ws : List Word) : InKind :=
  let t := pw ws 0
  if bits t 30 2 ≠ 1 then .unsupported
  else match bits t 28 2 with
    | 0 => ecpriKind ws
    | 1 => (match bits (pw ws 1) 24 8 with
      | 1 => .timeSync
      | 4 => .mgmtReq
      | 6 => .beamWrite
      | _ => .unsupported)
    | _ => .unsupported

/-! ### Counting refusals (R262) -/

/-- Record a code at a port at most once in each frame of the PLC timeline. -/
def State.noteOnce (s : State) (p code arg : Nat) : State :=
  let fr := tlPhase (s.off (s.f F.PLC_CFG_TL)) s.now / frameTicks + 1
  if SMap.get 0 (s.port p).noted code = fr then s
  else (s.setPort p { s.port p with noted := SMap.set 0 (s.port p).noted code fr }).ledger code arg

/-- A packet or descriptor is refused and counted. -/
def State.refusePkt (s : State) (p : Nat) (x : Fld) : State := (s.bump x p).noteOnce p 0x1D p

/-! ### Check 4: lengths and fields -/

/-- Word `i` after the header of a KIND 0 packet. -/
def ew (ws : List Word) (i : Nat) : Nat := pw ws (2 + i)

/-- Word `i` of the body of a KIND 1 packet. -/
def nw (ws : List Word) (i : Nat) : Nat := pw ws (3 + i)

/-- The identifier of a packet: PC_ID, RTC_ID or LINK_ID. -/
def pktId (k : InKind) (ws : List Word) : Nat :=
  match k with
  | .iq | .rtc | .delayReq | .remoteReq | .delayRsp | .unsupported => bits (ew ws 0) 16 16
  | .beamWrite | .mgmtReq | .timeSync => bits (pw ws 2) 16 16

/-- The ACTIVE flow of type `ty` and identifier `id` admitted on this or an equivalent port (check 5); none for IQ data,
control and beam writes of a neighbouring RZ-6480 (R229). -/
def State.linkFlow (s : State) (p ty id : Nat) : Option Nat :=
  if s.on F.LNK_CFG_PARTNER p && ty != 3 then none
  else (s.flowsIn 2).find? (fun f => s.fType f == ty && s.f F.FLW_CTRL_LINK_ID f == id && s.equivalent (s.place f).port p)

/-- The symbol a FRAME and SYMBOL name (R243). Log entry 36 (DEDUCED). -/
def State.namedSym (s : State) (f fr sy : Nat) : Nat :=
  s.frameIdx (s.fTl f) fr s.now * symPerFrame (s.mu (s.fTl f)) + sy

/-- The division of R238: START, NSAMP and LAST of a packet of `total` samples. -/
def divided (total start n : Nat) (last : Bool) : Bool :=
  start % 1024 == 0 && decide (start < total) && n == min 1024 (total - start) &&
  last == decide (packetsOf total ≤ start / 1024 + 1)

/-- SEQ_ID's E and subsequence (R236). -/
def seqOk (w : Nat) : Bool := bits w 0 8 == 128

/-- The fields of an IQ packet are well formed for the flow it names, if there is one (R237, R238, R241).
Log entry 36 (DEDUCED). -/
def State.iqOk (s : State) (p : Nat) (ws : List Word) : Bool :=
  let h := ew ws 1
  let m := bits h 8 3
  let n := bits (ew ws 2) 0 16
  seqOk (ew ws 0) && decide (m ≤ 4) && decide (1 ≤ n) && decide (n ≤ 1024) && bits (ew ws 2) 16 16 % 1024 == 0 &&
  (n == 1024 || bit h 7) &&
  decide (ws.length = 7 + cdiv (payloadBits (mantBits m) n) 32) &&
  (match s.linkFlow p 0 (pktId .iq ws) with
  | none => true
  | some f => m == s.f F.FLW_CTRL_MANT f &&
      divided (s.symSamples f (s.namedSym f (bits h 22 10) (bits h 11 11))) (bits (ew ws 2) 16 16) n (bit h 7))

/-- Check 4 of R262: 16 to 4,156 bytes (R230), a body of at most 4,136 (R234), the length field, then what each message
type asks for. -/
def State.shapeOk (s : State) (p : Nat) (k : InKind) (ws : List Word) : Bool :=
  decide (4 ≤ ws.length) && decide (ws.length ≤ 1039) &&
  match k with
  | .iq => decide (bits (pw ws 1) 0 16 = 4 * (ws.length - 3)) && s.iqOk p ws
  | .rtc =>
    let n := bits (ew ws 1) 24 8
    decide (bits (pw ws 1) 0 16 = 4 * (ws.length - 3)) && seqOk (ew ws 0) && decide (1 ≤ n) && decide (n ≤ 64) &&
    decide (ws.length = 5 + 2 * n)
  | .delayReq | .remoteReq | .delayRsp =>
    decide (bits (pw ws 1) 0 16 = 4 * (ws.length - 3)) && decide (8 ≤ ws.length)
  | .timeSync => decide (bits (pw ws 1) 0 16 = 4 * (ws.length - 4)) && decide (ws.length = 8)
  | .mgmtReq =>
    decide (bits (pw ws 1) 0 16 = 4 * (ws.length - 4)) && decide (6 ≤ ws.length) && decide (ws.length ≤ 132)
  | .beamWrite =>
    let a := nw ws 0
    let n := 4 * (ws.length - 5)
    decide (bits (pw ws 1) 0 16 = 4 * (ws.length - 4)) && decide (5 ≤ ws.length) && decide (ws.length ≤ 1038) && a % 4 == 0 &&
    (n == 0 || (decide (0x24000000 ≤ a) && decide (a + n ≤ 0x24300000)))
  | .unsupported => false

/-! ### Sequence numbers (R236) -/

/-- A number received for a key, of modulus `m`: a gap is counted, and the number becomes the last. -/
def State.sawSeq (s : State) (p key m n : Nat) : State :=
  let last := SMap.get 0 s.seqs key
  let s1 := if last ≠ 0 ∧ n ≠ last % m then s.bump F.LNK_ERR3_SEQ_GAP p else s
  { s1 with seqs := SMap.set 0 s1.seqs key (n + 1) }

/-- The sequence number of an accepted form. -/
def State.seqSeen (s : State) (p : Nat) (k : InKind) (ws : List Word) : State :=
  match k with
  | .iq => s.sawSeq p (seqKey 0 (pktId k ws)) 256 (bits (ew ws 0) 8 8)
  | .rtc => s.sawSeq p (seqKey 1 (pktId k ws)) 256 (bits (ew ws 0) 8 8)
  | .beamWrite | .mgmtReq => s.sawSeq p (seqKey 2 (pktId k ws)) 65536 (bits (pw ws 2) 0 16)
  | .timeSync => s.sawSeq p (seqKey 5 p) 65536 (bits (pw ws 2) 0 16)
  | _ => s

/-! ### IQ data (R244, R245) -/

/-- The Prism transmit boundary of symbol `idx` of a transmit flow. -/
def State.txPb (s : State) (f idx : Nat) : Nat := s.airOf (s.fTl f) idx - s.txAdvance (s.layCar f)

/-- The opening of the window of symbol `idx`, in quarter ticks. -/
def State.winOpen (s : State) (f idx : Nat) : Nat :=
  4 * (s.txPb f idx + s.lenOf (s.fTl f) idx) - s.f F.FLW_LIMITS_DEPTH f * n0 (s.mu (s.fTl f))

/-- The close of the window. -/
def State.winClose (s : State) (f idx : Nat) : Nat := s.txPb f idx - 492

/-- The first byte of the packet, in 1/65,536 tick: four characters after the start-of-packet's first.
Log entry 36 (DEDUCED). -/
def State.firstByte (s : State) (p age : Nat) : Nat := s.now * 65536 - age + 4 * 49152 * 65536 / (10 * s.rateMbps p)

/-- The samples of an accepted packet go to the flow buffer; the last packet of a symbol makes its job due (R314). -/
def State.iqWrite (s : State) (f idx pk : Nat) (xs : List (Int × Int)) : State :=
  let s1 := s.bufPut f idx (1024 * pk) xs
  let x := s1.flow f
  let s2 := s1.setFlow f { x with got := if x.got.contains (idx, pk) then x.got else x.got ++ [(idx, pk)] }
  if s2.allGot f idx && s2.usesEngine f && s2.jobOf f idx == 0 then s2.setJob f idx 1 else s2

/-- A packet after its window: refused as LATE (R245, R262). -/
def State.pktLate (s : State) (p f : Nat) : State := (s.bump F.LNK_ERR2_LATE p).noteOnce p 0x1E f

/-- An IQ packet that has passed checks 1 to 6 (R244, R245, R482). -/
def State.iqArrive (s : State) (p f idx age : Nat) (ws : List Word) : State :=
  let n := bits (ew ws 2) 0 16
  let pk := bits (ew ws 2) 16 16 / 1024
  let xs := expand (mantBits (bits (ew ws 1) 8 3)) n ((ws.drop 6).dropLast.map (·.toNat))
  if s.firstByte p age * 4 < s.winOpen f idx * 65536 then s.bump F.LNK_ERR2_EARLY p
  else if s.winClose f idx < s.now then s.pktLate p f
  else if s.bpHeld 1 f then
    let h : HeldPkt := { flow := f, idx := idx, pk := pk, samples := xs, close := s.winClose f idx }
    (s.bump F.PTB_COUNT_HELD).setPort p { s.port p with held := (s.port p).held ++ [h] }
  else s.iqWrite f idx pk xs

/-- A packet of symbol air time `a` of a flow whose port moves or has moved is on the wrong port `p`: symbols before E
belong to the old port and all others to the new one (R220, R221, check 6). Log entry 36 (DEDUCED). -/
def State.wrongPort (s : State) (f p a : Nat) : Bool :=
  match s.moveAt f with
  | some (e, x, y) => x.port != y.port && p != (if e ≤ a then y.port else x.port)
  | none => false

/-- Flow `f` carries the symbol at air time `a` (R211); before its start symbol it carries no traffic, and check 5 refuses
the packet. Log entry 36 (DEDUCED). -/
def State.flowAt (s : State) (f : Option Nat) (a : Nat → Nat) : Option Nat := f.bind (fun f => if s.carries f (a f) then some f else none)

/-- Checks 5 to 7 of an IQ packet. -/
def State.iqReceive (s : State) (p age : Nat) (ws : List Word) : State :=
  match s.flowAt (s.linkFlow p 0 (pktId .iq ws)) (fun f =>
      s.airOf (s.fTl f) (s.namedSym f (bits (ew ws 1) 22 10) (bits (ew ws 1) 11 11))) with
  | none => s.refusePkt p F.LNK_ERR1_NOFLOW
  | some f =>
    let idx := s.namedSym f (bits (ew ws 1) 22 10) (bits (ew ws 1) 11 11)
    if s.wrongPort f p (s.airOf (s.fTl f) idx) then s.refusePkt p F.LNK_ERR3_WRONG_PORT
    else s.iqArrive p f idx age ws

/-! ### Control and management flows -/

/-- A message of a control or management flow has been delivered in this symbol of the PLC timeline (R225). -/
def State.messageIn (s : State) (f : Nat) : State :=
  let idx := s.symIdx (s.f F.PLC_CFG_TL) s.now
  (s.flowStarted f idx 0).flowDelivered f idx

/-- One section descriptor, delivered as its packet arrives, within the 492 ticks of R246 (R248, R249). -/
def State.section_ (p : Nat) (s : State) (d : Nat × Nat) : State :=
  let count := bits d.1 0 11
  match s.linkFlow p (bits d.2 15 1) (bits d.2 16 16) with
  | none => s.refusePkt p F.LNK_ERR1_NOFLOW
  | some f =>
    if count = 0 ∨ 1120 < count then s.refusePkt p F.LNK_ERR1_MALFORMED
    else s.controlRange f (bits d.1 22 10) (bits d.1 11 11) count (if bit d.2 14 then none else some (bits d.2 0 13))

/-- A control packet (R249), judged by the symbol of its first descriptor (R221). Log entry 36 (DEDUCED). -/
def State.rtcReceive (s : State) (p : Nat) (ws : List Word) : State :=
  match s.flowAt (s.linkFlow p 2 (pktId .rtc ws)) (fun f =>
      s.airOf (s.fTl f) (s.namedSym f (bits (ew ws 2) 22 10) (bits (ew ws 2) 11 11))) with
  | none => s.refusePkt p F.LNK_ERR1_NOFLOW
  | some f =>
    let idx := s.namedSym f (bits (ew ws 2) 22 10) (bits (ew ws 2) 11 11)
    if s.wrongPort f p (s.airOf (s.fTl f) idx) then s.refusePkt p F.LNK_ERR3_WRONG_PORT
    else ((List.range (bits (ew ws 1) 24 8)).map (fun i => (ew ws (2 + 2 * i), ew ws (3 + 2 * i)))).foldl
      (State.section_ p) (s.messageIn f)

/-- A BEAM_WRITE (R250). -/
def State.beamReceive (s : State) (p : Nat) (ws : List Word) : State :=
  match s.flowAt (s.linkFlow p 2 (pktId .beamWrite ws)) (fun _ => s.now) with
  | none => s.refusePkt p F.LNK_ERR1_NOFLOW
  | some f =>
    let a := nw ws 0
    let data := (ws.drop 4).dropLast.flatMap netBytes
    if s.wrongPort f p s.now then s.refusePkt p F.LNK_ERR3_WRONG_PORT
    else if data = [] then s.messageIn f
    else if !s.permitted (.link (Fin.ofNat 4 p)) .write a data.length then
      (s.refusePkt p F.LNK_ERR1_MALFORMED).deny (.link (Fin.ofNat 4 p)) .write a
    else if s.absent 16 then (s.messageIn f).bump F.FAB_COUNT1_ABSENT_RSP
    else (s.messageIn f).writeBytes a data

/-- The line of the management ring follows HEAD ≠ TAIL (R352). -/
def State.ringLine (s : State) (p : Nat) : State :=
  s.followLine (356 + p) (s.f F.LNK_MGMT_RING_HEAD p != s.f F.LNK_MGMT_RING_TAIL p)

/-- A write of LNK.MGMT_RING moves TAIL. -/
def State.ringWrite (s : State) (p v : Nat) : State := (s.writeReg .LNK_MGMT_RING v p).ringLine p

/-- An MGMT_REQ (R252): its body goes to the ring, or BUSY is answered. Log entry 36 (DEDUCED). -/
def State.mgmtReceive (s : State) (p : Nat) (ws : List Word) : State :=
  match s.flowAt (s.linkFlow p 3 (pktId .mgmtReq ws)) (fun _ => s.now) with
  | none => s.refusePkt p F.LNK_ERR1_NOFLOW
  | some f =>
    let s1 := s.messageIn f
    let h := s.f F.LNK_MGMT_RING_HEAD p
    if s.wrongPort f p s.now then s.refusePkt p F.LNK_ERR3_WRONG_PORT
    else if (h + 1) % 16 = s.f F.LNK_MGMT_RING_TAIL p then
      s1.mgmtSend p (some f) none [nw ws 0 / 65536 * 65536 + bits (nw ws 0) 8 8 * 256 + 4]
    else
      let base := 0x20000000 + s.f F.LNK_MGMT_RING_BASE p / 16384 * 16384 + h * 512
      let s2 := s1.writeWords base ((ws.drop 3).dropLast.map (·.toNat))
      ((s2.setPort p { s2.port p with reqFlow := SMap.set 0 (s2.port p).reqFlow h (f + 1) }).setF F.LNK_MGMT_RING_HEAD
        ((h + 1) % 16) p).ringLine p

/-! ### Timing (R257 to R261) -/

/-- The receive time of a packet whose first character arrived `age` ago, in 1/65,536 tick. -/
def State.rxTime (s : State) (age : Nat) : Nat := s.now * 65536 - age

/-- A TIME_SYNC on the timing lane: a follower keeps it and sends a Request (R260, R261). Log entry 33 (DEDUCED). -/
def State.timeSyncReceive (s : State) (p j age : Nat) (ws : List Word) : State :=
  if s.f F.LNK_CFG_TIME_ROLE p = 2 ∧ j = s.lowLane p then
    let t1 : Nat := (nw ws 0 * 2 ^ 32 + nw ws 1) * 65536 + nw ws 2 / 65536
    (s.setPort p { s.port p with sync := some (Int.ofNat t1, Int.ofNat (s.rxTime age)) }).askDelay p
  else s

/-- A Request is answered (R259). -/
def State.delayReqReceive (s : State) (p age : Nat) (ws : List Word) : State :=
  s.enqueue p { kind := .delayRsp (bits (ew ws 0) 24 8) (s.rxTime age) }

/-- `num / den` rounded to an integer; where it is no integer the spec does not say which way. Log entry 38 (DESIGN CHOICE). -/
def State.roundFree (s : State) (num den : Int) : Int × State :=
  if num % den = 0 then (num / den, s)
  else
    let r := s.fresh 0x91
    (num / den + (r.1 % 2 : Nat), r.2)

/-- Write a signed or unsigned result into a field of `w` bits; outside its range the spec states no value.
Log entry 38 (DESIGN CHOICE). -/
def State.setRange (s : State) (x : Fld) (p : Nat) (lo hi v : Int) : State :=
  if v < lo ∨ hi < v then
    let r := s.fresh 0x92
    r.2.setF x r.1 p
  else s.setF x (trunc x.w v) p

/-- The result of an exchange (R260): A in 1/65,536 tick and B in 2^−16 ns. -/
def State.delayResult (s : State) (p : Nat) (a b : Int) : State :=
  let d := s.roundFree (a * 3125 + b * 1536) 6400000
  let o := d.2.roundFree (a * 3125 - b * 1536) 6400000
  let off := o.1 - sext 16 (s.f F.LNK_TIME_ASYM_ASYM p)
  let s1 := o.2.setRange F.LNK_TIME_DELAY_DELAY p 0 (2 ^ 24 - 1) d.1
  let v := trunc 64 off
  let s2 := ((s1.setF F.LNK_TIME_OFFSET_LO_OFFSET v p).setF F.LNK_TIME_OFFSET_HI_OFFSET (v / 2 ^ 32) p).setF
    F.LNK_TIME_DELAY_VALID 1 p
  let s3 := s2.pulse (352 + p)
  if s.f F.CLK_DISC_CFG_SRC = 2 + p then s3.discMeasure off else s3

/-- The delay Request awaited is over. -/
def State.delayOver (s : State) (p : Nat) : State :=
  (s.setF F.LNK_DM_CTRL_BUSY 0 p).setPort p { s.port p with dep := none }

/-- The timestamp of a type 5 message less its compensation, in 2^−16 ns. Log entry 34 (PRESUMED). -/
def delayTime (ws : List Word) : Int :=
  let v := numOf ((List.range 5).map (ew ws))
  ((bits v 96 48 * 1000000000 + bits v 64 32) * 65536 : Nat) - sext 64 v

/-- A Response on the timing lane (R260, R261). Log entry 33 (DEDUCED). -/
def State.delayRspReceive (s : State) (p j : Nat) (ws : List Word) : State :=
  if j ≠ s.lowLane p then s
  else match (s.port p).dep with
  | some t3 =>
    if bits (ew ws 0) 24 8 = s.f F.LNK_DM_CTRL_MEAS_ID p ∧ (s.elapsed - (s.port p).depAt) * 25 ≤ us25 100 then
      let s1 := s.delayOver p
      match (s.port p).sync with
      | some (t1, t2) =>
        if s.f F.LNK_CFG_TIME_ROLE p = 2 then s1.delayResult p (t2 - t1) (delayTime ws - nsUnits t3) else s1
      | none => s1
    else s.bump F.LNK_ERR3_SEQ_GAP p
  | none => s.bump F.LNK_ERR3_SEQ_GAP p

/-- 100 µs have passed after a Request with no Response (R260). -/
def State.delayTimeout (s : State) (p : Nat) : State :=
  if (s.port p).dep.isSome ∧ us25 100 < (s.elapsed - (s.port p).depAt) * 25 then s.delayOver p else s

/-- DELAY_RESPONSE_TIMEOUT (R260). -/
def execDelayResponseTimeout (p : Fin 4) (s : State) : Out := .next (s.core (s.delayTimeout p))

/-! ### A packet arrives -/

/-- A packet that has passed checks 1 to 4. -/
def State.accept (s : State) (p j age : Nat) (k : InKind) (ws : List Word) : State :=
  match k with
  | .iq => s.iqReceive p age ws
  | .rtc => s.rtcReceive p ws
  | .beamWrite => s.beamReceive p ws
  | .mgmtReq => s.mgmtReceive p ws
  | .timeSync => s.timeSyncReceive p j age ws
  | .delayReq => s.delayReqReceive p age ws
  | .remoteReq => s.askDelay p
  | .delayRsp => s.delayRspReceive p j ws
  | .unsupported => s

/-- The length of a packet is its header's: a packet of another length was cut short (R270). KIND 2 and 3 give none.
Log entry 36 (DEDUCED). -/
def lengthOk (ws : List Word) : Bool :=
  match bits (pw ws 0) 28 2 with
  | 0 => bits (pw ws 1) 0 16 + 12 == 4 * ws.length
  | 1 => bits (pw ws 1) 0 16 + 16 == 4 * ws.length
  | _ => true

/-- Checks 1 to 4 of R262, then the packet's own effect. Log entry 36 (DEDUCED). -/
def State.packetIn (s : State) (l age : Nat) (ws : List Word) : State :=
  let p := l / 4
  let k := inKind ws
  if ws.length < 3 ∨ lengthOk ws = false ∨ pw ws (ws.length - 1) ≠ lineCrc ws.dropLast then (s.bump F.LNK_ERR0_CRC p).noteOnce p 0x1F p
  else if k = .unsupported then s.refusePkt p F.LNK_ERR0_UNSUPPORTED
  else if s.on F.LNK_CFG_TAG_CHECK p ∧ bits (pw ws 0) 0 16 ≠ s.f F.LNK_TAG_RX_TAG p then s.refusePkt p F.LNK_ERR3_TAG
  else if !s.shapeOk p k ws then s.refusePkt p F.LNK_ERR1_MALFORMED
  else (s.seqSeen p k ws).accept p (l % 4) age k ws

/-- A packet of a kind arrives whole on lane `l`: only a ready lane of an enabled port passes it on (R228, R263). -/
def State.receive (s : State) (k : InKind) (l age : Nat) (ws : List Word) : State :=
  if inKind ws = k ∧ s.on F.LNK_CFG_EN (l / 4) ∧ s.ready? l then s.packetIn l age ws else s

/-- IQ_DATA_RECEIVE (R244). -/
def execIqDataReceive (l : Fin 16) (age : Nat) (ws : List Word) (s : State) : Out := .next (s.core (s.receive .iq l age ws))
/-- REAL_TIME_CONTROL_RECEIVE (R249). -/
def execRealTimeControlReceive (l : Fin 16) (age : Nat) (ws : List Word) (s : State) : Out :=
  .next (s.core (s.receive .rtc l age ws))
/-- BEAM_WRITE_RECEIVE (R250). -/
def execBeamWriteReceive (l : Fin 16) (age : Nat) (ws : List Word) (s : State) : Out :=
  .next (s.core (s.receive .beamWrite l age ws))
/-- MGMT_REQ_RECEIVE (R252). -/
def execMgmtReqReceive (l : Fin 16) (age : Nat) (ws : List Word) (s : State) : Out :=
  .next (s.core (s.receive .mgmtReq l age ws))
/-- TIME_SYNC_RECEIVE (R260). -/
def execTimeSyncReceive (l : Fin 16) (age : Nat) (ws : List Word) (s : State) : Out :=
  .next (s.core (s.receive .timeSync l age ws))
/-- DELAY_REQUEST_RECEIVE (R259). -/
def execDelayRequestReceive (l : Fin 16) (age : Nat) (ws : List Word) (s : State) : Out :=
  .next (s.core (s.receive .delayReq l age ws))
/-- REMOTE_REQUEST_RECEIVE (R259). -/
def execRemoteRequestReceive (l : Fin 16) (age : Nat) (ws : List Word) (s : State) : Out :=
  .next (s.core (s.receive .remoteReq l age ws))
/-- DELAY_RESPONSE_RECEIVE (R260). -/
def execDelayResponseReceive (l : Fin 16) (age : Nat) (ws : List Word) (s : State) : Out :=
  .next (s.core (s.receive .delayRsp l age ws))
/-- UNSUPPORTED_PACKET_RECEIVE (R262). -/
def execUnsupportedPacketReceive (l : Fin 16) (age : Nat) (ws : List Word) (s : State) : Out :=
  .next (s.core (s.receive .unsupported l age ws))

end Sys2Proof.Machine
end

