-- ==== Sys2Proof/Machine/Power.lean ====
section
/-!
DEFINITION. Sys2Proof/Machine/Power.lean: WFI, the entry checks, the point of no return, retention and the wake (R404 to
R425).
-/
namespace Sys2Proof.Machine

/-! ### PWR.MODE and WFI (R407 to R409) -/

/-- The wake sources that act in Dusk and in Dark (R420). -/
def duskSources : Nat := 0x3F
def darkSources : Nat := 0x33

/-- A write of PWR.MODE: a state that no armed source could leave is not taken (R407). -/
def State.modeWrite (s : State) (v : Nat) : State :=
  let m := bits v 0 2
  let armed := s.f F.PWR_WAKE_EN_EN
  if (m = 2 ∧ Nat.land armed duskSources = 0) ∨ (m = 3 ∧ Nat.land armed darkSources = 0) then s.discarded (regAddr .PWR_MODE)
  else s.writeReg .PWR_MODE v

/-- POWER_MODE_WRITE (R407). -/
def execPowerModeWrite (w : Word) (s : State) : Out := s.regCmd (regAddr .PWR_MODE) (s.modeWrite w.toNat)

/-- CLK_LANT, as MHz and a divisor (R380). -/
def State.lantClk (s : State) : Nat × Nat := if s.f F.PWR_PERF_IN_EFFECT = 0 then (1000, 1) else (3600, s.coreDiv)

/-- 1/25 ticks in `n` cycles of a clock given as MHz and a divisor, rounded up. Log entry 8 (DESIGN CHOICE). -/
def cyc25 (n : Nat) (c : Nat × Nat) : Nat := cdiv (n * 12288 * c.2) c.1

/-- Time since the entry check in hand began, in 1/25 tick. -/
def State.checkAge (s : State) : Nat := (s.elapsed - s.power.at_) * 25

/-- Check `n` has passed and the next begins now. -/
def State.passTo (s : State) (n : Nat) : State := { s with power := { s.power with passed := n, at_ := s.elapsed } }

/-- Lantern's clock is gated: Dim (R408).  A presentation that has arrived meanwhile refuses the entry. -/
def State.dimTry (s : State) : State :=
  if s.power.entry = 1 ∧ s.lanternBusy = false then
    if s.on F.EVC_TGT_STATUS_PRESENTED 0 then s.refuseEntry 1 0x3F
    else { s with power := { s.power with entry := 0, st := .dim, wfi := true } }.modSlow
  else s

/-- Some IQ or capture flow stands in the way of state `m` (R409, check 4): the lowest. -/
def State.flowInWay (s : State) (m : Nat) : Option Nat :=
  (List.range 512).find? (fun f => (s.isIq f || s.fType f == 4) &&
    (if m = 2 then s.fState f == 2 || s.fState f == 4 else s.fState f != 0))

/-- Checks 1 to 5 of R409 for state `m`: the refuser code and sub-identifier of the first that fails. -/
def State.firstChecks (s : State) (m : Nat) : Option (Nat × Nat) :=
  if !s.avsSettled || s.on F.PWR_PERF_BUSY then some (8, 0)
  else match (List.range 16).find? (fun t => s.f F.RFC_TILE_STATE_TILE t != 0) with
    | some t => some (5, t)
    | none =>
      match s.flowInWay m with
      | some f => some (7, s.fTl f)
      | none =>
        ((List.range 16).find? (fun n => (s.eng n).job.isSome || (s.eng n).queue != [] || (s.eng n).set_ != 0)).map
          (fun n => (6, n))

/-- The quiesce: channels that run no descriptor hold at once (R350). -/
def State.dmaHold (s : State) : State :=
  (List.range 32).foldl (fun s c =>
    let x := s.dmaC c
    if x.desc.isNone && !s.on F.DMA_CH_STATUS_STOPPED c && (x.queue != [] || x.next.isSome) then
      (s.setDma c { x with held := true }).dmaStopped c 2 (x.next.getD 0)
    else s) s

/-- WFI (R407 to R409). Log entry 61 (DEDUCED). -/
def State.wfiGo (s : State) : State :=
  let m := s.f F.PWR_MODE_MODE
  let s1 : State := { s with power := { s.power with entry := m, passed := 0, at_ := s.elapsed, wfi := true } }
  if s.power.entry ≠ 0 ∨ s.power.st ≠ .bright ∨ s.boot.lanternHeld then s
  else if m = 0 then
    if s.on F.EVC_TGT_STATUS_PRESENTED 0 then s else { s with power := { s.power with wfi := true } }
  else if m = 1 then
    if s.on F.EVC_TGT_STATUS_PRESENTED 0 then s1.refuseEntry 1 0x3F else s1.dimTry
  else match s1.firstChecks m with
    | some c => s1.refuseEntry c.1 c.2
    | none => (s1.passTo 5).dmaHold

/-- WFI (R409). Log entry 67 (DESIGN CHOICE). -/
def execWfi (s : State) : Out := .next (s.core s.wfiGo)

/-! ### Checks 6 to 8 (R409) -/

/-- The lowest busy DMA channel. -/
def State.dmaBusy (s : State) : Option Nat := (List.range 32).find? (fun c => (s.dmaC c).desc.isSome)

/-- A lane of an enabled port that its width uses is not ready (Dusk). -/
def State.laneNotReady (s : State) (p : Nat) : Bool :=
  s.on F.LNK_CFG_EN p && (List.range (s.width p)).any (fun j => !s.ready? (4 * p + j))

/-- Port `p` has not gone idle for the entry in hand: Dusk asks every ready lane of an enabled port for transmit low-power
idle, Dark asks for an empty outbound queue. -/
def State.portBusy (s : State) (p : Nat) : Bool :=
  if s.power.entry = 2 then s.on F.LNK_CFG_EN p && (List.range 4).any (fun j => s.ready? (4 * p + j) && !s.txLpi (4 * p + j))
  else (s.port p).outq != []

/-- The entry in hand moves on to check 8 as its conditions are met; a lane that is not ready fails check 7 at once.
Log entry 61 (DEDUCED). -/
def State.entryPoll (s : State) : State :=
  let s1 := if 2 ≤ s.power.entry ∧ s.power.passed = 5 ∧ s.dmaBusy = none then s.passTo 6 else s
  if 2 ≤ s1.power.entry ∧ s1.power.passed = 6 then
    match if s1.power.entry = 2 then (List.range 4).find? s1.laneNotReady else none with
    | some p => s1.refuseEntry 4 p
    | none => if (List.range 4).any s1.portBusy then s1 else s1.passTo 7
  else s1

/-- A DMA channel is still busy 50 µs after the quiesce (R350). -/
def State.dmaTimeout (s : State) : State :=
  let s1 := s.entryPoll
  match s1.dmaBusy with
  | some c => if 2 ≤ s1.power.entry ∧ s1.power.passed = 5 ∧ us25 50 ≤ s1.checkAge then s1.refuseEntry 3 c else s1
  | none => s1

/-- DMA_QUIESCE_TIMEOUT (R350). -/
def execDmaQuiesceTimeout (s : State) : Out := .next (s.core s.dmaTimeout)

/-- A port has not gone idle within 20 µs (R409, check 7). -/
def State.linkTimeout (s : State) : State :=
  let s1 := s.entryPoll
  match (List.range 4).find? s1.portBusy with
  | some p => if 2 ≤ s1.power.entry ∧ s1.power.passed = 6 ∧ us25 20 ≤ s1.checkAge then s1.refuseEntry 4 p else s1
  | none => s1

/-- LINK_IDLE_TIMEOUT (R409). -/
def execLinkIdleTimeout (s : State) : Out := .next (s.core s.linkTimeout)

/-- The clock of the block of identifier `b` (R426), as MHz and a divisor. -/
def State.blockClk (s : State) (b : Nat) : Nat × Nat :=
  if b = 0xFF then s.lantClk else if b = 0xC0 then (3600, s.coreDiv) else (1000, 1)

/-- Block `b` has not acknowledged bus idle within 256 cycles of its clock (R408, R409): Lantern at an entry to Dim. -/
def State.busTimeout (s : State) (b : Nat) : State :=
  let s1 := s.entryPoll
  if s1.power.entry = 1 then (if cyc25 256 s1.lantClk ≤ s1.checkAge then s1.refuseEntry 2 0xFF else s1)
  else if 2 ≤ s1.power.entry ∧ s1.power.passed = 7 ∧ cyc25 256 (s1.blockClk b) ≤ s1.checkAge then s1.refuseEntry 2 b
  else s1

/-- BUS_IDLE_TIMEOUT (R408). -/
def execBusIdleTimeout (b : Fin 256) (s : State) : Out := .next (s.core (s.busTimeout b))

/-! ### Retention (R413 to R417) -/

/-- The address of retention bank `b`. -/
def bankBase (b : Nat) : Nat := 0x30000000 + b * 0x1000

/-- The banks saved at an entry to Dusk (0 to 8) or Dark (0 to 7, 9 to 11), with the firmware banks 12 to 14. -/
def banksOf (m : Nat) : Nat := if m = 2 then 0x71FF else 0x7EFF

/-- The bank that holds the register at `a` (R415, R469). -/
def bankAt (a : Nat) : Option Nat :=
  if within a 0x40000200 0x40 || within a 0x40010000 0x10000 || within a 0x40070000 0x10000 then some 0
  else if within a 0x40400000 0x10000 then some 1
  else if within a 0x41000000 0x40000 then some (2 + (a - 0x41000000) / 0x20000)
  else if within a 0x41080000 0x40000 then some (4 + (a - 0x41080000) / 0x20000)
  else if within a 0x40300000 0x1000 || within a 0x41200000 0x10000 || within a 0x41100000 0x8000 || within a 0x41300000 0x10000 then some 6
  else if within a 0x40100000 0x40000 || within a 0x40060000 0x10000 || within a 0x40040000 0x10000 || a = 0x40050010 ||
      (within a 0x41400000 0x10000 && (a % 0x1000 = 0 || a % 0x1000 = 0x14)) then some 7
  else if within a 0x40030000 0x10000 || within a 0x40080004 8 then some 8
  else none

/-- A register array held in SRAM (R415): kept in Dusk, lost in Dark. -/
def arrayAt (a : Nat) : Bool :=
  within a 0x40200000 0x10000 || within a 0x40301000 0x3000 || within a 0x40031000 0x3000 || within a 0x40060400 0x1000 ||
  ((within a 0x41000000 0x40000 || within a 0x41080000 0x40000) && decide (0x400 ≤ a % 0x1000) && decide (a % 0x1000 < 0x800))

/-- The register keeps its contents without a bank: the always-on domain and the SYS registers of start-up. -/
def keptAt (a : Nat) : Bool := alwaysOn a || within a 0x40000000 0x200

/-- A field's stored content is restored from its bank: all of it, but only RW fields of the paths (R415); after Dark
only RW fields of ports, lanes, placement and engines, whose hardware starts again. Log entry 73 (DEDUCED). -/
def restores (dark : Bool) (k : Nat) : Bool :=
  let rw := (fldOfKey k).any (fun x => x.acc == .rw)
  let a := k / 32
  match bankAt a with
  | some b => if 2 ≤ b ∧ b ≤ 5 then rw else if b = 7 ∧ dark ∧ !within a 0x40040000 0x10000 then rw else true
  | none => false

/-- The register contents after a wake: what is kept, and what a good bank restores; the rest reads its reset value. -/
def State.wakeRegs (s : State) (dark : Bool) (good : Nat → Bool) : SMap Nat :=
  SMap.drop (fun k =>
    let a := k / 32
    !(keptAt a || (if arrayAt a then !dark else (bankAt a).any good && restores dark k))) s.regs

/-- The words of the flow record (R415): four per flow, then LAYER_CFG. -/
def State.flowRecord (s : State) : List Nat :=
  (List.range 512).flatMap (fun f => [s.rawRead (descOf .FLW_CTRL) f 0 0, s.rawRead (descOf .FLW_PIN) f 0 0,
    s.rawRead (descOf .FLW_DEMAND) f 0 0, s.rawRead (descOf .FLW_LIMITS) f 0 0]) ++
  (List.range 512).map (fun f => s.rawRead (descOf .PRISM_LAYER_CFG) f 0 0)

/-- The address of word `i` of the flow record, which passes over the CRC word of each bank. -/
def recordAddr (i : Nat) : Nat := bankBase (9 + i / 1023) + i % 1023 * 4

/-- Write the flow record, padded with zeros to the end of bank 11. -/
def State.saveRecord (s : State) : State :=
  ((s.flowRecord ++ List.replicate 509 0).zipIdx).foldl (fun (s : State) (e : Nat × Nat) => s.wr32 (recordAddr e.2) e.1) s

/-- The CRC of a bank's bytes. -/
def State.bankCrc (s : State) (b : Nat) : Nat := crc32 (s.readBytes (bankBase b) 4092)

/-- A bank's CRC holds. -/
def State.bankGood (s : State) (b : Nat) : Bool := s.bankCrc b == s.rd32 (bankBase b + 4092)

/-- Save bank `b`: how registers lie in banks 0 to 8 is not given, so their bytes are free. Log entry 61 (DEDUCED). -/
def State.saveBank (s : State) (b : Nat) : State :=
  let s1 := if b ≤ 8 then
      { s.writeBytes (bankBase b) ((List.range 4092).map (fun i => Config.freeByte s.free (b * 4096 + i))) with free := s.free + 1 }
    else s
  s1.wr32 (bankBase b + 4092) (s1.bankCrc b)

/-! ### The point of no return (R409, R411) -/

/-- Memory that Dark loses: all but retention SRAM and the MRAM store (R404). Log entry 5 (DESIGN CHOICE). -/
def lostInDark (a : Nat) : Bool := !(within a 0x30000000 0x10000 || within a 0x31000000 0x100000)

/-- The power switches open: caches flushed and lost, banks saved, and for Dark device time stored, VDD_CORE lowered and
the memories lost. -/
def State.sleep (s : State) : State :=
  let m := s.power.entry
  let s1 := s.dflushAll.commitIf (fun _ => true)
  let s2 := (List.range 16).foldl (fun s b => if bit (banksOf m) b then s.saveBank b else s)
    (if m = 3 then s1.saveRecord else s1)
  let s3 := if m = 3 then
      let s3 : State := { s2 with mem := SMap.drop lostInDark s2.mem }
      if s3.avsDriven then s3.setF F.PWR_AVS_STATUS_VOLT_MV 600 else s3
    else s2
  let s4 : State := { s3 with
    fab := { s3.fab with icache := [], rsp := [], hold := [] }
    power := { s3.power with
      entry := 0
      passed := 0
      st := if m = 2 then .dusk else .dark
      alertEntry := s.alertLow
      latched := 0
      waking := false
      saved := { banks := banksOf m, time := s.now, count := s.f F.PWR_TIMER_COUNT } } }
  s4.modSlow.portsSlow

/-- Every check has passed: the core domain is switched off. Log entry 61 (DEDUCED). -/
def State.switchesOpen (s : State) : State :=
  let s1 := s.entryPoll
  if 2 ≤ s1.power.entry ∧ s1.power.passed = 7 ∧ s1.fab.waiting = [] ∧ s1.fab.mramQ = [] then s1.sleep else s1

/-- POWER_SWITCHES_OPEN (R411). -/
def execPowerSwitchesOpen (s : State) : Out := .next (s.core s.switchesOpen)

/-! ### The wake (R416 to R424) -/

/-- The RZ-3220 code of the lowest latched source (R421). -/
def wakeCode (latched : Nat) : Nat :=
  match (List.range 6).find? (bit latched) with
  | some b => [1, 2, 3, 3, 4, 5].getD b 0
  | none => 0

/-- Restore one register's RW fields from a saved word. -/
def State.restoreWord (s : State) (r : RName) (f v : Nat) : State :=
  ((descOf r).flds.filter (fun x => x.acc == .rw)).foldl (fun s x => s.setF x (bits v x.lo x.w) f) s

/-- The flow contexts and LAYER_CFG come back from the good banks of the record, with LEN = 0 (R415). -/
def State.restoreFlows (s : State) (good : Nat → Bool) : State :=
  let word (r : RName) (i f : Nat) (s : State) : State :=
    if good (9 + i / 1023) then s.restoreWord r f (s.rd32 (recordAddr i)) else s
  (List.range 512).foldl (fun s f => (word .PRISM_LAYER_CFG (2048 + f) f (word .FLW_LIMITS (4 * f + 3) f
    (word .FLW_DEMAND (4 * f + 2) f (word .FLW_PIN (4 * f + 1) f (word .FLW_CTRL (4 * f) f s))))).setF
      F.PRISM_LAYER_CFG_LEN 0 f) s

/-- The blocks of the core domain after a wake from Dusk: what the chapters hold without a register goes with its bank;
sample paths, engine registers and running conversions are lost. Log entry 73 (DEDUCED). -/
def State.duskBlocks (s : State) (good : Nat → Bool) : State :=
  { s with
    rx := []
    tx := []
    engines := []
    hk := []
    pwm := []
    ptb := {}
    radio := { s.radio with synths := [], hopArmed := [], tiles := s.radio.tiles.filterMap (fun e => if e.2.parked then some (e.1, { parked := true }) else none) }
    prism := if good 6 then s.prism else {}
    mir := if good 6 then s.mir else {}
    orx := if good 6 then s.orx else []
    pairs := if good 6 then s.pairs else []
    ports := if good 7 then s.ports else []
    lanes := if good 7 then s.lanes else []
    dma := if good 7 then s.dma else []
    faults := if good 8 then s.faults else {}
    evc := if good 8 then s.evc else {} }

/-- The blocks after a wake from Dark. Log entry 73 (DEDUCED). -/
def State.darkBlocks (s : State) (good : Nat → Bool) : State :=
  { s.duskBlocks good with
    prism := {}
    mir := {}
    orx := []
    pairs := []
    flows := []
    plc := {}
    ports := []
    lanes := []
    seqs := []
    faults := {}
    evc := {}
    clk := { run := true, xtal := s.clk.xtal, lost := s.clk.lost, board := s.clk.board }
    boot := s.boot }

/-- Device time after Dark: the stored value plus 15,000 ticks for each CLK_AO period counted (R386). -/
def State.darkTime (s : State) : Nat :=
  s.power.saved.time + aoTicks * ((s.f F.PWR_TIMER_COUNT + 2 ^ 32 - s.power.saved.count) % 2 ^ 32)

/-- Every PLL is locked and the logic clocks run from them. -/
def State.allLocked (s : State) : State :=
  ((((s.setF F.CLK_STATUS_LOCK_REF 1).setF F.CLK_STATUS_LOCK_SYS 1).setF F.CLK_STATUS_LOCK_CORE 1).setF
    F.CLK_STATUS_LOCK_LPLL 15).setF F.CLK_STATUS_BYPASS 0

/-- What restarts once its registers are back: synthesisers relock, converters calibrate, generators run. -/
def State.restart (s : State) : State :=
  let s1 := (List.range 4).foldl (fun s m => if s.on F.RFC_LOS_CTRL_EN m && s.f F.RFC_LOS_STATUS_FREQ_IN_EFFECT m != 0 then
    s.relockStart m else s.setF F.RFC_LOS_STATUS_LOCKED 0 m) s
  let s2 := (List.range 2).foldl (fun s k => let t := s.setHk k {}; if s.on F.HKA_CTRL_EN k then t.hkBegin k else t) s1
  ((List.range 8).foldl (fun s n => if s.on F.PWM_CTRL_EN n then s.pwmStart n else s) s2).showDiv

/-- Paths enabled in Dusk's restored registers start again. -/
def State.pathsBack (s : State) : State :=
  (List.range 64).foldl (fun s n => if s.on F.RXP_CTRL_EN n then s.rxStart n else s)
    ((List.range 64).foldl (fun s n => if s.on F.TXP_CTRL_EN n then s.txStart n else s) s)

/-- After a wake from Dark: held enables (R418), device time (R386), a new start of the discipline and of the ports. -/
def State.darkBack (s : State) : State :=
  let s1 := ({ s with time := BitVec.ofNat 64 s.darkTime }.discRestart).clearDelays
  let s2 := ((((s1.setF F.PWR_WAKE_STATUS_HOLD 1).setF F.MIR_ROUND_BUSY 0).setF F.MIR_SOLVE_PENDING 0).setF
    F.PRISM_CORR_COMMIT_ARMED 0)
  let s3 := if s2.avsDriven then s2.setF F.PWR_AVS_STATUS_VOLT_MV (s2.targetMv (s2.f F.PWR_PERF_IN_EFFECT)) else s2
  (List.range 4).foldl (fun s p => if s.on F.LNK_CFG_EN p then s.portStart p else s) s3

/-- The wake record of R419 holds a failure: shown, recorded and cleared (R424). -/
def State.failSeen (s : State) : State :=
  let w := s.rd32 0x3000F000
  if bit w 31 then
    (((s.wr32 0x3000F000 (clrBit w 31)).setF F.PWR_WAKE_STATUS_WAKE_FAIL_SEEN 1).ledger 0x31 (bits w 16 8)).pulse 12
  else s

/-- The lines follow what was restored, and the messages that waited leave. -/
def State.linesBack (s : State) : State :=
  let s1 := (List.range 4).foldl State.ringLine s.ledgerLines
  (List.range 4).foldl (fun s p => if (s.port p).evDue && s.portReady p then s.sendEvents p 32 else s) s1

/-- The saved banks that fail their CRC, by the check and by `bad`: bits the sequencer finds wrong.
Log entry 71 (DESIGN CHOICE). -/
def State.badBanks (s : State) (bad : Nat) : Nat :=
  (List.range 16).foldl (fun m b => if bit s.power.saved.banks b && (bit bad b || !s.bankGood b) then setBit m b else m) 0

/-- A firmware bank that failed is zeroed (R416). -/
def State.zeroBanks (s : State) (m : Nat) : State :=
  [12, 13, 14].foldl (fun s b => if bit m b then
    { s with mem := SMap.drop (fun a => within a (bankBase b) 0x1000) s.mem } else s) s

/-- The register fields after a wake. -/
def State.wakeFields (s : State) (dark : Bool) (good : Nat → Bool) : State := { s with regs := s.wakeRegs dark good }

/-- The wake steps are done (R422, R423, R437). -/
def State.wake (s : State) (bad : Nat) : State :=
  let dark := s.power.st == .dark
  let m := s.badBanks bad
  let good (b : Nat) : Bool := bit s.power.saved.banks b && !bit m b && !(dark && b == 8)
  let s0 := s.zeroBanks m
  let s1 := s0.wakeFields dark good
  let s2 := (if dark then (s1.darkBlocks good).restoreFlows good else s1.duskBlocks good).allLocked
  let s3 : State := { s2 with
    fab := { mramMap := s2.fab.mramMap, mramWrites := s2.fab.mramWrites, lcAddr := s2.fab.lcAddr }
    svc := s2.svc
    boot := { s2.boot with entry := 4 * s2.f F.PWR_RESUME_ADDR, lanternHeld := false }
    power := { s2.power with st := .bright, waking := false, attempt := 0, wfi := false, alertEntry := false } }
  let s4 := (((s3.setF F.PWR_WAKE_STATUS_FROM (if dark then 3 else 2)).setF F.PWR_WAKE_STATUS_SOURCES s.power.latched).setF
    F.PWR_LAST_WAKE_SOURCE (wakeCode s.power.latched)).setF F.PWR_WAKE_STATUS_BANK_FAIL
      (Nat.lor m (s.f F.PWR_WAKE_STATUS_BANK_FAIL))
  let s5 := if m = 0 then s4 else (s4.ledger 0x30 m).pulse 11
  let s6 := if dark then s5.restart.darkBack else s5.restart.pathsBack
  ((((s6.failSeen.unsettle.dmaRelease.modFast).linesBack).afterEntry).evalTarget 0).pulse 5

/-- The wake completes (R422, R423): the sequencer has acted on the CLK_AO edge after the latch. -/
def State.wakeComplete (s : State) (bad : Nat) : State :=
  if s.asleep && s.power.waking && s.clk.xtal && decide (s.power.latchAt < s.aoPeriod) then s.wake bad else s

/-- WAKE_COMPLETE (R422). -/
def execWakeComplete (bad : Fin 65536) (s : State) : Out := .next (s.wakeComplete bad)

/-- The wake record (R419). -/
def State.wakeRecord (s : State) (step : Nat) : State :=
  let w0 := 2 ^ 31 + step * 2 ^ 16 + 3 * 2 ^ 8 + (if s.power.st = .dusk then 2 else 3)
  let s1 := s.writeWords 0x3000F000 [w0, s.f F.PWR_TIMER_COUNT, 0]
  s1.wr32 0x3000F00C (crc32 (s1.readBytes 0x3000F000 12))

/-- The limit in µs of wake step `n` from Dusk or Dark; other steps have none (R422, R423). Log entry 61 (DEDUCED). -/
def wakeLimit (dark : Bool) (n : Nat) : Option Nat :=
  if dark then (if n = 2 ∨ n = 3 then some 4000 else if n = 0 ∨ n = 4 then some 20000 else none)
  else if n = 3 then some 20000 else none

/-- The attempt in hand has lasted beyond the limit of step `n` (R424). Log entry 61 (DEDUCED). -/
def State.stepExceeded (s : State) (n : Nat) : Bool :=
  match wakeLimit (s.power.st == .dark) n with
  | some us => decide (us25 us < (s.elapsed - s.power.tryAt) * 25)
  | none => false

/-- A wake step exceeds its limit (R424): two retries, then Dark with ALERT_N low. Log entry 61 (DEDUCED). -/
def State.wakeStepTimeout (s : State) (step : Nat) : State :=
  if s.asleep && s.power.waking && s.clk.xtal && decide (s.power.latchAt < s.aoPeriod) && s.stepExceeded step then
    if s.power.attempt < 3 then { s with power := { s.power with attempt := s.power.attempt + 1, tryAt := s.elapsed } }
    else
      let s1 := s.wakeRecord step
      let dusk := s.power.st == .dusk
      { s1 with
        mem := SMap.drop lostInDark s1.mem
        power := { s1.power with
          st := .dark
          waking := false
          latched := 0
          attempt := 0
          alertHold := true
          saved := if dusk then { s1.power.saved with time := s1.now, count := s1.f F.PWR_TIMER_COUNT } else s1.power.saved } }
  else s

/-- WAKE_STEP_TIMEOUT (R424). -/
def execWakeStepTimeout (step : Fin 8) (s : State) : Out := .next (s.wakeStepTimeout step)

/-! ### Releases (R418, R424) -/

/-- A write of PLC.CFG: EN = 1 subject to R31; EN = 0 lets pending class B values take effect (R18). Log entry 11 (DEDUCED). -/
def State.plcCfgWrite (s : State) (v : Nat) : State :=
  let d := descOf .PLC_CFG
  let own := fun (c : ChClass) => s.ownerOf .PLC_CFG 0 0 c
  let r := s.applyFields d.flds (fun lo => lo == 31) 0 0 0 v own (fun c => s.enabled (own c))
  if bit v 31 then
    let ok := s.plcOn || r.1.tlOn (r.1.f F.PLC_CFG_TL)
    let s1 := if ok then r.1.setF F.PLC_CFG_EN 1 else r.1
    if r.2 || !ok then s1.discarded (d.addr 0 0 0) else s1
  else
    let s1 := (r.1.setF F.PLC_CFG_EN 0).flushShadow .plc
    if r.2 then s1.discarded (d.addr 0 0 0) else s1

/-- The hold ends: each held enable takes effect as a write of the same value would (R418). -/
def State.endHold (s : State) : State :=
  if s.held then
    let tx := idxWhere 64 (fun n => s.on F.TXP_CTRL_EN n)
    let rx := idxWhere 64 (fun n => s.on F.RXP_CTRL_EN n)
    let pr := s.on F.PRISM_CFG_EN
    let pl := s.on F.PLC_CFG_EN
    let s1 := tx.foldl (fun s n => s.setF F.TXP_CTRL_EN 0 n) (rx.foldl (fun s n => s.setF F.RXP_CTRL_EN 0 n) s)
    let s2 := (((s1.setF F.PRISM_CFG_EN 0).setF F.PLC_CFG_EN 0).setF F.PWR_WAKE_STATUS_HOLD 0)
    let s3 := tx.foldl (fun s n => s.txCtrlWrite n (Nat.lor (s.rawRead (descOf .TXP_CTRL) n 0 0) (2 ^ 31))) s2
    let s4 := rx.foldl (fun s n => s.rxCtrlWrite n (Nat.lor (s.rawRead (descOf .RXP_CTRL) n 0 0) (2 ^ 31))) s3
    let s5 := if pr then s4.prismEnableWrite (Nat.lor (s.rawRead (descOf .PRISM_CFG) 0 0 0) (2 ^ 31)) else s4
    if pl then s5.plcCfgWrite (Nat.lor (s.rawRead (descOf .PLC_CFG) 0 0 0) (2 ^ 31)) else s5
  else s

/-- A write of PWR.WAKE_STATUS: BANK_FAIL bits clear, HOLD ends the hold, WAKE_FAIL_SEEN releases ALERT_N. -/
def State.wakeStatusWrite (s : State) (v : Nat) : State :=
  let seen := s.on F.PWR_WAKE_STATUS_WAKE_FAIL_SEEN
  let s1 := s.setF F.PWR_WAKE_STATUS_BANK_FAIL
    (s.f F.PWR_WAKE_STATUS_BANK_FAIL - Nat.land (s.f F.PWR_WAKE_STATUS_BANK_FAIL) (bits v 0 16))
  let s2 := if bit v 31 && seen then
      { (s1.setF F.PWR_WAKE_STATUS_WAKE_FAIL_SEEN 0) with power := { s1.power with alertHold := false } }
    else s1
  if bit v 30 then s2.endHold else s2

/-- HOLD_RELEASE (R418). -/
def execHoldRelease (w : Word) (s : State) : Out :=
  s.regCmd (regAddr .PWR_WAKE_STATUS) (s.wakeStatusWrite (w.toNat ||| 2 ^ 30))
/-- WAKE_FAIL_ACK (R424). -/
def execWakeFailAck (w : Word) (s : State) : Out :=
  s.regCmd (regAddr .PWR_WAKE_STATUS) (s.wakeStatusWrite (w.toNat ||| 2 ^ 31))

end Sys2Proof.Machine
end

