-- ==== Sys2Proof/Machine/Fault.lean ====
section
/-!
DEFINITION. Sys2Proof/Machine/Fault.lean: fuses, seal, ledger acknowledgement, mailbox and perturbation block (R74, R454,
R455, R461, R465, R478 to R482).
-/
namespace Sys2Proof.Machine

/-! ### Fuses (R74, R461) -/

/-- Blow key fuse bit `b` (R461). -/
def State.blowKey (s : State) (b : Nat) : State :=
  if b < 512 then s.setB F.FUSE_KEY_HASH_HASH (b % 32) (b / 256) (b % 256 / 32)
  else if b = 512 then s.setF F.FUSE_KEY_CFG_REVOKE0 1
  else if b = 513 then s.setF F.FUSE_KEY_CFG_REVOKE1 1
  else s.setF F.FUSE_KEY_CFG_SECURE 1

/-- Programming of a regulatory or a key fuse ends: BUSY falls and the bit is blown. -/
def State.fuseDone (s : State) (key : Bool) : State :=
  if key then
    if s.on F.FUSE_KEY_PROG_BUSY then (s.setF F.FUSE_KEY_PROG_BUSY 0).blowKey s.radio.keyBit else s
  else if s.on F.FUSE_REG_PROG_BUSY then (s.setF F.FUSE_REG_PROG_BUSY 0).blowReg s.radio.fuseBit else s

/-- FUSE_PROGRAM_DONE (R74). -/
def execFuseProgramDone (key : Bool) (s : State) : Out := .next (s.fuseDone key)

/-- Key fuse bit `b` may be programmed (R461): the slot that verified the running image is not revoked, and after the
seal only the other slot is, on a secured device. -/
def State.keyFuseOk (s : State) (b : Nat) : Bool :=
  let secure := s.on F.FUSE_KEY_CFG_SECURE
  let slot := s.f F.SYS_BOOT_STATUS_KEY_SLOT
  decide (b ≤ 514) && !s.on F.FUSE_KEY_PROG_BUSY && !(secure && b == 512 + slot) &&
  (!s.sealed || (secure && b == 512 + (1 - slot)))

/-- A write of FUSE.KEY_PROG (R461). -/
def State.keyFuseWrite (s : State) (v : Nat) : State :=
  let s1 := s.writeReg .FUSE_KEY_PROG v
  let b := bits v 0 10
  if bit v 31 = false then s1
  else if s.keyFuseOk b then
    let s2 := (s1.setF F.FUSE_KEY_PROG_ERR 0).setF F.FUSE_KEY_PROG_BUSY 1
    { s2 with radio := { s2.radio with keyBit := b } }
  else s1.setF F.FUSE_KEY_PROG_ERR 1

/-- KEY_FUSE_PROGRAM (R461). -/
def execKeyFuseProgram (w : Word) (s : State) : Out :=
  s.regCmd (regAddr .FUSE_KEY_PROG) (s.keyFuseWrite (w.toNat ||| 2 ^ 31))

/-! ### Seal (R454, R455) -/

/-- The seal is set; a deferred seal's deadline is met. -/
def State.sealSet (s : State) : State :=
  { (s.setF F.SYS_SEAL_SEAL 1) with boot := { s.boot with sealAt := none } }

/-- A write of SYS.SEAL. -/
def State.sealWrite (s : State) (v : Nat) : State := if bit v 31 then s.sealSet else s

/-- SEAL_WRITE (R454). -/
def execSealWrite (w : Word) (s : State) : Out := s.regCmd (regAddr .SYS_SEAL) (s.sealWrite (w.toNat ||| 2 ^ 31))

/-- SEAL_MS ms after the jump with the seal deferred, the device sets it (R455). -/
def State.sealForced (s : State) : State :=
  match s.boot.sealAt with
  | some t => if t ≤ s.elapsed then (s.sealSet.setF F.SYS_SEAL_FORCED 1).ledger 0x34 0 else s
  | none => s

/-- SEAL_FORCED (R455). -/
def execSealForced (s : State) : Out := .next (s.core s.sealForced)

/-! ### Ledger and mailbox (R465, R467, R478) -/

/-- LEDGER_ACK (R465). -/
def execLedgerAck (w : Word) (s : State) : Out := s.regCmd (regAddr .FLT_ACK) (s.ackFault (bits w.toNat 0 16))

/-- A write of FLT.OVF: 1 to LOST_VALID clears it with LOST_SEV (R467). -/
def State.ovfWrite (s : State) (v : Nat) : State :=
  if bit v 31 then (s.setF F.FLT_OVF_LOST_VALID 0).setF F.FLT_OVF_LOST_SEV 0 else s

/-- Any write of FLT.MBOX_DOOR pulses the software line of MBOX_CFG.LINE. Log entry 77 (DEDUCED). -/
def State.mboxDoor (s : State) : State := s.swSet (s.f F.FLT_MBOX_CFG_LINE)

/-- MAILBOX_DOOR (R478). -/
def execMailboxDoor (_w : Word) (s : State) : Out := s.regCmd (regAddr .FLT_MBOX_DOOR) s.mboxDoor

/-! ### Perturbation block (R480 to R482) -/

/-- A write of PTB.CTRL with the word `v` (R480). Log entry 77 (DEDUCED). -/
def State.ptbCtrlWrite (s : State) (v : Nat) : State :=
  if bit v 31 then
    if bits v 16 8 = 0x3C ∧ s.on F.PTB_CTRL_EN = false then
      let s1 := ((s.setF F.PTB_CTRL_EN 1).setF F.FLT_STATUS_PTB_ON 1).ledger 0x36 v
      { s1 with ptb := { s1.ptb with gen := s.f F.PTB_SEED_SEED, since := s.elapsed } }
    else s
  else (s.setF F.PTB_CTRL_EN 0).setF F.FLT_STATUS_PTB_ON 0

/-- PTB_ENABLE (R480). -/
def execPtbEnable (w : Word) (s : State) : Out := s.regCmd (regAddr .PTB_CTRL) (s.ptbCtrlWrite (w.toNat ||| 2 ^ 31))
/-- PTB_DISABLE (R480). -/
def execPtbDisable (w : Word) (s : State) : Out := s.regCmd (regAddr .PTB_CTRL) (s.ptbCtrlWrite (w.toNat % 2 ^ 31))

/-- Back-pressure injector `i` acts. -/
def State.bpOn (s : State) (i : Nat) : Bool := s.on F.PTB_CTRL_EN && s.on F.PTB_BP_ON i

/-- A period of injector `i`, counted from EN, begins in this tick. Log entry 77 (DEDUCED). -/
def State.bpPeriod (s : State) (i : Nat) : Bool :=
  decide ((s.elapsed - s.ptb.since) * 25 % us25 (s.f F.PTB_BP_PERIOD i) < 25)

/-- A hold starts at the beginning of a period (R482). -/
def State.bpStart (s : State) (i : Nat) : State :=
  if s.bpOn i && s.bpPeriod i && s.f F.PTB_BP_HOLD i != 0 && SMap.get 0 s.ptb.holds i == 0 then
    let h := (s.el25 + 1) * 1024 + s.f F.PTB_BP_KIND i * 512 + s.f F.PTB_BP_TARGET i
    { s with ptb := { s.ptb with holds := SMap.set 0 s.ptb.holds i h } }
  else s

/-- BP_HOLD_START (R482). -/
def execBpHoldStart (b : Fin 4) (s : State) : Out := .next (s.core (s.bpStart b))

/-- A packet whose hold has ended is written, or refused as LATE once its window has closed (R245, R482). -/
def State.releasePkt (p : Nat) (s : State) (h : HeldPkt) : State :=
  if h.close < s.now then s.pktLate p h.flow else s.iqWrite h.flow h.idx h.pk h.samples

/-- The packets of port `p` that `go` lets leave the hold. -/
def State.releaseHeld (go : HeldPkt → Bool) (s : State) (p : Nat) : State :=
  let q := s.port p
  (q.held.filter go).foldl (State.releasePkt p) (s.setPort p { q with held := q.held.filter (fun h => !go h) })

/-- A hold has run its time; a HOLD not below PERIOD holds without release while the injector acts (R482). -/
def State.bpOver (s : State) (i : Nat) : Bool :=
  let h := SMap.get 0 s.ptb.holds i
  h != 0 && decide (h / 1024 - 1 + us25 (s.f F.PTB_BP_HOLD i) ≤ s.el25) &&
  !(s.bpOn i && decide (s.f F.PTB_BP_PERIOD i ≤ s.f F.PTB_BP_HOLD i))

/-- A hold ends, and the packets no other hold keeps are released (R482). -/
def State.bpEnd (s : State) (i : Nat) : State :=
  if s.bpOver i then
    let s1 : State := { s with ptb := { s.ptb with holds := SMap.set 0 s.ptb.holds i 0 } }
    (List.range 4).foldl (State.releaseHeld (fun h => !s1.bpHeld 1 h.flow)) s1
  else s

/-- BP_HOLD_END (R482). -/
def execBpHoldEnd (b : Fin 4) (s : State) : Out := .next (s.core (s.bpEnd b))

/-- Held packets whose window has closed are refused (R482). -/
def State.heldLate (s : State) : State :=
  (List.range 4).foldl (State.releaseHeld (fun h => decide (h.close < s.now))) s

end Sys2Proof.Machine
end

