-- ==== Sys2Proof/Machine/Reset.lean ====
section
/-!
DEFINITION. Sys2Proof/Machine/Reset.lean: the resets of the whole device (R338, R438 to R440, R495, R496).
-/
namespace Sys2Proof.Machine

/-- The key of a field that fuses hold: it survives every reset (R440). Log entry 6 (DESIGN CHOICE). -/
def fuseKey (k : Nat) : Bool :=
  let a := k / 32
  (within a 0x400A0100 0x100 && k % 32 == 0) || within a 0x400A0200 0x20 || a == 0x400A0304 || within a 0x400A0500 0x44 ||
  within a 0x400A0600 0x100

/-- The register fields that survive: fuses, and PWR.TIMER but for a power-on reset (R440). -/
def keptField (power : Bool) (k : Nat) : Bool := fuseKey k || (!power && k == F.PWR_TIMER_COUNT.key 0 0 0)

/-- The memory that survives: the MRAM store, and the retention SRAM but for a power-on reset (R440). -/
def keptByte (power : Bool) (a : Nat) : Bool := within a 0x31000000 0x100000 || (!power && within a 0x30000000 0x10000)

/-- A loss of power leaves the MRAM word being written undefined (R338). Log entry 53 (DESIGN CHOICE). -/
def State.cutWord (s : State) : State :=
  match s.fab.mramQ.find? (fun r => r.kind == 1) with
  | some r =>
    let a := r.addr / 8 * 8
    { s.writeBytes a ((List.range 8).map (fun i => Config.freeByte s.free (a + i))) with free := s.free + 1 }
  | none => s

/-- A page move that a reset cuts short is found done or not done: the store reads the same either way (R338).
Log entry 53 (DESIGN CHOICE). -/
def Fabric.moveCut (x : Fabric) (done : Bool) : SMap Nat :=
  match x.mramMove with
  | some m => if done then SMap.insert x.mramMap m.1 (m.2 + 1) else x.mramMap
  | none => x.mramMap

/-- The device right after a reset of the whole device: reset values everywhere but for what R440 keeps.  The other
memories are undefined then and read as memory that nothing has written (assumption log). Log entry 5 (DESIGN CHOICE). -/
def State.cleared (s : State) (power : Bool) : State :=
  let s1 := if power then s.cutWord else s
  { State.reset with
    elapsed := s1.elapsed
    free := s1.free + 1
    pending := s1.pending
    regs := SMap.drop (fun k => !keptField power k) s1.regs
    mem := SMap.drop (fun a => !keptByte power a) s1.mem
    fab := { State.reset.fab with
      mramMap := s1.fab.moveCut (Config.choice 0x40 s1.free % 2 == 1)
      mramWrites := s1.fab.mramWrites }
    power := { State.reset.power with matched := !power && s1.power.matched }
    clk := { State.reset.clk with xtal := power || s1.clk.xtal, board := s1.clk.board }
    boot := { State.reset.boot with por := s1.boot.por, pin := s1.boot.pin } }

/-- A reset of the whole device with its cause (R438). Log entry 7 (DESIGN CHOICE). -/
def State.wholeReset (s : State) (cause : Nat) (power : Bool) : State :=
  (s.cleared power).setF F.SYS_BOOT_STATUS_CAUSE cause

/-- VDD_AO rises through its threshold and releases the power-on reset, or falls and asserts it (R495). -/
def State.powerOn (s : State) (release : Bool) : State :=
  let s1 := s.wholeReset 1 true
  { s1 with boot := { s1.boot with por := !release } }

/-- POWER_ON_RESET (R495). -/
def execPowerOnReset (release : Bool) (s : State) : Out := .next (s.powerOn release)

/-- RESET_N held low for at least 1 µs, or released (R438, R439).  While the power-on reset is asserted the pin adds
nothing, and the cause stays that of the power-on reset. -/
def State.pinReset (s : State) (release : Bool) : State :=
  if release then { s with boot := { s.boot with pin := false } }
  else if s.boot.por then { s with boot := { s.boot with pin := true } }
  else
    let s1 := s.wholeReset 2 false
    { s1 with boot := { s1.boot with pin := true } }

/-- PIN_RESET (R439). -/
def execPinReset (release : Bool) (s : State) : Out := .next (s.pinReset release)

/-- The cause a software reset leaves: REASON, where 0 to 2 are replaced by 3 (R438). -/
def reasonOf (v : Nat) : Nat := max 3 (bits v 4 4)

/-- A write of SYS.RESET_CTRL asks for a reset, which takes hold within 2 µs (R438). Log entry 62 (DEDUCED). -/
def State.resetAsk (s : State) (v : Nat) : State :=
  if bits v 24 8 = 0xA5 ∧ bit v 0 ∧ s.boot.resetAt = none then
    { s with boot := { s.boot with resetAt := some (s.elapsed, reasonOf v) } }
  else s

/-- A software reset asked for takes hold. Log entry 62 (DEDUCED). -/
def State.resetDue (s : State) : State :=
  match s.boot.resetAt with
  | some r => s.wholeReset r.2 false
  | none => s

/-- A write of SYS.RESET_CTRL whose reset, if it asks for one, takes hold at once (R438). Log entry 62 (DEDUCED). -/
def execSoftwareReset (w : Word) (s : State) : Out := s.regCmd (regAddr .SYS_RESET_CTRL) (s.resetAsk w.toNat).resetDue

end Sys2Proof.Machine
end

