-- ==== Sys2Proof/Machine/Bus.lean ====
section
/-!
DEFINITION. Sys2Proof/Machine/Bus.lean: what a read or a write of a register does: the step of its own that a field has,
or the field rules (R9 to R20), the status that reads show, and the holding registers of 64-bit pairs (R7, R398).
Initiators are given by the numbers of R323, DMA channels as readers by 32 + c.
-/
namespace Sys2Proof.Machine

/-! ### Writes -/

/-- A write of SYS.TL_CFG[k] (R30, R31): EN = 0 is discarded while a block follows the timeline. Log entry 11 (DEDUCED). -/
def State.tlCfgWrite (s : State) (k v : Nat) : State :=
  let d := descOf .SYS_TL_CFG
  let r := s.applyFields d.flds (fun lo => lo == 31) k 0 0 v (fun _ => .timeline k) (fun _ => s.tlOn k)
  if bit v 31 then
    let s1 := r.1.setF F.SYS_TL_CFG_EN 1 k
    if r.2 then s1.discarded (d.addr k 0 0) else s1
  else if s.followed k then r.1.discarded (d.addr k 0 0)
  else
    let s1 := r.1.setF F.SYS_TL_CFG_EN 0 k
    if r.2 then s1.discarded (d.addr k 0 0) else s1

/-- TIMELINE_ENABLE_WRITE (R31). -/
def execTimelineEnableWrite (k : Fin 4) (w : Word) (s : State) : Out := s.regCmd (regAddr .SYS_TL_CFG k) (s.tlCfgWrite k w.toNat)

/-- A write of RFC.RX_ATT of path n: the manual attenuation of a disabled path takes effect at once (R18, R93).
Log entry 16 (DEDUCED). -/
def State.rxAttWrite (s : State) (t i v : Nat) : State :=
  let s1 := s.writeReg .RFC_RX_ATT v t i
  if s1.rxOn (4 * t + i) then s1 else s1.manualAtt (4 * t + i)

/-- The writes of the radio's registers that are steps of their own; none for a register whose fields the plain rules
cover. -/
def State.radioWrite (s : State) (r : RName) (i j k v : Nat) : Option State :=
  match r with
  | .SYS_TL_CFG => some (s.tlCfgWrite i v)
  | .RFC_LOS_FREQ => some (s.loFrequencyWrite i v)
  | .RFC_LOS_CTRL => some (s.synthEnableWrite i v)
  | .RFC_LOP_CTRL => some (s.hopArm i v)
  | .RFC_TILE_CTRL => some (if bit v 31 then s.tileEnable i v else s.tileDisable i v)
  | .RFC_TILE_CAL => some (s.calRequest i v)
  | .RFC_RX_ATT => some (s.rxAttWrite i j v)
  | .FUSE_REG_PROG => some (s.fuseProgram v)
  | .RXP_CTRL => some (s.rxCtrlWrite i v)
  | .RXP_CFIR_CTRL => some (s.rxCfirCtrlWrite i v)
  | .RXP_DDC => some (s.rxDdcWrite i j v)
  | .RXP_CFIR_COEF => some (s.cfirWrite false i j k v)
  | .TXP_CTRL => some (s.txCtrlWrite i v)
  | .TXP_CFIR_CTRL => some (s.txCfirCtrlWrite i v)
  | .TXP_CFIR_COEF => some (s.cfirWrite true i j k v)
  | .PRISM_CFG => some (s.prismEnableWrite v)
  | .PRISM_CORR_COMMIT => some (s.corrCommitArm v)
  | .PRISM_CORR_PEND => some (s.corrPendWrite i j v)
  | .PRISM_CAR => some (s.carWrite i j v)
  | .PRISM_LAYER_CFG => some (s.layerEnableWrite i v)
  | .TXP_DPD_UPDATE => some (s.dpdGo i v)
  | .TXP_DPD_STATUS => some (s.dpdBypassEndRequest i v)
  | .TXP_DPD_STALE => some (s.dpdUnfreeze i v)
  | .ORX_CTRL => some (s.orxCtrlWrite i v)
  | .ORX_REQ => some (s.orxRequest i v)
  | .MIR_CFG => some (s.mirEnableWrite v)
  | .MIR_ROUND => some (s.mirStartWrite v)
  | .MIR_SOLVE => some (s.mirSolve v)
  | _ => none

/-- The writes of flow, link and engine registers that are steps of their own. -/
def State.linkWrite (s : State) (r : RName) (i j k v : Nat) : Option State :=
  match r with
  | .FLW_CTRL => some (s.flowCtrlWrite i v)
  | .PLC_CFG => some (s.plcCfgWrite v)
  | .PLC_EPOCH => some (if bit v 31 then s.epochTrigger else s)
  | .PLC_PATTERN => some (s.patternWrite i j k v)
  | .LNK_CFG => some (s.portCfgWrite i v)
  | .LNK_MGMT_RING => some (s.ringWrite i v)
  | .LNK_MGMT_POST => some (s.mgmtPostWrite i v)
  | .LNK_CAP_POST => some (s.capPostWrite i v)
  | .LNK_DM_CTRL => some (s.dmCtrlWrite i v)
  | .LANE_CTRL => some (s.laneCtrlWrite (4 * i + j) v)
  | .LANE_DFE_TAP => some (s.dfeTapWrite (4 * i + j) k v)
  | .LANE_PRBS_CTRL => some (s.prbsCtrlWrite (4 * i + j) v)
  | .LANE_INJECT => some (s.injectWrite (4 * i + j) v)
  | .LANE_EYE_CTRL => some (s.eyeCtrlWrite (4 * i + j) v)
  | .SE_CTRL => some (s.seCtrlWrite i v)
  | .SE_STATUS => some (s.seStatusWrite i v)
  | .SE_POST => some (s.sePostWrite i v)
  | _ => none

/-- The writes of the system's registers that are steps of their own, by initiator number `ini`. -/
def State.sysWrite (s : State) (ini : Nat) (r : RName) (i j v : Nat) : Option State :=
  match r with
  | .PWR_AVS_CFG => some (s.avsCfgWrite v)
  | .DMA_CH_DOORBELL => some (s.doorbellWrite i v)
  | .DMA_CH_CTRL => some (s.chCtrlWrite i v)
  | .EVC_CTRL => some (s.gdisWrite v)
  | .EVC_SWSET => some (s.swSet (bits v 0 10))
  | .EVC_ALERT_CLR => some (s.alertClear (bits v 0 10))
  | .EVC_COMPLETE => some (s.complete 0 (bits v 0 10))
  | .EVC_TGT_CFG => some (s.tgtWrite i v)
  | .EVC_PRIO => some (s.prioWrite i v)
  | .EVC_EN => some (s.evEnWrite i j v)
  | .HKA_CTRL => some (s.hkaCtrlWrite i v)
  | .PWM_CTRL => some (s.pwmCtrlWrite i v)
  | .CLK_CORE_CFG => some (s.coreCfgWrite v)
  | .CLK_CLKOUT_CFG => some (s.clkoutWrite v)
  | .CLK_SYNC_CFG => some (s.syncCfgWrite v)
  | .CLK_DISC_CFG => some (s.discCfgWrite v)
  | .PWR_MODE => some (s.modeWrite v)
  | .PWR_WAKE_STATUS => some (s.wakeStatusWrite v)
  | .PWR_PERF => some (s.perfWrite v)
  | .SYS_SEAL => some (s.sealWrite v)
  | .SYS_RESET_CTRL => some (s.resetAsk v)
  | .FUSE_KEY_PROG => some (s.keyFuseWrite v)
  | .FLT_OVF => some (s.ovfWrite v)
  | .FLT_ACK => some (s.ackFault (bits v 0 16))
  | .FLT_DOM_RESET => some (s.domResetWrite v ini)
  | .FLT_MBOX_DOOR => some s.mboxDoor
  | .PTB_CTRL => some (s.ptbCtrlWrite v)
  | _ => none

/-- A write of `v` to the register at the native address `a` by initiator number `ini`; no register ignores it (R14). -/
def State.regWrite (s : State) (ini a v : Nat) : State :=
  match findReg a with
  | none => s
  | some (d, i, j, k) =>
    ((s.radioWrite d.name i j k v).orElse (fun _ => (s.linkWrite d.name i j k v).orElse (fun _ =>
      s.sysWrite ini d.name i j v))).getD (s.writePlain d i j k v)

/-! ### Reads -/

/-- Device time as a read sees it: the tick in progress or one of the two before it (R387). Log entry 58 (DESIGN CHOICE). -/
def State.readTime (s : State) : Nat := s.now - Config.timeLag s.free % 3

/-- The entry a FLT.OLDEST or FLT.SLOT window shows. -/
def entryWord (e : Option LedgerEntry) (w : Nat) : Nat := (e.map (fun x => x.word w)).getD 0

/-- What a read of register `r` makes of the state before it: adaptation and pattern counters show themselves. -/
def State.settle (s : State) (r : RName) (i j : Nat) : State :=
  match r with
  | .LANE_CTRL | .LANE_DFE_TAP => s.adaptRead (4 * i + j)
  | .LANE_PRBS_BITS_LO => s.prbsLatch (4 * i + j)
  | .CLK_TIME_LO | .CLK_TIME_HI =>
    let t := s.readTime
    { ((s.setF F.CLK_TIME_LO_TIME t).setF F.CLK_TIME_HI_TIME (t / 2 ^ 32)) with free := s.free + 1 }
  | .SYS_TL_STATUS =>
    (s.setF F.SYS_TL_STATUS_FRAME (if s.tlOn i then s.frameNo i s.now else 0) i).setF F.SYS_TL_STATUS_SYMBOL
      (if s.tlOn i then s.symNo i s.now else 0) i
  | .RFC_TILE_STATE => s.setF F.RFC_TILE_STATE_LO_LOCKED (s.f F.RFC_LOS_STATUS_LOCKED (s.tileSynth i)) i
  | .EVC_TGT_STATUS => s.setF F.EVC_TGT_STATUS_DELIVERABLE (min 255 (s.deliverable i).length) i
  | .LNK_EVT_STATUS => s.setF F.LNK_EVT_STATUS_PENDING (s.linkPending i).length i
  | .FLT_STATUS =>
    (s.setF F.FLT_STATUS_COUNT s.faults.entries.length).setF F.FLT_STATUS_PEND
      ((List.range 4).foldl (fun m v => if s.hasSev v then m + 2 ^ v else m) 0)
  | .FLT_OLDEST => s.setF F.FLT_OLDEST_WORD (entryWord (s.faults.entries.find? (fun e => e.sev == i)) j) i j
  | .FLT_SLOT => s.setF F.FLT_SLOT_WORD (entryWord s.faults.entries[i]? j) i j
  | .EVC_CLAIM => s.setF F.EVC_CLAIM_LINE (s.claimLine 0)
  | _ => s

/-- The value a read of a register shows, its state settled (R13, R153). -/
def State.shown (s : State) (d : RegDesc) (i j k : Nat) : Nat :=
  let v := s.rawRead d i j k
  if d.name = .TXP_DPD_NBR then
    v - s.f F.TXP_DPD_NBR_NV i * 2 ^ F.TXP_DPD_NBR_NV.lo + s.nvRead i * 2 ^ F.TXP_DPD_NBR_NV.lo
  else v

/-- A read clears the RC fields of the register (R9, R11). Log entry 75 (DEDUCED). -/
def State.clearRC (s : State) (d : RegDesc) (i j k : Nat) : State :=
  d.flds.foldl (fun s x => if x.acc = .rc then s.setF x 0 i j k else s) s

/-- The low words of 64-bit pairs (R7). -/
def lowWord (r : RName) : Bool :=
  r == .CLK_TIME_LO || r == .CLK_SYNC_LOAD_LO || r == .CLK_SYNC_CAP_LO || r == .LNK_TIME_OFFSET_LO ||
  r == .LANE_PRBS_BITS_LO || r == .SE_CYCLES_LO

/-- The holding register of a reader. -/
def State.holding (s : State) (rd : Nat) : Option Holding :=
  (s.fab.hold.find? (fun e => e.1 == rd)).map (·.2)

def State.dropHold (s : State) (rd : Nat) : State := { s with fab := { s.fab with hold := SMap.erase s.fab.hold rd } }

/-- The held high word of the pair with high word at `a`, latched within the last microsecond. -/
def State.held? (s : State) (rd a : Nat) : Option Nat :=
  match s.holding rd with
  | some h => if h.addr = a ∧ (s.elapsed - h.at_) * 25 ≤ us25 1 then some h.val else none
  | none => none

/-- The low word of a pair has been read: its high word of the same instant is held for the reader (R398).
Log entry 75 (DEDUCED). -/
def State.latchHigh (s : State) (rd a : Nat) (d : RegDesc) (i j k : Nat) : State :=
  if lowWord d.name then
    let hi := (findReg (a + 4)).map (fun r => s.rawRead r.1 i j k)
    { s with fab := { s.fab with hold := SMap.insert s.fab.hold rd { addr := a + 4, val := hi.getD 0, at_ := s.elapsed } } }
  else s

/-- Lantern, who claims by reading EVC.CLAIM (R357). Log entry 54 (DEDUCED). -/
def isLantern (rd : Nat) : Bool := decide (rd ≤ 1)

/-- A read of the register at native address `a` by reader `rd`: value and effect (R9, R11, R14, R357, R397, R398). -/
def State.regRead (s : State) (rd a : Nat) : Nat × State :=
  match findReg a with
  | none => (0, s)
  | some (d, i, j, k) =>
    match s.held? rd a with
    | some v => (v, s.dropHold rd)
    | none =>
      let s1 := s.settle d.name i j
      let v := s1.shown d i j k
      let s2 := (s1.latchHigh rd a d i j k).clearRC d i j k
      (v, if d.name = .EVC_CLAIM && isLantern rd then s2.claim 0 else s2)

/-! ### The register commands -/

/-- The number a reader's holding register has. -/
def readerNum : Reader → Nat
  | .ini i => iniNum i
  | .dma c => 32 + c

/-- A read of the register at `a`, its value being what the reader receives; an absent target answers DOMAIN_ABSENT and
the read returns 0 (R326). -/
def State.readCmd (s : State) (rd a : Nat) (ok : Bool) : Out :=
  .next (if s.inReset || !ok then s
    else if s.absentAt a then (if s.asleep then s else s.bump F.FAB_COUNT1_ABSENT_RSP).answer rd 2 0
    else (s.regRead rd a).2.answer rd 0 (s.regRead rd a).1)

/-- A register address holds RC fields. -/
def hasRC (a : Nat) : Bool := (findReg a).any (fun r => r.1.flds.any (fun x => x.acc == .rc))

/-- REGISTER_WRITE (R15). -/
def execRegisterWrite (ini : Initiator) (a w : Word) (s : State) : Out :=
  s.regCmd a.toNat (s.regWrite (iniNum ini) a.toNat w.toNat)

/-- READ_CLEAR (R11). -/
def execReadClear (rd : Reader) (a : Word) (s : State) : Out := s.readCmd (readerNum rd) a.toNat (hasRC a.toNat)

/-- LOW_WORD_READ (R398). -/
def execLowWordRead (rd : Reader) (a : Word) (s : State) : Out :=
  s.readCmd (readerNum rd) a.toNat ((findReg a.toNat).any (fun r => lowWord r.1.name))

/-- A holding register empties 1 µs after its latch (R398). Log entry 75 (DEDUCED). -/
def State.holdExpire (s : State) (rd : Nat) : State :=
  match s.holding rd with
  | some h => if us25 1 ≤ (s.elapsed - h.at_) * 25 then s.dropHold rd else s
  | none => s

/-- HOLDING_REGISTER_EXPIRE (R398). -/
def execHoldingRegisterExpire (rd : Reader) (s : State) : Out := .next (s.holdExpire (readerNum rd))

/-- A write of FAB.PROXY by an initiator: any but LANTERN_M is denied (R330). -/
def State.proxyWrite (s : State) (ini : Initiator) (v : Nat) : State :=
  if proxyOk ini .write (regAddr .FAB_PROXY) then (s.writeReg .FAB_PROXY v).answer (iniNum ini) 0 0
  else (s.deny ini .write (regAddr .FAB_PROXY)).answer (iniNum ini) 1 0

/-- PROXY_WRITE (R330). -/
def execProxyWrite (ini : Initiator) (w : Word) (s : State) : Out := s.regCmd (regAddr .FAB_PROXY) (s.proxyWrite ini w.toNat)

end Sys2Proof.Machine
end

