-- ==== Sys2Proof/Machine/Fabric.lean ====
section
/-!
DEFINITION. Sys2Proof/Machine/Fabric.lean: accesses over the fabric: their check, their arbitration and what they do at
their target (R320 to R339, R471, R472, R481, R506 to R509).
-/
namespace Sys2Proof.Machine

/-! ### Targets -/

/-- The arbitration point of an address (Memory, Fabric and DMA, table of arbitration points). -/
def pointOf (a : Nat) : Nat :=
  match regionOf a with
  | .shared => (a - 0x20000000) / 64 % 16
  | .weight => 16
  | .dpd => 17
  | .local_ n => 18 + n
  | .retention => 34
  | .mram => 35
  | .rom => 37
  | _ => 36

/-- The class a request travels at (R38, R323). -/
def classOf (ini a : Nat) : Nat :=
  if regionOf a = .weight ∨ regionOf a = .dpd then 1
  else if ini ≤ 1 then 1 else if ini ≤ 18 then 2 else if ini ≤ 22 then 1 else 3

/-- The memories whose 64-bit words carry the code of R471. -/
def sram (a : Nat) : Bool :=
  match regionOf a with
  | .shared | .local_ _ | .weight | .dpd => true
  | _ => false

/-- One byte as a fabric read finds it. -/
def State.byteAt (s : State) (a : Nat) : Byte := if regionOf a = .rom then Config.romByte a else s.readByte a

/-- `n` bytes as a fabric read finds them, little-endian. -/
def State.leAt (s : State) (a : Nat) : Nat → Nat
  | 0 => 0
  | n + 1 => (s.byteAt a).toNat + 256 * State.leAt s (a + 1) n

/-- An uncorrectable error of the word at `a` is counted and recorded (R472). Log entry 71 (DESIGN CHOICE). -/
def State.sramBad (s : State) (a : Nat) : State := (s.bump F.FLT_ECC_COUNT_UNCORRECTED).ledger 0x28 (a / 8 * 8)

/-- A fabric read of memory that meets error `ecc`: code, data and effect (R339, R471, R472). Log entry 71 (DESIGN CHOICE). -/
def State.memRead (s : State) (a n ecc : Nat) : Nat × Nat × State :=
  if sram a then
    if ecc = 2 then (3, 0, s.sramBad a)
    else (0, s.leAt a n, if ecc = 1 then s.bump F.FLT_ECC_COUNT_CORRECTED else s)
  else if regionOf a = .mram then
    if ecc = 2 then (3, 0, (s.bump F.FAB_MRAM_STATUS_UNCORRECTED).ledger 0x27 a)
    else (0, s.leAt a n, if ecc = 1 then s.bump F.FAB_MRAM_STATUS_CORRECTED else s)
  else (0, s.leAt a n, s)

/-- Engine `n`'s fetches go on reading the present bytes at `a` until a FENCE (R312). -/
def State.keepStale (s : State) (n a : Nat) (len : Nat) : State :=
  let e := s.eng n
  s.setEng n { e with stale := (List.range len).foldl (fun m i =>
    if m.any (fun x => x.1 == a + i) then m else SMap.insert m (a + i) (s.readByte (a + i))) e.stale }

/-! ### MRAM (R336 to R339) -/

/-- The physical page of a logical page. -/
def State.physPage (s : State) (l : Nat) : Nat :=
  let v := SMap.get 0 s.fab.mramMap l
  if v = 0 then l else v - 1

def State.pageWrites (s : State) (p : Nat) : Nat := SMap.get 0 s.fab.mramWrites p

/-- The spare pages among the 272. -/
def State.sparePages (s : State) : List Nat :=
  let used := (List.range 256).map s.physPage
  (List.range 272).filter (fun p => !used.contains p)

/-- The least-written spare page, the lowest of equals. Log entry 53 (DESIGN CHOICE). -/
def State.leastSpare (s : State) : Nat :=
  s.sparePages.foldl (fun b p => if s.pageWrites p < s.pageWrites b then p else b) (s.sparePages.headD 0)

def mramPage (a : Nat) : Nat := (a - 0x31000000) / 4096

/-- The page at `a` is being moved. -/
def State.pageMoving (s : State) (a : Nat) : Bool := s.fab.mramMove.any (fun m => m.1 == mramPage a)

/-- The next write to the page at `a` triggers a move (R337). -/
def State.pageWorn (s : State) (a : Nat) : Bool :=
  s.fab.mramMove.isNone && decide (s.pageWrites s.leastSpare + 65536 ≤ s.pageWrites (s.physPage (mramPage a)))

/-- A page move begins. -/
def State.moveBegin (s : State) (a : Nat) : State :=
  { (s.setF F.FAB_MRAM_STATUS_BUSY 1) with fab := { s.fab with mramMove := some (mramPage a, s.leastSpare) } }

/-- A word write is in the array, and counts for its physical page. -/
def State.mramStore (s : State) (a n data : Nat) : State :=
  let p := s.physPage (mramPage a)
  let s1 := s.writeLE a n data
  { s1 with fab := { s1.fab with mramWrites := SMap.set 0 s1.fab.mramWrites p (s1.pageWrites p + 1) } }

/-- A write to the store outside the controller's queue: a worn page begins its move with it. -/
def State.mramPut (s : State) (a n data : Nat) : State := (if s.pageWorn a then s.moveBegin a else s).mramStore a n data

/-! ### What an access does at its target -/

/-- A write of `n` bytes at the native address `a` by initiator number `ini`. -/
def State.storeAt (s : State) (ini a n data : Nat) : State :=
  match regionOf a with
  | .reg => s.regWrite ini a data
  | .dpd => s.dpdMemWrite (a - dpdBase) ((List.range n).map (fun i => BitVec.ofNat 8 (data / 256 ^ i)))
  | .mram => s.mramPut a n data
  | .rom | .compat | .none => s
  | _ => s.writeLE a n data

/-- A read of `n` bytes at the native address `a` by reader `rd`: code, data and effect. -/
def State.loadAt (s : State) (rd a n ecc : Nat) : Nat × Nat × State :=
  match regionOf a with
  | .reg =>
    let r := s.regRead rd a
    (0, r.1, r.2)
  | .compat | .none => (0, 0, s)
  | _ => s.memRead a n ecc

/-- The boot ROM runs, and service port and JTAG writes are discarded (R444). Log entry 51 (DEDUCED). -/
def State.romRuns (s : State) : Bool := s.f F.SYS_BOOT_STATUS_STATE == 0

/-- An access of initiator `i` as reader `rd`, checked and performed in one step: code 0 done, 1 denied, 2 DOMAIN_ABSENT,
3 error; data; effect (R322, R326, R327, R329). -/
def State.access (s : State) (i : Initiator) (rd : Nat) (k : AccKind) (a0 n data ecc : Nat) : Nat × Nat × State :=
  let a := nativeAddr a0
  if !s.permitted i k a0 n then (1, 0, s.deny i k a0)
  else if s.absentAt a then (2, 0, s.bump F.FAB_COUNT1_ABSENT_RSP)
  else if k = .write then
    if (i = .svc ∨ i = .jtag) ∧ s.romRuns then (0, 0, s) else (0, 0, s.storeAt (iniNum i) a n data)
  else s.loadAt rd a n ecc

/-! ### Lantern's caches (R331 to R334) -/

/-- The access of Lantern goes through a cache. -/
def cached (ini kind a : Nat) : Bool :=
  decide (ini ≤ 1) && (regionOf a == .shared || (kind == 2 && regionOf a == .rom))

def State.dline (s : State) (k : Nat) : Option CacheLine := (s.fab.dcache.find? (fun e => e.1 == k)).map (·.2)
def State.iline (s : State) (k : Nat) : Option (List Byte) := (s.fab.icache.find? (fun e => e.1 == k)).map (·.2)

/-- Which of `n` lines a fill displaces, if any: the spec does not give the cache's organisation; a full cache of 1,024
lines displaces one. Log entry 49 (DESIGN CHOICE). -/
def victim (c n : Nat) : Option Nat :=
  if 1024 ≤ n then some (c % n) else if c % (n + 1) < n then some (c % (n + 1)) else none

/-- Fetch data line `k` into the cache; a displaced dirty line is written back. Log entry 49 (DESIGN CHOICE). -/
def State.fillD (s : State) (k : Nat) : State :=
  if (s.dline k).isSome then s
  else
    let v := (victim (Config.choice 0x42 s.free) s.fab.dcache.length).bind (fun i => s.fab.dcache[i]?)
    let s1 := (v.map (fun e => s.writeBack e.1 e.2)).getD s
    let d := (v.map (fun e => SMap.erase s1.fab.dcache e.1)).getD s1.fab.dcache
    let l : CacheLine := { dirty := false, bytes := s1.readBytes (k * 32) 32 }
    { s1 with free := s1.free + 1, fab := { s1.fab with dcache := SMap.insert d k l } }

/-- Fetch instruction line `k` into the cache. -/
def State.fillI (s : State) (k : Nat) : State :=
  if (s.iline k).isSome then s
  else
    let v := (victim (Config.choice 0x43 s.free) s.fab.icache.length).bind (fun i => s.fab.icache[i]?)
    let d := (v.map (fun e => SMap.erase s.fab.icache e.1)).getD s.fab.icache
    { s with free := s.free + 1, fab := { s.fab with icache := SMap.insert d k ((List.range 32).map (fun i => s.byteAt (k * 32 + i))) } }

/-- The lines that `n` bytes from `a` touch. -/
def linesOf (a n : Nat) : List Nat := (List.range ((a + n - 1) / 32 - a / 32 + 1)).map (· + a / 32)

/-- Bytes of the data cache, its lines being present. -/
def State.dByte (s : State) (a : Nat) : Byte := ((s.dline (a / 32)).map (fun l => l.bytes.getD (a % 32) 0)).getD 0
def State.iByte (s : State) (a : Nat) : Byte := ((s.iline (a / 32)).map (fun l => l.getD (a % 32) 0)).getD 0

/-- Store a byte in the data cache: its line becomes dirty. -/
def State.dStore (s : State) (a : Nat) (b : Byte) : State :=
  match s.dline (a / 32) with
  | some l => { s with fab := { s.fab with dcache := SMap.insert s.fab.dcache (a / 32) { dirty := true, bytes := l.bytes.set (a % 32) b } } }
  | none => s

/-- Bytes as a little-endian number. -/
def leBytes (f : Nat → Byte) (a : Nat) : Nat → Nat
  | 0 => 0
  | n + 1 => (f a).toNat + 256 * leBytes f (a + 1) n

/-- Every line the access touches is present. -/
def State.hits (s : State) (kind a n : Nat) : Bool :=
  (linesOf a n).all (fun k => if kind = 2 then (s.iline k).isSome else (s.dline k).isSome)

/-- A cached access of Lantern, its missing lines filled first: data and effect. -/
def State.cacheDo (s : State) (kind a n data : Nat) : Nat × State :=
  if kind = 2 then
    let s1 := (linesOf a n).foldl State.fillI s
    (leBytes s1.iByte a n, s1)
  else
    let s1 := (linesOf a n).foldl State.fillD s
    if kind = 1 then (0, (List.range n).foldl (fun s i => s.dStore (a + i) (BitVec.ofNat 8 (data / 256 ^ i))) s1)
    else (leBytes s1.dByte a n, s1)

/-! ### Requests (R323, R327, R329) -/

def kindNum : AccKind → Nat
  | .read => 0
  | .write => 1
  | .fetch => 2

/-- The requests waiting at a point. -/
def State.waitingAt (s : State) (p : Nat) : List Request := SMap.get [] s.fab.waiting p
def State.setWaiting (s : State) (p : Nat) (q : List Request) : State :=
  { s with fab := { s.fab with waiting := SMap.set [] s.fab.waiting p q } }

/-- An access is checked, and then waits at its arbitration point; a denial and an absent domain answer at once, a hit of
Lantern's caches needs no fabric. Log entry 49 (DESIGN CHOICE). -/
def State.fabricAccess (s : State) (i : Initiator) (k : AccKind) (a0 n data ecc : Nat) : State :=
  let a := nativeAddr a0
  let c := iniNum i
  if !s.permitted i k a0 n then (s.deny i k a0).answer c 1 0
  else if s.absentAt a then (s.bump F.FAB_COUNT1_ABSENT_RSP).answer c 2 0
  else if cached c (kindNum k) a && s.hits (kindNum k) a n then
    let r := s.cacheDo (kindNum k) a n data
    r.2.answer c 0 r.1
  else
    let q : Request :=
      { ini := c
        cls := classOf c a
        kind := kindNum k
        addr := a
        size := n
        data := data
        at_ := s.elapsed
        ecc := ecc }
    s.setWaiting (pointOf a) (s.waitingAt (pointOf a) ++ [q])

/-- FABRIC_ACCESS (R327). Log entry 67 (DESIGN CHOICE). -/
def execFabricAccess (i : Initiator) (k : AccKind) (a : Word) (n : Fin 65) (data : Nat) (ecc : Fin 3) (s : State) : Out :=
  .next (s.core (s.fabricAccess i k a.toNat n data ecc))

/-- An access through the compatibility window acts as the native access (R507 to R509). -/
def execCompatWindowAccess (i : Initiator) (k : AccKind) (w : Fin 1048576) (data : Word) (s : State) : Out :=
  .next (s.core (s.fabricAccess i k (0x3F000000 + w) 4 data.toNat 0))

/-! ### Arbitration (R324, R325, R481) -/

/-- Fabric cycles since an elapsed tick. -/
def State.cyclesSince (s : State) (t : Nat) : Nat := (s.elapsed - t) * 25000 / 12288

/-- A request has waited past the starvation guard of its class. -/
def State.starved (s : State) (r : Request) : Bool :=
  (r.cls == 2 && decide (65536 ≤ s.cyclesSince r.at_)) || (r.cls == 3 && decide (262144 ≤ s.cyclesSince r.at_))

/-- Of requests of one class, the one next in the round after initiator `last - 1`. -/
def roundRobin (last : Nat) (q : List Request) : Option Request :=
  q.foldl (fun b r => match b with
    | none => some r
    | some x => if (r.ini + 64 - last) % 64 < (x.ini + 64 - last) % 64 then some r else some x) none

/-- The request a point grants: a starved one first (the oldest), else the highest class, round-robin within it; the
requests of one initiator stay in their order. Log entry 49 (DESIGN CHOICE). -/
def State.nextGrant (s : State) (p : Nat) : Option Request :=
  let q := s.waitingAt p
  match q.find? s.starved with
  | some r => q.find? (fun x => x.ini == r.ini)
  | none =>
    let top := q.foldl (fun m r => min m r.cls) 3
    (roundRobin (SMap.get 0 s.fab.turn p) (q.filter (fun r => r.cls == top))).bind (fun r => q.find? (fun x => x.ini == r.ini))

/-- The generator of R481 after one step, in either form of a shift register with its polynomial.
Log entry 50 (DESIGN CHOICE). -/
def lfsrNext (g : Nat) : Nat :=
  if Config.choice 0x44 0 % 2 = 0 then
    (g * 2 + b2n (((bit g 31 ^^ bit g 21) ^^ bit g 1) ^^ bit g 0)) % 2 ^ 32
  else if bit g 31 then (g * 2 % 2 ^ 32) ^^^ 0x400007 else g * 2 % 2 ^ 32

/-- Injector `i` acts on a grant at point `p` to class `c`. -/
def State.dlyOn (s : State) (p c i : Nat) : Bool :=
  s.on F.PTB_CTRL_EN && s.on F.PTB_DLY_ON i && s.f F.PTB_DLY_POINT i == p && bit (s.f F.PTB_DLY_CLASSES i) c

/-- One injector's draw: whether any has delayed the grant, fabric cycles so far, generator. -/
def State.dlyDraw (s : State) (b : Bool × Nat × Nat) (i : Nat) : Bool × Nat × Nat :=
  let g1 := lfsrNext b.2.2
  if Config.draw g1 256 % 256 ≤ s.f F.PTB_DLY_PROB i then
    let n := s.f F.PTB_DLY_CYCLES i
    if s.on F.PTB_DLY_RANDOM i then
      let g2 := lfsrNext g1
      (true, b.2.1 + Config.draw g2 (n + 1) % (n + 1), g2)
    else (true, b.2.1 + n, g1)
  else (b.1, b.2.1, g1)

/-- The delay the injectors put before a grant at point `p` to class `c` (R481). Log entry 50 (DESIGN CHOICE). -/
def State.delayFor (s : State) (p c : Nat) : Bool × Nat × Nat :=
  (idxWhere 8 (s.dlyOn p c)).foldl s.dlyDraw (false, 0, s.ptb.gen)

/-- A granted request reaches its target: its initiator receives the answer, but an MRAM request goes on inside the
controller, and a miss of Lantern's caches fills them. -/
def State.serve (s : State) (r : Request) : State :=
  if s.absentAt r.addr then (s.bump F.FAB_COUNT1_ABSENT_RSP).answer r.ini 2 0
  else if regionOf r.addr = .mram then { s with fab := { s.fab with mramQ := s.fab.mramQ ++ [r] } }
  else if cached r.ini r.kind r.addr then
    if r.ecc = 2 ∧ sram r.addr then (s.sramBad r.addr).answer r.ini 3 0
    else
      let s1 := if r.ecc = 1 ∧ sram r.addr then s.bump F.FLT_ECC_COUNT_CORRECTED else s
      let c := s1.cacheDo r.kind r.addr r.size r.data
      c.2.answer r.ini 0 c.1
  else if r.kind = 1 then
    if 23 ≤ r.ini ∧ s.romRuns then s.answer r.ini 0 0 else (s.storeAt r.ini r.addr r.size r.data).answer r.ini 0 0
  else
    let c := s.loadAt r.ini r.addr r.size r.ecc
    c.2.2.answer r.ini c.1 c.2.1

/-- The request leaves point `p`; a grant by the guard is counted (R324). -/
def State.grantReq (s : State) (p : Nat) (r : Request) : State :=
  let s1 := if s.starved r then s.bump (if r.cls = 2 then F.FAB_COUNT_GUARD_C2 else F.FAB_COUNT_GUARD_C3) else s
  let s2 := s1.setWaiting p (s1.waitingAt p |>.erase r)
  ({ s2 with fab := { s2.fab with
      turn := SMap.set 0 s2.fab.turn p (r.ini + 1), delayed := SMap.set 0 s2.fab.delayed p 0 } }).serve r

/-- Point `p` grants, unless a delay is in progress there or an injector delays the grant. -/
def State.fabricGrant (s : State) (p : Nat) : State :=
  let d := SMap.get 0 s.fab.delayed p
  match s.nextGrant p with
  | none => s
  | some r =>
    if d ≠ 0 then (if s.el25 < d - 1 then s else s.grantReq p r)
    else
      let x := s.delayFor p r.cls
      let s1 : State := { s with ptb := { s.ptb with gen := x.2.2 } }
      let s2 := if x.1 then s1.bump F.PTB_COUNT_DELAYED else s1
      if x.2.1 = 0 then s2.grantReq p r
      else { s2 with fab := { s2.fab with delayed := SMap.set 0 s2.fab.delayed p (s.el25 + cdiv (x.2.1 * 12288) 1000 + 1) } }

/-- FABRIC_GRANT (R324). -/
def execFabricGrant (p : Fin 38) (s : State) : Out := .next (s.core (s.fabricGrant p))

/-! ### The MRAM controller -/

/-- The first request of a kind in the controller whose page is not being moved. -/
def State.mramNext (s : State) (write : Bool) : Option Request :=
  s.fab.mramQ.find? (fun r => (r.kind == 1) == write && !s.pageMoving r.addr &&
    (s.fab.mramQ.find? (fun x => x.ini == r.ini && mramPage x.addr == mramPage r.addr)) == some r)

def State.mramDone (s : State) (r : Request) : State := { s with fab := { s.fab with mramQ := s.fab.mramQ.erase r } }

/-- A read of the store returns its data (R336, R339). -/
def State.mramRead (s : State) (ecc : Nat) : State :=
  match s.mramNext false with
  | some r =>
    let c := (s.mramDone r).memRead r.addr r.size ecc
    c.2.2.answer r.ini c.1 c.2.1
  | none => s

/-- MRAM_READ (R339). -/
def execMramRead (ecc : Fin 3) (s : State) : Out := .next (s.core (s.mramRead ecc))

/-- A write is in the array and acknowledged, unless it triggers a page move, which it then waits for (R336, R337). -/
def State.mramWrite (s : State) : State :=
  match s.mramNext true with
  | some r =>
    if s.pageWorn r.addr then s.moveBegin r.addr
    else ((s.mramDone r).mramStore r.addr r.size r.data).answer r.ini 0 0
  | none => s

/-- MRAM_WRITE (R336). -/
def execMramWrite (s : State) : Out := .next (s.core s.mramWrite)

/-- A page move completes: the logical page is at the spare, and its old page is a spare (R337).
Log entry 53 (DESIGN CHOICE). -/
def State.pageMoved (s : State) : State :=
  match s.fab.mramMove with
  | some m =>
    let s1 := (s.setF F.FAB_MRAM_STATUS_BUSY 0).bump F.FAB_MRAM_MOVES_MOVES
    { s1 with fab := { s1.fab with
        mramMove := none
        mramMap := SMap.set 0 s1.fab.mramMap m.1 (m.2 + 1)
        mramWrites := SMap.set 0 s1.fab.mramWrites m.2 (s1.pageWrites m.2 + 512) } }
  | none => s

/-- MRAM_PAGE_MOVE (R337). -/
def execMramPageMove (s : State) : Out := .next (s.core s.pageMoved)

end Sys2Proof.Machine
end

