-- ==== Sys2Proof/Machine/Dma.lean ====
section
/-!
DEFINITION. Sys2Proof/Machine/Dma.lean: descriptors of the DMA: their start, their transfer, their end and their errors
(R340 to R349).  Active channels take turns of at most 256 bytes (R341): with time, and as far as a descriptor's end needs.
-/
namespace Sys2Proof.Machine

/-! ### Descriptors (R342, R343, R346) -/

/-- The fields of a descriptor's words. -/
def dW (d : List Nat) (k : Nat) : Nat := d.getD k 0
def dShape (d : List Nat) : Nat := bits (dW d 0) 25 3
def dSize (d : List Nat) : Nat := [1, 2, 3, 4, 6, 8, 16, 32].getD (bits (dW d 0) 21 3) 1
def dSrc (d : List Nat) : Nat := dW d 1
def dDst (d : List Nat) : Nat := dW d 2
def dLen (d : List Nat) : Nat := dW d 3 % 2 ^ 24
def dRows (d : List Nat) : Nat := dW d 4 / 2 ^ 16
def dCols (d : List Nat) : Nat := dW d 4 % 2 ^ 16

/-- The descriptor is invalid (R343). Log entry 52 (DEDUCED). -/
def dInvalid (d : List Nat) : Bool :=
  !bit (dW d 0) 31 || bits (dW d 0) 0 21 != 0 || bits (dW d 3) 24 8 != 0 || dW d 5 != 0 ||
  (dShape d != 2 && dLen d == 0) || (dShape d == 2 && (dRows d == 0 || dCols d == 0)) ||
  (decide (3 ≤ dShape d ∧ dShape d ≤ 6) || dShape d == 0) && dW d 4 != 0

/-- Destination bytes of the whole transfer. -/
def dTotal (d : List Nat) : Nat :=
  match dShape d with
  | 0 | 7 => dLen d
  | 1 => dLen d * dSize d
  | 2 => dRows d * dCols d * dSize d
  | 3 | 4 => 2 * dLen d * dSize d
  | 5 => 4 * dLen d
  | _ => 3 * dLen d

/-- The register range of R320. -/
def regRange (a : Nat) : Bool := within a 0x40000000 0x02000000

/-- The run of source bytes that one element needs, for the alignment check. -/
def dUnit (d : List Nat) : Nat :=
  match dShape d with
  | 0 => dLen d
  | 5 => 3 * dLen d
  | 6 => 4
  | _ => dSize d

/-- SRC, DST or LENGTH would need a narrower register access (R346). Log entry 52 (DEDUCED). -/
def dNarrow (d : List Nat) : Bool :=
  (dShape d != 7 && regRange (dSrc d) && (dSrc d % 4 != 0 || dUnit d % 4 != 0)) ||
  (regRange (dDst d) && (dDst d % 4 != 0 || dTotal d % 4 != 0))

/-! ### Starting (R340, R343, R348, R350) -/

/-- The channel's next descriptor: the one its chain goes on with, or the head of its queue. -/
def State.dmaNext (s : State) (c : Nat) : Option Nat := (s.dmaC c).next.orElse (fun _ => (s.dmaC c).queue.head?)

/-- The channel may start a descriptor. -/
def State.dmaReady (s : State) (c : Nat) : Bool :=
  s.on F.DMA_CFG_EN && !s.absent 19 && !s.dmaQuiet && (s.dmaC c).desc.isNone && !(s.dmaC c).held &&
  !s.on F.DMA_CH_STATUS_STOPPED c

/-- Read words of a descriptor as channel `c`, until one is refused: first error code, words, effect. -/
def State.dmaWords (s : State) (c a ecc : Nat) : Nat → Nat × List Nat × State
  | 0 => (0, [], s)
  | n + 1 =>
    let r := s.access .dma (32 + c) .read a 4 0 ecc
    if r.1 = 0 then
      let t := State.dmaWords r.2.2 c (a + 4) 0 n
      (t.1, r.2.1 :: t.2.1, t.2.2)
    else (r.1, [], r.2.2)

/-- The error code of R349 for an access answer: a denial and an uncorrectable word are 1, an absent domain 2. -/
def dmaCode (answer : Nat) : Nat := if answer = 0 then 0 else if answer = 2 then 2 else 1

/-- The channel reads W0 to W6 once and checks them; the error found, if any, waits for its DMA_ERROR. -/
def State.dmaStart (s : State) (c : Nat) (bad : Bool) : State :=
  match s.dmaNext c with
  | some a =>
    if s.dmaReady c then
      let x := s.dmaC c
      let r := s.dmaWords c a (if bad then 2 else 0) 7
      let err := if r.1 ≠ 0 then dmaCode r.1 else if dInvalid r.2.1 then 3 else if dNarrow r.2.1 then 4 else 0
      (r.2.2.setDma c { x with
        queue := if x.next.isSome then x.queue else x.queue.drop 1
        next := none
        desc := some r.2.1
        err := err
        got := []
        units := 0
        writes := 0
        written := 0 }).setF F.DMA_CH_DESC_ADDR a c
    else s
  | none => s

/-- DMA_DESCRIPTOR_START (R343). -/
def execDmaDescriptorStart (c : Fin 32) (bad : Bool) (s : State) : Out := .next (s.core (s.dmaStart c bad))

/-! ### The transfer (R344, R345) -/

/-- The largest power of two up to 64 that divides `a` and does not exceed `n`. -/
def funnelSize (a n : Nat) : Nat := ([64, 32, 16, 8, 4, 2].find? (fun z => a % z == 0 && decide (z ≤ n))).getD 1

/-- The accesses of a contiguous run of `n` bytes from `a`; accesses to registers are 4 bytes long. -/
def funnel (a n : Nat) : Nat → List (Nat × Nat)
  | 0 => []
  | fuel + 1 =>
    if n = 0 then []
    else
      let z := if regRange a then min 4 (funnelSize a n) else funnelSize a n
      (a, z) :: funnel (a + z) (n - z) fuel

/-- A transfer in progress: error code so far, bytes gathered, and effect. -/
structure DmaRun where
  code : Nat := 0
  bytes : List Byte := []
  s : State

/-- One access of the read side.  `bad` is the position in the source stream of a word that cannot be corrected.  A source byte
of memory that the transfer also writes reads as either, which the spec does not say. Log entry 52 (DEDUCED). -/
def dmaRead1 (c : Nat) (d : List Nat) (bad : Option Nat) (r : DmaRun) (p : Nat × Nat) : DmaRun :=
  if r.code ≠ 0 then r
  else
    let at_ := r.bytes.length
    let ecc := if bad.any (fun b => decide (at_ ≤ b ∧ b < at_ + p.2)) then 2 else 0
    let x := r.s.access .dma (32 + c) .read p.1 p.2 0 ecc
    if x.1 ≠ 0 then { r with code := dmaCode x.1, s := x.2.2 }
    else
      let byte (i : Nat) : Byte :=
        if within (p.1 + i) (dDst d) (dTotal d) && !regRange p.1 then Config.freeByte x.2.2.free (p.1 + i)
        else BitVec.ofNat 8 (x.2.1 / 256 ^ i)
      { code := 0, bytes := r.bytes ++ (List.range p.2).map byte, s := { x.2.2 with free := x.2.2.free + 1 } }

/-- A run of the read side. -/
def dmaReadRun (c : Nat) (d : List Nat) (bad : Option Nat) (r : DmaRun) (p : Nat × Nat) : DmaRun :=
  (funnel p.1 p.2 p.2).foldl (dmaRead1 c d bad) r

/-- The indices of shape 1, read one by one; an index table that is refused stops the transfer. -/
def dmaIndex (c : Nat) (d : List Nat) (r : DmaRun) (k : Nat) : Nat × DmaRun :=
  let z := if bit (dW d 0) 24 then 4 else 2
  let t := dmaReadRun c d none { r with bytes := [] } ((dW d 4 + k * z) % 2 ^ 32, z)
  (leBytes (fun i => t.bytes.getD i 0) 0 z, { t with bytes := r.bytes })

/-- One element of shape 1. -/
def dmaGather (c : Nat) (d : List Nat) (bad : Option Nat) (r : DmaRun) (k : Nat) : DmaRun :=
  if r.code ≠ 0 then r
  else
    let t := dmaIndex c d r k
    if t.2.code ≠ 0 then t.2 else dmaReadRun c d bad t.2 ((dSrc d + t.1 * dSize d) % 2 ^ 32, dSize d)

/-- The source runs of the shapes without indices, in destination order. -/
def dmaRuns (d : List Nat) : List (Nat × Nat) :=
  let z := dSize d
  let n := dLen d
  match dShape d with
  | 0 => [(dSrc d, n)]
  | 2 => (List.range (dCols d)).flatMap (fun q => (List.range (dRows d)).map (fun r => (dSrc d + (r * dCols d + q) * z, z)))
  | 3 => (List.range n).flatMap (fun k => [(dSrc d + k * z, z), (dSrc d + (n + k) * z, z)])
  | 4 => (List.range n).map (fun k => (dSrc d + 2 * k * z, z)) ++ (List.range n).map (fun k => (dSrc d + (2 * k + 1) * z, z))
  | 5 => [(dSrc d, 3 * n)]
  | 6 => [(dSrc d, 4 * n)]
  | _ => []

/-- The read accesses of the shapes without indices. -/
def dmaReads (d : List Nat) : List (Nat × Nat) := (dmaRuns d).flatMap (fun p => funnel p.1 p.2 p.2)

/-- The read units of a descriptor: an element of shape 1 with its index, else an access. -/
def dmaUnits (d : List Nat) : Nat := if dShape d = 1 then dLen d else (dmaReads d).length

/-- Read unit `k`. -/
def dmaUnit (c : Nat) (d : List Nat) (bad : Option Nat) (r : DmaRun) (k : Nat) : DmaRun :=
  if dShape d = 1 then dmaGather c d bad r k else dmaRead1 c d bad r ((dmaReads d).getD k (0, 1))

/-- Destination bytes that `n` source bytes make. -/
def dmaMade (d : List Nat) (n : Nat) : Nat :=
  match dShape d with
  | 5 => n / 3 * 4
  | 6 => n / 4 * 3
  | 7 => dLen d
  | _ => n

/-- Read units from `k` on until `e` destination bytes can be made, an error, or the end: the run and the next unit. -/
def dmaFill (c : Nat) (d : List Nat) (bad : Option Nat) (e : Nat) : Nat → DmaRun → Nat → DmaRun × Nat
  | 0, r, k => (r, k)
  | n + 1, r, k =>
    if r.code ≠ 0 ∨ e ≤ dmaMade d r.bytes.length ∨ dmaUnits d ≤ k then (r, k)
    else dmaFill c d bad e n (dmaUnit c d bad r k) (k + 1)

/-- Shape 5: three bytes sign-extended to a container (R294). -/
def unpack : List Byte → List Byte
  | a :: b :: c :: l => a :: b :: c :: (if c.msb then 0xFF else 0) :: unpack l
  | _ => []

/-- Shape 6: the low three bytes of a container. -/
def pack : List Byte → List Byte
  | a :: b :: c :: _ :: l => a :: b :: c :: pack l
  | _ => []

/-- What the destination takes, from the source bytes present. -/
def dmaStream (d : List Nat) (src : List Byte) : List Byte :=
  match dShape d with
  | 5 => unpack src
  | 6 => pack src
  | 7 => (List.range (dLen d)).map (fun i => BitVec.ofNat 8 (dW d 4 / 256 ^ (i % 4)))
  | _ => src

/-- One access of the write side: `bytes` counts what has been written, its whole stream being `data`. -/
def dmaWrite1 (c : Nat) (data : List Byte) (r : DmaRun) (p : Nat × Nat) : DmaRun :=
  if r.code ≠ 0 then r
  else
    let bs := (data.drop r.bytes.length).take p.2
    let x := r.s.access .dma (32 + c) .write p.1 p.2 (leBytes (fun i => bs.getD i 0) 0 p.2) 0
    if x.1 ≠ 0 then { r with code := dmaCode x.1, s := x.2.2 } else { code := 0, bytes := r.bytes ++ bs, s := x.2.2 }

/-- The first accesses of a list that move at most `budget` bytes. -/
def withinBudget : Nat → List (Nat × Nat) → List (Nat × Nat)
  | _, [] => []
  | budget, p :: ps => if p.2 ≤ budget then p :: withinBudget (budget - p.2) ps else []

/-- The write accesses of a descriptor. -/
def dmaWrites (d : List Nat) : List (Nat × Nat) := funnel (dDst d) (dTotal d) (dTotal d)

/-- Channel `c` has a descriptor whose data are still moving. -/
def State.dmaActive (s : State) (c : Nat) : Bool :=
  let x := s.dmaC c
  x.err == 0 && x.desc.any (fun d => decide (x.writes < (dmaWrites d).length))

/-- One turn of channel `c` (R341): the write accesses of at most 256 bytes, and before them the reads they need.  When a
read fails, how many of the turn's writes its bytes allow have been made is open. Log entry 52 (DEDUCED). -/
def State.dmaTurnOf (s : State) (c : Nat) (bad : Option Nat) : State :=
  let x := s.dmaC c
  match x.desc with
  | none => s
  | some d =>
    let ws := withinBudget 256 ((dmaWrites d).drop x.writes)
    let e := x.written + (ws.map (·.2)).sum
    let f := dmaFill c d bad e 2048 { bytes := x.got, s := s } x.units
    let r := f.1
    let data := dmaStream d r.bytes
    let ok := ws.filter (fun p => decide (p.1 + p.2 ≤ dDst d + data.length))
    let n := if r.code = 0 then ok.length else Config.choice 0x45 r.s.free % (ok.length + 1)
    let w := (ok.take n).foldl (dmaWrite1 c data) { bytes := data.take x.written, s := { r.s with free := r.s.free + 1 } }
    w.s.setDma c { w.s.dmaC c with
      got := r.bytes
      units := f.2
      writes := x.writes + n
      written := w.bytes.length
      err := if w.code = 0 then r.code else w.code }

/-- The channel whose turn it is: the first active one from the pointer on, round-robin (R341). -/
def State.dmaWhose (s : State) : Option Nat :=
  ((List.range 32).map (fun i => (s.fab.dmaTurn + i) % 32)).find? s.dmaActive

/-- One turn; `bad` is the position in the source stream of channel `c` of a word that cannot be corrected. -/
def State.dmaTurn (s : State) (c : Nat) (bad : Option Nat) : State :=
  match s.dmaWhose with
  | some k =>
    let s1 := s.dmaTurnOf k (if k = c then bad else none)
    { s1 with fab := { s1.fab with dmaTurn := (k + 1) % 32 } }
  | none => s

/-- Turns until the data of channel `c` have moved or met an error, at most `n`. -/
def State.dmaFinish (c : Nat) (bad : Option Nat) : Nat → State → State
  | 0, s => s
  | n + 1, s => if s.dmaActive c then State.dmaFinish c bad n (s.dmaTurn c bad) else s

/-- The turns that suffice: each moves at least 193 bytes or what is left, and comes round after 32. -/
def State.dmaTurns (s : State) (c : Nat) : Nat := 32 * (((s.dmaC c).desc.map dTotal).getD 0 / 193 + 2)

/-- A tick's turn: 256 bytes in two ticks stay within 64 bytes a fabric cycle (R341). Log entry 52 (DEDUCED). -/
def State.dmaTick (s : State) : State := if s.elapsed % 2 = 0 ∧ s.on F.DMA_CFG_EN ∧ s.absent 19 = false then s.dmaTurn 32 none else s

/-! ### Ends (R347 to R350) -/

/-- W7 is written where WB asks for it (R347): answer code and effect. -/
def State.dmaW7 (s : State) (c : Nat) (d : List Nat) (written : Nat) : Nat × State :=
  if bit (dW d 0) 28 then
    let r := s.access .dma (32 + c) .write (s.f F.DMA_CH_DESC_ADDR c + 28) 4 (2 ^ 31 + written % 2 ^ 24) 0
    (dmaCode r.1, r.2.2)
  else (0, s)

/-- The channel goes on after a descriptor, holds for a quiesce, or stops as asked. -/
def State.dmaAfter (s : State) (c : Nat) (d : List Nat) : State :=
  let x := s.dmaC c
  let nx : Option Nat := if bit (dW d 0) 30 then some (dW d 6 / 32 * 32) else none
  if x.stopReq then (s.setDma c { x with desc := none, stopReq := false, next := none }).dmaStopped c 1 (nx.getD 0)
  else
    let s1 := s.setDma c { x with desc := none, next := nx, held := s.dmaQuiet }
    if s.dmaQuiet then s1.dmaStopped c 2 (nx.getD 0) else s1

/-- A descriptor ends (R347): its last turns are taken and acknowledged, W7 written, and only then line 416 + c pulsed.
Log entry 52 (DEDUCED). -/
def State.dmaEnd (s : State) (c : Nat) : State :=
  match (s.dmaC c).desc with
  | some d =>
    let s1 := State.dmaFinish c none (s.dmaTurns c) s
    if (s1.dmaC c).err ≠ 0 then s1
    else
      let w := s1.dmaW7 c d (s1.dmaC c).written
      if w.1 = 0 then
        let s2 := w.2.bump F.DMA_CH_COUNT_DESCRIPTORS c
        ((if bit (dW d 0) 29 then s2.pulse (416 + c) else s2)).dmaAfter c d
      else s1
  | none => s

/-- DMA_DESCRIPTOR_END (R347). -/
def execDmaDescriptorEnd (c : Fin 32) (s : State) : Out := .next (s.core (s.dmaEnd c))

/-- An error stops the channel (R349): the one found at its start, one its accesses meet, a source word that cannot be
corrected at byte `bad` of the stream, or W7's. -/
def State.dmaError (s : State) (c : Nat) (bad : Option Nat) : State :=
  match (s.dmaC c).desc with
  | some d =>
    let s1 := State.dmaFinish c bad (s.dmaTurns c) s
    let x := s1.dmaC c
    if x.err ≠ 0 then s1.dmaFail c x.err x.written
    else
      let w := s1.dmaW7 c d x.written
      if w.1 = 0 then s1 else w.2.dmaFail c w.1 x.written
  | none => s

/-- DMA_ERROR (R349). -/
def execDmaError (c : Fin 32) (bad : Option Nat) (s : State) : Out := .next (s.core (s.dmaError c bad))

end Sys2Proof.Machine
end

