-- ==== Sys2Proof/Machine/Engine.lean ====
section
/-!
DEFINITION. Sys2Proof/Machine/Engine.lean: bundles of the signal engines (R299 to R309, R472): issue, writeback, slots, branches,
loops, and interrupts.
-/
namespace Sys2Proof.Machine

/-! ### The end of a bundle (R301, R305, R306) -/

/-- The running loops of the set in use, innermost first. -/
def Engine.myLoops (e : Engine) : List HwLoop := e.loops.filter (fun l => l.set_ == e.set_)

/-- The next bundle after the end of a loop body: another pass, or the end of the loop and of those that end with it. -/
def Engine.loopNext (e : Engine) : Nat → Engine
  | 0 => { e with pc := (e.pc + 1) % 65536 }
  | fuel + 1 =>
    match e.myLoops.find? (fun l => l.last == e.pc) with
    | some l =>
      let c := e.r (rLC l.lc)
      if 1 < c then { e.put e.set_ (rLC l.lc) (c - 1) with pc := l.first }
      else Engine.loopNext { e.put e.set_ (rLC l.lc) 0 with loops := e.loops.erase l } fuel
    | none => { e with pc := (e.pc + 1) % 65536 }

/-- A taken branch to `t` ends the loops whose body does not hold it (R306). -/
def Engine.leave (e : Engine) (t : Nat) : Engine :=
  { e with
    pc := t
    branch := none
    loops := e.loops.filter (fun l => l.set_ != e.set_ || (decide (l.first ≤ t) && decide (t ≤ l.last))) }

/-- The bundle index moves on: the delay slots of a branch run first (R305). -/
def Engine.advance (e : Engine) : Engine :=
  let e1 := { e.endBundle with delay := e.delay - 1 }
  match e.branch with
  | some (t, k) => if k ≤ 1 then e1.leave t else { e1.loopNext 2 with branch := some (t, k - 1) }
  | none => e1.loopNext 2

/-- The engine can go on: neither stalled nor draining nor stopped. -/
def State.engGoes (s : State) (n : Nat) : Bool :=
  (s.eng n).stall == .none && (s.eng n).sync == .none && !s.on F.SE_STATUS_FAULTED n && !s.absent n

/-- The bundle in hand ends: the results due are written, and an abort that is owed takes effect. -/
def State.bundleEnd (s : State) (n : Nat) : State :=
  if (s.eng n).open_ && s.engGoes n then (s.setEng n (s.eng n).advance).abortTry n else s

/-- RESULT_WRITEBACK (R301). -/
def execResultWriteback (n : Fin 16) (s : State) : Out := .next (s.core (s.bundleEnd n))

/-! ### Issue (R299, R300, R305) -/

/-- A byte of local memory as a fetch sees it (R312). Log entry 46 (DEDUCED). -/
def State.fetchByte (s : State) (n a : Nat) : Byte :=
  (((s.eng n).stale.find? (fun e => e.1 == a)).map (·.2)).getD (s.readByte a)

/-- The 64 bits of bundle `p`. -/
def State.fetchBundle (s : State) (n p : Nat) : Nat := leBytes (s.fetchByte n) (seBase n + 8 * p) 8

/-- The facts that hold of a bundle whose bits are `ir`: one of zeros holds no operation. -/
def factsOf (b : BundleInfo) (ir : Nat) : BundleInfo :=
  if ir = 0 then { corrected := b.corrected, fetchBad := b.fetchBad, loadBad := b.loadBad } else b

/-- Two of the operations write one register. -/
def collides (ws : List (Fin 58)) : Bool := !decide ws.Nodup

/-- The bundle at index `p` is illegal (R300, R305). Log entry 48 (DESIGN CHOICE). -/
def Engine.illegal (e : Engine) (p : Nat) (b : BundleInfo) : Bool :=
  b.reserved || collides b.writes || (b.branch && e.delay != 0) ||
  (b.branch && e.myLoops.any (fun l => l.last == (p + 1) % 65536 || l.last == (p + 2) % 65536))

/-- An event is to be taken before another main bundle issues (R307, R308). Log entry 47 (DEDUCED). -/
def State.eventDue (s : State) (n : Nat) : Bool :=
  let e := s.eng n
  s.on F.SE_CTRL_IEN n && s.on F.EVC_TGT_STATUS_PRESENTED (1 + n) && e.set_ == 0 && e.results.isEmpty && !e.open_ &&
  e.delay == 0 && s.engGoes n

/-- The engine fetches and issues its next bundle: the bundle before it has ended. -/
def State.bundleFetch (s : State) (n : Nat) (b0 : BundleInfo) : State :=
  let e := s.eng n
  let p := e.pc
  let ir := if b0.fetchBad then 0 else s.fetchBundle n p
  let b := factsOf b0 ir
  let s1 := s.bumpBy F.FLT_ECC_COUNT_CORRECTED b.corrected
  let s2 := if b.fetchBad then s1.sramBad (seBase n + 8 * p) else s1
  if e.illegal p b then s2.engFault n 1 p
  else
    (s2.setEng n { e with
      count := e.count + 1
      open_ := true
      ir := ir
      badWord := b.loadBad.map (fun w => w.val)
      decl := b.writes.map (fun w => w.val)
      slots := if b.branch then 16 else 0 }).setF F.SE_STATUS_PC p n

/-- A bundle issues while a job or a handler runs. -/
def State.bundleIssue (s : State) (n : Nat) (b : BundleInfo) : State :=
  let s1 := s.bundleEnd n
  let e := s1.eng n
  if s1.engGoes n && !e.open_ && (e.job.isSome || e.set_ == 1) && !s1.eventDue n then s1.bundleFetch n b else s1

/-- BUNDLE_ISSUE (R299). -/
def execBundleIssue (n : Fin 16) (b : BundleInfo) (s : State) : Out := .next (s.core (s.bundleIssue n b))

/-! ### Slots (R299) -/

/-- The slots of a bundle: multiply slot `k`, both with PAIR = 1, load/store, control, and the LONG form. -/
inductive Slot where
  | mac (k : Nat) | pair | ls | ctl | long
  deriving DecidableEq, Repr

/-- The bits of the slots an operation occupies. -/
def Slot.mask : Slot → Nat
  | .mac k => 2 ^ (k % 2)
  | .pair => 3
  | .ls => 4
  | .ctl => 8
  | .long => 12

/-- The bundle's bits hold an operation in the slot. Log entry 48 (DESIGN CHOICE). -/
def Slot.holds (ir : Nat) : Slot → Bool
  | .mac k => !bit ir 62 && bits ir (if k % 2 = 0 then 47 else 32) 15 != 0
  | .pair => bit ir 62 && bits ir 32 30 != 0
  | .ls => !bit ir 63 && bits ir 14 18 != 0
  | .ctl => !bit ir 63 && bits ir 0 14 != 0
  | .long => bit ir 63 && bits ir 0 32 != 0

/-- An operation in slot `x` that writes `ds` can be one of the bundle in hand. Log entry 48 (DESIGN CHOICE). -/
def Engine.takes (e : Engine) (x : Slot) (ds : List Nat) : Bool :=
  e.open_ && x.holds e.ir && Nat.land e.slots x.mask == 0 && ds.all e.decl.contains

/-- An operation of the bundle in hand: its slot is used, and it acts. -/
def State.op (s : State) (n : Nat) (x : Slot) (ds : List Nat) (act : State → State) : State :=
  if (s.eng n).takes x ds && !s.on F.SE_STATUS_FAULTED n && !s.absent n && !s.asleep && !s.inReset then
    act (s.setEng n { s.eng n with slots := Nat.lor (s.eng n).slots x.mask })
  else s

/-- Queue a result of latency `lat` of the bundle in hand (R301). -/
def Engine.result (e : Engine) (reg val lat : Nat) (sat : Option Nat := none) (mac : Nat := 0) : Engine :=
  { e with results := e.results ++ [{ due := e.count + lat - 1, set_ := e.set_, reg := reg, val := val, sat := sat, mac := mac, issued := e.count }] }

/-- An operation that only queues results. -/
def State.opE (s : State) (n : Nat) (x : Slot) (ds : List Nat) (f : Engine → Engine) : State :=
  s.op n x ds (fun s => s.setEng n (f (s.eng n)))

/-- A data register as a signed value. -/
def Engine.d (e : Engine) (j : Nat) : Int := sext 24 (e.r (rD j))
def Engine.a (e : Engine) (k : Nat) : Int := sext 56 (e.r (rA k))

/-- A value of the control slot: a data register, a pointer or an immediate. -/
def Engine.val (e : Engine) : EVal → Nat
  | .d j => trunc 32 (e.d j)
  | .p k => e.r (rP k)
  | .imm v => v.toNat

/-! ### Branches and loops (R305, R306) -/

/-- A branch that is taken or not: its delay slots follow. -/
def Engine.branchTo (e : Engine) (t : Nat) (taken : Bool) : Engine :=
  { e with branch := if taken then some (t % 65536, 3) else e.branch, delay := 3 }

/-- A branch of the bundle in hand, in the LONG form; the bundle's decoding has announced it. -/
def State.branchOp (s : State) (n : Nat) (ds : List Nat) (f : Engine → Engine) : State :=
  if bit (s.eng n).slots 4 then s.opE n .long ds f else s

/-- The bundle in hand. -/
def State.pcOf (s : State) (n : Nat) : Nat := (s.eng n).pc

/-- BR (R305). -/
def execBr (n : Fin 16) (t : Fin 65536) (s : State) : Out := .next (s.branchOp n [] (fun e => e.branchTo t true))

/-- A condition flag (R293). -/
def Engine.flag (e : Engine) : Cond → Bool
  | .neg => bit (e.r rCC) 3
  | .zero => bit (e.r rCC) 2
  | .carry => bit (e.r rCC) 1
  | .over => bit (e.r rCC) 0

/-- BRCC (R305). -/
def execBrcc (n : Fin 16) (c : Cond) (want : Bool) (t : Fin 65536) (s : State) : Out :=
  .next (s.branchOp n [] (fun e => e.branchTo t (e.flag c == want)))

/-- CALL writes the index of the third bundle after it to RA (R305). -/
def execCall (n : Fin 16) (t : Fin 65536) (s : State) : Out :=
  .next (s.branchOp n [rRA] (fun e => (e.result rRA ((e.pc + 3) % 65536) 1).branchTo t true))

/-- RET (R305). -/
def execRetOp (n : Fin 16) (s : State) : Out := .next (s.branchOp n [] (fun e => e.branchTo (e.r rRA) true))

/-- The count of a LOOP by its fields in R299. -/
def Engine.loopCount (e : Engine) : Nat :=
  if bit e.ir 25 then
    let v := e.r (rD (bits e.ir 20 4)) % 65536
    if v = 0 then 65536 else v
  else bits e.ir 12 12 + 1

/-- LOOP starts its body at the next bundle, or faults on a counter whose loop still runs (R306). -/
def State.loopOp (s : State) (n : Nat) : State :=
  let e := s.eng n
  let k := b2n (bit e.ir 24)
  if e.myLoops.any (fun l => l.lc == k) then s.engFault n 4 e.pc
  else
    let l : HwLoop := { set_ := e.set_, lc := k, first := (e.pc + 1) % 65536, last := (e.pc + bits e.ir 0 12) % 65536 }
    s.setEng n { e.result (rLC k) e.loopCount 1 with loops := l :: e.loops }

/-- LOOP (R306). -/
def execLoopOp (n : Fin 16) (s : State) : Out :=
  .next (s.op n .long [rLC (b2n (bit (s.eng n).ir 24))] (fun s => s.loopOp n))

/-! ### Interrupts (R307 to R309) -/

/-- A pending event is taken at a bundle boundary: the shadow set runs from word 0 of the kernel table. -/
def State.eventEntry (s : State) (n : Nat) : State :=
  let s1 := s.bundleEnd n
  if s1.eventDue n then
    s1.setEng n { s1.eng n with set_ := 1, resume := (s1.eng n).pc, pc := s1.kernelEntry n 0 }
  else s1

/-- ENGINE_EVENT_ENTRY (R307). -/
def execEngineEventEntry (n : Fin 16) (s : State) : Out := .next (s.core (s.eventEntry n))

/-- RETI waits for the shadow results, and the main set resumes at the interrupted bundle; in the main set it faults (R309). -/
def State.retiOp (s : State) (n : Nat) : State :=
  let e := s.eng n
  if e.set_ = 0 then s.engFault n 5 e.pc
  else
    let e1 := e.flush (fun x => x.set_ == 1)
    (s.setEng n { e1 with set_ := 0, pc := e.resume, branch := none, delay := 0, open_ := false }).abortTry n

/-- RETI (R309). -/
def execReti (n : Fin 16) (s : State) : Out := .next (s.op n .ctl [] (fun s => s.retiOp n))

/-! ### Events and the engine's own lines (R319, R357, R358) -/

/-- SIG (R319). -/
def execSig (n : Fin 16) (s : State) : Out := .next (s.op n .ctl [] (fun s => s.pulse (400 + n)))

/-- The latency of CLAIM, which R302 does not give: 1 to 3 bundles. Log entry 44 (DESIGN CHOICE). -/
def claimLatency : Nat := 1 + Config.choice 0x52 0 % 3

/-- CLAIM Dj (R357): the line claimed goes to Dj. Log entry 44 (DESIGN CHOICE). -/
def execClaimOp (n j : Fin 16) (s : State) : Out :=
  .next (s.op n .ctl [rD j] (fun s =>
    let t := s.claim (1 + n)
    t.setEng n ((t.eng n).result (rD j) (s.claimLine (1 + n)) claimLatency)))

/-- COMPLETE Dj (R358): the service of line Dj ends. -/
def execComplete (n j : Fin 16) (s : State) : Out :=
  .next (s.op n .ctl [] (fun s => s.complete (1 + n) ((s.eng n).r (rD j) % 1024)))

end Sys2Proof.Machine
end

