-- ==== Sys2Proof/Machine/EngineMac.lean ====
section
/-!
DEFINITION. Sys2Proof/Machine/EngineMac.lean: the multiply slots and register arithmetic of the signal engines (R293 to R296,
R302).
-/
namespace Sys2Proof.Machine

/-! ### Accumulators (R295, R301, R302) -/

/-- The accumulator a multiply-accumulate of a kind adds to: the latest result of its kind still on its way is forwarded
from the bundle after its issue. -/
def Engine.accFor (e : Engine) (mac k : Nat) : Int :=
  match (e.results.filter (fun x => x.mac == mac && x.set_ == e.set_ && x.reg == rA k && decide (x.issued < e.count))).getLast? with
  | some x => sext 56 x.val
  | none => e.a k

/-- Queue an accumulator's new value, saturated at 56 bits with its AV bit (R295). Log entry 47 (DEDUCED). -/
def Engine.accResult (e : Engine) (k : Nat) (x : Int) (lat : Nat) (mac : Nat := 0) : Engine :=
  e.result (rA k) (trunc 56 (satW 56 x)) lat (if overW 56 x then some (8 + k) else none) mac

def Engine.prod (e : Engine) (t : MulTerm) : Int := e.d t.x * e.d t.y

/-- The real multiply class: each accumulator named takes its old value (`keep`) plus or minus its products. -/
def Engine.realMac (e : Engine) (keep : Bool) (sign : Int) (t : MulTerm) (u : Option MulTerm) : Engine :=
  let base (k : Nat) : Int := if keep then e.accFor 1 k else 0
  match u with
  | none => e.accResult t.acc (base t.acc + sign * e.prod t) 3 1
  | some v =>
    if t.acc = v.acc then e.accResult t.acc (base t.acc + sign * (e.prod t + e.prod v)) 3 1
    else (e.accResult t.acc (base t.acc + sign * e.prod t) 3 1).accResult v.acc (base v.acc + sign * e.prod v) 3 1

/-- The accumulators of a real multiply. -/
def macDests (t : MulTerm) (u : Option MulTerm) : List Nat := rA t.acc :: (u.map (fun v => rA v.acc)).toList

/-- MPY (R302). -/
def execMpy (n : Fin 16) (sl : Fin 2) (t : MulTerm) (u : Option MulTerm) (s : State) : Out :=
  .next (s.opE n (.mac sl) (macDests t u) (fun e => e.realMac false 1 t u))
/-- MAC (R302). -/
def execMac (n : Fin 16) (sl : Fin 2) (t : MulTerm) (u : Option MulTerm) (s : State) : Out :=
  .next (s.opE n (.mac sl) (macDests t u) (fun e => e.realMac true 1 t u))
/-- MSU (R302). -/
def execMsu (n : Fin 16) (sl : Fin 2) (t : MulTerm) (u : Option MulTerm) (s : State) : Out :=
  .next (s.opE n (.mac sl) (macDests t u) (fun e => e.realMac true (-1) t u))

/-- The complex product of two register pairs, the second conjugated or not. -/
def Engine.cprod (e : Engine) (conj : Bool) (x y : Nat) : Int × Int :=
  let xi := e.d (2 * x)
  let xq := e.d (2 * x + 1)
  let yi := e.d (2 * y)
  let yq := if conj then -e.d (2 * y + 1) else e.d (2 * y + 1)
  (xi * yi - xq * yq, xi * yq + xq * yi)

/-- The complex multiply class into A(2i):A(2i+1). -/
def Engine.complexMac (e : Engine) (keep conj : Bool) (k x y : Nat) : Engine :=
  let base (j : Nat) : Int := if keep then e.accFor 2 j else 0
  let p := e.cprod conj x y
  (e.accResult (2 * k) (base (2 * k) + p.1) 3 2).accResult (2 * k + 1) (base (2 * k + 1) + p.2) 3 2

def pairDests (k : Nat) : List Nat := [rA (2 * k), rA (2 * k + 1)]

/-- CMPY (R302). -/
def execCmpy (n : Fin 16) (k : Fin 2) (x y : Fin 8) (s : State) : Out :=
  .next (s.opE n .pair (pairDests k) (fun e => e.complexMac false false k x y))
/-- CMAC (R302). -/
def execCmac (n : Fin 16) (k : Fin 2) (x y : Fin 8) (s : State) : Out :=
  .next (s.opE n .pair (pairDests k) (fun e => e.complexMac true false k x y))
/-- CMACJ (R302). -/
def execCmacj (n : Fin 16) (k : Fin 2) (x y : Fin 8) (s : State) : Out :=
  .next (s.opE n .pair (pairDests k) (fun e => e.complexMac true true k x y))

/-- CLRA (R302). -/
def execClra (n : Fin 16) (sl : Fin 2) (k : Fin 4) (s : State) : Out :=
  .next (s.opE n (.mac sl) [rA k] (fun e => e.accResult k 0 2))
/-- MOVDA (R296). -/
def execMovda (n : Fin 16) (sl : Fin 2) (k : Fin 4) (j : Fin 16) (s : State) : Out :=
  .next (s.opE n (.mac sl) [rA k] (fun e => e.accResult k (e.d j * 2 ^ 23) 2))
/-- ADDA (R302). -/
def execAdda (n : Fin 16) (sl : Fin 2) (k j : Fin 4) (s : State) : Out :=
  .next (s.opE n (.mac sl) [rA k] (fun e => e.accResult k (e.a k + e.a j) 2))
/-- SUBA (R302). -/
def execSuba (n : Fin 16) (sl : Fin 2) (k j : Fin 4) (s : State) : Out :=
  .next (s.opE n (.mac sl) [rA k] (fun e => e.accResult k (e.a k - e.a j) 2))
/-- NEGA (R302). -/
def execNega (n : Fin 16) (sl : Fin 2) (k : Fin 4) (s : State) : Out :=
  .next (s.opE n (.mac sl) [rA k] (fun e => e.accResult k (-e.a k) 2))

/-- SHA by `sh`, left when positive.  What a left shift beyond 56 bits gives, and how an inexact right shift rounds, the
spec does not say. Log entries 40 (PRESUMED), 41 (DESIGN CHOICE). -/
def State.sha (s : State) (n k : Nat) (sh : Int) : State :=
  let e := s.eng n
  let x := e.a k
  let c := Config.choice 0x53 s.free
  let s1 : State := { s with free := s.free + 1 }
  if 0 ≤ sh then
    let y := x * 2 ^ sh.toNat
    if overW 56 y then s1.setEng n (e.result (rA k) c 2 (if c / 2 ^ 56 % 2 = 0 then none else some (8 + k)))
    else s1.setEng n (e.accResult k y 2)
  else
    let m : Int := ((2 ^ (-sh).toNat : Nat) : Int)
    s1.setEng n (e.accResult k (x / m + (if x % m = 0 then 0 else ((c % 2 : Nat) : Int))) 2)

/-- SHA (R302). Log entry 40 (PRESUMED). -/
def execSha (n : Fin 16) (sl : Fin 2) (k : Fin 4) (sh : BitVec 6) (s : State) : Out :=
  .next (s.op n (.mac sl) [rA k] (fun s => s.sha n k sh.toInt))

/-! ### Moves of accumulators (R296) -/

/-- The scale shift of Ak. -/
def Engine.scl (e : Engine) (k : Nat) : Nat := bits (e.r rCC) (16 + 4 * k) 4

/-- `x` shifted right by `n`, rounded half up or half to even. -/
def roundShift (even : Bool) (x : Int) (n : Nat) : Int :=
  let q := x / (2 ^ n : Nat)
  let r := x % (2 ^ n : Nat)
  let h : Int := ((2 ^ (n - 1) : Nat) : Int)
  if h < r ∨ (r = h ∧ (even = false ∨ q % 2 = 1)) then q + 1 else q

/-- Ak as a move gives it, before saturation. -/
def Engine.scaled (e : Engine) (k : Nat) : Int := roundShift (bit (e.r rCC) 15) (e.a k) (23 + e.scl k)

/-- The sticky bit SV, where a value saturates to `w` bits (R293). -/
def svOf (w : Nat) (x : Int) : Option Nat := if overW w x then some 7 else none

/-- MVA (R296). -/
def execMva (n j : Fin 16) (k : Fin 4) (s : State) : Out :=
  .next (s.opE n .ctl [rD j] (fun e => e.result (rD j) (trunc 24 (satW 24 (e.scaled k))) 2 (svOf 24 (e.scaled k))))

/-- The bits 55 to 47 that equal the bit below them, from the top, counted until one differs. -/
def redundant (v : Nat) : Nat → Nat → Nat
  | _, 0 => 0
  | top, fuel + 1 => if bit v top == bit v (top - 1) then 1 + redundant v (top - 1) fuel else 0

/-! ### Register arithmetic (R293, R302) -/

/-- N and Z of a 24-bit value, with C and V (R293). -/
def flagsOf (x : Int) (c v : Bool) : Nat := 8 * b2n (decide (x < 0)) + 4 * b2n (decide (x = 0)) + 2 * b2n c + b2n v

/-- Queue a data register's new value of latency 1. -/
def Engine.dResult (e : Engine) (j : Nat) (x : Int) : Engine := e.result (rD j) (trunc 24 x) 1

/-- C after a subtraction: whether it stands for a borrow or for its absence, the spec does not say.
Log entry 42 (DESIGN CHOICE). -/
def subCarry (a b : Nat) : Bool := (Config.choice 0x51 0 % 2 == 0) == decide (a < b)

/-- ADD and ADDS: the flags are those of the sum, and of its saturated value in ADDS. -/
def Engine.add (e : Engine) (j a b : Nat) (saturate : Bool) : Engine :=
  let x := e.d a + e.d b
  let y := if saturate then satW 24 x else sext 24 (trunc 24 x)
  (e.dResult j y).result rFlags (flagsOf y (decide (2 ^ 24 ≤ e.r (rD a) + e.r (rD b))) (overW 24 x)) 1

/-- The flags of a subtraction. -/
def Engine.subFlags (e : Engine) (a b : Nat) : Engine :=
  let x := e.d a - e.d b
  e.result rFlags (flagsOf (sext 24 (trunc 24 x)) (subCarry (e.r (rD a)) (e.r (rD b))) (overW 24 x)) 1

/-- ADD (R302). -/
def execAddOp (n j a b : Fin 16) (s : State) : Out := .next (s.opE n .ctl [rD j] (fun e => e.add j a b false))
/-- ADDS (R302). -/
def execAdds (n j a b : Fin 16) (s : State) : Out := .next (s.opE n .ctl [rD j] (fun e => e.add j a b true))
/-- SUB (R302). -/
def execSubOp (n j a b : Fin 16) (s : State) : Out :=
  .next (s.opE n .ctl [rD j] (fun e => (e.dResult j (e.d a - e.d b)).subFlags a b))
/-- CMP (R302). -/
def execCmp (n a b : Fin 16) (s : State) : Out := .next (s.opE n .ctl [] (fun e => e.subFlags a b))

/-- A result of an operation of which the spec does not say whether it is arithmetic that writes the flags: they stay, or
N and Z are the result's and C and V anything. Log entry 42 (DESIGN CHOICE). -/
def Engine.logic (e : Engine) (op j : Nat) (v : Nat) : Engine :=
  let e1 := e.dResult j (v : Int)
  if Config.choice 0x50 op % 2 = 0 then e1
  else
    let c := Config.choice 0x54 e.count
    e1.result rFlags (flagsOf (sext 24 v) (bit c 0) (bit c 1)) 1

/-- AND (R302). -/
def execAndOp (n j a b : Fin 16) (s : State) : Out :=
  .next (s.opE n .ctl [rD j] (fun e => e.logic 0 j (Nat.land (e.r (rD a)) (e.r (rD b)))))
/-- OR (R302). -/
def execOrOp (n j a b : Fin 16) (s : State) : Out :=
  .next (s.opE n .ctl [rD j] (fun e => e.logic 1 j (Nat.lor (e.r (rD a)) (e.r (rD b)))))
/-- XOR (R302). -/
def execXorOp (n j a b : Fin 16) (s : State) : Out :=
  .next (s.opE n .ctl [rD j] (fun e => e.logic 2 j (Nat.xor (e.r (rD a)) (e.r (rD b)))))

/-- A shift by 24 places or more gives a value the spec does not state. Log entry 42 (DESIGN CHOICE). -/
def shiftFree (op v k : Nat) : Nat := Config.freeField (0x60 + op) (v * 2 ^ 32 + k) % 2 ^ 24

/-- SHL (R302). -/
def execShl (n j a : Fin 16) (k : EVal) (s : State) : Out :=
  .next (s.opE n .ctl [rD j] (fun e =>
    let m := e.val k
    e.logic 3 j (if m < 24 then e.r (rD a) * 2 ^ m % 2 ^ 24 else shiftFree 0 (e.r (rD a)) m)))

/-- SHR of a negative value fills with its sign or with zeros, which the spec does not say. Log entry 42 (DESIGN CHOICE). -/
def shiftRight (v m : Nat) : Nat :=
  if Config.choice 0x55 0 % 2 = 0 then v / 2 ^ m else trunc 24 (sext 24 v / ((2 ^ m : Nat) : Int))

/-- SHR (R302). -/
def execShr (n j a : Fin 16) (k : EVal) (s : State) : Out :=
  .next (s.opE n .ctl [rD j] (fun e =>
    let m := e.val k
    e.logic 4 j (if m < 24 then shiftRight (e.r (rD a)) m else shiftFree 1 (e.r (rD a)) m)))

/-- NORM (R296). -/
def execNormOp (n j : Fin 16) (k : Fin 4) (s : State) : Out :=
  .next (s.opE n .ctl [rD j] (fun e => e.logic 5 j (redundant (e.r (rA k)) 55 9)))

/-- MOV (R302). -/
def execMovOp (n j a : Fin 16) (s : State) : Out := .next (s.opE n .ctl [rD j] (fun e => e.dResult j (e.d a)))
/-- MOVI (R299). -/
def execMovi (n j : Fin 16) (v : BitVec 24) (s : State) : Out :=
  .next (s.opE n .long [rD j] (fun e => e.dResult j v.toInt))

/-! ### Pointers and modes (R292, R293, R302) -/

/-- MOVP (R302). -/
def execMovp (n : Fin 16) (k : Fin 8) (v : EVal) (s : State) : Out :=
  .next (s.opE n .ctl [rP k] (fun e => e.result (rP k) (e.val v) 1))
/-- SETB (R298). -/
def execSetb (n : Fin 16) (k : Fin 8) (v : EVal) (s : State) : Out :=
  .next (s.opE n .ctl [rB k] (fun e => e.result (rB k) (e.val v) 1))
/-- SETL (R298). -/
def execSetl (n : Fin 16) (k : Fin 8) (v : EVal) (s : State) : Out :=
  .next (s.opE n .ctl [rL k] (fun e => e.result (rL k) (e.val v) 1))
/-- SETM (R297). -/
def execSetm (n : Fin 16) (k : Fin 8) (v : EVal) (s : State) : Out :=
  .next (s.opE n .ctl [rM k] (fun e => e.result (rM k) (e.val v) 1))
/-- SETCC (R293). -/
def execSetcc (n : Fin 16) (v : EVal) (s : State) : Out :=
  .next (s.opE n .ctl [rCC] (fun e => e.result rMode (e.val v) 1))
/-- SETWIN (R290). -/
def execSetwin (n : Fin 16) (w : Fin 2) (v : EVal) (s : State) : Out :=
  .next (s.opE n .ctl [rWB w] (fun e => e.result (rWB w) (e.val v) 2))

end Sys2Proof.Machine
end

