-- ==== Sys2Proof/Machine/EngineMem.lean ====
section
/-!
DEFINITION. Sys2Proof/Machine/EngineMem.lean: the load/store slot, the write buffer and the drains of the signal engines (R290,
R291, R294, R297, R298, R310 to R312, R316, R319).
-/
namespace Sys2Proof.Machine

/-! ### Addresses (R290, R297, R298) -/

/-- A pointer address. -/
def ptr (x : Int) : Nat := trunc 20 x

/-- A circular step of Pk by `st` (R298). -/
def Engine.step (e : Engine) (k : Nat) (st : Int) : Nat :=
  let t : Int := (e.r (rP k) : Int) + st
  let b := e.r (rB k)
  let l := e.r (rL k)
  if l = 0 then ptr t
  else if ((b + l : Nat) : Int) ≤ t then ptr (t - (l : Int))
  else if t < (b : Int) then ptr (t + (l : Int))
  else ptr t

/-- The address an access of `size` bytes uses, and the new value of its pointer where it has one. -/
def Engine.address (e : Engine) (a : Addr) (size : Nat) : Nat × Option Nat :=
  let p := e.r (rP a.p)
  match a.mode with
  | .ind => (p, none)
  | .off imm => (ptr ((p : Int) + imm.toInt * (size : Int)), none)
  | .postM => (p, some (e.step a.p (sext 20 (e.r (rM a.p)))))
  | .postImm imm => (p, some (e.step a.p (imm.toInt * (size : Int))))
  | .idx j => (ptr ((p : Int) + e.d j), none)

/-- The pointer an access updates. -/
def addrDest (a : Addr) : List Nat :=
  match a.mode with
  | .postM | .postImm _ => [rP a.p]
  | _ => []

/-- Queue a pointer's update, of latency 1 (R302). -/
def Engine.upd (e : Engine) (a : Addr) (u : Option Nat) : Engine :=
  match u with
  | some v => e.result (rP a.p) v 1
  | none => e

/-- A pointer address reaches a window. -/
def windowed (a : Nat) : Bool := decide (0x80000 ≤ a)

/-- The fabric address of a pointer address of engine `n` (R290). -/
def Engine.fabricAddr (e : Engine) (n a : Nat) : Nat :=
  if windowed a then e.r (rWB (a / 0x40000 - 2)) * 4096 + a % 0x40000 else seBase n + a

/-! ### Loads (R294, R302, R310) -/

/-- The bytes an access form moves: 0 LD and LD2 containers, 1 LDH, 2 LDK, 3 LDP. Log entry 45 (DESIGN CHOICE). -/
def formVals (form v : Nat) : List Nat :=
  match form with
  | 0 => [v % 2 ^ 24, v / 2 ^ 32 % 2 ^ 24]
  | 1 => [v % 2 ^ 16 * 2 ^ 8]
  | _ => [v % 2 ^ 24, v / 2 ^ 24 % 2 ^ 24]

/-- The latest buffered store that covers a byte, else memory; a local word that cannot be corrected reads as zero (R472), and
bytes beyond local memory as anything. Log entry 46 (DEDUCED). -/
def State.localByte (s : State) (n a : Nat) : Byte :=
  let e := s.eng n
  let off := a - seBase n
  if 0x80000 ≤ off then Config.freeByte s.free a
  else
    match (e.buf.filter (fun b => decide (b.addr ≤ a) && decide (a < b.addr + b.bytes.length))).getLast? with
    | some b => b.bytes.getD (a - b.addr) 0
    | none => if e.badWord = some (off / 8) then 0 else s.readByte a

/-- Queue the values of a load. -/
def Engine.loaded (e : Engine) (x : LoadPart) (v lat : Nat) : Engine :=
  ((formVals x.form v).zip x.regs).foldl (fun e p => e.result p.2 p.1 lat) e

/-- One part of a load from local memory, of latency 3.  What LDP makes of its container the spec does not say.
Log entry 45 (DESIGN CHOICE). -/
def State.loadLocal (s : State) (n : Nat) (x : LoadPart) : State :=
  let bad := (s.eng n).badWord.any (fun w => decide (x.addr - seBase n < 8 * w + 8) && decide (8 * w < x.addr - seBase n + x.size))
  let s1 := if bad then s.sramBad x.addr else s
  if x.form = 3 then
    ({ s1 with free := s1.free + 1 }).setEng n ((s1.eng n).result (x.regs.headD rNone) (Config.freeField 0x56 s1.free) 3)
  else
    ({ s1 with free := s1.free + 1 }).setEng n ((s1.eng n).loaded x (leBytes (s1.localByte n) x.addr x.size) 3)

/-- The two halves of a dual load meet in one bank: a cycle of stall, counted by 1,024 (R291). -/
def State.bankStall (s : State) (n : Nat) (xs : List (Nat × LoadPart)) : State :=
  match xs with
  | [x, y] =>
    if !windowed x.1 && !windowed y.1 && x.1 / 8 % 16 == y.1 / 8 % 16 then
      let k := (s.eng n).stalls + 1
      let s1 := s.setEng n { s.eng n with stalls := k }
      if k % 1024 = 0 then s1.bump F.SE_COUNT_BANK_STALLS n else s1
    else s
  | _ => s

/-- A load of one or two parts, by pointer address with its alignment: a misaligned access stops the engine; parts behind a
window wait for their data (R302). -/
def State.load (s : State) (n align : Nat) (xs : List (Nat × LoadPart)) (us : List (Addr × Option Nat)) : State :=
  match xs.find? (fun x => x.1 % align != 0) with
  | some x => s.engFault n 2 x.1
  | none =>
    let s1 := s.setEng n (us.foldl (fun e u => e.upd u.1 u.2) (s.eng n))
    let s2 := (xs.filter (fun x => !windowed x.1)).foldl (fun s x => s.loadLocal n x.2) (s1.bankStall n xs)
    let w := (xs.filter (fun x => windowed x.1)).map (·.2)
    if w = [] then s2 else s2.setEng n { s2.eng n with stall := .load w, stallAt := s.elapsed }

/-- A load through one pointer. -/
def State.loadOp (s : State) (n : Nat) (a : Addr) (size align form : Nat) (regs : List Nat) : State :=
  s.op n .ls (regs ++ addrDest a) (fun s =>
    let e := s.eng n
    let x := e.address a size
    s.load n align [(x.1, { addr := e.fabricAddr n x.1, size := size, form := form, regs := regs })] [(a, x.2)])

/-- The pair D(2i), D(2i+1). -/
def dPair (k : Nat) : List Nat := [rD (2 * k), rD (2 * k + 1)]

/-- LD (R294). -/
def execLd (n j : Fin 16) (a : Addr) (s : State) : Out := .next (s.loadOp n a 4 4 0 [rD j])
/-- LDH (R294). -/
def execLdh (n j : Fin 16) (a : Addr) (s : State) : Out := .next (s.loadOp n a 2 2 1 [rD j])
/-- LD2 (R294). -/
def execLd2 (n : Fin 16) (k : Fin 8) (a : Addr) (s : State) : Out := .next (s.loadOp n a 8 8 0 (dPair k))
/-- LDK (R294). -/
def execLdk (n : Fin 16) (k : Fin 8) (a : Addr) (s : State) : Out := .next (s.loadOp n a 6 2 2 (dPair k))
/-- LDP (R302). -/
def execLdp (n : Fin 16) (k : Fin 8) (a : Addr) (s : State) : Out := .next (s.loadOp n a 4 1 3 [rP k])

/-- LDX loads two pairs, through one pointer of P0–P3 and one of P4–P7. -/
def execLdx (n : Fin 16) (k l : Fin 8) (a b : Addr) (s : State) : Out :=
  .next (s.op n .ls (dPair k ++ dPair l ++ addrDest a ++ addrDest b) (fun s =>
    let e := s.eng n
    let x := e.address a 8
    let y := e.address b 8
    s.load n 8 [(x.1, { addr := e.fabricAddr n x.1, size := 8, form := 0, regs := dPair k }),
      (y.1, { addr := e.fabricAddr n y.1, size := 8, form := 0, regs := dPair l })] [(a, x.2), (b, y.2)]))

/-- One part of a window load: its answer code and the effect of the access. Log entry 45 (DESIGN CHOICE). -/
def State.loadWindow (s : State) (n : Fin 16) (ecc : Nat) (x : LoadPart) : State :=
  if s.on F.SE_STATUS_FAULTED n then s
  else
    let r := s.access (.engine n) (2 + n) .read x.addr x.size 0 ecc
    if r.1 ≠ 0 then r.2.2.engFault n 3 x.addr
    else if x.form = 3 then
      ({ r.2.2 with free := r.2.2.free + 1 }).setEng n ((r.2.2.eng n).result (x.regs.headD rNone) (Config.freeField 0x56 r.2.2.free) 1)
    else r.2.2.setEng n ((r.2.2.eng n).loaded x r.2.1 1)

/-- The data of a window load arrive, after at least 40 cycles (R302), no window store remaining in the buffer (R310); a refused access stops the
engine at the load (R319). -/
def State.windowData (s : State) (n : Fin 16) (ecc : Nat) : State :=
  let e := s.eng n
  match e.stall with
  | .load xs =>
    if s.absent n || s.on F.SE_STATUS_FAULTED n || e.buf.any (fun b => b.window) || decide (s.coreCycles (s.elapsed - e.stallAt) < 40 * coreUnit) then s
    else xs.foldl (fun s x => s.loadWindow n ecc x) (s.setEng n { e with stall := .none })
  | _ => s

/-- WINDOW_LOAD_DATA (R302). -/
def execWindowLoadData (n : Fin 16) (ecc : Fin 3) (s : State) : Out := .next (s.core (s.windowData n ecc))

/-! ### Stores (R294, R310) -/

/-- A number as `n` little-endian bytes. -/
def toBytes (v n : Nat) : List Byte := (List.range n).map (fun i => BitVec.ofNat 8 (v / 256 ^ i))

/-- A data register as a container. -/
def Engine.container (e : Engine) (j : Nat) : Nat := trunc 32 (e.d j)

/-- A store joins the write buffer; a full buffer stalls the engine.  Bytes beyond local memory go nowhere.
Log entry 46 (DEDUCED). -/
def Engine.pushStore (e : Engine) (b : BufStore) : Engine :=
  if 8 ≤ e.buf.length then { e with stall := .store b } else { e with buf := e.buf ++ [b] }

/-- A store of `bs` at a pointer address, with the sticky bit it sets: a misaligned access stops the engine. -/
def State.storeOp (s : State) (n : Nat) (a : Addr) (size align : Nat) (bs : Engine → List Byte) (sv : Engine → Option Nat) : State :=
  s.op n .ls (addrDest a) (fun s =>
    let e := s.eng n
    let x := e.address a size
    if x.1 % align ≠ 0 then s.engFault n 2 x.1
    else
      let data := if windowed x.1 then bs e else (bs e).take (0x80000 - x.1)
      let e1 := (e.upd a x.2).pushStore { addr := e.fabricAddr n x.1, bytes := data, window := windowed x.1 }
      s.setEng n (if (sv e).isSome then e1.result rNone 0 1 (sv e) else e1))

/-- Bits [23:8] as STH stores them: 2^7 added, saturated to 16 bits. -/
def Engine.half (e : Engine) (j : Nat) : Int := (e.d j + 128) / 256

/-- ST (R294). -/
def execSt (n j : Fin 16) (a : Addr) (s : State) : Out :=
  .next (s.storeOp n a 4 4 (fun e => toBytes (e.container j) 4) (fun _ => none))
/-- STH (R294). -/
def execSth (n j : Fin 16) (a : Addr) (s : State) : Out :=
  .next (s.storeOp n a 2 2 (fun e => toBytes (trunc 16 (satW 16 (e.half j))) 2) (fun e => svOf 16 (e.half j)))
/-- ST2 (R294). -/
def execSt2 (n : Fin 16) (k : Fin 8) (a : Addr) (s : State) : Out :=
  .next (s.storeOp n a 8 8 (fun e => toBytes (e.container (2 * k)) 4 ++ toBytes (e.container (2 * k + 1)) 4) (fun _ => none))
/-- STK (R294). -/
def execStk (n : Fin 16) (k : Fin 8) (a : Addr) (s : State) : Out :=
  .next (s.storeOp n a 6 2 (fun e => toBytes (e.r (rD (2 * k))) 3 ++ toBytes (e.r (rD (2 * k + 1))) 3) (fun _ => none))
/-- STA (R296). Log entry 46 (DEDUCED). -/
def execSta (n : Fin 16) (k : Fin 4) (a : Addr) (s : State) : Out :=
  .next (s.storeOp n a 4 4 (fun e => toBytes (trunc 32 (satW 24 (e.scaled k))) 4) (fun e => svOf 24 (e.scaled k)))

/-! ### The write buffer (R310, R311) -/

/-- The store the buffer retires next; a stalled store takes the place it leaves. -/
def Engine.popStore (e : Engine) : Engine :=
  let q := e.buf.drop 1
  match e.stall with
  | .store b => { e with buf := q ++ [b], stall := .none }
  | _ => { e with buf := q }

/-- The store writes a doorbell of the DMA, which waits for the acknowledgement of every store before it (R311). -/
def toDoorbell (b : BufStore) : Bool := within b.addr (regAddr .DMA_CH_DOORBELL 0) (32 * 0x20) && b.addr % 0x20 == 0

/-- The bytes written to an engine's local memory are not what its fetches see until a FENCE (R312). -/
def State.staleStore (s : State) (n : Nat) (b : BufStore) : State :=
  if regionOf b.addr = .local_ n then s.keepStale n b.addr b.bytes.length else s

/-- The write buffer retires its oldest store: an error of a window store is on its way back (R319). -/
def State.storeRetire (s : State) (n : Fin 16) : State :=
  let e := s.eng n
  match e.buf with
  | b :: _ =>
    if s.absent n || (toDoorbell b && !e.errs.isEmpty) then s
    else
      let s1 := s.setEng n e.popStore
      if b.window then
        let v := leBytes (fun i => b.bytes.getD i 0) 0 b.bytes.length
        let r := (s1.staleStore n b).access (.engine n) (2 + n) .write b.addr b.bytes.length v 0
        if r.1 = 0 then r.2.2 else r.2.2.setEng n { r.2.2.eng n with errs := (r.2.2.eng n).errs ++ [b.addr] }
      else (s1.staleStore n b).writeBytes b.addr b.bytes
  | [] => s

/-- STORE_RETIRE (R310). -/
def execStoreRetire (n : Fin 16) (s : State) : Out := .next (s.core (s.storeRetire n))

/-- The error response of a window store arrives and stops the engine (R319); an engine that has stopped already stays as
it is. -/
def State.storeError (s : State) (n : Nat) : State :=
  let e := s.eng n
  match e.errs with
  | a :: as =>
    let s1 := s.setEng n { e with errs := as }
    if s.on F.SE_STATUS_FAULTED n then s1 else s1.engFault n 3 a
  | [] => s

/-- STORE_ERROR_RESPONSE (R319). -/
def execStoreErrorResponse (n : Fin 16) (s : State) : Out := .next (s.core (s.storeError n))

/-! ### Drains (R309, R311, R316) -/

/-- An operation that drains asks for it; CKPT and JOBEND in the shadow set fault (R309). -/
def State.drainOp (s : State) (n : Nat) (w : Stall) (inMain : Bool) : State :=
  let e := s.eng n
  if inMain && e.set_ != 0 then s.engFault n 5 e.pc else s.setEng n { e with sync := w }

/-- FENCE (R311). -/
def execFence (n : Fin 16) (s : State) : Out := .next (s.op n .ctl [] (fun s => s.drainOp n .fence false))
/-- CKPT (R316). -/
def execCkpt (n : Fin 16) (step : Fin 256) (s : State) : Out := .next (s.op n .ctl [] (fun s => s.drainOp n (.ckpt step) true))
/-- JOBEND (R316). -/
def execJobend (n : Fin 16) (s : State) : Out := .next (s.op n .ctl [] (fun s => s.drainOp n .jobend true))

/-- The job ends (R316).  Whether results of its last bundles still on their way are written, the spec does not say.
Log entry 43 (DESIGN CHOICE). -/
def State.jobEnd (s : State) (n : Nat) : State :=
  let e := (s.eng n).endBundle
  let e1 := if Config.choice 0x11 s.free % 2 = 0 then e.flush (fun x => x.set_ == 0) else { e with results := e.results.filter (fun x => x.set_ != 0) }
  let s1 := ({ s with free := s.free + 1 }).setEng n { e1 with
    job := none
    sync := .none
    abortReq := false
    branch := none
    delay := 0 }
  let s2 := match e.job with
    | some j => s1.jobOver j 3
    | none => s1
  (s2.setF F.SE_CKPT_STATE 2 n).bump F.SE_COUNT_JOBS n

/-- Every store before a drain is acknowledged, and the engine goes on (R311, R316, R317). -/
def State.drained (s : State) (n : Nat) : State :=
  let e := s.eng n
  if e.buf.isEmpty && e.errs.isEmpty && e.stall == .none && !s.absent n && !s.on F.SE_STATUS_FAULTED n then
    match e.sync with
    | .fence => s.setEng n { e with sync := .none, stale := [] }
    | .ckpt step => (s.setEng n { e with sync := .none }).setF F.SE_CKPT_STEP step n
    | .jobend => s.jobEnd n
    | .abort => s.abortDone n
    | _ => s
  else s

/-- DRAIN_COMPLETE (R311). -/
def execDrainComplete (n : Fin 16) (s : State) : Out := .next (s.core (s.drained n))

end Sys2Proof.Machine
end

