-- ==== Sys2Proof/Machine/Service.lean ====
section
/-!
DEFINITION. Sys2Proof/Machine/Service.lean: the service port and JTAG (R444, R476 to R478).
-/
namespace Sys2Proof.Machine

/-- The status byte (R476). -/
def State.svcStatus (s : State) : Nat := b2n s.svc.op.isSome * 128 + s.svc.result

/-- A command other than STATUS acts: none runs, and the device is not held in reset. -/
def State.svcIdle (s : State) : Bool := s.svc.op.isNone && !s.inReset

/-- READ_REQ of `n` + 1 words. Log entry 51 (DEDUCED). -/
def State.readReq (s : State) (a n : Nat) : State :=
  if s.svcIdle then
    { s with svc := { s.svc with op := some { write := false, addr := a, left := n + 1, data := [] }, buf := [], result := 0 } }
  else s

/-- READ_REQ (R476). -/
def execReadReq (a : Word) (n : Fin 64) (s : State) : Out := .next (s.readReq a.toNat n)

/-- A word as its four bytes, big-endian. -/
def beBytes (v : Nat) : List Nat := [v / 2 ^ 24 % 256, v / 2 ^ 16 % 256, v / 2 ^ 8 % 256, v % 256]

/-- READ_DATA returns the status byte and the words of the last READ_REQ. -/
def State.readData (s : State) : State :=
  if s.svcIdle then { s with svc := { s.svc with out := s.svcStatus :: s.svc.buf.flatMap beBytes } } else s

/-- READ_DATA (R476). -/
def execReadData (s : State) : Out := .next s.readData

/-- WRITE of the words `ws`. -/
def State.svcWrite (s : State) (a : Nat) (ws : List Nat) : State :=
  if s.svcIdle && !ws.isEmpty then
    { s with svc := { s.svc with op := some { write := true, addr := a, left := ws.length, data := ws }, result := 0 } }
  else s

/-- SVC_WRITE (R477). -/
def execSvcWrite (a : Word) (ws : List Word) (s : State) : Out := .next (s.svcWrite a.toNat (ws.map (·.toNat)))

/-- STATUS returns the status byte, also while BUSY. -/
def State.svcState (s : State) : State :=
  if s.inReset then s else { s with svc := { s.svc with out := [s.svcStatus] } }

/-- SVC_STATUS (R476). -/
def execSvcStatus (s : State) : Out := .next s.svcState

/-- Any other command byte. -/
def State.svcBad (s : State) : State := if s.svcIdle then { s with svc := { s.svc with result := 3 } } else s

/-- SVC_BAD_COMMAND (R476). -/
def execSvcBadCommand (s : State) : Out := .next s.svcBad

/-- RESULT of an answer code: an error response is handled as a denial (R472). -/
def svcCode (code : Nat) : Nat := if code = 0 then 0 else if code = 2 then 2 else 1

/-- The next word of the operation is accessed; RESULT keeps the first failure, and a word that failed reads 0. -/
def State.svcWord (s : State) (ecc : Nat) : State :=
  match s.svc.op with
  | some o =>
    let r := s.access .svc 23 (if o.write then .write else .read) o.addr 4 (o.data.headD 0) ecc
    let q := r.2.2.svc
    let o1 : SvcOp := { o with addr := (o.addr + 4) % 2 ^ 32, left := o.left - 1, data := o.data.drop 1 }
    { r.2.2 with svc := { q with
        op := if o.left ≤ 1 then none else some o1
        buf := if o.write then q.buf else q.buf ++ [if r.1 = 0 then r.2.1 else 0]
        result := if q.result = 0 then svcCode r.1 else q.result } }
  | none => s

/-- SVC_WORD_DONE (R476). -/
def execSvcWordDone (ecc : Fin 3) (s : State) : Out := .next (if s.inReset then s else s.svcWord ecc)

/-- A JTAG access of one word: its data and whether it was done. -/
def State.jtag (s : State) (k : AccKind) (a w ecc : Nat) : State :=
  let r := s.access .jtag 24 k a 4 w ecc
  { r.2.2 with svc := { r.2.2.svc with jtag := r.2.1, jtagOk := r.1 == 0 } }

/-- JTAG_ACCESS (R478). -/
def execJtagAccess (wr : Bool) (a w : Word) (ecc : Fin 3) (s : State) : Out :=
  .next (if s.inReset then s else s.jtag (if wr then .write else .read) a.toNat w.toNat ecc)

/-- A boundary-scan instruction that drives balls is accepted while STATE reads HALTED or FAILED; else the register selects
BYPASS (R478). Log entry 51 (DEDUCED). -/
def State.scanOp (s : State) (code : Nat) : State :=
  let st := s.f F.SYS_BOOT_STATUS_STATE
  { s with svc := { s.svc with scan := if st = 2 ∨ st = 3 then code else 0 } }

/-- EXTEST (R478). -/
def execExtest (s : State) : Out := .next (s.scanOp 1)
/-- CLAMP (R478). -/
def execClamp (s : State) : Out := .next (s.scanOp 2)

end Sys2Proof.Machine
end

