-- ==== Sys2Proof/Machine/Boot.lean ====
section
/-!
DEFINITION. Sys2Proof/Machine/Boot.lean: the boot ROM and RELOAD (R441 to R460).  The start is one command, performed whole: the
flash and its images are its operands.
-/
namespace Sys2Proof.Machine

/-! ### The flash (R443) -/

/-- The ROM reads in 1-4-4: offered, with a quad-enable requirement of 0, 1, 2, 4 or 5. -/
def FlashPart.usesQuad (x : FlashPart) : Bool := x.sfdp && x.quad && [0, 1, 2, 4, 5].contains x.qer.val

/-- The data lines of a read. -/
def FlashPart.lines (x : FlashPart) : Nat := if FlashPart.usesQuad x then 4 else 1

/-- The read command: that of 1-4-4, fast read 0x0B in 1-1-1, or 0x03 without an SFDP signature. -/
def FlashPart.readOp (x : FlashPart) : Nat := if !x.sfdp then 0x03 else if FlashPart.usesQuad x then x.opcode.val else 0x0B

/-- 16 MiB, what 3-byte addresses reach. -/
def flash16 : Nat := 0x1000000

/-- The density the ROM takes: 16 MiB without an SFDP signature or without a method to reach beyond it. -/
def FlashPart.size (x : FlashPart) : Nat :=
  if !x.sfdp || (decide (flash16 < x.density) && !x.addr4) then flash16 else x.density

/-- The address bytes of a read. -/
def FlashPart.addrBytes (x : FlashPart) : Nat := if flash16 < FlashPart.size x then 4 else 3

/-- Half the density: where image B starts, and the most an image may hold (R448). Log entry 63 (DESIGN CHOICE). -/
def FlashPart.half (x : FlashPart) : Nat := FlashPart.size x / 2

/-! ### The image (R447, R448) -/

/-- Word `o` / 4 of an image; flash beyond what is given reads as ones. -/
def FImage.w (x : FlashImage) (o : Nat) : Nat := ((x.words[o / 4]?).map (·.toNat)).getD 0xFFFFFFFF

/-- `n` bytes of an image from offset `o`, both multiples of 4. -/
def FImage.bytes (x : FlashImage) (o n : Nat) : List Byte :=
  (List.range (n / 4)).flatMap (fun i => toBytes (FImage.w x (o + 4 * i)) 4)

def FImage.size (x : FlashImage) : Nat := FImage.w x 8
def FImage.flags (x : FlashImage) : Nat := FImage.w x 0xC
def FImage.entry (x : FlashImage) : Nat := FImage.w x 0x14
def FImage.count (x : FlashImage) : Nat := bits (FImage.w x 0x18) 0 16
def FImage.tableAt (x : FlashImage) : Nat := FImage.w x 0x1C
def FImage.build (x : FlashImage) : Nat := FImage.w x 0x20

/-- The fields of the header are in range (R447, R448), with half the flash holding `half` bytes. -/
def State.formatOk (s : State) (x : FlashImage) (half : Nat) : Bool :=
  let sz := FImage.size x
  let fl := FImage.flags x
  let part := FImage.w x 0x10
  let step := s.f F.SYS_DEVICE_ID_MAJOR * 16 + s.f F.SYS_DEVICE_ID_MINOR
  bits (FImage.w x 4) 16 16 == 1 && sz % 4 == 0 && decide (4096 ≤ sz) && decide (sz ≤ 4194304) && decide (sz ≤ half) &&
  bits fl 24 7 == 0 && bits fl 14 2 == 0 && bits fl 2 6 == 0 && bits fl 16 8 != 0 &&
  decide (8 ≤ bits fl 8 6) && bits fl 0 2 != 3 &&
  bits part 16 16 == 0x6480 && bits part 0 8 == 0 && decide (bits part 8 8 ≤ step) &&
  within (FImage.entry x) 0x20000000 0x800000 && FImage.entry x % 4 == 0 &&
  bits (FImage.w x 0x18) 16 16 == 0 && decide (1 ≤ FImage.count x) && decide (FImage.count x ≤ 1024) &&
  FImage.tableAt x % 16 == 0 && decide (FImage.tableAt x + 16 * FImage.count x ≤ sz - 64) &&
  (FImage.bytes x 0x24 28).all (· == 0) && (FImage.bytes x 0x80 124).all (· == 0)

/-- The header's failure code, 0 for none (R448). -/
def State.headerCode (s : State) (x : FlashImage) (half : Nat) : Nat :=
  if FImage.w x 0 ≠ 0x4D495A52 then 1
  else if crc32 (FImage.bytes x 0 0xFC) ≠ FImage.w x 0xFC then 2
  else if s.formatOk x half then 0 else 3

/-! ### Key and signature (R449) -/

/-- Slot `k` holds the digest of the image's key. -/
def State.slotMatches (s : State) (k digest : Nat) : Bool :=
  let revoked := if k = 0 then s.on F.FUSE_KEY_CFG_REVOKE0 else s.on F.FUSE_KEY_CFG_REVOKE1
  !revoked && !(List.range 8).all (fun w => s.f F.FUSE_KEY_HASH_HASH k w == 0) &&
  (List.range 8).all (fun w => s.f F.FUSE_KEY_HASH_HASH k w == bits digest (32 * (7 - w)) 32)

/-- The slot that matches the image's key. -/
def State.keySlot (s : State) (x : FlashImage) : Option Nat :=
  (List.range 2).find? (fun k => s.slotMatches k (sha256 (FImage.bytes x 0x40 64)))

/-- The signature verifies. -/
def FImage.signed (x : FlashImage) : Bool :=
  let n := FImage.size x - 64
  ecdsaOk (FImage.bytes x 0x40 64) (sha256 (FImage.bytes x 0 n)) (FImage.bytes x n 64)

/-! ### Sections (R450 to R453, R458) -/

/-- The application of sections: failure code, polls to come, section in hand, and effect. -/
structure BootRun where
  code : Nat := 0
  polls : List Bool := []
  sec : Nat := 0xFFFF
  s : State

/-- A section table entry: type, offset, length, destination. -/
structure Section where
  type : Nat
  off : Nat
  len : Nat
  dest : Nat

def FImage.section (x : FlashImage) (k : Nat) : Section :=
  let o := FImage.tableAt x + 16 * k
  ⟨bits (FImage.w x o) 24 8, FImage.w x (o + 4), FImage.w x (o + 8), FImage.w x (o + 12)⟩

/-- Two byte ranges share a byte. -/
def overlap (a n b m : Nat) : Bool := decide (a < b + m) && decide (b < a + n) && n != 0 && m != 0

/-- The length suits the type (R451). -/
def Section.lenOk (y : Section) : Bool :=
  match y.type with
  | 1 => y.len % 12 == 0
  | 2 => y.len % 4 == 0 && decide (4 ≤ y.len) && decide (y.len ≤ 4194304)
  | 3 => y.len % 4 == 0 && decide (4 ≤ y.len) && decide (y.len ≤ 524288)
  | 4 => y.len % 24 == 0
  | 5 => y.len == 32 || y.len == 2272
  | 6 => y.len == 256
  | 7 => y.len % 8 == 0
  | _ => false

/-- The destination suits the type. -/
def Section.destOk (y : Section) : Bool :=
  let inside (lo n : Nat) : Bool := decide (lo ≤ y.dest) && decide (y.dest + y.len ≤ lo + n)
  match y.type with
  | 2 => inside 0x20000000 0x800000 || inside 0x24000000 0x300000 || inside 0x24300000 0x100000 || inside 0x3000C000 0x3000
  | 3 => decide (y.dest + y.len ≤ 0x80000)
  | _ => true

/-- Entry `k` breaks none of the rules of R450. Log entry 64 (DEDUCED). -/
def FImage.sectionOk (x : FlashImage) (k : Nat) : Bool :=
  let y := FImage.section x k
  let clash (j : Nat) : Bool :=
    j != k && overlap y.off y.len (FImage.section x j).off (FImage.section x j).len
  y.lenOk && y.off % 4 == 0 && decide (y.off + y.len ≤ FImage.size x - 64) && !overlap y.off y.len 0 256 &&
  !overlap y.off y.len (FImage.tableAt x) (16 * FImage.count x) && y.destOk && !(List.range (FImage.count x)).any clash

/-- One word written by the ROM: a denial or an absent domain fails the image (R452, R460). -/
def BootRun.put (r : BootRun) (a v : Nat) : BootRun :=
  if r.code ≠ 0 then r
  else
    let x := r.s.access .rom 0 .write a 4 v 0
    { r with s := x.2.2, code := if x.1 = 0 then 0 else 0x0B }

/-- Words of the image copied to an address. -/
def BootRun.copy (r : BootRun) (x : FlashImage) (off len dest : Nat) : BootRun :=
  (List.range (len / 4)).foldl (fun r i => r.put (dest + 4 * i) (FImage.w x (off + 4 * i))) r

/-- A register that no REGWRITE entry names (R452). -/
def forbidden (a : Nat) : Bool :=
  !regRange a || a == regAddr .SYS_SEAL || a == regAddr .SYS_RESET_CTRL || a == regAddr .CLK_CFG ||
  a == regAddr .FUSE_REG_PROG || a == regAddr .FUSE_KEY_PROG

/-- The registers a RELOAD writes (R458). -/
def reloaded (a : Nat) : Bool :=
  within a 0x40030000 0x10000 ||
  (findReg a).any (fun d => d.1.name == .TXP_CFIR_COEF || d.1.name == .RXP_CFIR_COEF || d.1.name == .PLC_PATTERN)

/-- A REGWRITE entry (R452); a RELOAD passes over the entries that are not its own. Log entry 63 (DESIGN CHOICE). -/
def BootRun.entry (r : BootRun) (reload : Bool) (a0 v m : Nat) : BootRun :=
  let a := a0 / 4 * 4
  let op := a0 % 4
  if r.code ≠ 0 ∨ op = 3 ∨ (reload ∧ !reloaded a) then r
  else if forbidden a then { r with code := 9 }
  else if op = 0 then r.put a v
  else
    let x := r.s.access .rom 0 .read a 4 0 0
    if op = 1 then ({ r with s := x.2.2 }).put a (Nat.lor (Nat.land x.2.1 (0xFFFFFFFF - m)) (Nat.land v m))
    else
      let met := Nat.land x.2.1 m == v || (Nat.land v m == v && r.polls.headD true)
      { r with s := x.2.2, polls := r.polls.drop 1, code := if met then 0 else 0x0A }

/-- A flow record of FLOWTABLE (R453). -/
def BootRun.flowRec (r : BootRun) (x : FlashImage) (o : Nat) : BootRun :=
  let f := bits (FImage.w x o) 0 9
  ((((r.put (regAddr .FLW_CTRL f) (FImage.w x (o + 4) % 2 ^ 30)).put (regAddr .FLW_PIN f) (FImage.w x (o + 8))).put
    (regAddr .FLW_DEMAND f) (FImage.w x (o + 12))).put (regAddr .FLW_LIMITS f) (FImage.w x (o + 16))).put
      (regAddr .PRISM_LAYER_CFG f) (FImage.w x (o + 20) % 2 ^ 31)

/-- The PATTERN words of a long POLICY section. -/
def BootRun.patterns (r : BootRun) (x : FlashImage) (y : Section) : BootRun :=
  if y.len = 32 then r
  else (List.range 560).foldl (fun r n =>
    r.put (regAddr .PLC_PATTERN (n / 280) (n / 70 % 4) (n % 70)) (FImage.w x (y.off + 32 + 4 * n))) r

/-- The registers of a POLICY section (R453). -/
def BootRun.policy (r : BootRun) (x : FlashImage) (y : Section) : BootRun :=
  let v (n : Nat) : Nat := FImage.w x (y.off + 4 * n)
  ((((((r.put (regAddr .PLC_CFG) (v 0 % 2 ^ 31)).put (regAddr .PLC_EQUIV) (v 1)).put (regAddr .PLC_ENG_CFG) (v 2)).put
    (regAddr .PLC_POOL_BASE) (v 3)).put (regAddr .PLC_POOL_SIZE) (v 4)).put (regAddr .PLC_LOG_BASE) (v 5)).put
      (regAddr .PLC_PAT_SEL) (v 6)

/-- The register of a calibration seed (R453). -/
def seedAddr (kind ix : Nat) : Option Nat :=
  match kind with
  | 1 => if ix < 64 then some (regAddr .TXP_SKEW ix) else none
  | 2 => if ix < 64 then some (regAddr .RXP_SKEW ix) else none
  | 3 => if ix < 8 then some (regAddr .ORX_DELAY ix) else none
  | 4 => if ix < 64 then some (regAddr .PRISM_CORR_PEND 0 ix) else none
  | 5 => if ix < 64 then some (regAddr .PRISM_CORR_PEND 1 ix) else none
  | _ => none

/-- A calibration seed. -/
def BootRun.seed (r : BootRun) (x : FlashImage) (o : Nat) : BootRun :=
  if r.code ≠ 0 then r
  else match seedAddr (bits (FImage.w x o) 24 8) (bits (FImage.w x o) 0 16) with
    | some a => r.put a (FImage.w x (o + 4))
    | none => { r with code := 8 }

/-- One section applied, in full or as a RELOAD applies it. -/
def BootRun.apply (x : FlashImage) (reload : Bool) (r : BootRun) (y : Section) : BootRun :=
  match y.type with
  | 1 => (List.range (y.len / 12)).foldl (fun r n => r.entry reload (FImage.w x (y.off + 12 * n)) (FImage.w x (y.off + 12 * n + 4))
      (FImage.w x (y.off + 12 * n + 8))) r
  | 2 => r.copy x y.off y.len y.dest
  | 3 => (List.range 16).foldl (fun r n => r.copy x y.off y.len (seBase n + y.dest)) r
  | 4 => if reload then r else (List.range (y.len / 24)).foldl (fun r n => r.flowRec x (y.off + 24 * n)) r
  | 5 => if reload then r.patterns x y else (r.policy x y).patterns x y
  | 6 => if reload then r else (List.range 64).foldl (fun r e => r.put (regAddr .MIR_GEOM e) (FImage.w x (y.off + 4 * e))) r
  | _ => if reload then r else (List.range (y.len / 8)).foldl (fun r n => r.seed x (y.off + 8 * n)) r

/-- The sections in table order; the first that fails names itself. -/
def BootRun.sections (r : BootRun) (x : FlashImage) (reload : Bool) : BootRun :=
  (List.range (FImage.count x)).foldl (fun r k =>
    if r.code ≠ 0 then r
    else
      let t := if FImage.sectionOk x k then r.apply x reload (FImage.section x k) else { r with code := 8 }
      if t.code = 0 then t else { t with sec := k }) r

/-! ### One image (R442) -/

/-- The staging area holds the image (R444). -/
def State.stage (s : State) (x : FlashImage) : State := s.writeBytes 0x20800000 (FImage.bytes x 0 (FImage.size x))

/-- Step 4: the clocks are on their PLLs already, with the same reference (R445). -/
def State.clocksKept (s : State) (x : FlashImage) : Bool :=
  s.on F.CLK_CFG_PLL_EN && !s.on F.CLK_STATUS_BYPASS && s.f F.CLK_CFG_REF_SEL == bits (FImage.flags x) 0 2

/-- Step 4: the reference is chosen and the logic clocks move to their PLLs. -/
def State.bootClocks (s : State) (x : FlashImage) : State :=
  if s.clocksKept x then s
  else
    let s1 := ((s.setF F.CLK_CFG_REF_SEL (bits (FImage.flags x) 0 2)).setF F.CLK_CFG_PLL_EN 1)
    if x.noLock then
      ((((s1.setF F.CLK_STATUS_LOCK_REF 0).setF F.CLK_STATUS_LOCK_SYS 0).setF F.CLK_STATUS_LOCK_CORE 0).setF
        F.CLK_STATUS_LOCK_LPLL 0).setF F.CLK_STATUS_BYPASS 1
    else
      let s2 : State := { s1.allLocked with clk := { s1.clk with run := true } }
      if s2.overclocked then s2.undefine else s2

/-- What an image came to: step at which it failed (0 for none), code, section. -/
structure Tried where
  step : Nat
  code : Nat
  sec : Nat
  s : State

/-- Steps 3 to 7 for one image, the flash having answered discovery or not. Log entry 63 (DESIGN CHOICE). -/
def State.tryImage (s : State) (x : FlashImage) (half : Nat) (found : Bool) : Tried :=
  if !found then ⟨2, 4, 0xFFFF, s⟩
  else if x.headerLate then ⟨3, 4, 0xFFFF, s⟩
  else if s.headerCode x half ≠ 0 then ⟨3, s.headerCode x half, 0xFFFF, s⟩
  else
    let s1 := s.bootClocks x
    if x.noLock && !s.clocksKept x then ⟨4, 5, 0xFFFF, s1⟩
    else if x.imageLate then ⟨5, 4, 0xFFFF, s1⟩
    else
      let s2 := s1.stage x
      let secure := s.on F.FUSE_KEY_CFG_SECURE
      if secure && (s.keySlot x).isNone then ⟨6, 6, 0xFFFF, s2⟩
      else if !FImage.signed x then ⟨6, 7, 0xFFFF, s2⟩
      else
        let r := ({ s := s2, polls := x.polls } : BootRun).sections x false
        ⟨if r.code = 0 then 0 else 7, r.code, r.sec, r.s⟩

/-! ### Failures (R445, R446) -/

/-- The registers a failed image leaves: those of the clocks and the start.  Of the always-on registers R445 says both that their
domain is not reset and that nothing written for the image remains. Log entry 65 (DESIGN CHOICE). -/
def State.undoRegs (s s0 : State) : SMap Nat :=
  let kept (a : Nat) : Bool := alwaysOn a || within a 0x400A0000 0x10000 || within a 0x40010000 0x10000 ||
    a == regAddr .SYS_BOOT_STATUS || a == regAddr .SYS_BOOT_DETAIL
  if Config.choice 0x57 0 % 2 = 0 then SMap.drop (fun k => !kept (k / 32)) s.regs
  else
    let now (a : Nat) : Bool := within a 0x40010000 0x10000 || a == regAddr .SYS_BOOT_STATUS || a == regAddr .SYS_BOOT_DETAIL
    (SMap.drop (fun k => !now (k / 32)) s.regs).foldl (fun m e => SMap.set 0 m e.1 e.2)
      (SMap.drop (fun k => !kept (k / 32) || now (k / 32)) s0.regs)

/-- Every domain but the always-on one and the clocks is reset, and the ledger is cleared (R445); `s0` is the state before
the image was tried. -/
def State.undo (s s0 : State) : State :=
  { State.reset with
    time := s.time
    elapsed := s.elapsed
    free := s.free
    pending := s.pending
    regs := s.undoRegs s0
    mem := SMap.drop (fun a => !keptByte false a) s.mem
    fab := { State.reset.fab with mramMap := s.fab.mramMap, mramWrites := s.fab.mramWrites, mramMove := s.fab.mramMove }
    power := s.power
    clk := s.clk
    svc := s.svc
    boot := s.boot }

/-- The seal is set with every firewall region disabled, and Lantern is held in reset (R441, R446). -/
def State.lockDown (s : State) (state : Nat) : State :=
  let s1 := (List.range 23).foldl (fun s c => (List.range 16).foldl (fun s r => s.setF F.FAB_FW_BASE_EN 0 c r) s) s
  { (s1.sealSet.setF F.SYS_BOOT_STATUS_STATE state) with boot := { s1.boot with lanternHeld := true, sealAt := none } }

/-- No permitted image succeeds (R446). -/
def State.bootFailed (s : State) : State :=
  let s1 := s.lockDown 3
  { s1 with boot := { s1.boot with alert := true } }

/-- Record the failure of image `b` (false A, true B). Log entry 64 (DEDUCED). -/
def State.failNote (s : State) (b : Bool) (t : Tried) : State :=
  let s1 := if b then (s.setF F.SYS_BOOT_STATUS_FAIL_B t.code).setF F.SYS_BOOT_DETAIL_STEP_B t.step
    else (s.setF F.SYS_BOOT_STATUS_FAIL_A t.code).setF F.SYS_BOOT_DETAIL_STEP_A t.step
  if t.sec = 0xFFFF then s1 else s1.setF F.SYS_BOOT_DETAIL_SECTION t.sec

/-- An image is not tried under BOOT_SEL. Log entry 64 (DEDUCED). -/
def State.skipNote (s : State) (b : Bool) : State :=
  if b then s.setF F.SYS_BOOT_STATUS_FAIL_B 0x0C else s.setF F.SYS_BOOT_STATUS_FAIL_A 0x0C

/-- Step 8: the image has been applied (R442, R449, R455). -/
def State.bootDone (s : State) (b : Bool) (x : FlashImage) (fallback : Bool) : State :=
  let secure := s.on F.FUSE_KEY_CFG_SECURE
  let s1 := (((s.setF F.SYS_BOOT_STATUS_IMAGE (if b then 2 else 1)).setF F.SYS_BOOT_STATUS_FALLBACK (b2n fallback)).setF
    F.SYS_BOOT_STATUS_UNSECURED (b2n !secure)).setF F.SYS_BOOT_STATUS_KEY_SLOT (if secure then (s.keySlot x).getD 0 else 0)
  let s2 := s1.setF F.SYS_BOOT_STATUS_STATE 1
  let s3 : State := { s2 with boot := { s2.boot with entry := FImage.entry x, buildId := FImage.build x } }
  if bit (FImage.flags x) 31 then
    { (s3.setF F.SYS_SEAL_DEFERRED 1) with boot := { s3.boot with sealAt := some (s3.elapsed + bits (FImage.flags x) 16 8 * msTicks) } }
  else s3.sealSet

/-! ### The start (R441, R442) -/

/-- The wake record that an earlier failed wake left is noted and its VALID cleared (R419). -/
def State.noteWakeFail (s : State) : State :=
  let w := s.rd32 0x3000F000
  if bit w 31 then (s.wr32 0x3000F000 (clrBit w 31)).setF F.SYS_BOOT_STATUS_PRIOR_WAKE_FAIL 1 else s

/-- The images in the order BOOT_SEL gives: false A, true B. -/
def bootOrder (sel : Nat) : List Bool :=
  match sel with
  | 0 => [false, true]
  | 1 => [true, false]
  | _ => [false]

/-- The images tried in order; `found` concerns the first alone. Log entry 64 (DEDUCED). -/
def State.bootTry (s : State) (half : Nat) (a b : FlashImage) : Bool → Bool → List Bool → State
  | _, _, [] => s.bootFailed
  | found, fallback, k :: ks =>
    let x := if k then b else a
    let t := s.tryImage x half found
    if t.code = 0 then t.s.bootDone k x fallback
    else State.bootTry ((t.s.failNote k t).undo s) half a b true true ks

/-- The boot ROM runs (R442): after a release of reset, and once. Log entries 7 (DESIGN CHOICE), 63 (DESIGN CHOICE). -/
def State.bootRun (s : State) (sel : Nat) (found : Bool) (flash : FlashPart) (a b : FlashImage) : State :=
  if s.inReset || s.asleep || !s.romRuns || s.boot.lanternHeld then s
  else
    let s1 := s.noteWakeFail.setF F.SYS_BOOT_STATUS_BOOT_SEL sel
    if sel = 3 then ((s1.skipNote false).skipNote true).lockDown 2
    else (if sel = 2 then s1.skipNote true else s1).bootTry (FlashPart.half flash) a b found false (bootOrder sel)

/-- BOOT_SEQUENCE (R442). -/
def execBootSequence (sel : Fin 4) (found : Bool) (flash : FlashPart) (a b : FlashImage) (s : State) : Out :=
  .next (s.bootRun sel found flash a b)

/-! ### RELOAD (R458) -/

/-- The failure of a RELOAD before it applies anything, 0 for none. -/
def State.reloadCode (s : State) (x : FlashImage) : Nat :=
  if x.imageLate then 4
  else if s.on F.FUSE_KEY_CFG_SECURE && !s.slotMatches (s.f F.SYS_BOOT_STATUS_KEY_SLOT) (sha256 (FImage.bytes x 0x40 64)) then 6
  else if !FImage.signed x then 7
  else if FImage.build x ≠ s.boot.buildId then 3
  else 0

/-- RELOAD while the hold is in effect: the image is staged, checked and applied in part; success ends the hold.
Log entry 64 (DEDUCED). -/
def State.reloadRun (s : State) (x : FlashImage) : State :=
  if s.held && !s.asleep && !s.inReset && !s.boot.lanternHeld && s.f F.SYS_BOOT_STATUS_STATE == 1 then
    let s1 := if x.imageLate then s else s.stage x
    let c := s.reloadCode x
    let r : BootRun := if c = 0 then ({ s := s1, polls := x.polls } : BootRun).sections x true else { s := s1, code := c }
    let s2 := if r.code = 0 then r.s.endHold else r.s
    { s2 with boot := { s2.boot with reload := r.code } }
  else s

/-- RELOAD (R458). -/
def execReload (x : FlashImage) (s : State) : Out := .next (s.reloadRun x)

end Sys2Proof.Machine
end

