-- ==== Sys2Proof/Machine/Tick.lean ====
section
/-!
DEFINITION. Sys2Proof/Machine/Tick.lean: one tick of FS_P (R25): the samples of the tick in progress pass through the datapaths,
time advances, and what runs with time follows.
-/
namespace Sys2Proof.Machine

/-! ### The samples of the tick in progress (R74 to R128) -/

/-- The quantiser pairs a tick brings path `n`. Log entry 19 (DESIGN CHOICE). -/
def TickIn.pairs (x : TickIn) (n : Nat) : List (Int × Int) :=
  ((x.adc.find? (fun e => e.1.val == n)).map (fun e => (e.2.take 8).map (fun q => (clampI (-7) 7 q.1, clampI (-7) 7 q.2)))).getD []

/-- Eight pairs, zeros for those not given. Log entry 19 (DESIGN CHOICE). -/
def eightPairs (l : List (Int × Int)) : List (Int × Int) := l ++ List.replicate (8 - l.length) (0, 0)

/-- Carrier `c` of direction `d` takes a sample at air time `t`: the frame boundary of its timeline fixes its grid (R83). -/
def State.carDue (s : State) (d c t : Nat) : Bool :=
  s.on F.PRISM_CAR_CEN d c && tlPhase (s.off (s.f F.PRISM_CAR_TL d c)) t % 2 ^ s.f F.PRISM_CAR_RATE d c == 0

/-- The Prism's sample times in a tick. -/
def State.prismTick (s : State) (x : TickIn) : State :=
  if s.prismOn && !s.absent 16 then
    let s1 := (List.range 2).foldl (fun s c => if s.carDue 0 c (s.now + s.txAdvance c) then
      s.prismTxStep c ((x.bad.map (fun f => f.val)).filter (fun f => (s.enabledLayers 0).contains f && s.layCar f == c)) else s) s
    (List.range 2).foldl (fun s c => if s.carDue 1 c (s.now - s.targetRx c) then s.prismRxStep c else s) s1
  else s

/-- The four samples a tick brings observation receiver `k`, oldest first, zeros for those not given; Q1.15 after the
down-converter. Log entry 19 (DESIGN CHOICE). -/
def TickIn.observed (x : TickIn) (k : Nat) : List (Int × Int) :=
  let l := ((x.obs.find? (fun e => e.1.val == k)).map (fun e => (e.2.take 4).map (fun v => (satW 16 v.1, satW 16 v.2)))).getD []
  l ++ List.replicate (4 - l.length) (0, 0)

/-- The datapaths in a tick: receive paths, the Prism, transmit paths, and then predistortion, which sees every path's
stage A output of the same tick (R153); observation receivers and the Mirror block take theirs; the tick counts toward the
duty of the tiles that transmit (R71).  None of them waits on Lantern (R23). Log entry 79 (DEDUCED). -/
def State.samplesTick (s : State) (x : TickIn) : State :=
  let rx := idxWhere 64 s.rxOn
  let tx := idxWhere 64 s.txOn
  let s1 := (rx.foldl (fun s n => s.rxTick n (eightPairs (TickIn.pairs x n))) s).prismTick x
  let off := idxWhere 64 (fun n => !s.txOn n && !(s.txp n).lineN.isEmpty)
  let s2 := tx.foldl State.dpdTick (off.foldl State.txRest (tx.foldl State.txTick s1))
  let s3 := (s.orx.map (·.1)).foldl (fun s k => s.orxTick k (TickIn.observed x k)) s2
  let s4 := s3.mirTick (TickIn.observed x)
  (s4.radio.tiles.map (·.1)).foldl State.dutyTick s4

/-! ### Time (R25, R380, R383) -/

/-- Device time counts once PLL_REF has locked, in every state but Dark (R381, R386). Log entry 59 (DEDUCED). -/
def State.timeRuns (s : State) : Bool := s.clk.run && s.power.st != .dark && !s.inReset

/-- Time advances by one tick. Log entry 79 (DEDUCED). -/
def State.advance (s : State) : State :=
  { s with elapsed := s.elapsed + 1, time := if s.timeRuns then s.time + 1 else s.time }

/-- A CLK_AO edge: PWR.TIMER counts and the moderation on CLK_AO runs down (R356, R383). Log entry 58 (DESIGN CHOICE). -/
def State.aoEdge (s : State) : State :=
  if s.clk.xtal && !s.boot.por then
    let s1 := s.setF F.PWR_TIMER_COUNT ((s.f F.PWR_TIMER_COUNT + 1) % 2 ^ 32)
    ({ s1 with power := { s1.power with matched := false } }).modEdge
  else s

/-- The edges that a tick brings. Log entry 79 (DEDUCED). -/
def State.aoTick (s : State) (before : Nat) : State := if before < s.aoPeriod then s.aoEdge else s

/-! ### What runs with time -/

/-- Engine `n` runs a job or a handler: its cycle counts move on (R317, SEn.CYCLES), which saturate (R12). -/
def State.engTick (s : State) (n : Nat) : State :=
  let e := s.eng n
  if e.job.isSome || e.set_ == 1 then
    let c := e.frac + s.coreCycles 1
    let k := c / coreUnit
    let v := min (2 ^ 64 - 1) (s.f F.SE_CYCLES_LO_CYCLES n + 2 ^ 32 * s.f F.SE_CYCLES_HI_CYCLES n + k)
    ((s.setEng n { e with frac := c % coreUnit, ran := if e.job.isSome then e.ran + k else e.ran }).setF
      F.SE_CYCLES_LO_CYCLES v n).setF F.SE_CYCLES_HI_CYCLES (v / 2 ^ 32) n
  else s

/-- A receiver that has resumed from low-power idle is realigned within 12 µs (R288). -/
def State.wakeTick (s : State) (l : Nat) : State :=
  match (s.lane l).rxWake with
  | some t => if t + us25 12 < s.el25 then s.setLane l { s.lane l with rxWake := none } else s
  | none => s

/-- A lane in a tick. -/
def State.laneTick (s : State) (l : Nat) : State := ((((s.laneSend l).skpTick l).prbsTick l).injectTick l).wakeTick l

/-- What the core domain does with a tick beside its samples. Log entry 79 (DEDUCED). -/
def State.coreTick (s : State) (x : TickIn) : State :=
  let s1 := (s.flows.map (·.1)).foldl State.flowTick s
  let s2 := (s1.radio.tiles.map (·.1)).foldl (fun s t => (s.turnTick t).gpioTick t) ((List.range 4).foldl State.oscTick s1)
  let s3 := (s2.lanes.map (·.1)).foldl State.laneTick s2
  let s4 := x.errors.foldl (fun s e => s.prbsErrors e.1 e.2) s3
  let s5 := (s4.engines.map (·.1)).foldl State.engTick s4
  (s5.dmaTick.heldLate.outEdge.dimTry).entryPoll

/-- One tick of FS_P. Log entry 79 (DEDUCED). -/
def State.tick (s : State) (x : TickIn) : State :=
  let s1 := (s.core (s.samplesTick x)).advance
  let s2 := s1.aoTick s.aoPeriod
  (s2.core (s2.coreTick x)).resetDue

/-- DEVICE_TIME_TICK (R25). -/
def execDeviceTimeTick (x : TickIn) (s : State) : Out := .next (s.tick x)

end Sys2Proof.Machine
end

