-- ==== Sys2Proof/Machine/Dispatch.lean ====
section
/-!
DEFINITION. Sys2Proof/Machine/Dispatch.lean: one arm per command, each a direct call of its meaning.
-/
namespace Sys2Proof.Machine

/-- The effect of a command on everything but the queue. -/
def exec (i : Instr) (s : State) : Host.Outcome State Fault Refusal :=
  match i with
  | .registerWrite ini a w => Sys2Proof.Machine.execRegisterWrite ini a w s
  | .readClear rd a => Sys2Proof.Machine.execReadClear rd a s
  | .lowWordRead rd a => Sys2Proof.Machine.execLowWordRead rd a s
  | .holdingRegisterExpire rd => Sys2Proof.Machine.execHoldingRegisterExpire rd s
  | .compatWindowAccess ini k w data => Sys2Proof.Machine.execCompatWindowAccess ini k w data s
  | .deviceTimeTick x => Sys2Proof.Machine.execDeviceTimeTick x s
  | .timelineEnableWrite k w => Sys2Proof.Machine.execTimelineEnableWrite k w s
  | .taggedSampleStage n g => Sys2Proof.Machine.execTaggedSampleStage n g s
  | .tileBoundary t => Sys2Proof.Machine.execTileBoundary t s
  | .txPathBoundary n bad => Sys2Proof.Machine.execTxPathBoundary n bad s
  | .rxPathBoundary n => Sys2Proof.Machine.execRxPathBoundary n s
  | .prismTxBoundary f => Sys2Proof.Machine.execPrismTxBoundary f s
  | .prismRxBoundary f => Sys2Proof.Machine.execPrismRxBoundary f s
  | .preloadComplete f bad => Sys2Proof.Machine.execPreloadComplete f bad s
  | .preloadCutoff f => Sys2Proof.Machine.execPreloadCutoff f s
  | .loFrequencyWrite m w => Sys2Proof.Machine.execLoFrequencyWrite m w s
  | .synthEnableWrite m w => Sys2Proof.Machine.execSynthEnableWrite m w s
  | .synthLock m => Sys2Proof.Machine.execSynthLock m s
  | .hopArm g w => Sys2Proof.Machine.execHopArm g w s
  | .hopLand g => Sys2Proof.Machine.execHopLand g s
  | .tileEnable t w => Sys2Proof.Machine.execTileEnable t w s
  | .tileDisable t w => Sys2Proof.Machine.execTileDisable t w s
  | .tileIdleReached t => Sys2Proof.Machine.execTileIdleReached t s
  | .tileOffReached t => Sys2Proof.Machine.execTileOffReached t s
  | .burstRequest t len => Sys2Proof.Machine.execBurstRequest t len s
  | .rxRunRequest t len => Sys2Proof.Machine.execRxRunRequest t len s
  | .txHalfOn t => Sys2Proof.Machine.execTxHalfOn t s
  | .txHalfOff t => Sys2Proof.Machine.execTxHalfOff t s
  | .rxHalfOn t => Sys2Proof.Machine.execRxHalfOn t s
  | .gpioEdge t fn level => Sys2Proof.Machine.execGpioEdge t fn level s
  | .calRequest t w => Sys2Proof.Machine.execCalRequest t w s
  | .calStart t => Sys2Proof.Machine.execCalStart t s
  | .calEnd t r => Sys2Proof.Machine.execCalEnd t r s
  | .bgPassTimer t => Sys2Proof.Machine.execBgPassTimer t s
  | .bgCalStep t r => Sys2Proof.Machine.execBgCalStep t r s
  | .dutyLimit t => Sys2Proof.Machine.execDutyLimit t s
  | .dutySliceEnd t => Sys2Proof.Machine.execDutySliceEnd t s
  | .fuseProgram w => Sys2Proof.Machine.execFuseProgram w s
  | .fuseProgramDone key => Sys2Proof.Machine.execFuseProgramDone key s
  | .adcOverload n q => Sys2Proof.Machine.execAdcOverload n q s
  | .agcAttack n => Sys2Proof.Machine.execAgcAttack n s
  | .agcHoldEnd n => Sys2Proof.Machine.execAgcHoldEnd n s
  | .finePowerWindow n => Sys2Proof.Machine.execFinePowerWindow n s
  | .cfirCoefWrite tx n b ix w => Sys2Proof.Machine.execCfirCoefWrite tx n b ix w s
  | .rxPathEnable n w => Sys2Proof.Machine.execRxPathEnable n w s
  | .txPathEnable n w => Sys2Proof.Machine.execTxPathEnable n w s
  | .txPathDisable n w => Sys2Proof.Machine.execTxPathDisable n w s
  | .nsOverload n => Sys2Proof.Machine.execNsOverload n s
  | .nsOverloadEnd n => Sys2Proof.Machine.execNsOverloadEnd n s
  | .fabricAccess ini k a n data ecc => Sys2Proof.Machine.execFabricAccess ini k a n data ecc s
  | .fabricGrant p => Sys2Proof.Machine.execFabricGrant p s
  | .controlRangeAccept f frame sym count entry => Sys2Proof.Machine.execControlRangeAccept f frame sym count entry s
  | .corrCommitArm w => Sys2Proof.Machine.execCorrCommitArm w s
  | .corrCommitLand => Sys2Proof.Machine.execCorrCommitLand s
  | .corrPendWrite d a w => Sys2Proof.Machine.execCorrPendWrite d a w s
  | .prismEnableWrite w => Sys2Proof.Machine.execPrismEnableWrite w s
  | .layerEnableWrite f w => Sys2Proof.Machine.execLayerEnableWrite f w s
  | .dpdGo n w => Sys2Proof.Machine.execDpdGo n w s
  | .dpdStagingDone n => Sys2Proof.Machine.execDpdStagingDone n s
  | .dpdInstall n bad => Sys2Proof.Machine.execDpdInstall n bad s
  | .dpdTrialVerdict n => Sys2Proof.Machine.execDpdTrialVerdict n s
  | .dpdTrialLapse n => Sys2Proof.Machine.execDpdTrialLapse n s
  | .dpdUnfreeze n w => Sys2Proof.Machine.execDpdUnfreeze n w s
  | .dpdBypass n => Sys2Proof.Machine.execDpdBypass n s
  | .dpdBypassEndRequest n w => Sys2Proof.Machine.execDpdBypassEndRequest n w s
  | .dpdDescriptorWrite n ix w => Sys2Proof.Machine.execDpdDescriptorWrite n ix w s
  | .dpdSetWrite a w => Sys2Proof.Machine.execDpdSetWrite a w s
  | .dpdRefreshEnd => Sys2Proof.Machine.execDpdRefreshEnd s
  | .orxCaptureStart k => Sys2Proof.Machine.execOrxCaptureStart k s
  | .orxCaptureDiscard k c => Sys2Proof.Machine.execOrxCaptureDiscard k c s
  | .orxCaptureEnd k st => Sys2Proof.Machine.execOrxCaptureEnd k st s
  | .orxResultWrite k => Sys2Proof.Machine.execOrxResultWrite k s
  | .orxRequest k w => Sys2Proof.Machine.execOrxRequest k w s
  | .orxBufferRelease k w => Sys2Proof.Machine.execOrxBufferRelease k w s
  | .mirEnableWrite w => Sys2Proof.Machine.execMirEnableWrite w s
  | .mirStartWrite w => Sys2Proof.Machine.execMirStartWrite w s
  | .mirRoundStart => Sys2Proof.Machine.execMirRoundStart s
  | .mirProbe => Sys2Proof.Machine.execMirProbe s
  | .mirCaptureWindowEnd ovl clip => Sys2Proof.Machine.execMirCaptureWindowEnd ovl clip s
  | .mirRecordsWrite vs => Sys2Proof.Machine.execMirRecordsWrite vs s
  | .mirRoundEnd => Sys2Proof.Machine.execMirRoundEnd s
  | .mirSolveGo w => Sys2Proof.Machine.execMirSolveGo w s
  | .mirCommitArm => Sys2Proof.Machine.execMirCommitArm s
  | .admitRequest f w => Sys2Proof.Machine.execAdmitRequest f w s
  | .releaseRequest f w => Sys2Proof.Machine.execReleaseRequest f w s
  | .suspendRequest f w => Sys2Proof.Machine.execSuspendRequest f w s
  | .epochGo w => Sys2Proof.Machine.execEpochGo w s
  | .frameEpoch => Sys2Proof.Machine.execFrameEpoch s
  | .eventEpoch => Sys2Proof.Machine.execEventEpoch s
  | .epochWalkEnd => Sys2Proof.Machine.execEpochWalkEnd s
  | .flowStart f => Sys2Proof.Machine.execFlowStart f s
  | .moveEffective f => Sys2Proof.Machine.execMoveEffective f s
  | .flowReleaseDone f => Sys2Proof.Machine.execFlowReleaseDone f s
  | .flowLatency f => Sys2Proof.Machine.execFlowLatency f s
  | .patternWrite b k ix w => Sys2Proof.Machine.execPatternWrite b k ix w s
  | .iqDataReceive l age ws => Sys2Proof.Machine.execIqDataReceive l age ws s
  | .realTimeControlReceive l age ws => Sys2Proof.Machine.execRealTimeControlReceive l age ws s
  | .beamWriteReceive l age ws => Sys2Proof.Machine.execBeamWriteReceive l age ws s
  | .mgmtReqReceive l age ws => Sys2Proof.Machine.execMgmtReqReceive l age ws s
  | .timeSyncReceive l age ws => Sys2Proof.Machine.execTimeSyncReceive l age ws s
  | .delayRequestReceive l age ws => Sys2Proof.Machine.execDelayRequestReceive l age ws s
  | .remoteRequestReceive l age ws => Sys2Proof.Machine.execRemoteRequestReceive l age ws s
  | .delayResponseReceive l age ws => Sys2Proof.Machine.execDelayResponseReceive l age ws s
  | .unsupportedPacketReceive l age ws => Sys2Proof.Machine.execUnsupportedPacketReceive l age ws s
  | .mgmtPost p w => Sys2Proof.Machine.execMgmtPost p w s
  | .capturePost p w => Sys2Proof.Machine.execCapturePost p w s
  | .delayMeasureGo p w => Sys2Proof.Machine.execDelayMeasureGo p w s
  | .timeSyncTimer p => Sys2Proof.Machine.execTimeSyncTimer p s
  | .placementNoticeSend f => Sys2Proof.Machine.execPlacementNoticeSend f s
  | .eventModTimer p => Sys2Proof.Machine.execEventModTimer p s
  | .rxIqPacketSend f bad => Sys2Proof.Machine.execRxIqPacketSend f bad s
  | .packetTransmit l => Sys2Proof.Machine.execPacketTransmit l s
  | .portEnable p w => Sys2Proof.Machine.execPortEnable p w s
  | .portDisable p w => Sys2Proof.Machine.execPortDisable p w s
  | .laneStageEnd l x => Sys2Proof.Machine.execLaneStageEnd l x s
  | .laneTrainFail l rx => Sys2Proof.Machine.execLaneTrainFail l rx s
  | .laneIdleHoldEnd l => Sys2Proof.Machine.execLaneIdleHoldEnd l s
  | .laneReady l => Sys2Proof.Machine.execLaneReady l s
  | .laneDown l c => Sys2Proof.Machine.execLaneDown l c s
  | .laneRetrain l w => Sys2Proof.Machine.execLaneRetrain l w s
  | .equaliserFreezeWrite l w => Sys2Proof.Machine.execEqualiserFreezeWrite l w s
  | .dfeTapWrite l j w => Sys2Proof.Machine.execDfeTapWrite l j w s
  | .prbsCtrlWrite l w => Sys2Proof.Machine.execPrbsCtrlWrite l w s
  | .prbsLock l => Sys2Proof.Machine.execPrbsLock l s
  | .prbsLockLoss l => Sys2Proof.Machine.execPrbsLockLoss l s
  | .injectOne l w => Sys2Proof.Machine.execInjectOne l w s
  | .injectRate l => Sys2Proof.Machine.execInjectRate l s
  | .eyeMeasureGo l w => Sys2Proof.Machine.execEyeMeasureGo l w s
  | .eyeMeasureDone l r => Sys2Proof.Machine.execEyeMeasureDone l r s
  | .lpiEntry l => Sys2Proof.Machine.execLpiEntry l s
  | .lpiReceive l => Sys2Proof.Machine.execLpiReceive l s
  | .lpiWake l => Sys2Proof.Machine.execLpiWake l s
  | .lpiWakeDone l => Sys2Proof.Machine.execLpiWakeDone l s
  | .laneWakeFail l => Sys2Proof.Machine.execLaneWakeFail l s
  | .bundleIssue n b => Sys2Proof.Machine.execBundleIssue n b s
  | .resultWriteback n => Sys2Proof.Machine.execResultWriteback n s
  | .mpy n sl t u => Sys2Proof.Machine.execMpy n sl t u s
  | .mac n sl t u => Sys2Proof.Machine.execMac n sl t u s
  | .msu n sl t u => Sys2Proof.Machine.execMsu n sl t u s
  | .cmpy n k x y => Sys2Proof.Machine.execCmpy n k x y s
  | .cmac n k x y => Sys2Proof.Machine.execCmac n k x y s
  | .cmacj n k x y => Sys2Proof.Machine.execCmacj n k x y s
  | .clra n sl k => Sys2Proof.Machine.execClra n sl k s
  | .movda n sl k j => Sys2Proof.Machine.execMovda n sl k j s
  | .adda n sl k j => Sys2Proof.Machine.execAdda n sl k j s
  | .suba n sl k j => Sys2Proof.Machine.execSuba n sl k j s
  | .nega n sl k => Sys2Proof.Machine.execNega n sl k s
  | .sha n sl k sh => Sys2Proof.Machine.execSha n sl k sh s
  | .ld n j a => Sys2Proof.Machine.execLd n j a s
  | .ldh n j a => Sys2Proof.Machine.execLdh n j a s
  | .ld2 n k a => Sys2Proof.Machine.execLd2 n k a s
  | .ldk n k a => Sys2Proof.Machine.execLdk n k a s
  | .ldx n k l a b => Sys2Proof.Machine.execLdx n k l a b s
  | .ldp n k a => Sys2Proof.Machine.execLdp n k a s
  | .windowLoadData n ecc => Sys2Proof.Machine.execWindowLoadData n ecc s
  | .st n j a => Sys2Proof.Machine.execSt n j a s
  | .sth n j a => Sys2Proof.Machine.execSth n j a s
  | .st2 n k a => Sys2Proof.Machine.execSt2 n k a s
  | .stk n k a => Sys2Proof.Machine.execStk n k a s
  | .sta n k a => Sys2Proof.Machine.execSta n k a s
  | .movOp n j a => Sys2Proof.Machine.execMovOp n j a s
  | .addOp n j a b => Sys2Proof.Machine.execAddOp n j a b s
  | .subOp n j a b => Sys2Proof.Machine.execSubOp n j a b s
  | .adds n j a b => Sys2Proof.Machine.execAdds n j a b s
  | .andOp n j a b => Sys2Proof.Machine.execAndOp n j a b s
  | .orOp n j a b => Sys2Proof.Machine.execOrOp n j a b s
  | .xorOp n j a b => Sys2Proof.Machine.execXorOp n j a b s
  | .shl n j a k => Sys2Proof.Machine.execShl n j a k s
  | .shr n j a k => Sys2Proof.Machine.execShr n j a k s
  | .cmp n a b => Sys2Proof.Machine.execCmp n a b s
  | .normOp n j k => Sys2Proof.Machine.execNormOp n j k s
  | .movi n j v => Sys2Proof.Machine.execMovi n j v s
  | .mva n j k => Sys2Proof.Machine.execMva n j k s
  | .movp n k v => Sys2Proof.Machine.execMovp n k v s
  | .setb n k v => Sys2Proof.Machine.execSetb n k v s
  | .setl n k v => Sys2Proof.Machine.execSetl n k v s
  | .setm n k v => Sys2Proof.Machine.execSetm n k v s
  | .setcc n v => Sys2Proof.Machine.execSetcc n v s
  | .setwin n w v => Sys2Proof.Machine.execSetwin n w v s
  | .br n t => Sys2Proof.Machine.execBr n t s
  | .brcc n c want t => Sys2Proof.Machine.execBrcc n c want t s
  | .call n t => Sys2Proof.Machine.execCall n t s
  | .retOp n => Sys2Proof.Machine.execRetOp n s
  | .loopOp n => Sys2Proof.Machine.execLoopOp n s
  | .fence n => Sys2Proof.Machine.execFence n s
  | .ckpt n step => Sys2Proof.Machine.execCkpt n step s
  | .jobend n => Sys2Proof.Machine.execJobend n s
  | .sig n => Sys2Proof.Machine.execSig n s
  | .claimOp n j => Sys2Proof.Machine.execClaimOp n j s
  | .complete n j => Sys2Proof.Machine.execComplete n j s
  | .reti n => Sys2Proof.Machine.execReti n s
  | .storeRetire n => Sys2Proof.Machine.execStoreRetire n s
  | .drainComplete n => Sys2Proof.Machine.execDrainComplete n s
  | .engineEventEntry n => Sys2Proof.Machine.execEngineEventEntry n s
  | .flowJobDue f => Sys2Proof.Machine.execFlowJobDue f s
  | .hostJobPost n w => Sys2Proof.Machine.execHostJobPost n w s
  | .jobStart n => Sys2Proof.Machine.execJobStart n s
  | .jobWatchdog n => Sys2Proof.Machine.execJobWatchdog n s
  | .engineAbort n w => Sys2Proof.Machine.execEngineAbort n w s
  | .storeErrorResponse n => Sys2Proof.Machine.execStoreErrorResponse n s
  | .engineRestart n w => Sys2Proof.Machine.execEngineRestart n w s
  | .lanternFence => Sys2Proof.Machine.execLanternFence s
  | .dclean a n => Sys2Proof.Machine.execDclean a n s
  | .dinv a n => Sys2Proof.Machine.execDinv a n s
  | .dflush a n => Sys2Proof.Machine.execDflush a n s
  | .dcleanAll => Sys2Proof.Machine.execDcleanAll s
  | .dflushAll => Sys2Proof.Machine.execDflushAll s
  | .icinvAll => Sys2Proof.Machine.execIcinvAll s
  | .proxyWrite ini w => Sys2Proof.Machine.execProxyWrite ini w s
  | .mramRead ecc => Sys2Proof.Machine.execMramRead ecc s
  | .mramWrite => Sys2Proof.Machine.execMramWrite s
  | .mramPageMove => Sys2Proof.Machine.execMramPageMove s
  | .dmaDoorbell c w => Sys2Proof.Machine.execDmaDoorbell c w s
  | .dmaDescriptorStart c bad => Sys2Proof.Machine.execDmaDescriptorStart c bad s
  | .dmaDescriptorEnd c => Sys2Proof.Machine.execDmaDescriptorEnd c s
  | .dmaError c bad => Sys2Proof.Machine.execDmaError c bad s
  | .dmaStop c w => Sys2Proof.Machine.execDmaStop c w s
  | .dmaResume c w => Sys2Proof.Machine.execDmaResume c w s
  | .dmaQuiesceTimeout => Sys2Proof.Machine.execDmaQuiesceTimeout s
  | .eventPulse l => Sys2Proof.Machine.execEventPulse l s
  | .eventLevelAssert l => Sys2Proof.Machine.execEventLevelAssert l s
  | .eventLevelDeassert l => Sys2Proof.Machine.execEventLevelDeassert l s
  | .eventEnableWrite t wd w => Sys2Proof.Machine.execEventEnableWrite t wd w s
  | .moderationTimerExpiry t => Sys2Proof.Machine.execModerationTimerExpiry t s
  | .eventClaim => Sys2Proof.Machine.execEventClaim s
  | .eventComplete w => Sys2Proof.Machine.execEventComplete w s
  | .gdisWrite w => Sys2Proof.Machine.execGdisWrite w s
  | .softwareLineSet w => Sys2Proof.Machine.execSoftwareLineSet w s
  | .alertClear w => Sys2Proof.Machine.execAlertClear w s
  | .hkEnable k w => Sys2Proof.Machine.execHkEnable k w s
  | .seqGo k w => Sys2Proof.Machine.execSeqGo k w s
  | .hkTriggerTimer k => Sys2Proof.Machine.execHkTriggerTimer k s
  | .injGo k w => Sys2Proof.Machine.execInjGo k w s
  | .hkInjTriggerTimer k => Sys2Proof.Machine.execHkInjTriggerTimer k s
  | .conversionComplete k c1 c2 => Sys2Proof.Machine.execConversionComplete k c1 c2 s
  | .injectedComplete k c1 c2 other => Sys2Proof.Machine.execInjectedComplete k c1 c2 other s
  | .calGo k w => Sys2Proof.Machine.execCalGo k w s
  | .hkCalTimer k => Sys2Proof.Machine.execHkCalTimer k s
  | .hkCalEnd k ok => Sys2Proof.Machine.execHkCalEnd k ok s
  | .pwmEdge n => Sys2Proof.Machine.execPwmEdge n s
  | .pwmPeriodEnd n => Sys2Proof.Machine.execPwmPeriodEnd n s
  | .pllStart w => Sys2Proof.Machine.execPllStart w s
  | .pllLock u => Sys2Proof.Machine.execPllLock u s
  | .syncEdge rising frac => Sys2Proof.Machine.execSyncEdge rising frac s
  | .syncMissed => Sys2Proof.Machine.execSyncMissed s
  | .slewStep => Sys2Proof.Machine.execSlewStep s
  | .holdover => Sys2Proof.Machine.execHoldover s
  | .clkoutCfgWrite w => Sys2Proof.Machine.execClkoutCfgWrite w s
  | .powerModeWrite w => Sys2Proof.Machine.execPowerModeWrite w s
  | .wfi => Sys2Proof.Machine.execWfi s
  | .powerSwitchesOpen => Sys2Proof.Machine.execPowerSwitchesOpen s
  | .wakeEvent src => Sys2Proof.Machine.execWakeEvent src s
  | .wakeComplete bad => Sys2Proof.Machine.execWakeComplete bad s
  | .wakeStepTimeout step => Sys2Proof.Machine.execWakeStepTimeout step s
  | .holdRelease w => Sys2Proof.Machine.execHoldRelease w s
  | .wakeFailAck w => Sys2Proof.Machine.execWakeFailAck w s
  | .pwrTimerMatch => Sys2Proof.Machine.execPwrTimerMatch s
  | .perfLevelRequest w => Sys2Proof.Machine.execPerfLevelRequest w s
  | .avsTargetReached => Sys2Proof.Machine.execAvsTargetReached s
  | .avsTimeout => Sys2Proof.Machine.execAvsTimeout s
  | .avsBusError rail => Sys2Proof.Machine.execAvsBusError rail s
  | .avsLoopInterval m => Sys2Proof.Machine.execAvsLoopInterval m s
  | .powerOnReset release => Sys2Proof.Machine.execPowerOnReset release s
  | .pinReset release => Sys2Proof.Machine.execPinReset release s
  | .softwareReset w => Sys2Proof.Machine.execSoftwareReset w s
  | .bootSequence sel found half a b => Sys2Proof.Machine.execBootSequence sel found half a b s
  | .sealWrite w => Sys2Proof.Machine.execSealWrite w s
  | .sealForced => Sys2Proof.Machine.execSealForced s
  | .reload x => Sys2Proof.Machine.execReload x s
  | .keyFuseProgram w => Sys2Proof.Machine.execKeyFuseProgram w s
  | .ledgerAck w => Sys2Proof.Machine.execLedgerAck w s
  | .domainReset w ini => Sys2Proof.Machine.execDomainReset w ini s
  | .domainResetDone d => Sys2Proof.Machine.execDomainResetDone d s
  | .readReq a n => Sys2Proof.Machine.execReadReq a n s
  | .readData => Sys2Proof.Machine.execReadData s
  | .svcWrite a ws => Sys2Proof.Machine.execSvcWrite a ws s
  | .svcStatus => Sys2Proof.Machine.execSvcStatus s
  | .svcBadCommand => Sys2Proof.Machine.execSvcBadCommand s
  | .svcWordDone ecc => Sys2Proof.Machine.execSvcWordDone ecc s
  | .jtagAccess wr a w ecc => Sys2Proof.Machine.execJtagAccess wr a w ecc s
  | .extest => Sys2Proof.Machine.execExtest s
  | .clamp => Sys2Proof.Machine.execClamp s
  | .mailboxDoor w => Sys2Proof.Machine.execMailboxDoor w s
  | .ptbEnable w => Sys2Proof.Machine.execPtbEnable w s
  | .ptbDisable w => Sys2Proof.Machine.execPtbDisable w s
  | .bpHoldStart b => Sys2Proof.Machine.execBpHoldStart b s
  | .bpHoldEnd b => Sys2Proof.Machine.execBpHoldEnd b s
  | .rxLpiExit l => Sys2Proof.Machine.execRxLpiExit l s
  | .linkIdleTimeout => Sys2Proof.Machine.execLinkIdleTimeout s
  | .busIdleTimeout b => Sys2Proof.Machine.execBusIdleTimeout b s
  | .delayResponseTimeout p => Sys2Proof.Machine.execDelayResponseTimeout p s
  | .characterError l => Sys2Proof.Machine.execCharacterError l s
  | .pllLockLoss u => Sys2Proof.Machine.execPllLockLoss u s
  | .refclkLoss => Sys2Proof.Machine.execRefclkLoss s
  | .crystalStop => Sys2Proof.Machine.execCrystalStop s

end Sys2Proof.Machine
end

