-- ==== Sys2Proof/Safety.lean ====
section
/-!
DEFINITION. Sys2Proof/Safety.lean: the terms in which statements speak of states: canonical memory, a device awake, radio silence
and the seal.
-/
namespace Sys2Proof.Machine

/-- The canonical form of memory: addresses strictly rising, and no byte that an unlisted address reads as. -/
def Memory.wf (m : List Host.Cell) : Bool := SMap.wf (0 : Byte) m

/-- The key of SYS.SEAL.SEAL among the stored fields. -/
def sealKey : Nat := F.SYS_SEAL_SEAL.key 0 0 0

/-- What every step keeps: memory, the field store and the shadow values in canonical form, no shadow value below the registers
that have class B fields, and a ledger of at most 32 entries whose next sequence number has 16 bits (R462). -/
def State.inv (s : State) : Bool :=
  Memory.wf s.mem && SMap.wf 0 s.regs && (SMap.wf ({} : Shadow) s.shadow && s.shadow.all (fun e => decide (sealKey < e.1))) &&
  decide (s.faults.entries.length ≤ 32) && decide (s.faults.nextSeq < 65536)

/-- The core domain runs: the device is neither in Dusk or Dark nor held in reset (R404, R438). -/
def State.awake (s : State) : Bool := !s.asleep && !s.inReset

/-- The register or memory at `a` can be reached: the device is not held in reset and the target is not absent (R326, R406,
R438). -/
def State.reach (s : State) (a : Nat) : Bool := !s.inReset && !s.absentAt a

/-- TX path `n` is held at zero scale (R120, R121). -/
def State.zeroHeld (s : State) (n : Nat) : Bool := s.on F.TXP_ZS_STATUS_ZERO n

/-- A step's answer is a next state with a property. -/
def Nexts (o : Out) (p : State → Prop) : Prop := ∃ t, o = .next t ∧ p t

/-- The words `ws` arrive on a ready lane of an enabled port and pass checks 1 to 4 of R262. -/
def State.passes (s : State) (l : Nat) (ws : List Word) : Bool :=
  s.on F.LNK_CFG_EN (l / 4) && s.ready? l && decide (3 ≤ ws.length) && lengthOk ws &&
  pw ws (ws.length - 1) == lineCrc ws.dropLast &&
  inKind ws != .unsupported && (!s.on F.LNK_CFG_TAG_CHECK (l / 4) || bits (pw ws 0) 0 16 == s.f F.LNK_TAG_RX_TAG (l / 4)) &&
  s.shapeOk (l / 4) (inKind ws) ws

/-- An operation in slot `x` of engine `n` that writes `ds` acts: the engine runs and its bundle in hand holds it. -/
def State.mayOp (s : State) (n : Nat) (x : Slot) (ds : List Nat) : Bool :=
  (s.eng n).takes x ds && !s.on F.SE_STATUS_FAULTED n && !s.absent n && !s.asleep && !s.inReset

/-- The state in which an operation in slot `x` acts: its slot is used. -/
def State.used (s : State) (n : Nat) (x : Slot) : State :=
  s.setEng n { s.eng n with slots := Nat.lor (s.eng n).slots x.mask }

/-- Commands that may store bytes of memory: accesses, transfers, captures, records, and what resets or loses memory. -/
def mayStore : Instr → Bool
  | .registerWrite .. | .compatWindowAccess .. | .deviceTimeTick .. | .txPathBoundary .. | .synthLock .. | .hopLand ..
  | .fabricAccess .. | .fabricGrant .. | .prismEnableWrite .. | .dpdInstall .. | .dpdDescriptorWrite .. | .dpdSetWrite ..
  | .mirRoundStart .. | .orxResultWrite .. | .mirEnableWrite .. | .mirRecordsWrite .. | .mirRoundEnd .. | .admitRequest ..
  | .releaseRequest .. | .suspendRequest .. | .epochWalkEnd .. | .flowReleaseDone .. | .iqDataReceive ..
  | .realTimeControlReceive .. | .beamWriteReceive .. | .mgmtReqReceive .. | .timeSyncReceive .. | .delayRequestReceive ..
  | .remoteRequestReceive .. | .delayResponseReceive .. | .unsupportedPacketReceive .. | .eventModTimer ..
  | .packetTransmit .. | .lpiEntry .. | .lpiWakeDone .. | .windowLoadData .. | .storeRetire .. | .dclean .. | .dflush ..
  | .dcleanAll .. | .dflushAll .. | .mramWrite .. | .dmaDescriptorStart .. | .dmaDescriptorEnd .. | .dmaError ..
  | .dmaQuiesceTimeout .. | .moderationTimerExpiry .. | .syncEdge .. | .wfi .. | .powerSwitchesOpen .. | .wakeEvent ..
  | .wakeComplete .. | .wakeStepTimeout .. | .holdRelease .. | .wakeFailAck .. | .pwrTimerMatch .. | .powerOnReset ..
  | .pinReset .. | .softwareReset .. | .bootSequence .. | .reload .. | .domainReset .. | .svcWordDone .. | .jtagAccess ..
  | .bpHoldEnd .. | .rxLpiExit .. | .linkIdleTimeout .. | .busIdleTimeout .. => true
  | .readClear .. | .lowWordRead .. | .holdingRegisterExpire .. | .timelineEnableWrite .. | .taggedSampleStage ..
  | .tileBoundary .. | .rxPathBoundary .. | .prismTxBoundary .. | .prismRxBoundary .. | .preloadComplete ..
  | .preloadCutoff .. | .loFrequencyWrite .. | .synthEnableWrite .. | .hopArm .. | .tileEnable .. | .tileDisable ..
  | .tileIdleReached .. | .tileOffReached .. | .burstRequest .. | .rxRunRequest .. | .txHalfOn .. | .txHalfOff ..
  | .rxHalfOn .. | .gpioEdge .. | .calRequest .. | .calStart .. | .calEnd .. | .bgPassTimer .. | .bgCalStep ..
  | .dutyLimit .. | .dutySliceEnd .. | .fuseProgram .. | .fuseProgramDone .. | .adcOverload .. | .agcAttack ..
  | .agcHoldEnd .. | .finePowerWindow .. | .cfirCoefWrite .. | .rxPathEnable .. | .txPathEnable .. | .txPathDisable ..
  | .nsOverload .. | .nsOverloadEnd .. | .controlRangeAccept .. | .corrCommitArm .. | .corrCommitLand .. | .corrPendWrite ..
  | .layerEnableWrite .. | .dpdGo .. | .dpdStagingDone .. | .dpdTrialVerdict .. | .dpdTrialLapse .. | .dpdUnfreeze ..
  | .dpdBypass .. | .dpdBypassEndRequest .. | .dpdRefreshEnd .. | .orxCaptureStart .. | .orxCaptureEnd ..
  | .orxCaptureDiscard ..
  | .orxRequest .. | .orxBufferRelease .. | .mirStartWrite .. | .mirProbe .. | .mirCaptureWindowEnd ..
  | .mirSolveGo .. | .mirCommitArm .. | .epochGo .. | .frameEpoch .. | .eventEpoch .. | .flowStart .. | .moveEffective ..
  | .flowLatency .. | .patternWrite .. | .mgmtPost .. | .capturePost .. | .delayMeasureGo .. | .timeSyncTimer ..
  | .placementNoticeSend .. | .rxIqPacketSend .. | .portEnable .. | .portDisable .. | .laneStageEnd .. | .laneTrainFail ..
  | .laneIdleHoldEnd .. | .laneReady .. | .laneDown .. | .laneRetrain .. | .equaliserFreezeWrite .. | .dfeTapWrite ..
  | .prbsCtrlWrite .. | .prbsLock .. | .prbsLockLoss .. | .injectOne .. | .injectRate .. | .eyeMeasureGo ..
  | .eyeMeasureDone .. | .lpiReceive .. | .lpiWake .. | .laneWakeFail .. | .bundleIssue .. | .resultWriteback .. | .mpy ..
  | .mac .. | .msu .. | .cmpy .. | .cmac .. | .cmacj .. | .clra .. | .movda .. | .adda .. | .suba .. | .nega .. | .sha ..
  | .ld .. | .ldh .. | .ld2 .. | .ldk .. | .ldx .. | .ldp .. | .st .. | .sth .. | .st2 .. | .stk .. | .sta .. | .movOp ..
  | .addOp .. | .subOp .. | .adds .. | .andOp .. | .orOp .. | .xorOp .. | .shl .. | .shr .. | .cmp .. | .normOp .. | .movi ..
  | .mva .. | .movp .. | .setb .. | .setl .. | .setm .. | .setcc .. | .setwin .. | .br .. | .brcc .. | .call .. | .retOp ..
  | .loopOp .. | .fence .. | .ckpt .. | .jobend .. | .sig .. | .claimOp .. | .complete .. | .reti .. | .drainComplete ..
  | .engineEventEntry .. | .flowJobDue .. | .hostJobPost .. | .jobStart .. | .jobWatchdog .. | .engineAbort ..
  | .storeErrorResponse .. | .engineRestart .. | .lanternFence .. | .dinv .. | .icinvAll .. | .proxyWrite .. | .mramRead ..
  | .mramPageMove .. | .dmaDoorbell .. | .dmaStop .. | .dmaResume .. | .eventPulse .. | .eventLevelAssert ..
  | .eventLevelDeassert .. | .eventEnableWrite .. | .eventClaim .. | .eventComplete .. | .gdisWrite .. | .softwareLineSet ..
  | .alertClear .. | .hkEnable .. | .seqGo .. | .hkTriggerTimer .. | .injGo .. | .hkInjTriggerTimer ..
  | .conversionComplete .. | .injectedComplete .. | .calGo .. | .hkCalTimer .. | .hkCalEnd .. | .pwmEdge ..
  | .pwmPeriodEnd .. | .pllStart .. | .pllLock .. | .syncMissed .. | .slewStep .. | .holdover .. | .clkoutCfgWrite ..
  | .powerModeWrite .. | .perfLevelRequest .. | .avsTargetReached .. | .avsTimeout .. | .avsBusError .. | .avsLoopInterval ..
  | .sealWrite .. | .sealForced .. | .keyFuseProgram .. | .ledgerAck .. | .domainResetDone .. | .readReq .. | .readData ..
  | .svcWrite .. | .svcStatus .. | .svcBadCommand .. | .extest .. | .clamp .. | .mailboxDoor .. | .ptbEnable ..
  | .ptbDisable .. | .bpHoldStart .. | .delayResponseTimeout .. | .characterError .. | .pllLockLoss .. | .refclkLoss ..
  | .crystalStop .. => false

/-- Commands in which a reset of the whole device or the start-up after it may take place (R438, R442). -/
def resetsDevice : Instr → Bool
  | .deviceTimeTick .. | .powerOnReset .. | .pinReset .. | .softwareReset .. | .bootSequence .. => true
  | .registerWrite .. | .readClear .. | .lowWordRead .. | .holdingRegisterExpire .. | .compatWindowAccess ..
  | .timelineEnableWrite .. | .taggedSampleStage .. | .tileBoundary .. | .txPathBoundary .. | .rxPathBoundary ..
  | .prismTxBoundary .. | .prismRxBoundary .. | .preloadComplete .. | .preloadCutoff .. | .loFrequencyWrite ..
  | .synthEnableWrite .. | .synthLock .. | .hopArm .. | .hopLand .. | .tileEnable .. | .tileDisable .. | .tileIdleReached ..
  | .tileOffReached .. | .burstRequest .. | .rxRunRequest .. | .txHalfOn .. | .txHalfOff .. | .rxHalfOn .. | .gpioEdge ..
  | .calRequest .. | .calStart .. | .calEnd .. | .bgPassTimer .. | .bgCalStep .. | .dutyLimit .. | .dutySliceEnd ..
  | .fuseProgram .. | .fuseProgramDone .. | .adcOverload .. | .agcAttack .. | .agcHoldEnd .. | .finePowerWindow ..
  | .cfirCoefWrite .. | .rxPathEnable .. | .txPathEnable .. | .txPathDisable .. | .nsOverload .. | .nsOverloadEnd ..
  | .fabricAccess .. | .fabricGrant .. | .controlRangeAccept .. | .corrCommitArm .. | .corrCommitLand .. | .corrPendWrite ..
  | .prismEnableWrite .. | .layerEnableWrite .. | .dpdGo .. | .dpdStagingDone .. | .dpdInstall .. | .dpdTrialVerdict ..
  | .dpdTrialLapse .. | .dpdUnfreeze .. | .dpdBypass .. | .dpdBypassEndRequest .. | .dpdDescriptorWrite .. | .dpdSetWrite ..
  | .dpdRefreshEnd .. | .orxCaptureStart .. | .orxCaptureDiscard .. | .orxCaptureEnd .. | .orxResultWrite .. | .orxRequest ..
  | .orxBufferRelease .. | .mirEnableWrite .. | .mirStartWrite .. | .mirRoundStart .. | .mirProbe ..
  | .mirCaptureWindowEnd .. | .mirRecordsWrite .. | .mirRoundEnd .. | .mirSolveGo .. | .mirCommitArm .. | .admitRequest ..
  | .releaseRequest .. | .suspendRequest .. | .epochGo .. | .frameEpoch .. | .eventEpoch .. | .epochWalkEnd ..
  | .flowStart .. | .moveEffective .. | .flowReleaseDone .. | .flowLatency .. | .patternWrite .. | .iqDataReceive ..
  | .realTimeControlReceive .. | .beamWriteReceive .. | .mgmtReqReceive .. | .timeSyncReceive .. | .delayRequestReceive ..
  | .remoteRequestReceive .. | .delayResponseReceive .. | .unsupportedPacketReceive .. | .mgmtPost .. | .capturePost ..
  | .delayMeasureGo .. | .timeSyncTimer .. | .placementNoticeSend .. | .eventModTimer .. | .rxIqPacketSend ..
  | .packetTransmit .. | .portEnable .. | .portDisable .. | .laneStageEnd .. | .laneTrainFail .. | .laneIdleHoldEnd ..
  | .laneReady .. | .laneDown .. | .laneRetrain .. | .equaliserFreezeWrite .. | .dfeTapWrite .. | .prbsCtrlWrite ..
  | .prbsLock .. | .prbsLockLoss .. | .injectOne .. | .injectRate .. | .eyeMeasureGo .. | .eyeMeasureDone .. | .lpiEntry ..
  | .lpiReceive .. | .lpiWake .. | .lpiWakeDone .. | .laneWakeFail .. | .bundleIssue .. | .resultWriteback .. | .mpy ..
  | .mac .. | .msu .. | .cmpy .. | .cmac .. | .cmacj .. | .clra .. | .movda .. | .adda .. | .suba .. | .nega .. | .sha ..
  | .ld .. | .ldh .. | .ld2 .. | .ldk .. | .ldx .. | .ldp .. | .windowLoadData .. | .st .. | .sth .. | .st2 .. | .stk ..
  | .sta .. | .movOp .. | .addOp .. | .subOp .. | .adds .. | .andOp .. | .orOp .. | .xorOp .. | .shl .. | .shr .. | .cmp ..
  | .normOp .. | .movi .. | .mva .. | .movp .. | .setb .. | .setl .. | .setm .. | .setcc .. | .setwin .. | .br .. | .brcc ..
  | .call .. | .retOp .. | .loopOp .. | .fence .. | .ckpt .. | .jobend .. | .sig .. | .claimOp .. | .complete .. | .reti ..
  | .storeRetire .. | .drainComplete .. | .engineEventEntry .. | .flowJobDue .. | .hostJobPost .. | .jobStart ..
  | .jobWatchdog .. | .engineAbort .. | .storeErrorResponse .. | .engineRestart .. | .lanternFence .. | .dclean .. | .dinv ..
  | .dflush .. | .dcleanAll .. | .dflushAll .. | .icinvAll .. | .proxyWrite .. | .mramRead .. | .mramWrite ..
  | .mramPageMove .. | .dmaDoorbell .. | .dmaDescriptorStart .. | .dmaDescriptorEnd .. | .dmaError .. | .dmaStop ..
  | .dmaResume .. | .dmaQuiesceTimeout .. | .eventPulse .. | .eventLevelAssert .. | .eventLevelDeassert ..
  | .eventEnableWrite .. | .moderationTimerExpiry .. | .eventClaim .. | .eventComplete .. | .gdisWrite ..
  | .softwareLineSet .. | .alertClear .. | .hkEnable .. | .seqGo .. | .hkTriggerTimer .. | .injGo .. | .hkInjTriggerTimer ..
  | .conversionComplete .. | .injectedComplete .. | .calGo .. | .hkCalTimer .. | .hkCalEnd .. | .pwmEdge ..
  | .pwmPeriodEnd .. | .pllStart .. | .pllLock .. | .syncEdge .. | .syncMissed .. | .slewStep .. | .holdover ..
  | .clkoutCfgWrite .. | .powerModeWrite .. | .wfi .. | .powerSwitchesOpen .. | .wakeEvent .. | .wakeComplete ..
  | .wakeStepTimeout .. | .holdRelease .. | .wakeFailAck .. | .pwrTimerMatch .. | .perfLevelRequest .. | .avsTargetReached ..
  | .avsTimeout .. | .avsBusError .. | .avsLoopInterval .. | .sealWrite .. | .sealForced .. | .reload .. | .keyFuseProgram ..
  | .ledgerAck .. | .domainReset .. | .domainResetDone .. | .readReq .. | .readData .. | .svcWrite .. | .svcStatus ..
  | .svcBadCommand .. | .svcWordDone .. | .jtagAccess .. | .extest .. | .clamp .. | .mailboxDoor .. | .ptbEnable ..
  | .ptbDisable .. | .bpHoldStart .. | .bpHoldEnd .. | .rxLpiExit .. | .linkIdleTimeout .. | .busIdleTimeout ..
  | .delayResponseTimeout .. | .characterError .. | .pllLockLoss .. | .refclkLoss .. | .crystalStop .. => false

/-- Commands of the core domain that are no register writes: events of its blocks and operations of its engines. -/
def needsCore : Instr → Bool
  | .compatWindowAccess .. | .taggedSampleStage .. | .tileBoundary .. | .txPathBoundary .. | .rxPathBoundary ..
  | .prismTxBoundary .. | .prismRxBoundary .. | .preloadComplete .. | .preloadCutoff .. | .synthLock .. | .hopLand ..
  | .tileIdleReached .. | .tileOffReached .. | .burstRequest .. | .rxRunRequest .. | .txHalfOn .. | .txHalfOff ..
  | .rxHalfOn .. | .gpioEdge .. | .calStart .. | .calEnd .. | .bgPassTimer .. | .bgCalStep .. | .dutyLimit ..
  | .dutySliceEnd .. | .adcOverload .. | .agcAttack .. | .agcHoldEnd .. | .finePowerWindow .. | .nsOverload ..
  | .nsOverloadEnd .. | .fabricAccess .. | .fabricGrant .. | .controlRangeAccept .. | .corrCommitLand .. | .dpdStagingDone ..
  | .dpdInstall .. | .dpdTrialVerdict .. | .dpdTrialLapse .. | .dpdBypass .. | .dpdRefreshEnd .. | .orxCaptureStart ..
  | .orxCaptureDiscard .. | .orxCaptureEnd .. | .orxResultWrite .. | .mirRoundStart .. | .mirProbe ..
  | .mirCaptureWindowEnd .. | .mirRecordsWrite .. | .mirRoundEnd .. | .mirCommitArm .. | .frameEpoch .. | .eventEpoch ..
  | .epochWalkEnd .. | .flowStart .. | .moveEffective .. | .flowReleaseDone .. | .flowLatency .. | .iqDataReceive ..
  | .realTimeControlReceive .. | .beamWriteReceive .. | .mgmtReqReceive .. | .timeSyncReceive .. | .delayRequestReceive ..
  | .remoteRequestReceive .. | .delayResponseReceive .. | .unsupportedPacketReceive .. | .timeSyncTimer ..
  | .placementNoticeSend .. | .rxIqPacketSend .. | .packetTransmit .. | .laneStageEnd .. | .laneTrainFail ..
  | .laneIdleHoldEnd .. | .laneReady .. | .laneDown .. | .prbsLock .. | .prbsLockLoss .. | .injectRate ..
  | .eyeMeasureDone .. | .lpiEntry .. | .lpiReceive .. | .lpiWake .. | .lpiWakeDone .. | .laneWakeFail .. | .bundleIssue ..
  | .resultWriteback .. | .mpy .. | .mac .. | .msu .. | .cmpy .. | .cmac .. | .cmacj .. | .clra .. | .movda .. | .adda ..
  | .suba .. | .nega .. | .sha .. | .ld .. | .ldh .. | .ld2 .. | .ldk .. | .ldx .. | .ldp .. | .windowLoadData .. | .st ..
  | .sth .. | .st2 .. | .stk .. | .sta .. | .movOp .. | .addOp .. | .subOp .. | .adds .. | .andOp .. | .orOp .. | .xorOp ..
  | .shl .. | .shr .. | .cmp .. | .normOp .. | .movi .. | .mva .. | .movp .. | .setb .. | .setl .. | .setm .. | .setcc ..
  | .setwin .. | .br .. | .brcc .. | .call .. | .retOp .. | .loopOp .. | .fence .. | .ckpt .. | .jobend .. | .sig ..
  | .claimOp .. | .complete .. | .reti .. | .storeRetire .. | .drainComplete .. | .engineEventEntry .. | .flowJobDue ..
  | .jobStart .. | .jobWatchdog .. | .storeErrorResponse .. | .lanternFence .. | .dclean .. | .dinv .. | .dflush ..
  | .dcleanAll .. | .dflushAll .. | .icinvAll .. | .mramRead .. | .mramWrite .. | .mramPageMove .. | .dmaDescriptorStart ..
  | .dmaDescriptorEnd .. | .dmaError .. | .dmaQuiesceTimeout .. | .eventPulse .. | .eventLevelAssert ..
  | .eventLevelDeassert .. | .hkTriggerTimer .. | .hkInjTriggerTimer .. | .conversionComplete .. | .injectedComplete ..
  | .hkCalTimer .. | .hkCalEnd .. | .pwmEdge .. | .pwmPeriodEnd .. | .pllLock .. | .syncMissed .. | .slewStep ..
  | .holdover .. | .wfi .. | .powerSwitchesOpen .. | .avsTargetReached .. | .avsTimeout .. | .avsBusError ..
  | .avsLoopInterval .. | .sealForced .. | .domainResetDone .. | .bpHoldStart .. | .bpHoldEnd .. | .linkIdleTimeout ..
  | .busIdleTimeout .. | .delayResponseTimeout .. | .characterError .. | .pllLockLoss .. => true
  | .registerWrite .. | .readClear .. | .lowWordRead .. | .holdingRegisterExpire .. | .deviceTimeTick ..
  | .timelineEnableWrite .. | .loFrequencyWrite .. | .synthEnableWrite .. | .hopArm .. | .tileEnable .. | .tileDisable ..
  | .calRequest .. | .fuseProgram .. | .fuseProgramDone .. | .cfirCoefWrite .. | .rxPathEnable .. | .txPathEnable ..
  | .txPathDisable .. | .corrCommitArm .. | .corrPendWrite .. | .prismEnableWrite .. | .layerEnableWrite .. | .dpdGo ..
  | .dpdUnfreeze .. | .dpdBypassEndRequest .. | .dpdDescriptorWrite .. | .dpdSetWrite .. | .orxRequest ..
  | .orxBufferRelease .. | .mirEnableWrite .. | .mirStartWrite .. | .mirSolveGo .. | .admitRequest .. | .releaseRequest ..
  | .suspendRequest .. | .epochGo .. | .patternWrite .. | .mgmtPost .. | .capturePost .. | .delayMeasureGo ..
  | .eventModTimer .. | .portEnable .. | .portDisable .. | .laneRetrain .. | .equaliserFreezeWrite .. | .dfeTapWrite ..
  | .prbsCtrlWrite .. | .injectOne .. | .eyeMeasureGo .. | .hostJobPost .. | .engineAbort .. | .engineRestart ..
  | .proxyWrite .. | .dmaDoorbell .. | .dmaStop .. | .dmaResume .. | .eventEnableWrite .. | .moderationTimerExpiry ..
  | .eventClaim .. | .eventComplete .. | .gdisWrite .. | .softwareLineSet .. | .alertClear .. | .hkEnable .. | .seqGo ..
  | .injGo .. | .calGo .. | .pllStart .. | .syncEdge .. | .clkoutCfgWrite .. | .powerModeWrite .. | .wakeEvent ..
  | .wakeComplete .. | .wakeStepTimeout .. | .holdRelease .. | .wakeFailAck .. | .pwrTimerMatch .. | .perfLevelRequest ..
  | .powerOnReset .. | .pinReset .. | .softwareReset .. | .bootSequence .. | .sealWrite .. | .reload .. | .keyFuseProgram ..
  | .ledgerAck .. | .domainReset .. | .readReq .. | .readData .. | .svcWrite .. | .svcStatus .. | .svcBadCommand ..
  | .svcWordDone .. | .jtagAccess .. | .extest .. | .clamp .. | .mailboxDoor .. | .ptbEnable .. | .ptbDisable ..
  | .rxLpiExit .. | .refclkLoss .. | .crystalStop .. => false

/-- The engine whose bundle in hand a command acts in: an operation of a slot. -/
def opEngine : Instr → Option Nat
  | .mpy n .. | .mac n .. | .msu n .. | .cmpy n .. | .cmac n .. | .cmacj n .. | .clra n .. | .movda n .. | .adda n ..
  | .suba n .. | .nega n .. | .sha n .. | .ld n .. | .ldh n .. | .ld2 n .. | .ldk n .. | .ldx n .. | .ldp n .. | .st n ..
  | .sth n .. | .st2 n .. | .stk n .. | .sta n .. | .movOp n .. | .addOp n .. | .subOp n .. | .adds n .. | .andOp n ..
  | .orOp n .. | .xorOp n .. | .shl n .. | .shr n .. | .cmp n .. | .normOp n .. | .movi n .. | .mva n .. | .movp n ..
  | .setb n .. | .setl n .. | .setm n .. | .setcc n .. | .setwin n .. | .br n .. | .brcc n .. | .call n .. | .retOp n ..
  | .loopOp n .. | .fence n .. | .ckpt n .. | .jobend n .. | .sig n .. | .claimOp n .. | .complete n .. | .reti n .. => some n
  | .registerWrite .. | .readClear .. | .lowWordRead .. | .holdingRegisterExpire .. | .compatWindowAccess ..
  | .deviceTimeTick .. | .timelineEnableWrite .. | .taggedSampleStage .. | .tileBoundary .. | .txPathBoundary ..
  | .rxPathBoundary .. | .prismTxBoundary .. | .prismRxBoundary .. | .preloadComplete .. | .preloadCutoff ..
  | .loFrequencyWrite .. | .synthEnableWrite .. | .synthLock .. | .hopArm .. | .hopLand .. | .tileEnable .. | .tileDisable ..
  | .tileIdleReached .. | .tileOffReached .. | .burstRequest .. | .rxRunRequest .. | .txHalfOn .. | .txHalfOff ..
  | .rxHalfOn .. | .gpioEdge .. | .calRequest .. | .calStart .. | .calEnd .. | .bgPassTimer .. | .bgCalStep ..
  | .dutyLimit .. | .dutySliceEnd .. | .fuseProgram .. | .fuseProgramDone .. | .adcOverload .. | .agcAttack ..
  | .agcHoldEnd .. | .finePowerWindow .. | .cfirCoefWrite .. | .rxPathEnable .. | .txPathEnable .. | .txPathDisable ..
  | .nsOverload .. | .nsOverloadEnd .. | .fabricAccess .. | .fabricGrant .. | .controlRangeAccept .. | .corrCommitArm ..
  | .corrCommitLand .. | .corrPendWrite .. | .prismEnableWrite .. | .layerEnableWrite .. | .dpdGo .. | .dpdStagingDone ..
  | .dpdInstall .. | .dpdTrialVerdict .. | .dpdTrialLapse .. | .dpdUnfreeze .. | .dpdBypass .. | .dpdBypassEndRequest ..
  | .dpdDescriptorWrite .. | .dpdSetWrite .. | .dpdRefreshEnd .. | .orxCaptureStart .. | .orxCaptureDiscard ..
  | .orxCaptureEnd .. | .orxResultWrite .. | .orxRequest .. | .orxBufferRelease .. | .mirEnableWrite .. | .mirStartWrite ..
  | .mirRoundStart .. | .mirProbe .. | .mirCaptureWindowEnd .. | .mirRecordsWrite .. | .mirRoundEnd .. | .mirSolveGo ..
  | .mirCommitArm .. | .admitRequest .. | .releaseRequest .. | .suspendRequest .. | .epochGo .. | .frameEpoch ..
  | .eventEpoch .. | .epochWalkEnd .. | .flowStart .. | .moveEffective .. | .flowReleaseDone .. | .flowLatency ..
  | .patternWrite .. | .iqDataReceive .. | .realTimeControlReceive .. | .beamWriteReceive .. | .mgmtReqReceive ..
  | .timeSyncReceive .. | .delayRequestReceive .. | .remoteRequestReceive .. | .delayResponseReceive ..
  | .unsupportedPacketReceive .. | .mgmtPost .. | .capturePost .. | .delayMeasureGo .. | .timeSyncTimer ..
  | .placementNoticeSend .. | .eventModTimer .. | .rxIqPacketSend .. | .packetTransmit .. | .portEnable .. | .portDisable ..
  | .laneStageEnd .. | .laneTrainFail .. | .laneIdleHoldEnd .. | .laneReady .. | .laneDown .. | .laneRetrain ..
  | .equaliserFreezeWrite .. | .dfeTapWrite .. | .prbsCtrlWrite .. | .prbsLock .. | .prbsLockLoss .. | .injectOne ..
  | .injectRate .. | .eyeMeasureGo .. | .eyeMeasureDone .. | .lpiEntry .. | .lpiReceive .. | .lpiWake .. | .lpiWakeDone ..
  | .laneWakeFail .. | .bundleIssue .. | .resultWriteback .. | .windowLoadData .. | .storeRetire .. | .drainComplete ..
  | .engineEventEntry .. | .flowJobDue .. | .hostJobPost .. | .jobStart .. | .jobWatchdog .. | .engineAbort ..
  | .storeErrorResponse .. | .engineRestart .. | .lanternFence .. | .dclean .. | .dinv .. | .dflush .. | .dcleanAll ..
  | .dflushAll .. | .icinvAll .. | .proxyWrite .. | .mramRead .. | .mramWrite .. | .mramPageMove .. | .dmaDoorbell ..
  | .dmaDescriptorStart .. | .dmaDescriptorEnd .. | .dmaError .. | .dmaStop .. | .dmaResume .. | .dmaQuiesceTimeout ..
  | .eventPulse .. | .eventLevelAssert .. | .eventLevelDeassert .. | .eventEnableWrite .. | .moderationTimerExpiry ..
  | .eventClaim .. | .eventComplete .. | .gdisWrite .. | .softwareLineSet .. | .alertClear .. | .hkEnable .. | .seqGo ..
  | .hkTriggerTimer .. | .injGo .. | .hkInjTriggerTimer .. | .conversionComplete .. | .injectedComplete .. | .calGo ..
  | .hkCalTimer .. | .hkCalEnd .. | .pwmEdge .. | .pwmPeriodEnd .. | .pllStart .. | .pllLock .. | .syncEdge ..
  | .syncMissed .. | .slewStep .. | .holdover .. | .clkoutCfgWrite .. | .powerModeWrite .. | .wfi .. | .powerSwitchesOpen ..
  | .wakeEvent .. | .wakeComplete .. | .wakeStepTimeout .. | .holdRelease .. | .wakeFailAck .. | .pwrTimerMatch ..
  | .perfLevelRequest .. | .avsTargetReached .. | .avsTimeout .. | .avsBusError .. | .avsLoopInterval .. | .powerOnReset ..
  | .pinReset .. | .softwareReset .. | .bootSequence .. | .sealWrite .. | .sealForced .. | .reload .. | .keyFuseProgram ..
  | .ledgerAck .. | .domainReset .. | .domainResetDone .. | .readReq .. | .readData .. | .svcWrite .. | .svcStatus ..
  | .svcBadCommand .. | .svcWordDone .. | .jtagAccess .. | .extest .. | .clamp .. | .mailboxDoor .. | .ptbEnable ..
  | .ptbDisable .. | .bpHoldStart .. | .bpHoldEnd .. | .rxLpiExit .. | .linkIdleTimeout .. | .busIdleTimeout ..
  | .delayResponseTimeout .. | .characterError .. | .pllLockLoss .. | .refclkLoss .. | .crystalStop .. => none

/-- Operations that only compute: they queue results for registers of their engine. -/
def computes : Instr → Bool
  | .mpy .. | .mac .. | .msu .. | .cmpy .. | .cmac .. | .cmacj .. | .clra .. | .movda .. | .adda .. | .suba .. | .nega ..
  | .sha .. | .mva .. | .addOp .. | .adds .. | .subOp .. | .cmp .. | .andOp .. | .orOp .. | .xorOp .. | .shl .. | .shr ..
  | .normOp .. | .movOp .. | .movi .. | .movp .. | .setb .. | .setl .. | .setm .. | .setcc .. | .setwin .. => true
  | .registerWrite .. | .readClear .. | .lowWordRead .. | .holdingRegisterExpire .. | .compatWindowAccess ..
  | .deviceTimeTick .. | .timelineEnableWrite .. | .taggedSampleStage .. | .tileBoundary .. | .txPathBoundary ..
  | .rxPathBoundary .. | .prismTxBoundary .. | .prismRxBoundary .. | .preloadComplete .. | .preloadCutoff ..
  | .loFrequencyWrite .. | .synthEnableWrite .. | .synthLock .. | .hopArm .. | .hopLand .. | .tileEnable .. | .tileDisable ..
  | .tileIdleReached .. | .tileOffReached .. | .burstRequest .. | .rxRunRequest .. | .txHalfOn .. | .txHalfOff ..
  | .rxHalfOn .. | .gpioEdge .. | .calRequest .. | .calStart .. | .calEnd .. | .bgPassTimer .. | .bgCalStep ..
  | .dutyLimit .. | .dutySliceEnd .. | .fuseProgram .. | .fuseProgramDone .. | .adcOverload .. | .agcAttack ..
  | .agcHoldEnd .. | .finePowerWindow .. | .cfirCoefWrite .. | .rxPathEnable .. | .txPathEnable .. | .txPathDisable ..
  | .nsOverload .. | .nsOverloadEnd .. | .fabricAccess .. | .fabricGrant .. | .controlRangeAccept .. | .corrCommitArm ..
  | .corrCommitLand .. | .corrPendWrite .. | .prismEnableWrite .. | .layerEnableWrite .. | .dpdGo .. | .dpdStagingDone ..
  | .dpdInstall .. | .dpdTrialVerdict .. | .dpdTrialLapse .. | .dpdUnfreeze .. | .dpdBypass .. | .dpdBypassEndRequest ..
  | .dpdDescriptorWrite .. | .dpdSetWrite .. | .dpdRefreshEnd .. | .orxCaptureStart .. | .orxCaptureDiscard ..
  | .orxCaptureEnd .. | .orxResultWrite .. | .orxRequest .. | .orxBufferRelease .. | .mirEnableWrite .. | .mirStartWrite ..
  | .mirRoundStart .. | .mirProbe .. | .mirCaptureWindowEnd .. | .mirRecordsWrite .. | .mirRoundEnd .. | .mirSolveGo ..
  | .mirCommitArm .. | .admitRequest .. | .releaseRequest .. | .suspendRequest .. | .epochGo .. | .frameEpoch ..
  | .eventEpoch .. | .epochWalkEnd .. | .flowStart .. | .moveEffective .. | .flowReleaseDone .. | .flowLatency ..
  | .patternWrite .. | .iqDataReceive .. | .realTimeControlReceive .. | .beamWriteReceive .. | .mgmtReqReceive ..
  | .timeSyncReceive .. | .delayRequestReceive .. | .remoteRequestReceive .. | .delayResponseReceive ..
  | .unsupportedPacketReceive .. | .mgmtPost .. | .capturePost .. | .delayMeasureGo .. | .timeSyncTimer ..
  | .placementNoticeSend .. | .eventModTimer .. | .rxIqPacketSend .. | .packetTransmit .. | .portEnable .. | .portDisable ..
  | .laneStageEnd .. | .laneTrainFail .. | .laneIdleHoldEnd .. | .laneReady .. | .laneDown .. | .laneRetrain ..
  | .equaliserFreezeWrite .. | .dfeTapWrite .. | .prbsCtrlWrite .. | .prbsLock .. | .prbsLockLoss .. | .injectOne ..
  | .injectRate .. | .eyeMeasureGo .. | .eyeMeasureDone .. | .lpiEntry .. | .lpiReceive .. | .lpiWake .. | .lpiWakeDone ..
  | .laneWakeFail .. | .bundleIssue .. | .resultWriteback .. | .ld .. | .ldh .. | .ld2 .. | .ldk .. | .ldx .. | .ldp ..
  | .windowLoadData .. | .st .. | .sth .. | .st2 .. | .stk .. | .sta .. | .br .. | .brcc .. | .call .. | .retOp ..
  | .loopOp .. | .fence .. | .ckpt .. | .jobend .. | .sig .. | .claimOp .. | .complete .. | .reti .. | .storeRetire ..
  | .drainComplete .. | .engineEventEntry .. | .flowJobDue .. | .hostJobPost .. | .jobStart .. | .jobWatchdog ..
  | .engineAbort .. | .storeErrorResponse .. | .engineRestart .. | .lanternFence .. | .dclean .. | .dinv .. | .dflush ..
  | .dcleanAll .. | .dflushAll .. | .icinvAll .. | .proxyWrite .. | .mramRead .. | .mramWrite .. | .mramPageMove ..
  | .dmaDoorbell .. | .dmaDescriptorStart .. | .dmaDescriptorEnd .. | .dmaError .. | .dmaStop .. | .dmaResume ..
  | .dmaQuiesceTimeout .. | .eventPulse .. | .eventLevelAssert .. | .eventLevelDeassert .. | .eventEnableWrite ..
  | .moderationTimerExpiry .. | .eventClaim .. | .eventComplete .. | .gdisWrite .. | .softwareLineSet .. | .alertClear ..
  | .hkEnable .. | .seqGo .. | .hkTriggerTimer .. | .injGo .. | .hkInjTriggerTimer .. | .conversionComplete ..
  | .injectedComplete .. | .calGo .. | .hkCalTimer .. | .hkCalEnd .. | .pwmEdge .. | .pwmPeriodEnd .. | .pllStart ..
  | .pllLock .. | .syncEdge .. | .syncMissed .. | .slewStep .. | .holdover .. | .clkoutCfgWrite .. | .powerModeWrite ..
  | .wfi .. | .powerSwitchesOpen .. | .wakeEvent .. | .wakeComplete .. | .wakeStepTimeout .. | .holdRelease ..
  | .wakeFailAck .. | .pwrTimerMatch .. | .perfLevelRequest .. | .avsTargetReached .. | .avsTimeout .. | .avsBusError ..
  | .avsLoopInterval .. | .powerOnReset .. | .pinReset .. | .softwareReset .. | .bootSequence .. | .sealWrite ..
  | .sealForced .. | .reload .. | .keyFuseProgram .. | .ledgerAck .. | .domainReset .. | .domainResetDone .. | .readReq ..
  | .readData .. | .svcWrite .. | .svcStatus .. | .svcBadCommand .. | .svcWordDone .. | .jtagAccess .. | .extest ..
  | .clamp .. | .mailboxDoor .. | .ptbEnable .. | .ptbDisable .. | .bpHoldStart .. | .bpHoldEnd .. | .rxLpiExit ..
  | .linkIdleTimeout .. | .busIdleTimeout .. | .delayResponseTimeout .. | .characterError .. | .pllLockLoss ..
  | .refclkLoss .. | .crystalStop .. => false

end Sys2Proof.Machine
end

