-- ==== Sys2Proof/Certificates/Slice0/Obligations.lean ====
section
/-!
DEFINITION. Sys2Proof/Certificates/Slice0/Obligations.lean: the statements about the model that are put to the provers.
-/
open Sys2Proof Sys2Proof.Machine

/-- For every command c, every state s and every queue, step of s with c at the front of its queue is exec of c on s with the
  queue's rest: the commands are taken first in, first out. -/
def Obligations.StepRunsFrontCommand : Prop :=
  ∀ (c : Instr) (s : State) (rest : List Instr), step { s with pending := c :: rest } = exec c { s with pending := rest }

/-- A step on an empty queue changes nothing: the device's ticks are a command of the table (DEVICE_TIME_TICK), so nothing else
  is left to do. This is the model's choice (log entry 2). -/
def Obligations.EmptyQueueIdles : Prop :=
  ∀ s : State, s.pending = [] → step s = .next s

/-- From every state, with any command at the front of the queue and any operands, step answers a next state: the spec gives
  every command of the table an effect, be it to leave the device as it is. -/
def Obligations.EveryStepGoesOn : Prop :=
  ∀ s : State, ∃ t : State, step s = .next t

/-- No command of the table adds to, removes from or reorders the queue of the commands that wait: only step takes the front
  one off. -/
def Obligations.CommandsLeaveTheQueue : Prop :=
  ∀ (c : Instr) (s t : State), exec c s = .next t → t.pending = s.pending

/-- At reset, memory, the field store and the shadow values are in canonical form, no shadow value belongs to a register
  without class B fields, and the ledger is empty. -/
def Obligations.ResetMeetsInvariant : Prop :=
  State.reset.inv = true

/-- If memory, the field store and the shadow values are in canonical form, no shadow value lies below the registers that have
  class B fields, and the ledger holds at most 32 entries with a 16-bit next sequence number (R462, R467), then all of that
  holds after every step, whatever the command. -/
def Obligations.StepKeepsInvariant : Prop :=
  ∀ s t : State, s.inv = true → step s = .next t → t.inv = true

/-- For every command but those that mayStore names (accesses, transfers, captures and records that are written, link packets
  that carry data, entries to and wakes from low power, resets and the start-up), every address reads after the command
  what it read before, in every state. This is the memory frame of 227 of the table's 295 commands. -/
def Obligations.OnlyStoringCommandsChangeMemory : Prop :=
  ∀ (c : Instr) (s t : State), mayStore c = false → exec c s = .next t → ∀ a : Nat, t.readByte a = s.readByte a

/-- A write to DPD memory changes at most its four bytes; the write buffer retires a local store into its own bytes; the MRAM
  controller writes the bytes of the request it serves; the correlator writes inside the result buffer of its capture
  (R169) and inside the records of its round's buffer (R191); and a point of the fabric that grants a write to SRAM or to
  the retention SRAM, of an initiator without a cache, writes the bytes of that request. Every other address reads as
  before. -/
def Obligations.StoresStayInPlace : Prop :=
  (∀ (s t : State) (n : Fin 64) (ix : Fin 64) (w : Word) (b a : Nat), b = dpdBase + 0x90000 + n * 0x100 + 4 * ix →
    exec (.dpdDescriptorWrite n ix w) s = .next t → ¬(b ≤ a ∧ a < b + 4) → t.readByte a = s.readByte a) ∧
  (∀ (s t : State) (x : Fin 262144) (w : Word) (b a : Nat), b = dpdBase + 4 * x →
    exec (.dpdSetWrite x w) s = .next t → ¬(b ≤ a ∧ a < b + 4) → t.readByte a = s.readByte a) ∧
  (∀ (s t : State) (n : Fin 16) (b : BufStore) (bs : List BufStore) (a : Nat), (s.eng n).buf = b :: bs → b.window = false →
    exec (.storeRetire n) s = .next t → ¬(b.addr ≤ a ∧ a < b.addr + b.bytes.length) → t.readByte a = s.readByte a) ∧
  (∀ (s t : State) (r : Request) (a : Nat), s.mramNext true = some r →
    exec .mramWrite s = .next t → ¬(r.addr ≤ a ∧ a < r.addr + r.size) → t.readByte a = s.readByte a) ∧
  (∀ (s t : State) (k : Fin 8) (p : Capture) (x : CaptureStats) (b a : Nat), (s.orxR k).ended = some (p, x) → b = resultAddr p.buf →
    exec (.orxResultWrite k) s = .next t → ¬(b ≤ a ∧ a < b + 0x4340) → t.readByte a = s.readByte a) ∧
  (∀ (s t : State) (b a : Nat), b = s.mirBuf + 0x40 →
    exec (.mirRecordsWrite ()) s = .next t → ¬(b ≤ a ∧ a < b + 16 * 576) → t.readByte a = s.readByte a) ∧
  (∀ (s t : State) (p : Fin 38) (r : Request) (a : Nat), s.nextGrant p = some r → 2 ≤ r.ini →
    (sram r.addr = true ∧ regionOf r.addr ≠ .dpd ∨ regionOf r.addr = .retention) →
    exec (.fabricGrant p) s = .next t → ¬(r.addr ≤ a ∧ a < r.addr + r.size) → t.readByte a = s.readByte a)

/-- In every state that meets the invariant and in which SYS.SEAL.SEAL is 1, it is 1 after every command but those in which a
  reset of the whole device or the start-up after it takes place: register writes of any kind, wakes, domain resets, the
  loss of REFCLK and everything else leave it set (R454). -/
def Obligations.SealStaysSet : Prop :=
  ∀ (c : Instr) (s t : State), resetsDevice c = false → s.inv = true → s.f F.SYS_SEAL_SEAL = 1 → exec c s = .next t →
    t.f F.SYS_SEAL_SEAL = 1

/-- While the core domain is absent (R406) or the device is held in reset (R438), every event of a core block and every engine
  operation leaves the whole state as it is; so does a register write to an address that cannot be reached, except that in
  reset and sleep no count of it is kept either. -/
def Obligations.CoreCommandsNeedTheCore : Prop :=
  (∀ (c : Instr) (s : State), needsCore c = true → (s.asleep = true ∨ s.inReset = true) → exec c s = .next s) ∧
  (∀ (ini : Initiator) (a w : Word) (s : State), s.inReset = true ∨ (s.asleep = true ∧ s.absentAt a.toNat = true) →
    exec (.registerWrite ini a w) s = .next s)

/-- While SEn.STATUS.FAULTED is 1 (R319), no operation of a slot of engine n changes anything. -/
def Obligations.StoppedEngineDoesNothing : Prop :=
  ∀ (c : Instr) (s : State) (n : Nat), opEngine c = some n → s.on F.SE_STATUS_FAULTED n = true → exec c s = .next s

/-- A multiply, arithmetic, logic, move or mode operation of engine n writes no register yet: the register file of engine n is
  as before, its results wait for the end of the bundle in which they fall due (R301). Every other engine is as before, and
  of the rest of the state at most the status fields of engine n and the model's count of free values differ. -/
def Obligations.ComputingOperationsFrame : Prop :=
  ∀ (c : Instr) (s t : State) (n : Nat), computes c = true → opEngine c = some n → exec c s = .next t →
    (t.eng n).regs = (s.eng n).regs ∧ (∀ m : Nat, m ≠ n → t.eng m = s.eng m) ∧
    (∀ k : Nat, k ≠ F.SE_STATUS_BUSY.key n 0 0 → k ≠ F.SE_STATUS_IN_HANDLER.key n 0 0 → k ≠ F.SE_STATUS_QDEPTH.key n 0 0 →
      k ≠ F.SE_POST_FULL.key n 0 0 → SMap.get 0 t.regs k = SMap.get 0 s.regs k) ∧
    { t with engines := s.engines, regs := s.regs, free := s.free } = s

/-- Where its conditions hold, each command on a timeline, a synthesiser or a hop of chapter 2 answers the state its rules
  give: an enabled timeline (R30), a frequency taken into effect with or without a relock (R42, R43), a relock started by
  an enable (R41), a lock (R41), an armed hop and a landed hop (R45). -/
def Obligations.SynthesiserAndHopCommands : Prop :=
  (∀ (s : State) (k : Fin 4) (w : Word), s.reach (regAddr .SYS_TL_CFG k) → s.tlOn k = false → bit w.toNat 31 →
    (s.applyFields (descOf .SYS_TL_CFG).flds (fun lo => lo == 31) k 0 0 w.toNat (fun _ => .timeline k) (fun _ => false)).2
    = false → exec (.timelineEnableWrite k w) s = .next ((s.applyFields (descOf .SYS_TL_CFG).flds (fun lo => lo == 31) k 0
    0 w.toNat (fun _ => .timeline k) (fun _ => false)).1.setF F.SYS_TL_CFG_EN 1 k)) ∧
  (∀ (s : State) (m : Fin 4) (w : Word), s.reach (regAddr .RFC_LOS_FREQ m) → s.enabled (.synth m) = false → s.on
    F.RFC_LOS_CTRL_EN m = false → ¬(bits w.toNat 0 24 < 3300000 ∨ 15400000 < bits w.toNat 0 24 ∨ s.loPermitted (bits
    w.toNat 0 24) = false) → exec (.loFrequencyWrite m w) s = .next (((s.setF F.RFC_LOS_FREQ_FREQ_KHZ (bits w.toNat 0 24)
    m).setF F.RFC_LOS_STATUS_FREQ_IN_EFFECT (bits w.toNat 0 24) m).setF F.RFC_LOS_STATUS_REFUSED 0 m)) ∧
  (∀ (s : State) (m : Fin 4) (w : Word), s.reach (regAddr .RFC_LOS_FREQ m) → s.enabled (.synth m) = false → s.on
    F.RFC_LOS_CTRL_EN m → ¬(bits w.toNat 0 24 < 3300000 ∨ 15400000 < bits w.toNat 0 24 ∨ s.loPermitted (bits w.toNat 0 24)
    = false) → exec (.loFrequencyWrite m w) s = .next ((((s.setF F.RFC_LOS_FREQ_FREQ_KHZ (bits w.toNat 0 24) m).setF
    F.RFC_LOS_STATUS_FREQ_IN_EFFECT (bits w.toNat 0 24) m).setF F.RFC_LOS_STATUS_REFUSED 0 m).relockStart m)) ∧
  (∀ (s : State) (m : Fin 4) (w : Word), s.reach (regAddr .RFC_LOS_CTRL m) → s.on F.RFC_LOS_CTRL_EN m = false → s.f
    F.RFC_LOS_STATUS_FREQ_IN_EFFECT m ≠ 0 → exec (.synthEnableWrite m w) s = .next (((s.writeReg .RFC_LOS_CTRL (w.toNat |||
    2 ^ 31) m).relockStart m).pairTiles (m / 2))) ∧
  (∀ (s : State) (m : Fin 4), s.awake → (s.synth m).relock → s.on F.RFC_LOS_STATUS_OSC_BUSY m = false → s.on
    F.RFC_LOS_STATUS_ACTIVE m = false → exec (.synthLock m) s = .next ((s.setF F.RFC_LOS_STATUS_LOCKED 1 m).setSynth m
    { s.synth m with relock := false, lockedAt := s.elapsed })) ∧
  (∀ (s : State) (m : Fin 4), s.awake → (s.synth m).relock → s.on F.RFC_LOS_STATUS_OSC_BUSY m = false → s.on
    F.RFC_LOS_STATUS_ACTIVE m → exec (.synthLock m) s = .next (((s.setF F.RFC_LOS_STATUS_LOCKED 1 m).setSynth m
    { s.synth m with relock := false, lockedAt := s.elapsed }).mirAbort.mirTrigger)) ∧
  (∀ (s : State) (g : Fin 2) (w : Word), s.reach (regAddr .RFC_LOP_CTRL g) → (List.range 8).any (fun i => s.f
    F.RFC_TILE_STATE_TILE (8 * g + i) != 0 && s.tileTl (8 * g + i) != s.f F.RFC_LOP_CTRL_TL g) = false → s.on
    F.RFC_LOP_STATUS_HOP_PENDING g = false → Nexts (exec (.hopArm g w) s) (fun t => t.f F.RFC_LOP_STATUS_HOP_PENDING g = 1
    ∧ SMap.get 0 t.radio.hopArmed g = s.elapsed)) ∧
  (∀ (s : State) (g : Fin 2), s.awake → s.hopReady g → exec (.hopLand g) s = .next (((((((s.setF
    F.RFC_LOP_STATUS_ACTIVE_SEL (1 - s.f F.RFC_LOP_STATUS_ACTIVE_SEL g) g).setF F.RFC_LOP_STATUS_HOP_PENDING 0 g).bump
    F.RFC_LOP_STATUS_HOP_COUNT g).setF F.RFC_LOS_STATUS_ACTIVE 0 (2 * g + s.f F.RFC_LOP_STATUS_ACTIVE_SEL g)).setF
    F.RFC_LOS_STATUS_ACTIVE 1 (2 * g + (1 - s.f F.RFC_LOP_STATUS_ACTIVE_SEL g))).pairTiles g).mirAbort.mirTrigger))

/-- Where its conditions hold, each command on a tile answers the state its rules give: the enable and the disable write (R31,
  R48, R512), the transitions into IDLE and OFF (R48), a burst and an RX run accepted (R47), the halves going on and off
  (R48), and the edge of a front-end function (R54, R55). -/
def Obligations.TileCommandsComplete : Prop :=
  (∀ (s u v : State) (t : Fin 16) (w : Word), s.reach (regAddr .RFC_TILE_CTRL t) → s.applyFields (descOf
    .RFC_TILE_CTRL).flds (fun lo => lo == 31) t 0 0 (w.toNat ||| 2 ^ 31) (fun c => s.ownerOf .RFC_TILE_CTRL t 0 c) (fun c
    => s.enabled (s.ownerOf .RFC_TILE_CTRL t 0 c)) = (u, false) → u.tlOn (u.tileTl t) → v = (if s.on F.RFC_TILE_CTRL_EN t
    then u.setF F.RFC_TILE_CTRL_EN 1 t else (u.setF F.RFC_TILE_CTRL_EN 1 t).setTile t
    { (u.setF F.RFC_TILE_CTRL_EN 1 t).tile t with parked := false }).tryLeaveOff t → v.f F.RFC_TILE_CTRL_BG_EN t = 0 → exec
    (.tileEnable t w) s = .next (v.setTile t { v.tile t with bg := { (v.tile t).bg with timer := false } })) ∧
  (∀ (s : State) (t : Fin 16) (w : Word), s.reach (regAddr .RFC_TILE_CTRL t) → Nexts (exec (.tileDisable t w) s) (fun u =>
    (u.tile t).nextBurst = none ∧ (u.tile t).nextRun = none ∧ ∀ b, (u.tile t).burst = some b → b.cut = true)) ∧
  (∀ (s : State) (t : Fin 16), s.awake → (s.tile t).going = .idle → s.offToIdle t → s.f F.RFC_TILE_CTRL_BG_EN t = 0 → exec
    (.tileIdleReached t) s = .next (((s.setF F.RFC_TILE_STATE_TILE 1 t).setTile t
    { s.tile t with going := .none }).tileSettle t)) ∧
  (∀ (s : State) (t : Fin 16), s.awake → (s.tile t).going = .off → s.txh t = 0 → s.rxh t = 0 → exec (.tileOffReached t) s =
    .next (((s.setF F.RFC_TILE_STATE_TILE 0 t).setTile t
    { s.tile t with going := .none, bg := { (s.tile t).bg with timer := false } }).tryLeaveOff t)) ∧
  (∀ (s : State) (t : Fin 16) (len : Nat), s.awake → s.on F.RFC_TILE_CTRL_EN t → s.tileState t ≠ 2 → (s.tile t).burst =
    none → s.onGrid t len → exec (.burstRequest t len) s = .next (((s.setTile t
    { s.tile t with burst := some { first := s.now + 2048, len := len }, used := true, parked := false }).tryLeaveOff
    t).startTx t)) ∧
  (∀ (s : State) (t : Fin 16) (len : Nat), s.awake → s.on F.RFC_TILE_CTRL_EN t → s.tileState t ≠ 2 → (s.tile t).run = none
    → s.onGrid t len → exec (.rxRunRequest t len) s = .next (((s.setTile t
    { s.tile t with run := some { first := s.now + 2048, len := len }, used := true, parked := false }).tryLeaveOff
    t).startRx t)) ∧
  (∀ (s : State) (t : Fin 16), s.awake → s.txh t = 1 → exec (.txHalfOn t) s = .next (s.setF F.RFC_TILE_STATE_TXH 2 t)) ∧
  (∀ (s : State) (t : Fin 16), s.awake → s.txh t = 3 → (s.setF F.RFC_TILE_STATE_TXH 0 t).on F.RFC_TILE_CTRL_EN t → exec
    (.txHalfOff t) s = .next ((s.setF F.RFC_TILE_STATE_TXH 0 t).tileSettle t)) ∧
  (∀ (s : State) (t : Fin 16), s.awake → s.txh t = 3 → (s.setF F.RFC_TILE_STATE_TXH 0 t).on F.RFC_TILE_CTRL_EN t = false →
    exec (.txHalfOff t) s = .next ((s.setF F.RFC_TILE_STATE_TXH 0 t).tryGoOff t)) ∧
  (∀ (s : State) (t : Fin 16), s.awake → s.rxh t = 1 → s.tdd t = false ∨ (s.tile t).ended.all (fun e => decide (e + 689 ≤
    s.now)) = true → exec (.rxHalfOn t) s = .next (s.setF F.RFC_TILE_STATE_RXH 2 t)) ∧
  (∀ (s : State) (t : Fin 16) (level : Bool), s.awake → s.gpioDue t .tr = level → (s.tile t).tr.on = !level → exec
    (.gpioEdge t .tr level) s = .next (s.setTile t { s.tile t with tr := { on := level, edge := s.elapsed } })) ∧
  (∀ (s : State) (t : Fin 16) (level : Bool), s.awake → s.gpioDue t .pa = level → (s.tile t).pa.on = !level → exec
    (.gpioEdge t .pa level) s = .next (s.setTile t { s.tile t with pa := { on := level, edge := s.elapsed } })) ∧
  (∀ (s : State) (t : Fin 16) (level : Bool), s.awake → s.gpioDue t .lna = level → (s.tile t).lna.on = !level → exec
    (.gpioEdge t .lna level) s = .next (s.setTile t { s.tile t with lna := { on := level, edge := s.elapsed } }))

/-- Where its conditions hold, each command of calibrations, of the duty limit and of the fuses answers the state its rules
  give: a calibration request (R59), the start of a foreground run and its end (R59, R63), a background pass and a
  background step (R62), the gating of a tile at its duty limit and the end of a slice (R71), and the programming of a
  regulatory fuse (R74). -/
def Obligations.CalibrationDutyAndFuseCommands : Prop :=
  (∀ (s : State) (t : Fin 16) (w : Word), s.reach (regAddr .RFC_TILE_CAL t) → s.on F.RFC_TILE_CAL_FG_BUSY t = false → exec
    (.calRequest t w) s = .next (s.writeReg .RFC_TILE_CAL w.toNat t)) ∧
  (∀ (s : State) (t : Fin 16), s.awake → s.f F.RFC_TILE_CAL_REQ t ≠ 0 → s.tileState t = 1 → s.on F.RFC_TILE_CTRL_EN t →
    (s.tile t).going = .none → s.txh t = 0 → s.rxh t = 0 → (s.tile t).bg.running = false → s.on F.RFC_TILE_CAL_FG_BUSY t =
    false → exec (.calStart t) s = .next (((((s.setF F.RFC_TILE_STATE_TILE 2 t).setF F.RFC_TILE_CAL_FG_BUSY 1 t).setF
    F.RFC_TILE_STATE_CAL_FG 1 t).setTile t { s.tile t with fgDone := 0, fgAgain := 0 }).calNext t 8)) ∧
  (∀ (s : State) (t : Fin 16), s.awake → s.tileState t = 2 → s.f F.RFC_TILE_STATE_CAL_RUN t ≠ 0 → s.calRan t (fgMicros (s.f
    F.RFC_TILE_STATE_CAL_RUN t)) → exec (.calEnd t .pass) s = .next ((s.calDone t (s.f F.RFC_TILE_STATE_CAL_RUN t)).calNext
    t 8)) ∧
  (∀ (s : State) (t : Fin 16), s.awake → s.tileState t = 2 → s.f F.RFC_TILE_STATE_CAL_RUN t ≠ 0 → s.calRan t (fgMicros (s.f
    F.RFC_TILE_STATE_CAL_RUN t)) → exec (.calEnd t .outside) s = .next ((((s.setB F.RFC_TILE_CAL_FAIL (s.f
    F.RFC_TILE_STATE_CAL_RUN t - 1) t).ledger 0x06 t (s.f F.RFC_TILE_STATE_CAL_RUN t)).calDone t (s.f
    F.RFC_TILE_STATE_CAL_RUN t)).calNext t 8)) ∧
  (∀ (s : State) (t : Fin 16), s.awake → (s.tile t).bg.timer → s.f F.RFC_TILE_CAL_BG_PERIOD t = 0 → (s.tile t).bg.todo = 0
    → s.tileState t ≠ 0 → exec (.bgPassTimer t) s = .next ((s.setTile t
    { s.tile t with bg := { (s.tile t).bg with todo := s.f F.RFC_TILE_CTRL_BG_EN t, step := 0 } }).bgTry t)) ∧
  (∀ (s : State) (t : Fin 16) (r : CalResult), s.awake → (s.tile t).bg.running → s.calRan t 2 → (s.tile t).bg.step + 1 ≠
    bgSteps (lowKind (s.tile t).bg.todo) → (s.tile t).bg.todo ≠ 0 → exec (.bgCalStep t r) s = .next (((s.setTile t
    { s.tile t with bg := { (s.tile t).bg with running := false, step := (s.tile t).bg.step + 1 } }).setF
    F.RFC_TILE_STATE_CAL_RUN 0 t).tileSettle t)) ∧
  (∀ (s : State) (t : Fin 16), s.awake → s.dutyLimit ≤ dutySum (s.tile t).slices → s.on F.RFC_TILE_STATE_DUTY_GATE t =
    false → exec (.dutyLimit t) s = .next (((((s.setF F.RFC_TILE_STATE_DUTY_GATE 1 t).setTile t
    { s.tile t with gateEnded := false }).zsHoldTile 5 t).bump F.RFC_TILE_COUNT_DUTY_GATED t).ledger 0x07 t)) ∧
  (∀ (s : State) (t : Fin 16), s.awake → s.now % msTicks = 0 → exec (.dutySliceEnd t) s = .next ((s.setTile t
    { s.tile t with slices := 0 :: (s.tile t).slices.take 9, gateEnded := true }).setF F.RFC_TILE_DUTY_TX_TICKS (dutySum (0
    :: (s.tile t).slices.take 9)) t)) ∧
  (∀ (s : State) (w : Word), s.reach (regAddr .FUSE_REG_PROG) → s.on F.SYS_SEAL_SEAL = false → s.on F.FUSE_REG_DUTY_CLOSED
    = false → bits (w.toNat ||| 2 ^ 31) 0 10 ≤ 752 → s.on F.FUSE_REG_PROG_BUSY = false → Nexts (exec (.fuseProgram w) s)
    (fun u => u.f F.FUSE_REG_PROG_BUSY = 1 ∧ u.f F.FUSE_REG_PROG_ERR = 0 ∧ u.radio.fuseBit = bits (w.toNat ||| 2 ^ 31) 0
    10))

/-- Where its conditions hold, each command on a receive path answers the state its rules give: an enable (R84), a coefficient
  write (R85), an attack and the end of its hold (R91), a modulator overload (R76), a fine-power window (R89) and the
  path's boundary (R86, R96, R97). -/
def Obligations.ReceivePathCommandsComplete : Prop :=
  (∀ (s u : State) (n : Fin 64) (w : Word), s.reach (regAddr .RXP_CTRL n) → s.applyFields (descOf .RXP_CTRL).flds (fun lo
    => lo == 31) n 0 0 (w.toNat ||| 2 ^ 31) (fun c => s.ownerOf .RXP_CTRL n 0 c) (fun c => s.enabled (s.ownerOf .RXP_CTRL n
    0 c)) = (u, false) → u.rxMayEnable n → s.on F.RXP_CTRL_EN n = false → exec (.rxPathEnable n w) s = .next (u.rxStart n)) ∧
  (∀ (s : State) (n : Fin 64) (b : Fin 2) (i : Fin 96) (w : Word), s.reach (regAddr .RXP_CFIR_COEF n b i) → ¬(s.rxOn n &&
    b.val == s.f F.RXP_CFIR_CTRL_ACTIVE n) → exec (.cfirCoefWrite false n b i w) s = .next (s.writeReg .RXP_CFIR_COEF
    w.toNat n b i)) ∧
  (∀ (s : State) (n : Fin 64) (b : Fin 2) (i : Fin 96) (w : Word), s.reach (regAddr .TXP_CFIR_COEF n b i) → ¬(s.txOn n &&
    b.val == s.f F.TXP_CFIR_CTRL_ACTIVE n) → exec (.cfirCoefWrite true n b i w) s = .next (s.writeReg .TXP_CFIR_COEF
    w.toNat n b i)) ∧
  (∀ (s u : State) (n : Fin 64), s.awake → s.agcLive n → (s.rxp n).free → s.on F.RXP_PWR_COARSE_VALID n → (s.rxp n).tickMax
    < s.f F.RXP_AGC_STATUS_T_HIGH n → u = s.setAtt n (min 30 (s.f F.RFC_RX_ATT_IN_EFFECT (n / 4) (n % 4) + s.f
    F.RXP_AGC_CFG_ATTACK_STEP n)) → exec (.agcAttack n) s = .next (((u.bump F.RXP_AGC_COUNT_ATTACKS n).setF
    F.RXP_AGC_STATUS_LAST_SYM (s.symNo (s.f F.RFC_TILE_CTRL_TL (n / 4)) s.now) n).setRxp n
    { u.rxp n with hold := if 4 * s.f F.RXP_AGC_CFG_HOLD n = 0 then none else some (4 * s.f F.RXP_AGC_CFG_HOLD n), curAtk := true, atk := some (s.elapsed, s.f F.RFC_RX_ATT_IN_EFFECT (n / 4) (n % 4), (u.rxp n).curAtk) })) ∧
  (∀ (s : State) (n : Fin 64), s.awake → (s.rxp n).hold = some 0 → s.rxHalfIsOn n → exec (.agcHoldEnd n) s = .next
    (s.setRxp n { s.rxp n with hold := none })) ∧
  (∀ (s u : State) (n : Fin 64), s.awake → s.rxHalfIsOn n → (s.rxp n).ovlQ → u = (((s.setF F.RXP_SAT_ADC_OVL 1 n).bump
    F.RXP_SAT_COUNT_ADC_OVL_COUNT n).setRxp n
    { s.rxp n with zeroQ := s.elapsed + 4, ovlQ := false, runQ := 0 }).mirOverload n → exec (.adcOverload n true) s = .next
    (if u.agcLive n && (s.rxp n).free then u.agcRaise n else u)) ∧
  (∀ (s u : State) (n : Fin 64), s.awake → s.rxHalfIsOn n → (s.rxp n).ovlI → u = (((s.setF F.RXP_SAT_ADC_OVL 1 n).bump
    F.RXP_SAT_COUNT_ADC_OVL_COUNT n).setRxp n
    { s.rxp n with zeroI := s.elapsed + 4, ovlI := false, runI := 0 }).mirOverload n → exec (.adcOverload n false) s =
    .next (if u.agcLive n && (s.rxp n).free then u.agcRaise n else u)) ∧
  (∀ (s : State) (n : Fin 64) (code : Nat), s.awake → (s.rxp n).fineDone = some code → s.rxHalfIsOn n → s.rxOn n → exec
    (.finePowerWindow n) s = .next (((s.setF F.RXP_PWR_FINE_CODE code n).setF F.RXP_PWR_FINE_VALID 1 n).setRxp n
    { s.rxp n with fineDone := none })) ∧
  (∀ (s u : State) (n : Fin 64), s.awake → s.rxOn n → s.tlOn (s.f F.RFC_TILE_CTRL_TL (n / 4)) → 1 ≤ s.now → s.isAir (s.f
    F.RFC_TILE_CTRL_TL (n / 4)) (s.now - 1) → s.landing (.rxp n) (regAddr .RXP_SKEW n) 4 = false → u = (s.commitShadow
    (.rxp n) 4).setF F.RXP_CFIR_CTRL_ACTIVE ((s.commitShadow (.rxp n) 4).f F.RXP_CFIR_CTRL_BANK n) n → (u.rxp n).satSym =
    false → exec (.rxPathBoundary n) s = .next ((u.setRxp n
    { u.rxp n with satSym := false, tag := { tl := s.f F.RFC_TILE_CTRL_TL (n / 4), frame := s.frameNo (s.f F.RFC_TILE_CTRL_TL (n / 4)) (s.now - 1), symbol := s.symNo (s.f F.RFC_TILE_CTRL_TL (n / 4)) (s.now - 1) }, sets := (s.now - 1, s.rxSet n) :: dropOld (u.rxp n).sets s.now }).agcAdapt
    n (s.landing (.rxp n) (regAddr .RXP_AGC_THR n) 4)))

/-- Where its conditions hold, each command on a transmit path answers the state its rules give: an enable (R104), a disable,
  which holds the path at zero scale (R120), a noise-shaper overload and its end (R116, R121), and the tag a stage takes
  (R34). -/
def Obligations.TransmitPathCommandsComplete : Prop :=
  (∀ (s u : State) (n : Fin 64) (w : Word), s.reach (regAddr .TXP_CTRL n) → s.applyFields (descOf .TXP_CTRL).flds (fun lo
    => lo == 31) n 0 0 (w.toNat ||| 2 ^ 31) (fun c => s.ownerOf .TXP_CTRL n 0 c) (fun c => s.enabled (s.ownerOf .TXP_CTRL n
    0 c)) = (u, false) → u.txMayEnable n → s.on F.TXP_CTRL_EN n = false → exec (.txPathEnable n w) s = .next (u.txStart n)) ∧
  (∀ (s u : State) (n : Fin 64) (w : Word), s.reach (regAddr .TXP_CTRL n) → s.applyFields (descOf .TXP_CTRL).flds (fun lo
    => lo == 31) n 0 0 (w.toNat % 2 ^ 31) (fun c => s.ownerOf .TXP_CTRL n 0 c) (fun c => s.enabled (s.ownerOf .TXP_CTRL n 0
    c)) = (u, false) → exec (.txPathDisable n w) s = .next ((((u.setF F.TXP_CTRL_EN 0 n).flushShadow (.txp n)).zsHold 0
    n).setF F.TXP_CFIR_CTRL_ACTIVE ((((u.setF F.TXP_CTRL_EN 0 n).flushShadow (.txp n)).zsHold 0 n).f F.TXP_CFIR_CTRL_BANK
    n) n)) ∧
  (∀ (s : State) (n : Fin 64), s.awake → s.on F.TXP_ZS_STATUS_ZERO n = false → (s.txp n).nsFound → ∃ u : State, exec
    (.nsOverload n) s = .next (u.ledger 0x0A n) ∧ (u.txp n).ovlEnd = s.elapsed + 4 ∧ (u.txp n).dpd.ovl = true) ∧
  (∀ (s : State) (n : Fin 64), s.awake → bit (s.f F.TXP_ZS_STATUS_CAUSE n) 6 → (s.txp n).ovlEnd ≤ s.elapsed → exec
    (.nsOverloadEnd n) s = .next (s.zsEnd 6 n)) ∧
  (∀ (s : State) (n : Fin 64) (g : Fin 10), s.awake → exec (.taggedSampleStage n g) s = .next (s.setTxp n
    { s.txp n with stageTags := SMap.set {} (s.txp n).stageTags g (s.txSetAt n g).tag })) ∧
  (∀ (s u : State) (t : Fin 16), s.awake → s.tlOn (s.tileTl t) → s.isAir (s.tileTl t) s.now → u = (((((tilePaths t).foldl
    State.zsEndDue s).commitShadow (.tile t) 4).dutyRelease t).burstEnd t).runEnd t → exec (.tileBoundary t) s = .next
    ((((tilePaths t).foldl (fun s n => s.agcAir n) (((u.burstSymbol t).autoReturn t).gateSymbol t)).startHalves t).bgTry
    t))

/-- Where its conditions hold, each command on the Prism answers the state its rules give: an enable of the block (R147), an
  admitted layer (R149), the boundaries of a transmit and a receive layer (R134), a preload and its cut-off (R138), an
  accepted range (R136), and the writing, arming and landing of a correction (R143 to R145). -/
def Obligations.PrismCommandsComplete : Prop :=
  (∀ (s : State) (f : Fin 512) (e : Nat), s.awake → (s.layer f).load = some e → (s.readEntry e).valid (s.layDir f) → exec
    (.preloadComplete f none) s = .next (s.setLayer f { s.layer f with load := none, shd := some (s.readEntry e) })) ∧
  (∀ (s u : State) (f : Fin 512) (w : Word), s.reach (regAddr .PRISM_LAYER_CFG f) → s.on F.PRISM_LAYER_CFG_LEN f = false →
    s.applyFields (descOf .PRISM_LAYER_CFG).flds (fun lo => lo == 31) f 0 0 (w.toNat ||| 2 ^ 31) (fun c => s.ownerOf
    .PRISM_LAYER_CFG f 0 c) (fun c => s.enabled (s.ownerOf .PRISM_LAYER_CFG f 0 c)) = (u, false) → u.prismFits (u.layDir f)
    (u.layCar f) f → exec (.layerEnableWrite f w) s = .next ((u.writeLen f 1).preloadBegin f ((u.writeLen f 1).nextCut f
    (u.writeLen f 1).now))) ∧
  (∀ (s : State) (w : Word), s.reach (regAddr .PRISM_CORR_COMMIT) → s.absent 16 = false → s.on F.PRISM_CORR_COMMIT_ARMED =
    false → s.on F.PRISM_CFG_EN → exec (.corrCommitArm w) s = .next
    ({ s.setF F.PRISM_CORR_COMMIT_ARMED 1 with prism := { s.prism with armedAt := s.elapsed } })) ∧
  (∀ (s : State) (w : Word), s.reach (regAddr .PRISM_CORR_COMMIT) → s.absent 16 = false → s.on F.PRISM_CORR_COMMIT_ARMED =
    false → s.on F.PRISM_CFG_EN = false → exec (.corrCommitArm w) s = .next (s.copyCorr)) ∧
  (∀ (s : State), s.awake → s.on F.PRISM_CORR_COMMIT_ARMED → s.prismOn → s.tlOn (s.f F.PRISM_CFG_TL) → s.isFrame (s.f
    F.PRISM_CFG_TL) (s.now + s.refAdvance) → s.prism.armedAt + 2 + cutoffTicks ≤ s.elapsed → exec (.corrCommitLand) s =
    .next (((s.keepCorr (s.now + s.refAdvance)).copyCorr).mirLanded)) ∧
  (∀ (s : State) (d : Fin 2) (a : Fin 64) (w : Word), s.reach (regAddr .PRISM_CORR_PEND d a) → s.on
    F.PRISM_CORR_COMMIT_ARMED = false → exec (.corrPendWrite d a w) s = .next (s.writeReg .PRISM_CORR_PEND w.toNat d a)) ∧
  (∀ (s u : State) (f : Fin 512), s.awake → s.carRuns f → s.layDir f = 1 → s.isAir (s.layTl f) (s.layAir f s.now) → u =
    (s.commitShadow (.car 1 (s.layCar f)) 2).landLen f 2 → u.on F.PRISM_LAYER_CFG_LEN f → (u.layer f).shd ≠ none → exec
    (.prismRxBoundary f) s = .next ((u.swapBanks f (!u.marked 1 (s.layCar f) (s.layAir f s.now))).preloadBegin f (s.symIdx
    (s.layTl f) (s.layAir f s.now) + 1))) ∧
  (∀ (s u : State) (f : Fin 512), s.awake → s.carRuns f → s.layDir f = 0 → s.isAir (s.layTl f) (s.layAir f s.now) → u =
    (s.commitShadow (.car 0 (s.layCar f)) 2).landLen f 2 → u.on F.PRISM_LAYER_CFG_LEN f → u.marked 0 (s.layCar f) (s.layAir
    f s.now) = false → ∃ v : State, exec (.prismTxBoundary f) s = .next (v.preloadBegin f (s.symIdx (s.layTl f) (s.layAir f
    s.now) + 1)) ∧ v.prism = (u.swapBanks f true).prism) ∧
  (∀ (s : State) (f : Fin 512), s.awake → s.carRuns f → s.layDir f = 1 → s.isAir (s.layTl f) (s.layAir f (s.now +
    cutoffTicks)) → exec (.preloadCutoff f) s = .next (s.setLayer f
    { s.layer f with frozen := (s.layer f).frozen || s.on F.PRISM_LAYER_CFG_LEN f || (s.lastB F.PRISM_LAYER_CFG_LEN f 0 0 != 0 || ((s.flow f).start.any (· == s.layAir f (s.now + cutoffTicks)) && s.fState f == 2)), queue := (s.layer f).queue.filter (fun r => decide (s.symIdx (s.layTl f) (s.layAir f (s.now + cutoffTicks)) + 1 < r.first + r.count)) })) ∧
  (∀ (s : State) (f : Fin 512) (frame : Fin 1024) (sym : Fin 2048) (count : Fin 2048) (entry : Option (Fin 8192)), s.awake
    → s.fState f ≠ 3 → s.fState f ≠ 4 → s.absent 16 = false → s.nextCut f s.now < s.frameIdx (s.layTl f) frame s.now *
    symPerFrame (s.mu (s.layTl f)) + sym.val → (s.layer f).queue.length < 8 → exec (.controlRangeAccept f frame sym count
    entry) s = .next (s.setLayer f
    { s.layer f with queue := (s.layer f).queue ++ [⟨s.frameIdx (s.layTl f) frame s.now * symPerFrame (s.mu (s.layTl f)) + sym.val, count, entry.map (·.val)⟩] })) ∧
  (∀ (s u : State) (w : Word), s.reach (regAddr .PRISM_CFG) → bit w.toNat 31 → s.applyFields (descOf .PRISM_CFG).flds (fun
    lo => lo == 31) 0 0 0 w.toNat (fun c => s.ownerOf .PRISM_CFG 0 0 c) (fun c => s.enabled (s.ownerOf .PRISM_CFG 0 0 c)) =
    (u, false) → s.on F.PRISM_CFG_EN = false → u.allRun u.prismFollows → u.on F.PRISM_CFG_DUPLEX || u.turnaroundOk → exec
    (.prismEnableWrite w) s = .next (u.setF F.PRISM_CFG_EN 1))

/-- Where its conditions hold, each predistortion command answers the state its rules give: a go, its staging copy and its
  install (R170, R171), the trial's verdict and its lapse (R171 to R174), an unfreeze (R174), a bypass and the request to
  end it (R175), a write of DPD memory (R155, R157) and a TX path boundary (R32, R35, R176). -/
def Obligations.DpdCommandsComplete : Prop :=
  (∀ (s u : State) (n : Fin 64) (w : Word), s.reach (regAddr .TXP_DPD_UPDATE n) → s.on F.TXP_DPD_UPDATE_PENDING n = false →
    s.on F.TXP_DPD_UPDATE_TRIAL n = false → bit (s.f F.TXP_DPD_STALE_FROZEN n) (bits (w.toNat ||| 2 ^ 31) 16 4) = false →
    bit (s.rd32 (candAddr n)) 31 → u = s.writeReg .TXP_DPD_UPDATE (w.toNat ||| 2 ^ 31) n → exec (.dpdGo n w) s = .next
    ((u.setF F.TXP_DPD_UPDATE_PENDING 1 n).setDpd n
    { u.dpdOf n with staged := some { bytes := s.readBytes (candAddr n) 0x200, set_ := bits (w.toNat ||| 2 ^ 31) 16 4 } })) ∧
  (∀ (s : State) (n : Fin 64) (g : Staged), s.awake → (s.dpdOf n).staged = some g → g.done = false → exec (.dpdStagingDone
    n) s = .next (s.setDpd n { s.dpdOf n with staged := some { g with done := true, at_ := s.elapsed } })) ∧
  (∀ (s : State) (n : Fin 64) (g : Staged), s.awake → (s.dpdOf n).staged = some g → g.done → g.at_ + 4 ≤ s.elapsed →
    s.boundaryMade n → (s.dpdOf n).applied = false → exec (.dpdInstall n none) s = .next ((((((s.copyBytes (setAddr n
    g.set_) (prevAddr n) 0x200).storeCoefs (setAddr n g.set_) (List.zipWith (fun o c => (installOne (s.f
    F.TXP_DPD_CTRL_STEP n) o.1 c.1, installOne (s.f F.TXP_DPD_CTRL_STEP n) o.2 c.2)) (s.loadCoefs (setAddr n g.set_))
    (coefsOf g.bytes))).writeLE (setAddr n g.set_) 2 (entryLE g.bytes 0 2)).wr32 (setAddr n g.set_ + 4) (s.now % 2 ^
    32)).setF F.TXP_DPD_UPDATE_PENDING 0 n |>.setF F.TXP_DPD_UPDATE_TRIAL 1 n).setDpd n
    { s.dpdOf n with staged := none, trialSet := g.set_, installAt := s.now })) ∧
  (∀ (s : State) (n : Fin 64), s.awake → s.boundaryDue n → s.isTrial n → exec (.dpdTrialVerdict n) s = .next (if
    s.trialFails n then (s.setDpd n { s.dpdOf n with judged := true }).dpdRollback n else (((s.setDpd n
    { s.dpdOf n with judged := true }).setF F.TXP_DPD_UPDATE_TRIAL 0 n).setF F.TXP_DPD_UPDATE_LAST 1 n).setRolls n (s.dpdOf
    n).trialSet 0)) ∧
  (∀ (s : State) (n : Fin 64), s.awake → s.on F.TXP_DPD_UPDATE_TRIAL n → frameCeil (s.off (s.f F.RFC_TILE_CTRL_TL (n / 4)))
    ((s.dpdOf n).installAt + 1) + frameTicks ≤ s.now → s.isTrial n = false → exec (.dpdTrialLapse n) s = .next ((((s.setF
    F.TXP_DPD_UPDATE_TRIAL 0 n).setF F.TXP_DPD_UPDATE_LAST 3 n).bump F.DPD_COUNT_LAPSED).setRolls n (s.dpdOf n).trialSet
    0)) ∧
  (∀ (s : State) (n : Fin 64) (w : Word) (e : Fin 16), s.reach (regAddr .TXP_DPD_STALE n) → (∀ j < 16, bit w.toNat (16 + j)
    = decide (j = e.val)) → exec (.dpdUnfreeze n w) s = .next ((s.writeReg .TXP_DPD_STALE w.toNat n).setRolls n e 0)) ∧
  (∀ (s u : State) (n : Fin 64), s.awake → s.boundaryDue n → s.f F.DPD_MON_CFG_FAIL_LIMIT ≤ s.failsAfter n → s.on
    F.TXP_DPD_STATUS_BYPASSED n = false → s.on F.TXP_DPD_UPDATE_TRIAL n = false → u = ((s.setF F.TXP_DPD_STATUS_BYPASSED 1
    n).bump F.DPD_COUNT_UNSTABLE).ledger 0x13 n → exec (.dpdBypass n) s = .next (u.setDpd n
    { u.dpdOf n with fails := 0, unbypass := false, judged := (s.dpdOf n).judged || s.isTrial n })) ∧
  (∀ (s : State) (n : Fin 64) (w : Word), s.reach (regAddr .TXP_DPD_STATUS n) → s.on F.TXP_DPD_STATUS_BYPASSED n → exec
    (.dpdBypassEndRequest n w) s = .next (s.setDpd n { s.dpdOf n with unbypass := true })) ∧
  (∀ (s : State) (n : Fin 64) (x : Fin 64) (w : Word), s.reach (dpdBase + 0x90000 + n * 0x100 + 4 * x) → (∀ j < 4,
    s.dpdGuard (0x90000 + n * 0x100 + 4 * x + j) = false) → exec (.dpdDescriptorWrite n x w) s = .next ((wordBytes
    w.toNat).zipIdx.foldl (fun u e => u.writeByte (dpdBase + (0x90000 + n * 0x100 + 4 * x) + e.2) e.1) s)) ∧
  (∀ (s : State) (a : Fin 262144) (w : Word), s.reach (dpdBase + 4 * a) → (∀ j < 4, s.dpdGuard (4 * a + j) = false) → 4 *
    a.val < 0xE0000 → exec (.dpdSetWrite a w) s = .next ((wordBytes w.toNat).zipIdx.foldl (fun u e => u.writeByte (dpdBase
    + 4 * a + e.2) e.1) s)) ∧
  (∀ (s u v : State) (n : Fin 64) (bad : Option (Fin 128)), s.awake → s.atTxBoundary n → s.landing (.txp n) (regAddr
    .TXP_SKEW n) 4 = false → s.f F.ORX_STATUS_SEL (n / 8) ≠ n % 8 → u = (s.txSymbolEnd n).commitShadow (.txp n) 4 → v =
    u.setF F.TXP_CFIR_CTRL_ACTIVE (u.f F.TXP_CFIR_CTRL_BANK n) n → exec (.txPathBoundary n bad) s = .next (((v.setTxp n
    { v.txp n with tag := v.newTag n, tagged := true, tagAt := some s.elapsed, sets := (s.now + s.f F.TXP_ALIGN_TARGET n, s.txSet n) :: dropOld (v.txp n).sets s.now }).dpdBoundary
    n (v.newTag n).key (v.newTag n).probe (bad.map (·.val))).inputCheck n))

/-- Where its conditions hold, each command of an observation receiver answers the state its rules give: a capture's start, its
  discard and its end (R166 to R168), the result written and its buffer released (R169), a request (R177) and the end of a
  refresh period (R179). -/
def Obligations.ObservationCommandsComplete : Prop :=
  (∀ (s : State) (k : Fin 8) (n h : Nat), s.awake → s.on F.ORX_CTRL_EN k → (s.orxR k).cap = none → s.orxReserved k = false
    → s.orxPick k = some n → s.freeBuf k = some h → Nexts (exec (.orxCaptureStart k) s) (fun u => u.f F.ORX_STATUS_BUSY k =
    1 ∧ u.f F.ORX_STATUS_PATH k = n % 64 ∧ u.mem = s.mem ∧ ∃ c : Capture, (u.orxR k).cap = some c ∧ c.path = n ∧ c.set_ =
    s.targetSet n ∧ c.gen = s.setGen n (s.targetSet n) ∧ c.buf = 2 * k + h ∧ c.size = 4 * s.capTicks k ∧ c.start =
    s.elapsed + (s.txDelay n 5 + 63) / 64 + 16 * s.f F.ORX_CTRL_SKIP k ∧ 16 * c.yAt + c.rem = 64 * c.start + s.f
    F.ORX_DELAY_DELAY k)) ∧
  (∀ (s : State) (k : Fin 8), s.awake → s.on F.ORX_CTRL_EN k → (s.orxR k).cap = none → s.orxReserved k = false → s.orxPick
    k ≠ none → s.freeBuf k = none → exec (.orxCaptureStart k) s = .next (s.bump F.ORX_DISCARD_BUF_SKIP k)) ∧
  (∀ (s u : State) (k : Fin 8) (c : DiscardCause) (p : Capture), s.awake → (s.orxR k).cap = some p → s.discardDue p c → u =
    ((s.bump (discardFld c) k).setF F.ORX_STATUS_BUSY 0 k).setF F.ORX_STATUS_COPY_OK 0 k → exec (.orxCaptureDiscard k c) s
    = .next ((u.setOrx k { u.orxR k with cap := none }).driveSel k)) ∧
  (∀ (s u : State) (k : Fin 8) (p : Capture), s.awake → (s.orxR k).cap = some p → p.last ≤ s.elapsed → (s.orxR k).ended =
    none → (∀ c, s.discardDue p c = false) → u = (s.setF F.ORX_STATUS_BUSY 0 k).setF F.ORX_STATUS_COPY_OK (b2n
    p.copy.isSome) k → exec (.orxCaptureEnd k ()) s = .next ((u.setOrx k
    { u.orxR k with cap := none, ended := some (p, p.stats (s.basisList p.path) (s.tapSpacing p.path)) }).driveSel k)) ∧
  (∀ (s u v w : State) (k : Fin 8) (p : Capture) (st : CaptureStats), s.awake → (s.orxR k).ended = some (p, st) → u =
    ((s.writeWords (resultAddr p.buf) [2 ^ 31 + p.path * 2 ^ 24 + p.set_ * 2 ^ 16 + p.gen, p.time % 2 ^ 32, p.time / 2 ^ 32
    % 2 ^ 32, p.size, st.exp.toNat, st.nmse.toNat, st.gain.toNat, st.delay.toNat]).writeWords (resultAddr p.buf + 0x40)
    (pairWords (st.p.take 64))).writeWords (resultAddr p.buf + 0x240) (pairWords (st.r.take 2080)) → v = (u.setB
    F.ORX_BUF_HELD (p.buf % 2) k).clrB F.TXP_DPD_STALE_STALE p.set_ p.path → w = v.setPair p.path p.set_
    { v.pair p.path p.set_ with due := false, captured := true, last := s.elapsed } → exec (.orxResultWrite k) s = .next
    ((w.setOrx k { w.orxR k with ended := none }).pulse (320 + k))) ∧
  (∀ (s : State) (k : Fin 8) (w : Word), s.reach (regAddr .ORX_REQ k) → exec (.orxRequest k w) s = .next ((s.writeReg
    .ORX_REQ (w.toNat ||| 2 ^ 31) k).setF F.ORX_REQ_PEND 1 k)) ∧
  (∀ (s : State) (k : Fin 8) (w : Word), s.reach (regAddr .ORX_BUF k) → exec (.orxBufferRelease k w) s = .next (s.writeReg
    .ORX_BUF w.toNat k)) ∧
  (∀ (s : State), s.awake → s.now % (s.f F.DPD_CFG_REFRESH * msTicks) = 0 → exec (.dpdRefreshEnd) s = .next ((s.pairs.map
    (·.1)).foldl (fun u x => u.refreshPair (x / 16) (x % 16)) s))

/-- Where its conditions hold, each Mirror command answers the state its rules give: an enable and a start write (R181, R192),
  the start of a round (R192), a probe (R188, R193), the end of its capture window (R187, R190), its records (R190, R191),
  the end of the round (R193), a solve (R196, R198) and the arming of the commit (R197). -/
def Obligations.MirrorCommandsComplete : Prop :=
  (∀ (s u : State) (w : Word), s.reach (regAddr .MIR_CFG) → bit w.toNat 31 → s.on F.MIR_CFG_EN = false → s.applyFields
    (descOf .MIR_CFG).flds (fun lo => lo == 31) 0 0 0 w.toNat (fun c => s.ownerOf .MIR_CFG 0 0 c) (fun c => s.enabled
    (s.ownerOf .MIR_CFG 0 0 c)) = (u, false) → s.tlOn s.mirTl → s.mirClash = false → exec (.mirEnableWrite w) s = .next
    ({ (u.setF F.MIR_CFG_EN 1) with mir := { u.mir with lastFrame := some (tlPhase (s.off s.mirTl) s.now / frameTicks) } })) ∧
  (∀ (s u : State) (w : Word), s.reach (regAddr .MIR_ROUND) → u = s.writeReg .MIR_ROUND (w.toNat ||| 2 ^ 31) → exec
    (.mirStartWrite w) s = .next ({ u with mir := { u.mir with trigger := true } })) ∧
  (∀ (s u : State), s.awake → s.on F.MIR_CFG_EN → s.tlOn s.mirTl → s.isFrame s.mirTl s.now → s.prismOn → s.mir.trigger →
    s.on F.MIR_ROUND_BUSY = false → u = s.commitShadow .mir 4 → Nexts (exec (.mirRoundStart) s) (fun t => t.on
    F.MIR_ROUND_BUSY ∧ t.mir.trigger = false ∧ t.mir.startTime = s.now ∧ t.mir.done = [] ∧ t.mir.probe = none ∧
    t.mir.lastFrame = some (tlPhase (s.off s.mirTl) s.now / frameTicks) ∧ t.mem = u.mem)) ∧
  (∀ (s : State) (e : Nat), s.awake → s.mir.plan.find? (fun p => p.2 == s.now + 2048) = some (e, s.now + 2048) → s.mirRuns
    → s.mir.probe = none → s.eligible e → s.isAir s.mirTl (s.now + 2048) → s.guardSym s.mirTl (s.now + 2048) → (s.orxR (e /
    8)).cap = none → Nexts (exec (.mirProbe) s) (fun t => t.mir.probe = some
    { el := e, air := s.now + 2048, reps := s.mir.reps, rcv := s.receivers e } ∧ SMap.get 0 t.mir.tries e = SMap.get 0
    s.mir.tries e + 1)) ∧
  (∀ (s u : State) (p : Probe) (lost : List Nat), s.awake → s.mir.probe = some p → p.closed = false → p.air + p.reps * 1024
    ≤ s.now → p.zs = false → p.clips ≤ 16 → s.on F.ORX_CTRL_EN (p.el / 8) → lost = p.rcv.filter (fun j => p.lost.contains
    j) → u =
    { (s.bumpBy F.MIR_COUNT1_LOST lost.length) with mir := { s.mir with probe := some { p with closed := true, lost := lost, acc := [], vals := ((p.rcv ++ [64]).filter (fun j => !lost.contains j)).map (s.mirValue p) } } }
    → exec (.mirCaptureWindowEnd () ()) s = .next (u.driveSel (p.el / 8))) ∧
  (∀ (s u : State) (p : Probe), s.awake → s.mir.probe = some p → p.closed → p.lost.contains 64 = false → (!p.rcv.isEmpty &&
    p.rcv.all p.lost.contains) = false → u = p.vals.foldl (fun t v => t.mirRecord p v) s → exec (.mirRecordsWrite ()) s =
    .next ({ u with mir := { u.mir with probe := none, done := u.mir.done ++ [p.el] } })) ∧
  (∀ (s u : State), s.awake → s.mirRuns → s.tlOn s.mirTl → s.mir.probe = none → s.probeOrder 0 = [] → (List.range 64).all
    (fun e => !s.eligible e || s.mir.done.contains e) → u = (s.mirHeader false false).mirOver false → exec (.mirRoundEnd) s
    = .next (u.pulse 336)) ∧
  (∀ (s u : State) (w : Word), s.reach (regAddr .MIR_SOLVE) → s.mir.ended = some (bits (w.toNat ||| 2 ^ 31) 0 16) →
    s.mir.aborted = false → s.mir.spoiled = false → s.on F.MIR_SOLVE_PENDING = false → bit (w.toNat ||| 2 ^ 31) 30 →
    s.mir.endedBase = false → u = s.writeReg .MIR_SOLVE (w.toNat ||| 2 ^ 31) → exec (.mirSolveGo w) s = .next
    ({ (u.setF F.MIR_SOLVE_PENDING 1) with mir := { u.mir with waiting := true, result := s.mirResult (bits (w.toNat ||| 2 ^ 31) 0 16), sent := bits (w.toNat ||| 2 ^ 31) 0 16 } })) ∧
  (∀ (s u : State), s.awake → s.mir.waiting → s.on F.PRISM_CORR_COMMIT_ARMED = false → s.absent 16 = false → u = (s.putCorr
    s.mir.result).armCommit → u.on F.PRISM_CORR_COMMIT_ARMED → exec (.mirCommitArm) s = .next
    ({ u with mir := { u.mir with waiting := false, armed := true, result := [] } }))

/-- Where its conditions hold, each command on a flow answers the state its rules give: a request to admit, release or suspend
  (R203, R213), the end of a release (R203), the start symbol (R202, R211), the symbol of a move (R219, R220), a latency
  violation (R209) and a pattern word (R224). -/
def Obligations.FlowRequestsComplete : Prop :=
  (∀ (s u : State) (f : Fin 512) (w : Word), s.reach (regAddr .FLW_CTRL f) → u = s.writeReg .FLW_CTRL (2 ^ 30 + w.toNat % 2
    ^ 30) f → u.fState f = 0 ∨ u.fState f = 3 → exec (.admitRequest f w) s = .next (((u.setF F.FLW_STATUS_STATE 1 f).setF
    F.FLW_STATUS_CAUSE 0 f).epochTrigger)) ∧
  (∀ (s u v t : State) (f : Fin 512) (w : Word), s.reach (regAddr .FLW_CTRL f) → u = s.writeReg .FLW_CTRL (2 * 2 ^ 30 +
    w.toNat % 2 ^ 30) f → u.fState f = 2 ∨ u.fState f = 3 → v = (((u.cancelMove f).reqRec f 7).abandonAll f).layerStop f →
    t = ((v.setFlow f { v.flow f with running := false, start := none, owed := false }).setF F.FLW_STATUS_STATE 4 f).setF
    F.FLW_STATUS_CAUSE 0 f → exec (.releaseRequest f w) s = .next (t.planAgain.epochTrigger)) ∧
  (∀ (s u : State) (f : Fin 512) (w : Word), s.reach (regAddr .FLW_CTRL f) → u = s.writeReg .FLW_CTRL (3 * 2 ^ 30 + w.toNat
    % 2 ^ 30) f → u.fState f = 2 → exec (.suspendRequest f w) s = .next (((((((u.cancelMove f).reqRec f 5).dropResources
    f).setF F.FLW_STATUS_STATE 3 f).setF F.FLW_STATUS_CAUSE 3 f).planAgain.epochTrigger))) ∧
  (∀ (s u : State) (f : Fin 512), s.awake → s.fState f = 4 → (s.flow f).inflight = [] → u = (s.abandonRec f).dropResources
    f → exec (.flowReleaseDone f) s = .next (((u.setF F.FLW_STATUS_STATE 0 f).setF F.FLW_STATUS_CHARGE 0 f).setFlow f
    { u.flow f with started := none, delivered := none })) ∧
  (∀ (s : State) (f : Fin 512) (a : Nat), s.awake → (s.flow f).start = some a → s.fState f = 2 → (s.flow f).running = false
    → s.flowBoundary f a ≤ s.now → s.isIq f → exec (.flowStart f) s = .next (((s.setFlow f
    { s.flow f with running := true }).setF F.PRISM_LAYER_CFG_LEN 1 f).formUsed)) ∧
  (∀ (s : State) (f : Fin 512) (a : Nat) (p : Place) (m : Move), s.awake → (s.flow f).move = some m → m.at_ = some a → a ≤
    s.now → m.to_ = p → exec (.moveEffective f) s = .next ((((s.setPlace f p).setFlow f
    { s.flow f with move := none, oldExt := some (a, s.place f) }).setF F.FLW_STATUS_MOVE_PEND 0 f).bump F.FLW_COUNT_MOVES
    f)) ∧
  (∀ (s : State) (f : Fin 512) (d : Nat) (ds : List Nat), s.awake → (s.flow f).lates = d :: ds → exec (.flowLatency f) s =
    .next ((((s.setFlow f { s.flow f with lates := ds }).bump F.FLW_COUNT_LAT_VIOL f).ledger 0x19 f).pulse 346)) ∧
  (∀ (s : State) (b : Fin 2) (k : Fin 4) (x : Fin 70) (w : Word), s.reach (regAddr .PLC_PATTERN b k x) → s.plcOn = false ∨
    bits (s.f F.PLC_PAT_SEL_BANK) k 1 ≠ b → exec (.patternWrite b k x w) s = .next (s.writeReg .PLC_PATTERN w.toNat b k x))

/-- Where its conditions hold, each command of the placement engine answers the state its rules give: a go, which begins a walk
  or asks for one more (R213), the decisions of an event epoch and of a frame epoch (R210, R214 to R217), and the end of
  the walk (R211, R213, R219, R224, R227). -/
def Obligations.PlacementCommandsComplete : Prop :=
  (∀ (s : State) (w : Word), s.reach (regAddr .PLC_EPOCH) → s.plcOn → s.on F.PLC_EPOCH_BUSY = false → exec (.epochGo w) s =
    .next ({ (s.setF F.PLC_EPOCH_BUSY 1) with plc := { s.plc with walk := .begun false } })) ∧
  (∀ (s : State) (w : Word), s.reach (regAddr .PLC_EPOCH) → s.plcOn → s.on F.PLC_EPOCH_BUSY → exec (.epochGo w) s = .next
    (s.setF F.PLC_EPOCH_RERUN 1)) ∧
  (∀ (s u v : State), s.awake → s.plc.walk = .begun false → u = State.shedAll true 513 ((s.byClass (s.flowsIn 2)).foldl
    (State.checkOne true) s) → v = (List.range 8).foldl (State.shortfall true) ((u.flowsIn 1).foldl (State.admitOne true)
    u) → exec (.eventEpoch) s = .next ({ v with plc := { v.plc with walk := .decided false } })) ∧
  (∀ (s t u v r m : State), s.awake → s.plc.walk = .idle → s.plcOn → s.tlOn (s.f F.PLC_CFG_TL) → s.isFrame (s.f
    F.PLC_CFG_TL) s.now → t = (s.commitShadow .plc 4).setF F.PLC_EPOCH_BUSY 1 → (s.commitShadow .plc 4).on F.PLC_EPOCH_BUSY
    = false → u = State.shedAll false 513 ((t.byClass (t.flowsIn 2)).foldl (State.checkOne false) t) → v = (u.flowsIn
    1).foldl (State.admitOne false) u → r = ((v.byClass (v.flowsIn 3)).filter (fun f => v.f F.FLW_STATUS_CAUSE f !=
    3)).foldl State.resumeOne v → m = State.rebalance (r.f F.PLC_CFG_MAX_MOVES) r → ∃ x : State, exec (.frameEpoch) s =
    .next { x with plc := { x.plc with walk := .decided true } } ∧ x = (List.range 8).foldl (State.shortfall false)
    { m with plc := { m.plc with wanted := 0, replan := true } }) ∧
  (∀ (s t u v : State) (fr : Bool), s.awake → s.plc.walk = .decided fr → t = (s.flowsIn 2).foldl State.setStart ((s.flowsIn
    2).foldl State.setEffective s) → u = t.plc.recs.foldl State.writeRecNow t → v = (State.showLoads
    { u with plc := { u.plc with recs := [], walk := .idle } }).replan fr → v.on F.PLC_EPOCH_RERUN = false → exec
    (.epochWalkEnd) s = .next (((v.setF F.PLC_EPOCH_COUNT ((v.f F.PLC_EPOCH_COUNT + 1) % 65536)).setF F.PLC_EPOCH_BUSY
    0).pulse 344))

/-- A packet that passes checks 1 to 4 of R262 on a ready lane and, where it names a flow, the checks that follow has its
  message's effect: transmit IQ goes to the flow's buffer (R244), control ranges are taken (R248, R249), a beam write
  stores its bytes (R250), a management request goes to the ring (R252), a TIME_SYNC is kept (R260), a Request and a Remote
  Request are answered and asked (R259), a Response ends the exchange (R260); an unsupported packet is counted (R262). -/
def Obligations.LinkReceptionCompletes : Prop :=
  (∀ (s u : State) (l : Fin 16) (age : Nat) (ws : List Word) (f : Nat), s.awake → inKind ws = .iq → s.passes l ws → u =
    s.seqSeen (l / 4) .iq ws → u.linkFlow (l / 4) 0 (pktId .iq ws) = some f → u.carries f (u.airOf (u.fTl f) (u.namedSym f
    (bits (ew ws 1) 22 10) (bits (ew ws 1) 11 11))) → u.wrongPort f (l / 4) (u.airOf (u.fTl f) (u.namedSym f (bits (ew ws
    1) 22 10) (bits (ew ws 1) 11 11))) = false → u.winOpen f (u.namedSym f (bits (ew ws 1) 22 10) (bits (ew ws 1) 11 11)) *
    65536 ≤ u.firstByte (l / 4) age * 4 → u.now ≤ u.winClose f (u.namedSym f (bits (ew ws 1) 22 10) (bits (ew ws 1) 11 11))
    → u.bpHeld 1 f = false → exec (.iqDataReceive l age ws) s = .next (u.iqWrite f (u.namedSym f (bits (ew ws 1) 22 10)
    (bits (ew ws 1) 11 11)) (bits (ew ws 2) 16 16 / 1024) (expand (mantBits (bits (ew ws 1) 8 3)) (bits (ew ws 2) 0 16)
    ((ws.drop 6).dropLast.map (·.toNat))))) ∧
  (∀ (s u : State) (l : Fin 16) (age : Nat) (ws : List Word) (f : Nat), s.awake → inKind ws = .rtc → s.passes l ws → u =
    s.seqSeen (l / 4) .rtc ws → u.linkFlow (l / 4) 2 (pktId .rtc ws) = some f → u.carries f (u.airOf (u.fTl f) (u.namedSym
    f (bits (ew ws 2) 22 10) (bits (ew ws 2) 11 11))) → u.wrongPort f (l / 4) (u.airOf (u.fTl f) (u.namedSym f (bits (ew ws
    2) 22 10) (bits (ew ws 2) 11 11))) = false → exec (.realTimeControlReceive l age ws) s = .next (((List.range (bits (ew
    ws 1) 24 8)).map (fun j => (ew ws (2 + 2 * j), ew ws (3 + 2 * j)))).foldl (State.section_ (l / 4)) (u.messageIn f))) ∧
  (∀ (s u : State) (l : Fin 16) (age : Nat) (ws : List Word) (f : Nat), s.awake → inKind ws = .beamWrite → s.passes l ws →
    u = s.seqSeen (l / 4) .beamWrite ws → u.linkFlow (l / 4) 2 (pktId .beamWrite ws) = some f → u.carries f u.now →
    u.wrongPort f (l / 4) u.now = false → (ws.drop 4).dropLast.flatMap netBytes ≠ [] → u.permitted (.link (Fin.ofNat 4 (l /
    4))) .write (nw ws 0) ((ws.drop 4).dropLast.flatMap netBytes).length → u.absent 16 = false → exec (.beamWriteReceive l
    age ws) s = .next ((u.messageIn f).writeBytes (nw ws 0) ((ws.drop 4).dropLast.flatMap netBytes))) ∧
  (∀ (s u v : State) (l : Fin 16) (age : Nat) (ws : List Word) (f h : Nat), s.awake → inKind ws = .mgmtReq → s.passes l ws
    → u = s.seqSeen (l / 4) .mgmtReq ws → u.linkFlow (l / 4) 3 (pktId .mgmtReq ws) = some f → u.carries f u.now →
    u.wrongPort f (l / 4) u.now = false → h = u.f F.LNK_MGMT_RING_HEAD (l / 4) → (h + 1) % 16 ≠ u.f F.LNK_MGMT_RING_TAIL (l
    / 4) → v = (u.messageIn f).writeWords (0x20000000 + u.f F.LNK_MGMT_RING_BASE (l / 4) / 16384 * 16384 + h * 512)
    ((ws.drop 3).dropLast.map (·.toNat)) → exec (.mgmtReqReceive l age ws) s = .next (((v.setPort (l / 4)
    { v.port (l / 4) with reqFlow := SMap.set 0 (v.port (l / 4)).reqFlow h (f + 1) }).setF F.LNK_MGMT_RING_HEAD ((h + 1) %
    16) (l / 4)).ringLine (l / 4))) ∧
  (∀ (s u : State) (l : Fin 16) (age : Nat) (ws : List Word), s.awake → inKind ws = .timeSync → s.passes l ws → u =
    s.seqSeen (l / 4) .timeSync ws → u.f F.LNK_CFG_TIME_ROLE (l / 4) = 2 → l.val % 4 = u.lowLane (l / 4) → exec
    (.timeSyncReceive l age ws) s = .next ((u.setPort (l / 4)
    { u.port (l / 4) with sync := some (Int.ofNat ((nw ws 0 * 2 ^ 32 + nw ws 1) * 65536 + nw ws 2 / 65536), Int.ofNat (u.rxTime age)) }).askDelay
    (l / 4))) ∧
  (∀ (s u : State) (l : Fin 16) (age : Nat) (ws : List Word), s.awake → inKind ws = .delayReq → s.passes l ws → u =
    s.seqSeen (l / 4) .delayReq ws → exec (.delayRequestReceive l age ws) s = .next (u.enqueue (l / 4)
    { kind := .delayRsp (bits (ew ws 0) 24 8) (u.rxTime age) })) ∧
  (∀ (s u : State) (l : Fin 16) (age : Nat) (ws : List Word), s.awake → inKind ws = .remoteReq → s.passes l ws → u =
    s.seqSeen (l / 4) .remoteReq ws → u.portOpen (l / 4) → exec (.remoteRequestReceive l age ws) s = .next (u.enqueue (l /
    4) { kind := .delayReq })) ∧
  (∀ (s u : State) (l : Fin 16) (age : Nat) (ws : List Word) (t3 : Nat) (t1 t2 : Int), s.awake → inKind ws = .delayRsp →
    s.passes l ws → u = s.seqSeen (l / 4) .delayRsp ws → (u.port (l / 4)).dep = some t3 → (u.port (l / 4)).sync = some (t1,
    t2) → bits (ew ws 0) 24 8 = u.f F.LNK_DM_CTRL_MEAS_ID (l / 4) → (u.elapsed - (u.port (l / 4)).depAt) * 25 ≤ us25 100 →
    u.f F.LNK_CFG_TIME_ROLE (l / 4) = 2 → l.val % 4 = u.lowLane (l / 4) → exec (.delayResponseReceive l age ws) s = .next
    ((u.delayOver (l / 4)).delayResult (l / 4) (t2 - t1) (delayTime ws - nsUnits t3))) ∧
  (∀ (s : State) (l : Fin 16) (age : Nat) (ws : List Word), s.awake → inKind ws = .unsupported → s.on F.LNK_CFG_EN (l / 4)
    → s.ready? l → 3 ≤ ws.length → lengthOk ws → pw ws (ws.length - 1) = lineCrc ws.dropLast → exec
    (.unsupportedPacketReceive l age ws) s = .next (s.refusePkt (l / 4) F.LNK_ERR0_UNSUPPORTED))

/-- Where its conditions hold, each command that sends on a port answers the state its rules give: a packet starts on a lane
  (R264), receive IQ is dealt and queued (R237, R247, R264), a capture and a management response are posted (R242, R253), a
  delay measurement is asked for (R260), a TIME_SYNC is due (R258), a notice is sent on the old and on the new port (R221,
  R254), an exchange times out (R260) and a port's moderation timer expires (R255). -/
def Obligations.LinkTransmissionCompletes : Prop :=
  (∀ (s : State) (l : Fin 16) (x : Nat) (m : OutPkt), s.awake → s.portOpen (l / 4) → s.ready? l → s.txLpi l = false →
    (s.lane l).cur = none → (s.lane l).wake = none → s.pick l = some x → (s.port (l / 4)).outq[x]? = some m → s.bpHeld 0 (l
    / 4) = false → exec (.packetTransmit l) s = .next (s.sendPkt l x m)) ∧
  (∀ (s u v : State) (f : Fin 512) (idx n l : Nat) (q : List (Nat × Nat)) (xs : List (Int × Int)), s.awake → (s.flow
    f).rxIn = (idx, n) :: q → s.rxMay f idx n (s.flow f).rxPkt → s.deal f (s.airOf (s.fTl f) idx) = (some l, u) → (s.flow
    f).rxPkt + 1 < packetsOf (s.symSamples f idx) → xs = (List.range (min 1024 (s.symSamples f idx - 1024 * (s.flow
    f).rxPkt))).map (fun y => s.sampleAt (s.bufAddr f idx (1024 * (s.flow f).rxPkt + y))) → v = u.enqueue (l / 4)
    { kind := .iq, id := s.f F.FLW_CTRL_LINK_ID f, flow := some f.val, idx := idx, air := s.airOf (s.fTl f) idx, lane := some l, parts := packetsOf (s.symSamples f idx), dead := (s.flow f).rxBad, body := iqBody (s.idxFrame (s.fTl f) idx) (s.idxSym (s.fTl f) idx) (s.f F.FLW_CTRL_MANT f) (1024 * (s.flow f).rxPkt) (s.timeLo (l / 4) (s.airOf (s.fTl f) idx + 1024 * (s.flow f).rxPkt * s.fRatio f)) false xs }
    → exec (.rxIqPacketSend f none) s = .next (v.setFlow f { v.flow f with rxPkt := (s.flow f).rxPkt + 1 })) ∧
  (∀ (s u : State) (p : Fin 4) (w : Word) (f : Nat), s.reach (regAddr .LNK_CAP_POST p) → u = s.writeReg .LNK_CAP_POST
    (w.toNat ||| 2 ^ 31) p → u.f F.LNK_CAP_POST_FID p = f → u.fState f = 2 → u.fType f = 4 → u.carries f u.now → (u.flow
    f).capBusy = false → u.flowLanes f u.now ≠ [] → exec (.capturePost p w) s = .next ((u.setFlow f
    { u.flow f with capBusy := true }).captureQueue f (u.symIdx (u.f F.PLC_CFG_TL) u.now) (max 1 (u.f F.LNK_CAP_POST_COUNT
    p)) (packetsOf (max 1 (u.f F.LNK_CAP_POST_COUNT p))))) ∧
  (∀ (s u : State) (p : Fin 4) (w : Word), s.reach (regAddr .LNK_MGMT_POST p) → u = s.writeReg .LNK_MGMT_POST (w.toNat |||
    2 ^ 31) p → u.on F.LNK_MGMT_POST_BUSY p = false → u.portOpen p → exec (.mgmtPost p w) s = .next ((u.setF
    F.LNK_MGMT_POST_BUSY 1 p).mgmtSend p (u.mgmtFlow p (u.f F.LNK_MGMT_POST_SLOT p)) (some p) ((List.range (max 1 (u.f
    F.LNK_MGMT_POST_WORDS p))).map (fun x => u.rd32 (0x20000000 + u.f F.LNK_MGMT_RING_BASE p / 16384 * 16384 + 8192 + u.f
    F.LNK_MGMT_POST_SLOT p * 512 + 4 * x))))) ∧
  (∀ (s : State) (p : Fin 4) (w : Word), s.reach (regAddr .LNK_DM_CTRL p) → s.portOpen p → exec (.delayMeasureGo p w) s =
    .next (s.enqueue p { kind := .delayReq })) ∧
  (∀ (s : State) (p : Fin 4), s.awake → s.portOpen p → s.f F.LNK_CFG_TIME_ROLE p = 1 → (s.port p).syncAt + s.f
    F.LNK_CFG_SYNC_INT p * msTicks ≤ s.elapsed → exec (.timeSyncTimer p) s = .next ((s.setPort p
    { s.port p with syncAt := s.elapsed }).enqueue p { kind := .timeSync })) ∧
  (∀ (s u v w : State) (f : Fin 512) (m : Move) (e : Nat), s.awake → (s.flow f).move = some m → m.at_ = some e → m.sent < 3
    → m.due ≤ s.elapsed → u = s.setFlow f
    { s.flow f with move := some { m with sent := m.sent + 1, due := s.elapsed + usTicks 10 } } → v = (if u.portOpen
    (s.place f).port then u.enqueue (s.place f).port { kind := .notice, body := u.noticeBody f m e } else u) → w = (if
    v.portOpen m.to_.port then v.enqueue m.to_.port { kind := .notice, body := v.noticeBody f m e } else v) → exec
    (.placementNoticeSend f) s = .next (w)) ∧
  (∀ (s : State) (p : Fin 4) (t3 : Nat), s.awake → (s.port p).dep = some t3 → us25 100 < (s.elapsed - (s.port p).depAt) *
    25 → exec (.delayResponseTimeout p) s = .next ((s.setF F.LNK_DM_CTRL_BUSY 0 p).setPort p
    { s.port p with dep := none })) ∧
  (∀ (s : State) (p : Fin 4), s.power.st ≠ .dusk → s.power.st ≠ .dark → s.power.entry < 2 → (s.port p).evTimer → (s.port
    p).evStart ≤ s.el25 → s.on F.EVC_CTRL_GDIS = false → exec (.eventModTimer p) s = .next ((s.setPort p
    { s.port p with evTimer := false }).sendEvents p 32))

/-- Where its conditions hold, each command answers the state its rules give: a port is enabled and disabled (R271, R278), each
  stage ends or fails (R271, R273 to R277), the idle hold ends, the lane becomes ready and leaves ready (R276, R278), a
  retrain and the equalisers' freeze (R278, R281), a tap (R281) and a character error (R267). -/
def Obligations.LaneBringUpCompletes : Prop :=
  (∀ (s u : State) (p : Fin 4) (w : Word), s.reach (regAddr .LNK_CFG p) → u = s.writeReg .LNK_CFG (w.toNat ||| 2 ^ 31) p →
    s.on F.LNK_CFG_EN p = false → u.on F.LNK_CFG_EN p → exec (.portEnable p w) s = .next (u.portStart p)) ∧
  (∀ (s u : State) (p : Fin 4) (w : Word), s.reach (regAddr .LNK_CFG p) → u = s.writeReg .LNK_CFG (w.toNat % 2 ^ 31) p →
    s.on F.LNK_CFG_EN p → u.on F.LNK_CFG_EN p = false → exec (.portDisable p w) s = .next (u.portStop p)) ∧
  (∀ (s : State) (l : Fin 16), s.awake → s.inRx l 1 → exec (.laneStageEnd l .idleExit) s = .next (s.rxEnter l 2)) ∧
  (∀ (s : State) (l : Fin 16), s.awake → s.inRx l 2 → exec (.laneStageEnd l .cdr) s = .next (s.rxEnter l 3)) ∧
  (∀ (s : State) (l : Fin 16), s.awake → s.inRx l 3 → exec (.laneStageEnd l .comma) s = .next (s.rxEnter l 4)) ∧
  (∀ (s : State) (l : Fin 16) (inv : Bool), s.awake → s.inRx l 4 → exec (.laneStageEnd l (.polarity inv)) s = .next
    (((s.setLane l { s.lane l with rxInv := inv }).setF F.LANE_STATE_RX_INV (b2n inv) (l / 4) (l % 4)).rxEnter l 5)) ∧
  (∀ (s : State) (l : Fin 16) (x : Fin 4096) (v y : Nat), s.awake → (s.lane l).stage = 6 → s.overLimit 6 (s.lane l).at_ =
    false → v = (if s.otherDeskew l then x.val else 0) → (s.lane l).skew = some y → v ≤ y + 1 → y ≤ v + 1 → max v y ≤
    s.skewLimit (l / 4) → exec (.laneStageEnd l (.deskew x)) s = .next (((s.setF F.LANE_STATE_SKEW v (l / 4) (l %
    4)).setLane l { s.lane l with skew := some v }).enter l 7)) ∧
  (∀ (s : State) (l : Fin 16) (k x y : Fin 4), s.awake → s.inRx l 5 → exec (.laneStageEnd l (.laneId k x y)) s = .next
    (s.laneIdEnd l k x y)) ∧
  (∀ (s : State) (l : Fin 16), s.awake → s.inStage l 7 → exec (.laneStageEnd l .eq) s = .next (s.enter l 8)) ∧
  (∀ (s : State) (l : Fin 16), s.awake → 6 ≤ (s.lane l).stage → (s.lane l).stage ≤ 8 → s.overLimit (s.lane l).stage (s.lane
    l).at_ → exec (.laneTrainFail l false) s = .next ((s.failRecord l (s.lane l).stage).laneHold l)) ∧
  (∀ (s : State) (l : Fin 16) (t : Nat), s.awake → (s.lane l).hold = some t → t ≤ s.el25 → exec (.laneIdleHoldEnd l) s =
    .next (((s.setLane l { s.lane l with hold := none, src := 0 }).rxEnter (s.lane l).holdRx 1).showStage l)) ∧
  (∀ (s u : State) (l : Fin 16), s.awake → s.inStage l 8 → s.readySent l → u = ((s.setLane l
    { s.lane l with stage := 9, at_ := s.elapsed, errs := [], skpAt := s.lineNow l, fails := 0, failRec := false, idle := s.elapsed }).showStage
    l).setReady l true → (u.port (l / 4)).evDue = false ∨ u.on F.EVC_CTRL_GDIS → exec (.laneReady l) s = .next (u)) ∧
  (∀ (s : State) (l : Fin 16) (c : DownCause), s.awake → s.rxLpi l = false → s.ready? l → s.causeHolds l c → exec
    (.laneDown l c) s = .next ((s.leaveReady l (causeNum c)).laneHold l)) ∧
  (∀ (s : State) (l : Fin 16) (w : Word), s.reach (regAddr .LANE_CTRL (l / 4) (l % 4)) → exec (.laneRetrain l w) s = .next
    ((s.eqWrite l (w.toNat ||| 2 ^ 31)).retrain l)) ∧
  (∀ (s : State) (l : Fin 16) (w : Word), s.reach (regAddr .LANE_CTRL (l / 4) (l % 4)) → exec (.equaliserFreezeWrite l w) s
    = .next (s.eqWrite l (w.toNat % 2 ^ 31))) ∧
  (∀ (s : State) (l : Fin 16) (j : Fin 9) (w : Word), s.reach (regAddr .LANE_DFE_TAP (l / 4) (l % 4) j) → s.on
    F.LANE_CTRL_DFE_FRZ (l / 4) (l % 4) → exec (.dfeTapWrite l j w) s = .next (s.setF F.LANE_DFE_TAP_TAP w.toNat (l / 4) (l
    % 4) j)) ∧
  (∀ (s : State) (l : Fin 16), s.awake → s.on F.LNK_CFG_EN (l / 4) → l % 4 < s.width (l / 4) → exec (.characterError l) s =
    .next ((s.bump F.LANE_ERR_CHAR_ERR (l / 4) (l % 4)).setLane l
    { s.lane l with errs := (s.elapsed :: (s.lane l).errs).take 16 }))

/-- Where its conditions hold, each command answers the state its rules give: the pattern controls, lock and its loss (R282,
  R283), an inverted bit asked for and one made at the set rate (R284), a margin measurement's start and end (R285, R286),
  and low-power idle entered, received, woken from and failed (R287, R288). -/
def Obligations.LaneTestAndIdleCommandsComplete : Prop :=
  (∀ (s u : State) (l : Fin 16) (w : Word), s.reach (regAddr .LANE_PRBS_CTRL (l / 4) (l % 4)) → s.on F.LNK_CFG_EN (l / 4) =
    false → u = s.writeReg .LANE_PRBS_CTRL w.toNat (l / 4) (l % 4) → s.on F.LANE_PRBS_CTRL_CHK (l / 4) (l % 4) = false →
    u.on F.LANE_PRBS_CTRL_CHK (l / 4) (l % 4) → s.stageOf l ≠ 10 → exec (.prbsCtrlWrite l w) s = .next ((((u.setF
    F.LANE_PRBS_CTRL_LOSS 0 (l / 4) (l % 4)).setF F.LANE_PRBS_CTRL_LOCK 0 (l / 4) (l % 4)).setLane l
    { u.lane l with prbsBits := 0, prbsErrs := 0, prbsFrac := 0, prbsRecent := [] }).showStage l)) ∧
  (∀ (s : State) (l : Fin 16), s.awake → s.stageOf l = 10 → s.on F.LANE_PRBS_CTRL_CHK (l / 4) (l % 4) → exec (.prbsLock l)
    s = .next (s.setF F.LANE_PRBS_CTRL_LOCK 1 (l / 4) (l % 4))) ∧
  (∀ (s : State) (l : Fin 16), s.awake → s.on F.LANE_PRBS_CTRL_LOCK (l / 4) (l % 4) → s.prbsLost l → exec (.prbsLockLoss l)
    s = .next (((s.setF F.LANE_PRBS_CTRL_LOCK 0 (l / 4) (l % 4)).bump F.LANE_PRBS_CTRL_LOSS (l / 4) (l % 4)).setLane l
    { s.lane l with prbsRecent := [] })) ∧
  (∀ (s u : State) (l : Fin 16) (w : Word), s.reach (regAddr .LANE_INJECT (l / 4) (l % 4)) → u = s.writeReg .LANE_INJECT
    (w.toNat ||| 2 ^ 31) (l / 4) (l % 4) → u.f F.LANE_INJECT_RATE_LOG2 (l / 4) (l % 4) = s.f F.LANE_INJECT_RATE_LOG2 (l /
    4) (l % 4) → u.sendsBits l → exec (.injectOne l w) s = .next (u.bump F.LANE_INJECT_INJECTED (l / 4) (l % 4))) ∧
  (∀ (s : State) (l : Fin 16), s.awake → s.f F.LANE_INJECT_RATE_LOG2 (l / 4) (l % 4) ≠ 0 → 2 ^ s.f F.LANE_INJECT_RATE_LOG2
    (l / 4) (l % 4) * 49152 ≤ (s.lane l).injBits → exec (.injectRate l) s = .next ((s.setLane l
    { s.lane l with injBits := (s.lane l).injBits - 2 ^ s.f F.LANE_INJECT_RATE_LOG2 (l / 4) (l % 4) * 49152 }).bump
    F.LANE_INJECT_INJECTED (l / 4) (l % 4))) ∧
  (∀ (s u : State) (l : Fin 16) (w : Word), s.reach (regAddr .LANE_EYE_CTRL (l / 4) (l % 4)) → s.on F.LANE_EYE_CTRL_BUSY (l
    / 4) (l % 4) = false → s.ready? l → s.rxLpi l = false → u = s.writeReg .LANE_EYE_CTRL (w.toNat ||| 2 ^ 31) (l / 4) (l %
    4) → exec (.eyeMeasureGo l w) s = .next (((u.setF F.LANE_EYE_CTRL_BUSY 1 (l / 4) (l % 4)).setF F.LANE_EYE_CTRL_ABORTED
    0 (l / 4) (l % 4)).setLane l
    { u.lane l with eyeScan := u.on F.LANE_EYE_CTRL_MODE (l / 4) (l % 4), eyeAt := s.elapsed, eyeDwell := u.f F.LANE_EYE_CTRL_DWELL_LOG2 (l / 4) (l % 4) })) ∧
  (∀ (s : State) (l : Fin 16) (n : Word), s.awake → s.on F.LANE_EYE_CTRL_BUSY (l / 4) (l % 4) → (s.lane l).eyeScan = false
    → s.eyeDwelt l (.point n) → exec (.eyeMeasureDone l (.point n)) s = .next ((s.setF F.LANE_EYE_CTRL_BUSY 0 (l / 4) (l %
    4)).setF F.LANE_EYE_POINT_ERRORS n.toNat (l / 4) (l % 4))) ∧
  (∀ (s : State) (l : Fin 16), s.awake → s.ready? l → s.txLpi l = false → (s.lane l).cur = none → (s.lane l).wake = none →
    s.queuedFor l = false → s.on F.LNK_LANE_CFG_LPI_EN (l / 4) → s.sendsOn l = false → us25 (s.f F.LNK_LANE_CFG_LPI_DELAY
    (l / 4)) ≤ (s.elapsed - (s.lane l).idle) * 25 → exec (.lpiEntry l) s = .next (s.setF F.LANE_STATE_TX_LPI 1 (l / 4) (l %
    4))) ∧
  (∀ (s : State) (l : Fin 16), s.awake → s.ready? l → exec (.lpiReceive l) s = .next ((s.setF F.LANE_STATE_RX_LPI 1 (l / 4)
    (l % 4)).eyeAbort l)) ∧
  (∀ (s : State) (l : Fin 16), s.awake → s.txLpi l → s.queuedFor l → exec (.lpiWake l) s = .next ((s.setF
    F.LANE_STATE_TX_LPI 0 (l / 4) (l % 4)).setLane l { s.lane l with wake := some s.el25 })) ∧
  (∀ (s : State) (l : Fin 16) (t : Nat), s.awake → (s.lane l).wake = some t → t + us25 10 ≤ s.el25 → exec (.lpiWakeDone l)
    s = .next (s.setLane l { s.lane l with wake := none, idle := s.elapsed })) ∧
  (∀ (s : State) (l : Fin 16), s.awake → s.ready? l → s.rxLpi l → exec (.laneWakeFail l) s = .next ((s.leaveReady l
    6).laneHold l))

/-- An operation in a multiply slot of the bundle in hand queues its accumulator results: products, signed sums and moves into
  accumulators, with the latencies of R302 and the saturation of R295. What the model chooses where R295 and R302 are
  silent (the value of a left SHA beyond 56 bits, the rounding of an inexact right SHA, its direction) is the model's own
  (log entries 40 and 41). -/
def Obligations.EngineMultiplySlotCompletes : Prop :=
  (∀ (s u : State) (e : Engine) (n : Fin 16) (sl : Fin 2) (t : MulTerm) (v : Option MulTerm), s.mayOp n (.mac sl) (macDests
    t v) → u = s.used n (.mac sl) → e = u.eng n → exec (.mpy n sl t v) s = .next (u.setEng n (e.realMac false 1 t v))) ∧
  (∀ (s u : State) (e : Engine) (n : Fin 16) (sl : Fin 2) (t : MulTerm) (v : Option MulTerm), s.mayOp n (.mac sl) (macDests
    t v) → u = s.used n (.mac sl) → e = u.eng n → exec (.mac n sl t v) s = .next (u.setEng n (e.realMac true 1 t v))) ∧
  (∀ (s u : State) (e : Engine) (n : Fin 16) (sl : Fin 2) (t : MulTerm) (v : Option MulTerm), s.mayOp n (.mac sl) (macDests
    t v) → u = s.used n (.mac sl) → e = u.eng n → exec (.msu n sl t v) s = .next (u.setEng n (e.realMac true (-1) t v))) ∧
  (∀ (s u : State) (e : Engine) (n : Fin 16) (k : Fin 2) (x y : Fin 8), s.mayOp n .pair (pairDests k) → u = s.used n .pair
    → e = u.eng n → exec (.cmpy n k x y) s = .next (u.setEng n (e.complexMac false false k x y))) ∧
  (∀ (s u : State) (e : Engine) (n : Fin 16) (k : Fin 2) (x y : Fin 8), s.mayOp n .pair (pairDests k) → u = s.used n .pair
    → e = u.eng n → exec (.cmac n k x y) s = .next (u.setEng n (e.complexMac true false k x y))) ∧
  (∀ (s u : State) (e : Engine) (n : Fin 16) (k : Fin 2) (x y : Fin 8), s.mayOp n .pair (pairDests k) → u = s.used n .pair
    → e = u.eng n → exec (.cmacj n k x y) s = .next (u.setEng n (e.complexMac true true k x y))) ∧
  (∀ (s u : State) (e : Engine) (n : Fin 16) (sl : Fin 2) (k : Fin 4), s.mayOp n (.mac sl) [rA k] → u = s.used n (.mac sl)
    → e = u.eng n → exec (.clra n sl k) s = .next (u.setEng n (e.accResult k 0 2))) ∧
  (∀ (s u : State) (e : Engine) (n : Fin 16) (sl : Fin 2) (k : Fin 4) (j : Fin 16), s.mayOp n (.mac sl) [rA k] → u = s.used
    n (.mac sl) → e = u.eng n → exec (.movda n sl k j) s = .next (u.setEng n (e.accResult k (e.d j * 2 ^ 23) 2))) ∧
  (∀ (s u : State) (e : Engine) (n : Fin 16) (sl : Fin 2) (k j : Fin 4), s.mayOp n (.mac sl) [rA k] → u = s.used n (.mac
    sl) → e = u.eng n → exec (.adda n sl k j) s = .next (u.setEng n (e.accResult k (e.a k + e.a j) 2))) ∧
  (∀ (s u : State) (e : Engine) (n : Fin 16) (sl : Fin 2) (k j : Fin 4), s.mayOp n (.mac sl) [rA k] → u = s.used n (.mac
    sl) → e = u.eng n → exec (.suba n sl k j) s = .next (u.setEng n (e.accResult k (e.a k - e.a j) 2))) ∧
  (∀ (s u : State) (e : Engine) (n : Fin 16) (sl : Fin 2) (k : Fin 4), s.mayOp n (.mac sl) [rA k] → u = s.used n (.mac sl)
    → e = u.eng n → exec (.nega n sl k) s = .next (u.setEng n (e.accResult k (-e.a k) 2))) ∧
  (∀ (s u : State) (e : Engine) (n : Fin 16) (sl : Fin 2) (k : Fin 4) (sh : BitVec 6), s.mayOp n (.mac sl) [rA k] → u =
    s.used n (.mac sl) → e = u.eng n → 0 ≤ sh.toInt → overW 56 (e.a k * 2 ^ sh.toInt.toNat) = false → exec (.sha n sl k sh)
    s = .next ({ u with free := u.free + 1 }.setEng n (e.accResult k (e.a k * 2 ^ sh.toInt.toNat) 2))) ∧
  (∀ (s u : State) (e : Engine) (n : Fin 16) (sl : Fin 2) (k : Fin 4) (sh : BitVec 6), s.mayOp n (.mac sl) [rA k] → u =
    s.used n (.mac sl) → e = u.eng n → 0 ≤ sh.toInt → overW 56 (e.a k * 2 ^ sh.toInt.toNat) → exec (.sha n sl k sh) s =
    .next ({ u with free := u.free + 1 }.setEng n (e.result (rA k) (Config.choice 0x53 u.free) 2 (if Config.choice 0x53
    u.free / 2 ^ 56 % 2 = 0 then none else some (8 + (k : Nat)))))) ∧
  (∀ (s u : State) (e : Engine) (n : Fin 16) (sl : Fin 2) (k : Fin 4) (sh : BitVec 6) (m x : Int), s.mayOp n (.mac sl) [rA
    k] → u = s.used n (.mac sl) → e = u.eng n → ¬ 0 ≤ sh.toInt → m = ((2 ^ (-sh.toInt).toNat : Nat) : Int) → x = (if e.a k
    % m = 0 then 0 else ((Config.choice 0x53 u.free % 2 : Nat) : Int)) → exec (.sha n sl k sh) s = .next
    ({ u with free := u.free + 1 }.setEng n (e.accResult k (e.a k / m + x) 2)))

/-- A register operation in the control or LONG form of the bundle in hand queues its result with the latency of R302:
  additions and subtractions with the flags of R293, logic, shifts and NORM (whether they write flags is left open: log
  entry 42), moves, the pointer and mode registers, CC and the windows. -/
def Obligations.EngineControlArithmeticCompletes : Prop :=
  (∀ (s u : State) (e : Engine) (n : Fin 16) (j : Fin 16) (k : Fin 4), s.mayOp n .ctl [rD j] → u = s.used n .ctl → e =
    u.eng n → exec (.mva n j k) s = .next (u.setEng n (e.result (rD j) (trunc 24 (satW 24 (e.scaled k))) 2 (svOf 24
    (e.scaled k))))) ∧
  (∀ (s u : State) (e : Engine) (n : Fin 16) (j a b : Fin 16), s.mayOp n .ctl [rD j] → u = s.used n .ctl → e = u.eng n →
    exec (.addOp n j a b) s = .next (u.setEng n ((e.dResult j (sext 24 (trunc 24 (e.d a + e.d b)))).result rFlags (flagsOf
    (sext 24 (trunc 24 (e.d a + e.d b))) (decide (2 ^ 24 ≤ e.r (rD a) + e.r (rD b))) (overW 24 (e.d a + e.d b))) 1))) ∧
  (∀ (s u : State) (e : Engine) (n : Fin 16) (j a b : Fin 16), s.mayOp n .ctl [rD j] → u = s.used n .ctl → e = u.eng n →
    exec (.adds n j a b) s = .next (u.setEng n ((e.dResult j (satW 24 (e.d a + e.d b))).result rFlags (flagsOf (satW 24
    (e.d a + e.d b)) (decide (2 ^ 24 ≤ e.r (rD a) + e.r (rD b))) (overW 24 (e.d a + e.d b))) 1))) ∧
  (∀ (s u : State) (e : Engine) (n : Fin 16) (j a b : Fin 16), s.mayOp n .ctl [rD j] → u = s.used n .ctl → e = u.eng n →
    exec (.subOp n j a b) s = .next (u.setEng n ((e.dResult j (e.d a - e.d b)).subFlags a b))) ∧
  (∀ (s u : State) (e : Engine) (n : Fin 16) (a b : Fin 16), s.mayOp n .ctl [] → u = s.used n .ctl → e = u.eng n → exec
    (.cmp n a b) s = .next (u.setEng n (e.subFlags a b))) ∧
  (∀ (s u : State) (e : Engine) (n : Fin 16) (j a b : Fin 16), s.mayOp n .ctl [rD j] → u = s.used n .ctl → e = u.eng n →
    exec (.andOp n j a b) s = .next (u.setEng n (e.logic 0 j (Nat.land (e.r (rD a)) (e.r (rD b)))))) ∧
  (∀ (s u : State) (e : Engine) (n : Fin 16) (j a b : Fin 16), s.mayOp n .ctl [rD j] → u = s.used n .ctl → e = u.eng n →
    exec (.orOp n j a b) s = .next (u.setEng n (e.logic 1 j (Nat.lor (e.r (rD a)) (e.r (rD b)))))) ∧
  (∀ (s u : State) (e : Engine) (n : Fin 16) (j a b : Fin 16), s.mayOp n .ctl [rD j] → u = s.used n .ctl → e = u.eng n →
    exec (.xorOp n j a b) s = .next (u.setEng n (e.logic 2 j (Nat.xor (e.r (rD a)) (e.r (rD b)))))) ∧
  (∀ (s u : State) (e : Engine) (n : Fin 16) (j a : Fin 16) (k : EVal), s.mayOp n .ctl [rD j] → u = s.used n .ctl → e =
    u.eng n → e.val k < 24 → exec (.shl n j a k) s = .next (u.setEng n (e.logic 3 j (e.r (rD a) * 2 ^ e.val k % 2 ^ 24)))) ∧
  (∀ (s u : State) (e : Engine) (n : Fin 16) (j a : Fin 16) (k : EVal), s.mayOp n .ctl [rD j] → u = s.used n .ctl → e =
    u.eng n → ¬ e.val k < 24 → exec (.shl n j a k) s = .next (u.setEng n (e.logic 3 j (shiftFree 0 (e.r (rD a)) (e.val
    k))))) ∧
  (∀ (s u : State) (e : Engine) (n : Fin 16) (j a : Fin 16) (k : EVal), s.mayOp n .ctl [rD j] → u = s.used n .ctl → e =
    u.eng n → e.val k < 24 → exec (.shr n j a k) s = .next (u.setEng n (e.logic 4 j (shiftRight (e.r (rD a)) (e.val k))))) ∧
  (∀ (s u : State) (e : Engine) (n : Fin 16) (j a : Fin 16) (k : EVal), s.mayOp n .ctl [rD j] → u = s.used n .ctl → e =
    u.eng n → ¬ e.val k < 24 → exec (.shr n j a k) s = .next (u.setEng n (e.logic 4 j (shiftFree 1 (e.r (rD a)) (e.val
    k))))) ∧
  (∀ (s u : State) (e : Engine) (n : Fin 16) (j : Fin 16) (k : Fin 4), s.mayOp n .ctl [rD j] → u = s.used n .ctl → e =
    u.eng n → exec (.normOp n j k) s = .next (u.setEng n (e.logic 5 j (redundant (e.r (rA k)) 55 9)))) ∧
  (∀ (s u : State) (e : Engine) (n : Fin 16) (j a : Fin 16), s.mayOp n .ctl [rD j] → u = s.used n .ctl → e = u.eng n → exec
    (.movOp n j a) s = .next (u.setEng n (e.result (rD j) (trunc 24 (e.d a)) 1))) ∧
  (∀ (s u : State) (e : Engine) (n : Fin 16) (j : Fin 16) (v : BitVec 24), s.mayOp n .long [rD j] → u = s.used n .long → e
    = u.eng n → exec (.movi n j v) s = .next (u.setEng n (e.result (rD j) (trunc 24 v.toInt) 1))) ∧
  (∀ (s u : State) (e : Engine) (n : Fin 16) (k : Fin 8) (v : EVal), s.mayOp n .ctl [rP k] → u = s.used n .ctl → e = u.eng
    n → exec (.movp n k v) s = .next (u.setEng n (e.result (rP k) (e.val v) 1))) ∧
  (∀ (s u : State) (e : Engine) (n : Fin 16) (k : Fin 8) (v : EVal), s.mayOp n .ctl [rB k] → u = s.used n .ctl → e = u.eng
    n → exec (.setb n k v) s = .next (u.setEng n (e.result (rB k) (e.val v) 1))) ∧
  (∀ (s u : State) (e : Engine) (n : Fin 16) (k : Fin 8) (v : EVal), s.mayOp n .ctl [rL k] → u = s.used n .ctl → e = u.eng
    n → exec (.setl n k v) s = .next (u.setEng n (e.result (rL k) (e.val v) 1))) ∧
  (∀ (s u : State) (e : Engine) (n : Fin 16) (k : Fin 8) (v : EVal), s.mayOp n .ctl [rM k] → u = s.used n .ctl → e = u.eng
    n → exec (.setm n k v) s = .next (u.setEng n (e.result (rM k) (e.val v) 1))) ∧
  (∀ (s u : State) (e : Engine) (n : Fin 16) (v : EVal), s.mayOp n .ctl [rCC] → u = s.used n .ctl → e = u.eng n → exec
    (.setcc n v) s = .next (u.setEng n (e.result rMode (e.val v) 1))) ∧
  (∀ (s u : State) (e : Engine) (n : Fin 16) (w : Fin 2) (v : EVal), s.mayOp n .ctl [rWB w] → u = s.used n .ctl → e = u.eng
    n → exec (.setwin n w v) s = .next (u.setEng n (e.result (rWB w) (e.val v) 2)))

/-- A branch in the LONG form of a bundle that its decoding announced sets its target and three delay bundles (R305); LOOP
  starts its body (R306); RETI resumes the main set (R309); SIG, CLAIM and COMPLETE act on the concentrator (R357, R358);
  FENCE, CKPT and JOBEND ask for their drain (R311, R316). -/
def Obligations.EngineControlFlowCompletes : Prop :=
  (∀ (s u : State) (e : Engine) (n : Fin 16) (t : Fin 65536), s.mayOp n .long [] → bit (s.eng n).slots 4 → u = s.used n
    .long → e = u.eng n → exec (.br n t) s = .next (u.setEng n ({ e with branch := some (t, 3), delay := 3 }))) ∧
  (∀ (s u : State) (e : Engine) (n : Fin 16) (c : Cond) (want : Bool) (t : Fin 65536), s.mayOp n .long [] → bit (s.eng
    n).slots 4 → u = s.used n .long → e = u.eng n → exec (.brcc n c want t) s = .next (u.setEng n
    { e with branch := if e.flag c = want then some (t.val, 3) else e.branch, delay := 3 })) ∧
  (∀ (s u : State) (e : Engine) (n : Fin 16) (t : Fin 65536), s.mayOp n .long [rRA] → bit (s.eng n).slots 4 → u = s.used n
    .long → e = u.eng n → exec (.call n t) s = .next (u.setEng n
    ({ e.result rRA ((e.pc + 3) % 65536) 1 with branch := some (t, 3), delay := 3 }))) ∧
  (∀ (s u : State) (e : Engine) (n : Fin 16), s.mayOp n .long [] → bit (s.eng n).slots 4 → u = s.used n .long → e = u.eng n
    → exec (.retOp n) s = .next (u.setEng n ({ e with branch := some (e.r rRA % 65536, 3), delay := 3 }))) ∧
  (∀ (s u : State) (e : Engine) (n : Fin 16) (k : Nat), k = b2n (bit (s.eng n).ir 24) → s.mayOp n .long [rLC k] → u =
    s.used n .long → e = u.eng n → k = b2n (bit e.ir 24) → e.myLoops.any (fun l => l.lc == k) = false → exec (.loopOp n) s
    = .next (u.setEng n
    { e.result (rLC k) e.loopCount 1 with loops := { set_ := e.set_, lc := k, first := (e.pc + 1) % 65536, last := (e.pc + bits e.ir 0 12) % 65536 } :: e.loops })) ∧
  (∀ (s u : State) (e g : Engine) (n : Fin 16), s.mayOp n .ctl [] → u = s.used n .ctl → e = u.eng n → e.set_ ≠ 0 → g =
    e.flush (fun x => x.set_ == 1) → exec (.reti n) s = .next ((u.setEng n
    { g with set_ := 0, pc := e.resume, branch := none, delay := 0, open_ := false }).abortTry n)) ∧
  (∀ (s : State) (n : Fin 16), s.mayOp n .ctl [] → exec (.sig n) s = .next ((s.used n .ctl).pulse (400 + n))) ∧
  (∀ (s u t : State) (n j : Fin 16), s.mayOp n .ctl [rD j] → u = s.used n .ctl → t = u.claim (1 + n) → exec (.claimOp n j)
    s = .next (t.setEng n ((t.eng n).result (rD j) (u.claimLine (1 + n)) claimLatency))) ∧
  (∀ (s u : State) (n j : Fin 16), s.mayOp n .ctl [] → u = s.used n .ctl → exec (.complete n j) s = .next (u.complete (1 +
    n) ((u.eng n).r (rD j) % 1024))) ∧
  (∀ (s u : State) (e : Engine) (n : Fin 16), s.mayOp n .ctl [] → u = s.used n .ctl → e = u.eng n → exec (.fence n) s =
    .next (u.setEng n { e with sync := .fence })) ∧
  (∀ (s u : State) (e : Engine) (n : Fin 16) (step : Fin 256), s.mayOp n .ctl [] → u = s.used n .ctl → e = u.eng n →
    (e.set_ != 0) = false → exec (.ckpt n step) s = .next (u.setEng n { e with sync := .ckpt step })) ∧
  (∀ (s u : State) (e : Engine) (n : Fin 16), s.mayOp n .ctl [] → u = s.used n .ctl → e = u.eng n → (e.set_ != 0) = false →
    exec (.jobend n) s = .next (u.setEng n { e with sync := .jobend }))

/-- An aligned load of the load/store slot queues its values with latency 3 from local memory, or waits for its window data
  (R294, R302); an aligned store joins the write buffer, a stalled store when the buffer is full (R310); each updates its
  pointer as its addressing mode says (R297). What LDP makes of its container is left open (log entry 45). -/
def Obligations.EngineMemorySlotCompletes : Prop :=
  (∀ (s u v : State) (e : Engine) (n : Fin 16) (j : Fin 16) (a : Addr) (x : Nat × Option Nat) (y : LoadPart), s.mayOp n .ls
    ([rD j] ++ addrDest a) → u = (s.used n .ls) → e = u.eng n → x = e.address a 4 → v = u.setEng n (e.upd a x.2) → y =
    { addr := e.fabricAddr n x.1, size := 4, form := 0, regs := [rD j] } → x.1 % 4 = 0 → windowed x.1 = false → exec (.ld n
    j a) s = .next (v.loadLocal n y)) ∧
  (∀ (s u v : State) (e : Engine) (n : Fin 16) (j : Fin 16) (a : Addr) (x : Nat × Option Nat) (y : LoadPart), s.mayOp n .ls
    ([rD j] ++ addrDest a) → u = (s.used n .ls) → e = u.eng n → x = e.address a 4 → v = u.setEng n (e.upd a x.2) → y =
    { addr := e.fabricAddr n x.1, size := 4, form := 0, regs := [rD j] } → x.1 % 4 = 0 → windowed x.1 = true → exec (.ld n
    j a) s = .next (v.setEng n { v.eng n with stall := .load [y], stallAt := u.elapsed })) ∧
  (∀ (s u v : State) (e : Engine) (n : Fin 16) (j : Fin 16) (a : Addr) (x : Nat × Option Nat) (y : LoadPart), s.mayOp n .ls
    ([rD j] ++ addrDest a) → u = (s.used n .ls) → e = u.eng n → x = e.address a 2 → v = u.setEng n (e.upd a x.2) → y =
    { addr := e.fabricAddr n x.1, size := 2, form := 1, regs := [rD j] } → x.1 % 2 = 0 → windowed x.1 = false → exec (.ldh
    n j a) s = .next (v.loadLocal n y)) ∧
  (∀ (s u v : State) (e : Engine) (n : Fin 16) (j : Fin 16) (a : Addr) (x : Nat × Option Nat) (y : LoadPart), s.mayOp n .ls
    ([rD j] ++ addrDest a) → u = (s.used n .ls) → e = u.eng n → x = e.address a 2 → v = u.setEng n (e.upd a x.2) → y =
    { addr := e.fabricAddr n x.1, size := 2, form := 1, regs := [rD j] } → x.1 % 2 = 0 → windowed x.1 = true → exec (.ldh n
    j a) s = .next (v.setEng n { v.eng n with stall := .load [y], stallAt := u.elapsed })) ∧
  (∀ (s u v : State) (e : Engine) (n : Fin 16) (k : Fin 8) (a : Addr) (x : Nat × Option Nat) (y : LoadPart), s.mayOp n .ls
    ((dPair k) ++ addrDest a) → u = (s.used n .ls) → e = u.eng n → x = e.address a 8 → v = u.setEng n (e.upd a x.2) → y =
    { addr := e.fabricAddr n x.1, size := 8, form := 0, regs := (dPair k) } → x.1 % 8 = 0 → windowed x.1 = false → exec
    (.ld2 n k a) s = .next (v.loadLocal n y)) ∧
  (∀ (s u v : State) (e : Engine) (n : Fin 16) (k : Fin 8) (a : Addr) (x : Nat × Option Nat) (y : LoadPart), s.mayOp n .ls
    ((dPair k) ++ addrDest a) → u = (s.used n .ls) → e = u.eng n → x = e.address a 8 → v = u.setEng n (e.upd a x.2) → y =
    { addr := e.fabricAddr n x.1, size := 8, form := 0, regs := (dPair k) } → x.1 % 8 = 0 → windowed x.1 = true → exec
    (.ld2 n k a) s = .next (v.setEng n { v.eng n with stall := .load [y], stallAt := u.elapsed })) ∧
  (∀ (s u v : State) (e : Engine) (n : Fin 16) (k : Fin 8) (a : Addr) (x : Nat × Option Nat) (y : LoadPart), s.mayOp n .ls
    ((dPair k) ++ addrDest a) → u = (s.used n .ls) → e = u.eng n → x = e.address a 6 → v = u.setEng n (e.upd a x.2) → y =
    { addr := e.fabricAddr n x.1, size := 6, form := 2, regs := (dPair k) } → x.1 % 2 = 0 → windowed x.1 = false → exec
    (.ldk n k a) s = .next (v.loadLocal n y)) ∧
  (∀ (s u v : State) (e : Engine) (n : Fin 16) (k : Fin 8) (a : Addr) (x : Nat × Option Nat) (y : LoadPart), s.mayOp n .ls
    ((dPair k) ++ addrDest a) → u = (s.used n .ls) → e = u.eng n → x = e.address a 6 → v = u.setEng n (e.upd a x.2) → y =
    { addr := e.fabricAddr n x.1, size := 6, form := 2, regs := (dPair k) } → x.1 % 2 = 0 → windowed x.1 = true → exec
    (.ldk n k a) s = .next (v.setEng n { v.eng n with stall := .load [y], stallAt := u.elapsed })) ∧
  (∀ (s u v : State) (e : Engine) (n : Fin 16) (k : Fin 8) (a : Addr) (x : Nat × Option Nat) (y : LoadPart), s.mayOp n .ls
    ([rP k] ++ addrDest a) → u = (s.used n .ls) → e = u.eng n → x = e.address a 4 → v = u.setEng n (e.upd a x.2) → y =
    { addr := e.fabricAddr n x.1, size := 4, form := 3, regs := [rP k] } → x.1 % 1 = 0 → windowed x.1 = false → exec (.ldp
    n k a) s = .next (v.loadLocal n y)) ∧
  (∀ (s u v : State) (e : Engine) (n : Fin 16) (k : Fin 8) (a : Addr) (x : Nat × Option Nat) (y : LoadPart), s.mayOp n .ls
    ([rP k] ++ addrDest a) → u = (s.used n .ls) → e = u.eng n → x = e.address a 4 → v = u.setEng n (e.upd a x.2) → y =
    { addr := e.fabricAddr n x.1, size := 4, form := 3, regs := [rP k] } → x.1 % 1 = 0 → windowed x.1 = true → exec (.ldp n
    k a) s = .next (v.setEng n { v.eng n with stall := .load [y], stallAt := u.elapsed })) ∧
  (∀ (s u v : State) (e : Engine) (n : Fin 16) (k l : Fin 8) (a b : Addr) (x y : Nat × Option Nat) (p q : LoadPart),
    s.mayOp n .ls (dPair k ++ dPair l ++ addrDest a ++ addrDest b) → u = (s.used n .ls) → e = u.eng n → x = e.address a 8 →
    y = e.address b 8 → v = u.setEng n ((e.upd a x.2).upd b y.2) → p =
    { addr := e.fabricAddr n x.1, size := 8, form := 0, regs := dPair k } → q =
    { addr := e.fabricAddr n y.1, size := 8, form := 0, regs := dPair l } → x.1 % 8 = 0 → y.1 % 8 = 0 → windowed x.1 =
    false → windowed y.1 = false → exec (.ldx n k l a b) s = .next (((v.bankStall n [(x.1, p), (y.1, q)]).loadLocal n
    p).loadLocal n q)) ∧
  (∀ (s u v : State) (e : Engine) (n : Fin 16) (k l : Fin 8) (a b : Addr) (x y : Nat × Option Nat) (p q : LoadPart),
    s.mayOp n .ls (dPair k ++ dPair l ++ addrDest a ++ addrDest b) → u = (s.used n .ls) → e = u.eng n → x = e.address a 8 →
    y = e.address b 8 → v = u.setEng n ((e.upd a x.2).upd b y.2) → p =
    { addr := e.fabricAddr n x.1, size := 8, form := 0, regs := dPair k } → q =
    { addr := e.fabricAddr n y.1, size := 8, form := 0, regs := dPair l } → x.1 % 8 = 0 → y.1 % 8 = 0 → windowed x.1 = true
    → windowed y.1 = true → exec (.ldx n k l a b) s = .next (v.setEng n
    { v.eng n with stall := .load [p, q], stallAt := u.elapsed })) ∧
  (∀ (s u v t : State) (e : Engine) (n : Fin 16) (k l : Fin 8) (a b : Addr) (x y : Nat × Option Nat) (p q : LoadPart),
    s.mayOp n .ls (dPair k ++ dPair l ++ addrDest a ++ addrDest b) → u = (s.used n .ls) → e = u.eng n → x = e.address a 8 →
    y = e.address b 8 → v = u.setEng n ((e.upd a x.2).upd b y.2) → p =
    { addr := e.fabricAddr n x.1, size := 8, form := 0, regs := dPair k } → q =
    { addr := e.fabricAddr n y.1, size := 8, form := 0, regs := dPair l } → x.1 % 8 = 0 → y.1 % 8 = 0 → windowed x.1 = true
    → windowed y.1 = false → t = v.loadLocal n q → exec (.ldx n k l a b) s = .next (t.setEng n
    { t.eng n with stall := .load [p], stallAt := u.elapsed })) ∧
  (∀ (s u v t : State) (e : Engine) (n : Fin 16) (k l : Fin 8) (a b : Addr) (x y : Nat × Option Nat) (p q : LoadPart),
    s.mayOp n .ls (dPair k ++ dPair l ++ addrDest a ++ addrDest b) → u = (s.used n .ls) → e = u.eng n → x = e.address a 8 →
    y = e.address b 8 → v = u.setEng n ((e.upd a x.2).upd b y.2) → p =
    { addr := e.fabricAddr n x.1, size := 8, form := 0, regs := dPair k } → q =
    { addr := e.fabricAddr n y.1, size := 8, form := 0, regs := dPair l } → x.1 % 8 = 0 → y.1 % 8 = 0 → windowed x.1 =
    false → windowed y.1 = true → t = v.loadLocal n p → exec (.ldx n k l a b) s = .next (t.setEng n
    { t.eng n with stall := .load [q], stallAt := u.elapsed })) ∧
  (∀ (s u : State) (e g : Engine) (n : Fin 16) (j : Fin 16) (a : Addr) (x : Nat × Option Nat) (bs d : List Byte), s.mayOp n
    .ls (addrDest a) → u = (s.used n .ls) → e = u.eng n → x = e.address a 4 → x.1 % 4 = 0 → bs = toBytes (e.container j) 4
    → d = (if windowed x.1 then bs else bs.take (0x80000 - x.1)) → g = (e.upd a x.2).pushStore
    { addr := e.fabricAddr n x.1, bytes := d, window := windowed x.1 } → exec (.st n j a) s = .next (u.setEng n g)) ∧
  (∀ (s u : State) (e g : Engine) (n : Fin 16) (j : Fin 16) (a : Addr) (x : Nat × Option Nat) (bs d : List Byte), s.mayOp n
    .ls (addrDest a) → u = (s.used n .ls) → e = u.eng n → x = e.address a 2 → x.1 % 2 = 0 → bs = toBytes (trunc 16 (satW 16
    (e.half j))) 2 → d = (if windowed x.1 then bs else bs.take (0x80000 - x.1)) → g = (e.upd a x.2).pushStore
    { addr := e.fabricAddr n x.1, bytes := d, window := windowed x.1 } → exec (.sth n j a) s = .next (u.setEng n (if (svOf
    16 (e.half j)).isSome then g.result rNone 0 1 (svOf 16 (e.half j)) else g))) ∧
  (∀ (s u : State) (e g : Engine) (n : Fin 16) (k : Fin 8) (a : Addr) (x : Nat × Option Nat) (bs d : List Byte), s.mayOp n
    .ls (addrDest a) → u = (s.used n .ls) → e = u.eng n → x = e.address a 8 → x.1 % 8 = 0 → bs = toBytes (e.container (2 *
    k)) 4 ++ toBytes (e.container (2 * k + 1)) 4 → d = (if windowed x.1 then bs else bs.take (0x80000 - x.1)) → g = (e.upd
    a x.2).pushStore { addr := e.fabricAddr n x.1, bytes := d, window := windowed x.1 } → exec (.st2 n k a) s = .next
    (u.setEng n g)) ∧
  (∀ (s u : State) (e g : Engine) (n : Fin 16) (k : Fin 8) (a : Addr) (x : Nat × Option Nat) (bs d : List Byte), s.mayOp n
    .ls (addrDest a) → u = (s.used n .ls) → e = u.eng n → x = e.address a 6 → x.1 % 2 = 0 → bs = toBytes (e.r (rD (2 * k)))
    3 ++ toBytes (e.r (rD (2 * k + 1))) 3 → d = (if windowed x.1 then bs else bs.take (0x80000 - x.1)) → g = (e.upd a
    x.2).pushStore { addr := e.fabricAddr n x.1, bytes := d, window := windowed x.1 } → exec (.stk n k a) s = .next
    (u.setEng n g)) ∧
  (∀ (s u : State) (e g : Engine) (n : Fin 16) (k : Fin 4) (a : Addr) (x : Nat × Option Nat) (bs d : List Byte), s.mayOp n
    .ls (addrDest a) → u = (s.used n .ls) → e = u.eng n → x = e.address a 4 → x.1 % 4 = 0 → bs = toBytes (trunc 32 (satW 24
    (e.scaled k))) 4 → d = (if windowed x.1 then bs else bs.take (0x80000 - x.1)) → g = (e.upd a x.2).pushStore
    { addr := e.fabricAddr n x.1, bytes := d, window := windowed x.1 } → exec (.sta n k a) s = .next (u.setEng n (if (svOf
    24 (e.scaled k)).isSome then g.result rNone 0 1 (svOf 24 (e.scaled k)) else g)))

/-- Where its condition holds, each event of an engine answers the state its rules give: host and flow jobs are queued (R313,
  R314, R318), a job starts (R313, R316), is aborted or timed out (R317), and an engine restarts (R319); bundles issue and
  end (R300, R301), events are taken (R307, R308), drains end (R311, R316), window data and store errors arrive (R302,
  R319), and the write buffer retires stores (R310). -/
def Obligations.EngineJobEventsComplete : Prop :=
  (∀ (s t : State) (n : Fin 16) (w : Word), s.reach (regAddr .SE_POST n) → t = s.writeReg .SE_POST (w.toNat ||| 2 ^ 31) n →
    t.on F.SE_POST_FULL n = false → s.absent n = false → t.absent n = false → t.on F.SE_STATUS_FAULTED n = false → (t.eng
    n).queue.length < 16 → exec (.hostJobPost n w) s = .next (t.setEng n
    { t.eng n with queue := (t.eng n).queue ++ [.host (t.f F.SE_POST_KERNEL n) (t.f F.SE_POST_ARG n)] })) ∧
  (∀ (s t : State) (f : Fin 512) (m : Nat) (p : Place) (j : Job), s.awake → s.usesEngine f && s.fState f == 2 → s.isIq f →
    s.nextDue f = some m → p = s.placeAt f (s.airOf (s.fTl f) m) → j = .flow f m (s.idxFrame (s.fTl f) m) (s.idxSym (s.fTl
    f) m) (s.f F.FLW_DEMAND_KERNEL f) → t = s.setJob f m 2 → t.absent p.eng = false → t.on F.SE_STATUS_FAULTED p.eng =
    false → (t.eng p.eng).queue.length < 16 → exec (.flowJobDue f) s = .next (t.setEng p.eng
    { t.eng p.eng with queue := (t.eng p.eng).queue ++ [j] })) ∧
  (∀ (s t : State) (f : Fin 512) (k m : Nat) (p : Place) (j : Job), s.awake → s.usesEngine f && s.fState f == 2 → s.isIq f
    = false → k = s.f F.PLC_CFG_TL → m = s.symIdx k s.now → s.tlOn k && s.isAir k s.now && (s.flow f).running && s.jobOf f
    m == 0 → p = s.placeAt f s.now → j = .flow f m (s.idxFrame k m) (s.idxSym k m) (s.f F.FLW_DEMAND_KERNEL f) → t =
    s.setFlow f { s.flow f with jobs := [(m, 2)] } → t.absent p.eng = false → t.on F.SE_STATUS_FAULTED p.eng = false →
    (t.eng p.eng).queue.length < 16 → exec (.flowJobDue f) s = .next (t.setEng p.eng
    { t.eng p.eng with queue := (t.eng p.eng).queue ++ [j] })) ∧
  (∀ (s : State) (e : Engine) (n : Fin 16) (j : Job) (js : List Job), s.awake → e = s.eng n → e.queue = j :: js → s.engIdle
    n → s.jobHeld j = false → exec (.jobStart n) s = .next ((s.setEng n
    { s.jobRegs n e j with queue := js, job := some j, ran := 0, loops := e.loops.filter (fun l => l.set_ != 0), branch := none, delay := 0, open_ := false }).ckptStart
    n j)) ∧
  (∀ (s t : State) (n : Fin 16) (w : Word), s.reach (regAddr .SE_CTRL n) → t = s.writeReg .SE_CTRL (w.toNat ||| 2 ^ 29) n →
    (t.eng n).job.isSome → t.on F.SE_STATUS_FAULTED n = false → exec (.engineAbort n w) s = .next ((t.setEng n
    { t.eng n with abortReq := true }).abortTry n)) ∧
  (∀ (s t : State) (n : Fin 16) (w : Word), s.reach (regAddr .SE_STATUS n) → s.on F.SE_STATUS_FAULTED n → t = s.writeReg
    .SE_STATUS (w.toNat ||| 2 ^ 29) n → exec (.engineRestart n w) s = .next (t.setEng n
    { t.eng n with set_ := 0, loops := [] })) ∧
  (∀ (s : State) (n : Fin 16) (f idx frame sym k : Nat), s.awake → (s.eng n).job = some (.flow f idx frame sym k) → s.f
    F.SE_JOB_CFG_WDOG n * max (s.f F.FLW_DEMAND_LOAD f) 1 * 1024 < (s.eng n).ran → s.on F.SE_STATUS_FAULTED n = false →
    exec (.jobWatchdog n) s = .next ((s.setEng n { s.eng n with abortReq := true }).abortTry n)) ∧
  (∀ (s : State) (n : Fin 16), s.awake → (s.eng n).open_ && s.engGoes n → exec (.resultWriteback n) s = .next ((s.setEng n
    (s.eng n).advance).abortTry n)) ∧
  (∀ (s t u : State) (e : Engine) (n : Fin 16) (b c : BundleInfo) (ir : Nat), s.awake → t = s.bundleEnd n → e = t.eng n →
    t.engGoes n && !e.open_ && (e.job.isSome || e.set_ == 1) && !t.eventDue n → ir = (if b.fetchBad then 0 else
    t.fetchBundle n e.pc) → c = factsOf b ir → u = (if c.fetchBad then (t.bumpBy F.FLT_ECC_COUNT_CORRECTED
    c.corrected).sramBad (seBase n + 8 * e.pc) else t.bumpBy F.FLT_ECC_COUNT_CORRECTED c.corrected) → e.illegal e.pc c =
    false → exec (.bundleIssue n b) s = .next ((u.setEng n
    { e with count := e.count + 1, open_ := true, ir := ir, badWord := c.loadBad.map (fun w => w.val), decl := c.writes.map (fun w => w.val), slots := if c.branch then 16 else 0 }).setF
    F.SE_STATUS_PC e.pc n)) ∧
  (∀ (s t : State) (n : Fin 16), s.awake → t = s.bundleEnd n → t.eventDue n → exec (.engineEventEntry n) s = .next
    (t.setEng n { t.eng n with set_ := 1, resume := (t.eng n).pc, pc := t.kernelEntry n 0 })) ∧
  (∀ (s : State) (n : Fin 16), s.awake → (s.eng n).buf.isEmpty && (s.eng n).errs.isEmpty && (s.eng n).stall == .none &&
    !s.absent n && !s.on F.SE_STATUS_FAULTED n → (s.eng n).sync = .fence → exec (.drainComplete n) s = .next (s.setEng n
    { s.eng n with sync := .none, stale := [] })) ∧
  (∀ (s : State) (n : Fin 16) (step : Nat), s.awake → (s.eng n).buf.isEmpty && (s.eng n).errs.isEmpty && (s.eng n).stall ==
    .none && !s.absent n && !s.on F.SE_STATUS_FAULTED n → (s.eng n).sync = .ckpt step → exec (.drainComplete n) s = .next
    ((s.setEng n { s.eng n with sync := .none }).setF F.SE_CKPT_STEP step n)) ∧
  (∀ (s : State) (n : Fin 16), s.awake → (s.eng n).buf.isEmpty && (s.eng n).errs.isEmpty && (s.eng n).stall == .none &&
    !s.absent n && !s.on F.SE_STATUS_FAULTED n → (s.eng n).sync = .jobend → exec (.drainComplete n) s = .next (s.jobEnd n)) ∧
  (∀ (s : State) (n : Fin 16), s.awake → (s.eng n).buf.isEmpty && (s.eng n).errs.isEmpty && (s.eng n).stall == .none &&
    !s.absent n && !s.on F.SE_STATUS_FAULTED n → (s.eng n).sync = .abort → exec (.drainComplete n) s = .next (s.abortDone
    n)) ∧
  (∀ (s : State) (n : Fin 16) (ecc : Fin 3) (xs : List LoadPart), s.awake → (s.eng n).stall = .load xs → (s.absent n ||
    s.on F.SE_STATUS_FAULTED n || (s.eng n).buf.any (fun b => b.window) || decide (s.coreCycles (s.elapsed - (s.eng
    n).stallAt) < 40 * coreUnit)) = false → exec (.windowLoadData n ecc) s = .next (xs.foldl (fun t x => t.loadWindow n ecc
    x) (s.setEng n { s.eng n with stall := .none }))) ∧
  (∀ (s : State) (n : Fin 16) (b : BufStore) (bs : List BufStore), s.awake → (s.eng n).buf = b :: bs → (s.absent n ||
    (toDoorbell b && !(s.eng n).errs.isEmpty)) = false → b.window = false → exec (.storeRetire n) s = .next (((s.setEng n
    (s.eng n).popStore).staleStore n b).writeBytes b.addr b.bytes)) ∧
  (∀ (s t u : State) (n : Fin 16) (b : BufStore) (bs : List BufStore) (v c y : Nat), s.awake → (s.eng n).buf = b :: bs →
    (s.absent n || (toDoorbell b && !(s.eng n).errs.isEmpty)) = false → b.window → v = leBytes (fun i => b.bytes.getD i 0)
    0 b.bytes.length → t = (s.setEng n (s.eng n).popStore).staleStore n b → t.access (.engine n) (2 + n) .write b.addr
    b.bytes.length v 0 = (c, y, u) → exec (.storeRetire n) s = .next (if c = 0 then u else u.setEng n
    { u.eng n with errs := (u.eng n).errs ++ [b.addr] })) ∧
  (∀ (s : State) (n : Fin 16) (a : Nat) (as : List Nat), s.awake → (s.eng n).errs = a :: as → s.on F.SE_STATUS_FAULTED n =
    false → exec (.storeErrorResponse n) s = .next ((s.setEng n { s.eng n with errs := as }).engFault n 3 a))

/-- Each operation on Lantern's caches answers the state its rule gives, on every line that its range or the whole cache holds:
  clean writes dirty lines back and keeps them, invalidate discards them, flush does both (R331 to R334); FENCE completes
  once no access of Lantern is outstanding (R325). -/
def Obligations.CacheAndFenceCommandsComplete : Prop :=
  (∀ (s : State) (a : Word) (n : Fin 1048576), s.awake → exec (.dclean a n) s = .next ((s.lcSet a.toNat).cleanIf (inRange
    a.toNat n))) ∧
  (∀ (s : State) (a : Word) (n : Fin 1048576), s.awake → exec (.dinv a n) s = .next
    ({ s with fab := { s.fab with lcAddr := a.toNat, dcache := SMap.drop (inRange a.toNat n) s.fab.dcache } })) ∧
  (∀ (s u : State) (a : Word) (n : Fin 1048576), s.awake → u = (s.lcSet a.toNat).cleanIf (inRange a.toNat n) → exec
    (.dflush a n) s = .next ({ u with fab := { u.fab with dcache := SMap.drop (inRange a.toNat n) u.fab.dcache } })) ∧
  (∀ (s : State), s.awake → exec (.dcleanAll) s = .next (s.cleanIf (fun _ => true))) ∧
  (∀ (s u : State), s.awake → u = s.cleanIf (fun _ => true) → exec (.dflushAll) s = .next
    ({ u with fab := { u.fab with dcache := [] } })) ∧
  (∀ (s : State), s.awake → exec (.icinvAll) s = .next ({ s with fab := { s.fab with icache := [] } })) ∧
  (∀ (s : State), s.awake → s.lanternBusy = false → exec (.lanternFence) s = .next
    ({ s with fab := { s.fab with rsp := SMap.set {} s.fab.rsp 0 {} } }))

/-- Where its conditions hold, each command answers the state its rules give: an access that its firewall permits waits at its
  arbitration point, through the compatibility window as at the native address (R322, R323, R507 to R509), a point grants
  and the target acts (R324, R325), and the MRAM controller reads, writes and moves a page (R336, R337, R339). -/
def Obligations.FabricCommandsComplete : Prop :=
  (∀ (s : State) (n : Initiator) (k : AccKind) (a : Word) (len : Fin 65) (x : Nat) (e : Fin 3) (p : Nat), s.awake →
    s.permitted n k a.toNat len → s.absentAt (nativeAddr a.toNat) = false → cached (iniNum n) (kindNum k) (nativeAddr
    a.toNat) = false → p = pointOf (nativeAddr a.toNat) → exec (.fabricAccess n k a len x e) s = .next (s.setWaiting p
    (s.waitingAt p ++
    [{ ini := iniNum n, cls := classOf (iniNum n) (nativeAddr a.toNat), kind := kindNum k, addr := nativeAddr a.toNat, size := len, data := x, at_ := s.elapsed, ecc := e }]))) ∧
  (∀ (s : State) (n : Initiator) (k : AccKind) (a : Fin 1048576) (x : Word) (p : Nat), s.awake → s.permitted n k
    (0x3F000000 + a) 4 → s.absentAt (nativeAddr (0x3F000000 + a)) = false → cached (iniNum n) (kindNum k) (nativeAddr
    (0x3F000000 + a)) = false → p = pointOf (nativeAddr (0x3F000000 + a)) → exec (.compatWindowAccess n k a x) s = .next
    (s.setWaiting p (s.waitingAt p ++
    [{ ini := iniNum n, cls := classOf (iniNum n) (nativeAddr (0x3F000000 + a)), kind := kindNum k, addr := nativeAddr (0x3F000000 + a), size := 4, data := x.toNat, at_ := s.elapsed, ecc := 0 }]))) ∧
  (∀ (s : State) (p : Fin 38) (r : Request), s.awake → s.nextGrant p = some r → SMap.get 0 s.fab.delayed p = 0 → s.delayFor
    p r.cls = (false, 0, s.ptb.gen) → exec (.fabricGrant p) s = .next (s.grantReq p r)) ∧
  (∀ (s t : State) (e : Fin 3) (r : Request) (code v : Nat), s.awake → s.mramNext false = some r → (s.mramDone r).memRead
    r.addr r.size e = (code, v, t) → exec (.mramRead e) s = .next (t.answer r.ini code v)) ∧
  (∀ (s : State) (r : Request), s.awake → s.mramNext true = some r → s.pageWorn r.addr = false → exec (.mramWrite) s =
    .next (((s.mramDone r).mramStore r.addr r.size r.data).answer r.ini 0 0)) ∧
  (∀ (s u : State) (p q : Nat), s.awake → s.fab.mramMove = some (p, q) → u = (s.setF F.FAB_MRAM_STATUS_BUSY 0).bump
    F.FAB_MRAM_MOVES_MOVES → exec (.mramPageMove) s = .next
    ({ u with fab := { u.fab with mramMove := none, mramMap := SMap.set 0 u.fab.mramMap p (q + 1), mramWrites := SMap.set 0 u.fab.mramWrites q (u.pageWrites q + 512) } }))

/-- Where its conditions hold, each command of a DMA channel answers the state its rules give: a doorbell joins the queue
  (R340), STOP and RESUME act (R348), a descriptor is read and checked (R343), a transfer whose turns have been taken ends
  with its result word (R344, R347), and an error found at the start or met by the transfer stops the channel (R349). -/
def Obligations.DmaCommandsComplete : Prop :=
  (∀ (s : State) (c : Fin 32) (w : Word), s.reach (regAddr .DMA_CH_DOORBELL c) → (s.dmaC c).queue.length < 4 → exec
    (.dmaDoorbell c w) s = .next (s.setDma c { s.dmaC c with queue := (s.dmaC c).queue ++ [w.toNat / 32 * 32] })) ∧
  (∀ (s : State) (c : Fin 32) (w : Word), s.reach (regAddr .DMA_CH_CTRL c) → bit (w.toNat ||| 2 ^ 31) 30 = false → s.f
    F.DMA_CH_STATUS_STOP_CAUSE c = 0 → (s.dmaC c).desc = none → exec (.dmaStop c w) s = .next ((s.setDma c
    { s.dmaC c with held := false, next := none }).dmaStopped c 1 ((s.dmaC c).next.getD 0))) ∧
  (∀ (s : State) (c : Fin 32) (w : Word), s.reach (regAddr .DMA_CH_CTRL c) → bit (w.toNat ||| 2 ^ 31) 30 = false → s.f
    F.DMA_CH_STATUS_STOP_CAUSE c = 0 → (s.dmaC c).desc ≠ none → exec (.dmaStop c w) s = .next (s.setDma c
    { s.dmaC c with stopReq := true })) ∧
  (∀ (s u : State) (c : Fin 32) (w : Word) (d : Nat), s.reach (regAddr .DMA_CH_CTRL c) → bit (w.toNat ||| 2 ^ 30) 31 =
    false → s.f F.DMA_CH_STATUS_STOP_CAUSE c = 1 ∨ s.f F.DMA_CH_STATUS_STOP_CAUSE c = 3 → d = s.f F.DMA_CH_DESC_ADDR c → u
    = s.setDma c { s.dmaC c with next := if d = 0 then none else some d } → exec (.dmaResume c w) s = .next ((u.setF
    F.DMA_CH_STATUS_STOPPED 0 c).setF F.DMA_CH_STATUS_STOP_CAUSE 0 c)) ∧
  (∀ (s u : State) (c : Fin 32) (bad : Bool) (a code err : Nat) (ws : List Nat), s.awake → s.dmaNext c = some a →
    s.dmaReady c → s.dmaWords c a (if bad then 2 else 0) 7 = (code, ws, u) → err = (if code ≠ 0 then dmaCode code else if
    dInvalid ws then 3 else if dNarrow ws then 4 else 0) → exec (.dmaDescriptorStart c bad) s = .next ((u.setDma c
    { s.dmaC c with queue := if (s.dmaC c).next.isSome then (s.dmaC c).queue else (s.dmaC c).queue.drop 1, next := none, desc := some ws, err := err, got := [], units := 0, writes := 0, written := 0 }).setF
    F.DMA_CH_DESC_ADDR a c)) ∧
  (∀ (s t u v : State) (c : Fin 32) (ws : List Nat), s.awake → (s.dmaC c).desc = some ws → t = State.dmaFinish c none
    (s.dmaTurns c) s → (t.dmaC c).err = 0 → t.dmaW7 c ws (t.dmaC c).written = (0, v) → u = (if bit (dW ws 0) 29 then
    (v.bump F.DMA_CH_COUNT_DESCRIPTORS c).pulse (416 + c) else v.bump F.DMA_CH_COUNT_DESCRIPTORS c) → exec
    (.dmaDescriptorEnd c) s = .next (u.dmaAfter c ws)) ∧
  (∀ (s t : State) (c : Fin 32) (bad : Option Nat) (ws : List Nat), s.awake → (s.dmaC c).desc = some ws → t =
    State.dmaFinish c bad (s.dmaTurns c) s → (t.dmaC c).err ≠ 0 → exec (.dmaError c bad) s = .next (t.dmaFail c (t.dmaC
    c).err (t.dmaC c).written))

/-- Where its conditions hold, each command of the event concentrator answers the state its rules give: a pulse source pulses
  and a level source asserts or falls (R352), lines are enabled (R353, R511), claimed (R357), completed (R358), held back
  for all targets (R360), set by software (R361) and cleared in the alert target (R363). -/
def Obligations.EventCommandsComplete : Prop :=
  (∀ (s : State) (l : Fin 1024), s.awake → pulseLine l → exec (.eventPulse l) s = .next (s.pulse l)) ∧
  (∀ (s : State) (l : Fin 1024), s.awake → levelLine l → exec (.eventLevelAssert l) s = .next (s.followLine l true)) ∧
  (∀ (s : State) (l : Fin 1024), s.awake → levelLine l → exec (.eventLevelDeassert l) s = .next (s.followLine l false)) ∧
  (∀ (s u : State) (t : Fin 23) (wd : Fin 32) (w : Word), s.reach (regAddr .EVC_EN t wd) → u = s.writeReg .EVC_EN (if
    wd.val = 31 then w.toNat % 2 ^ 31 else w.toNat) t wd → (∀ b < 32, bit (u.f F.EVC_EN_EN t wd) b → bit (s.f F.EVC_EN_EN t
    wd) b = false → u.asserted (32 * wd + b) = false) → exec (.eventEnableWrite t wd w) s = .next (u.actAgain t)) ∧
  (∀ (s : State) (l : Nat), s.reach (regAddr .EVC_CLAIM) → s.bestLine (s.deliverable 0) = some l → exec (.eventClaim) s =
    .next (((((s.clrB F.EVC_PEND_PEND (l % 32) 0 (l / 32)).setSvc 0 l true).setF F.EVC_TGT_STATUS_LAST_CLAIM l
    0).evalTarget 0).answer 0 0 l)) ∧
  (∀ (s : State) (w : Word) (l : Nat), s.reach (regAddr .EVC_COMPLETE) → bits w.toNat 0 10 = l → s.evSvc 0 l → (s.setSvc 0
    l false).asserted l = false → exec (.eventComplete w) s = .next ((s.setSvc 0 l false).evalTarget 0)) ∧
  (∀ (s : State) (w : Word) (l : Nat), s.reach (regAddr .EVC_COMPLETE) → bits w.toNat 0 10 = l → s.evSvc 0 l → (s.setSvc 0
    l false).asserted l → exec (.eventComplete w) s = .next ((State.levelTo l (s.setSvc 0 l false) 0).evalTarget 0)) ∧
  (∀ (s : State) (w : Word), s.reach (regAddr .EVC_CTRL) → exec (.gdisWrite w) s = .next ((List.range 22).foldl
    State.actAgain (s.writeReg .EVC_CTRL w.toNat))) ∧
  (∀ (s : State) (w : Word) (l : Nat), s.reach (regAddr .EVC_SWSET) → bits w.toNat 0 10 = l → 512 ≤ l → l ≤ 1022 → exec
    (.softwareLineSet w) s = .next (s.pulse l)) ∧
  (∀ (s : State) (w : Word) (l : Nat), s.reach (regAddr .EVC_ALERT_CLR) → bits w.toNat 0 10 = l → (s.clrB F.EVC_PEND_PEND
    (l % 32) 22 (l / 32)).asserted l = false → exec (.alertClear w) s = .next (s.clrB F.EVC_PEND_PEND (l % 32) 22 (l /
    32)))

/-- Where its conditions hold, each command of the housekeeping converters and of the PWM generators answers the state its
  rules give: a converter is enabled and calibrates (R372), a regular and an injected trigger start a pass and a conversion
  (R368 to R371), conversions complete (R367, R370, R374), calibrations fall due and end (R372, R373), and a generator's
  edge and period end (R378). -/
def Obligations.HousekeepingCommandsComplete : Prop :=
  (∀ (s : State) (k : Fin 2) (w : Word) (u : State), s.reach (regAddr .HKA_CTRL k) → s.on F.HKA_CTRL_EN k = false → bit
    (forceBits w.toNat (2 ^ 31)) 30 = false → bit (forceBits w.toNat (2 ^ 31)) 29 = false → bit (forceBits w.toNat (2 ^
    31)) 28 = false → u = s.writeReg .HKA_CTRL (forceBits w.toNat (2 ^ 31)) k → exec (.hkEnable k w) s = .next (u.hkBegin
    k)) ∧
  (∀ (s u : State) (k : Fin 2) (w : Word), s.reach (regAddr .HKA_CTRL k) → bit w.toNat 31 → bit w.toNat 30 = false → bit
    w.toNat 29 = false → s.on F.HKA_CTRL_EN k → u = s.writeReg .HKA_CTRL (forceBits w.toNat (2 ^ 28)) k → u.f
    F.HKA_CTRL_TRIG k = 0 → u.hkOn k → (u.hkC k).pass = false → (u.hkC k).regWait = false → exec (.seqGo k w) s = .next
    ((u.setHk k { u.hkC k with regWait := true }).hkNext k)) ∧
  (∀ (s u : State) (k : Fin 2) (w : Word), s.reach (regAddr .HKA_CTRL k) → bit w.toNat 31 → bit w.toNat 30 = false → bit
    w.toNat 28 = false → s.on F.HKA_CTRL_EN k → u = s.writeReg .HKA_CTRL (forceBits w.toNat (2 ^ 29)) k → u.on
    F.HKA_INJ_ITRIG k = false → u.hkOn k → (u.hkC k).occ = false → u.f F.HKA_INJ_ICH k ≠ 31 → exec (.injGo k w) s = .next
    ((u.setHk k { u.hkC k with occ := true }).hkNext k)) ∧
  (∀ (s u : State) (k : Fin 2) (w : Word), s.reach (regAddr .HKA_CTRL k) → bit w.toNat 31 → bit w.toNat 29 = false → bit
    w.toNat 28 = false → s.on F.HKA_CTRL_EN k → u = s.writeReg .HKA_CTRL (forceBits w.toNat (2 ^ 30)) k → u.hkOn k → (u.hkC
    k).cal = false → exec (.calGo k w) s = .next ((u.setHk k { u.hkC k with calWait := true }).hkNext k)) ∧
  (∀ (s : State) (k : Fin 2) (t : Nat), s.awake → s.hkOn k → s.f F.HKA_CTRL_TRIG k = 1 → (s.hkC k).timer = some t → t ≤
    s.el25 → exec (.hkTriggerTimer k) s = .next ((s.setHk k
    { s.hkC k with timer := some (t + us25 (s.f F.HKA_TRIG_PERIOD_US k)) }).hkRegTrig k)) ∧
  (∀ (s : State) (k : Fin 2) (t : Nat) (ts : List Nat), s.awake → s.hkOn k → s.f F.HKA_CTRL_TRIG k = 2 → (s.hkC k).regDelay
    = t :: ts → t ≤ s.el25 → exec (.hkTriggerTimer k) s = .next ((s.setHk k { s.hkC k with regDelay := ts }).hkRegTrig k)) ∧
  (∀ (s : State) (k : Fin 2) (t : Nat) (ts : List Nat), s.awake → s.hkOn k → (s.hkC k).injDelay = t :: ts → t ≤ s.el25 →
    exec (.hkInjTriggerTimer k) s = .next ((s.setHk k { s.hkC k with injDelay := ts }).hkInjTrig k)) ∧
  (∀ (s u v : State) (k : Fin 2) (c d : Fin 4096) (o : Bool), s.awake → (s.hkC k).conv → (s.hkC k).due ≤ s.el25 → s.hkOn k
    → o = s.owOpen k (s.hkC k).cfg c d → u = (((s.setF F.HKA_RESULT_VALID 1 k (s.hkC k).entry).setF F.HKA_RESULT_OPEN (b2n
    o) k (s.hkC k).entry).setF F.HKA_RESULT_PASS ((s.f F.HKA_STATUS_PASSES k + passBase) % 256) k (s.hkC k).entry).setF
    F.HKA_RESULT_CODE (owCode (s.hkC k).cfg c d) k (s.hkC k).entry → v = u.owReport k (s.hkC k).cfg o → (s.hkC k).entry <
    s.f F.HKA_CTRL_LEN k → exec (.conversionComplete k c d) s = .next ((v.setHk k
    { s.hkC k with conv := false, entry := (s.hkC k).entry + 1 }).hkNext k)) ∧
  (∀ (s u v : State) (k : Fin 2) (c d : Fin 4096) (o : Bool), s.awake → (s.hkC k).conv → (s.hkC k).due ≤ s.el25 → s.hkOn k
    → o = s.owOpen k (s.hkC k).cfg c d → u = (((s.setF F.HKA_RESULT_VALID 1 k (s.hkC k).entry).setF F.HKA_RESULT_OPEN (b2n
    o) k (s.hkC k).entry).setF F.HKA_RESULT_PASS ((s.f F.HKA_STATUS_PASSES k + passBase) % 256) k (s.hkC k).entry).setF
    F.HKA_RESULT_CODE (owCode (s.hkC k).cfg c d) k (s.hkC k).entry → v = u.owReport k (s.hkC k).cfg o → ¬(s.hkC k).entry <
    s.f F.HKA_CTRL_LEN k → exec (.conversionComplete k c d) s = .next ((((v.setHk k
    { s.hkC k with conv := false, pass := false, entry := 0 }).setF F.HKA_STATUS_PASSES ((s.f F.HKA_STATUS_PASSES k + 1) %
    65536) k).pulse (hkLine k 0)).hkNext k)) ∧
  (∀ (s : State) (k : Fin 2) (c d x : Fin 4096) (o : Bool), s.awake → (s.hkC k).inj → (s.hkC k).due ≤ s.el25 → s.hkOn k →
    (s.hkC k).xchk = false → o = s.owOpen k (s.hkC k).injCfg c d → exec (.injectedComplete k c d x) s = .next (((s.injWrite
    k (owCode (s.hkC k).injCfg c d) o).owReport k (s.hkC k).injCfg o).hkNext k)) ∧
  (∀ (s : State) (c d x : Fin 4096), s.awake → (s.hkC 0).inj → (s.hkC 0).due ≤ s.el25 → s.hkOn 0 → (s.hkC 0).xchk → exec
    (.injectedComplete 0 c d x) s = .next (s.crossEnd c x)) ∧
  (∀ (s : State) (k : Fin 2) (t : Nat), s.awake → (s.hkC k).calTimer = some t → t ≤ s.el25 → s.f F.HKA_CAL_PERIOD_MS k ≠ 0
    → s.hkOn k → exec (.hkCalTimer k) s = .next ((s.setHk k
    { s.hkC k with calTimer := some (s.el25 + us25 (1000 * s.f F.HKA_CAL_PERIOD_MS k)) }).hkCalReq k)) ∧
  (∀ (s : State) (k : Fin 2), s.awake → (s.hkC k).cal → (s.hkC k).due ≤ s.el25 → exec (.hkCalEnd k true) s = .next
    ((((s.setHk k { s.hkC k with cal := false }).pulse (hkLine k 2)).hkNext k).hkNext (1 - k))) ∧
  (∀ (s : State) (k : Fin 2), s.awake → (s.hkC k).cal → (s.hkC k).due ≤ s.el25 → exec (.hkCalEnd k false) s = .next
    (((((((s.setHk k { s.hkC k with cal := false }).pulse (hkLine k 2)).setF F.HKA_CAL_FAIL 1 k).ledger 0x2B k).hkNext
    k).hkNext (1 - k)))) ∧
  (∀ (s : State) (n : Fin 8) (v : Bool), s.awake → (s.pwmG n).run → v = decide (s.pwmCount n < (s.pwmG n).duty) → v ≠
    (s.pwmG n).level → s.absent 20 = false → exec (.pwmEdge n) s = .next (((s.setPwm n
    { s.pwmG n with level := v }).pwmTrigger n v 0).pwmTrigger n v 1)) ∧
  (∀ (s : State) (n : Fin 8), s.awake → (s.pwmG n).run → (s.pwmG n).period < s.pwmCount n → s.absent 20 = false → s.on
    F.PWM_CTRL_EN n → exec (.pwmPeriodEnd n) s = .next ((s.setPwm n
    { s.pwmG n with start := (s.pwmG n).start + ((s.pwmG n).period + 1) * s.pwmUnit n, period := s.f F.PWM_PERIOD_PERIOD n, duty := s.f F.PWM_DUTY_DUTY n, hiz := false }).pulse
    (32 + n))) ∧
  (∀ (s : State) (n : Fin 8), s.awake → (s.pwmG n).run → (s.pwmG n).period < s.pwmCount n → s.absent 20 = false → s.on
    F.PWM_CTRL_EN n = false → exec (.pwmPeriodEnd n) s = .next ((s.setPwm n {}).pulse (32 + n)))

/-- Where its conditions hold, each command of the clocks answers the state its rules give: the PLLs are started, lock and lose
  lock (R381, R400), an edge on SYNC_IN is captured or missed (R388), a slew step is taken (R390), a one-shot load steps
  the counter (R391, R392), the discipline holds over (R393), CLKOUT changes (R396), and REFCLK or the crystal is lost
  (R401, R402). -/
def Obligations.ClockCommandsComplete : Prop :=
  (∀ (s : State) (w : Word), s.reach (regAddr .CLK_CFG) → exec (.pllStart w) s = .next (s.writeReg .CLK_CFG (w.toNat ||| 2
    ^ 31))) ∧
  (∀ (s : State), s.awake → s.on F.CLK_CFG_PLL_EN → exec (.pllLock .ref) s = .next (State.leaveBypass
    { (s.setF F.CLK_STATUS_LOCK_REF 1) with clk := { s.clk with run := true } })) ∧
  (∀ (s : State), s.awake → s.on F.CLK_CFG_PLL_EN → exec (.pllLock .sys) s = .next ((s.setF F.CLK_STATUS_LOCK_SYS
    1).leaveBypass)) ∧
  (∀ (s : State), s.awake → s.on F.CLK_CFG_PLL_EN → exec (.pllLock .core) s = .next ((s.setF F.CLK_STATUS_LOCK_CORE
    1).leaveBypass)) ∧
  (∀ (s : State) (p : Fin 4), s.awake → s.on F.CLK_CFG_PLL_EN → exec (.pllLock (.lane p)) s = .next ((s.setB
    F.CLK_STATUS_LOCK_LPLL p).leaveBypass)) ∧
  (∀ (s : State) (m : Fin 4), s.awake → s.on F.RFC_LOS_CTRL_EN m → s.f F.RFC_LOS_STATUS_FREQ_IN_EFFECT m ≠ 0 → (s.synth
    m).relock = false → exec (.pllLock (.lo m)) s = .next ((s.setF F.RFC_LOS_STATUS_LOCKED 1 m).setSynth m
    { s.synth m with lockedAt := s.elapsed })) ∧
  (∀ (s : State), s.awake → exec (.pllLockLoss .ref) s = .next (s.setF F.CLK_STATUS_LOCK_REF 0)) ∧
  (∀ (s : State), s.awake → exec (.pllLockLoss .sys) s = .next (s.setF F.CLK_STATUS_LOCK_SYS 0)) ∧
  (∀ (s : State), s.awake → exec (.pllLockLoss .core) s = .next (s.setF F.CLK_STATUS_LOCK_CORE 0)) ∧
  (∀ (s : State) (p : Fin 4), s.awake → exec (.pllLockLoss (.lane p)) s = .next (s.clrB F.CLK_STATUS_LOCK_LPLL p)) ∧
  (∀ (s : State) (m : Fin 4), s.awake → exec (.pllLockLoss (.lo m)) s = .next (s.setF F.RFC_LOS_STATUS_LOCKED 0 m)) ∧
  (∀ (s : State) (r : Bool) (x : Fin 64), s.asleep = false → (s.edgeCapture x).power.entry < 2 → r ≠ s.on
    F.CLK_SYNC_CFG_EDGE → s.f F.CLK_SYNC_CFG_MODE = 1 → s.clk.oneShot = false → exec (.syncEdge r x) s = .next
    (s.edgeCapture x)) ∧
  (∀ (s : State) (r : Bool) (x : Fin 64), s.asleep = false → r ≠ s.on F.CLK_SYNC_CFG_EDGE → s.f F.CLK_SYNC_CFG_MODE = 1 →
    s.clk.oneShot → ((s.edgeCapture x).edgeLoad x).power.entry < 2 → exec (.syncEdge r x) s = .next ((s.edgeCapture
    x).edgeLoad x)) ∧
  (∀ (s : State) (t : Nat), s.awake → s.f F.CLK_SYNC_CFG_MODE = 2 → s.f F.CLK_SYNC_PHASE_PHASE < s.f
    F.CLK_SYNC_PERIOD_PERIOD → t = s.nextExpected → t + s.f F.CLK_SYNC_CFG_WIN < s.now → exec (.syncMissed) s = .next
    ((State.bump { s with clk := { s.clk with seen := some t } } F.CLK_DISC_COUNT_MISSED).pulse 41)) ∧
  (∀ (s : State), s.awake → s.stepDue → s.clk.target < 0 → exec (.slewStep) s = .next
    ({ (s.setF F.CLK_SLEW_TOTAL_STEPS (trunc 32 (sext 32 (s.f F.CLK_SLEW_TOTAL_STEPS) + 1))) with clk := { s.clk with target := s.clk.target + 1, lastStep := some s.elapsed } })) ∧
  (∀ (s : State), s.awake → s.stepDue → ¬s.clk.target < 0 → exec (.slewStep) s = .next
    ({ (s.setF F.CLK_SLEW_TOTAL_STEPS (trunc 32 (sext 32 (s.f F.CLK_SLEW_TOTAL_STEPS) + -1))) with clk := { s.clk with target := s.clk.target + -1, lastStep := some s.elapsed } })) ∧
  (∀ (s : State), s.awake → s.f F.CLK_DISC_STATUS_STATE = 1 ∨ s.f F.CLK_DISC_STATUS_STATE = 2 → s.clk.lastMeas + s.f
    F.CLK_DISC_LIMITS_HOLD_MS * msTicks ≤ s.elapsed → exec (.holdover) s = .next (((State.setF
    { s with clk := { s.clk with good := 0 } } F.CLK_DISC_STATUS_STATE 3).ledger 0x2F (s.f F.CLK_DISC_CFG_SRC)).pulse 44)) ∧
  (∀ (s u : State) (w : Word), s.reach (regAddr .CLK_CLKOUT_CFG) → u = s.writeReg .CLK_CLKOUT_CFG w.toNat → u.clk.outSrc =
    0 → exec (.clkoutCfgWrite w) s = .next (u.outTake)) ∧
  (∀ (s : State), exec (.refclkLoss) s = .next
    ({ s with regs := undefinedRegs (SMap.drop (fun k => !keepsAo k) s.regs) (Config.freeRegs s.free), free := s.free + 1, clk := { s.clk with lost := true } })) ∧
  (∀ (s : State), exec (.crystalStop) s = .next ({ s with clk := { s.clk with xtal := false } }))

/-- Where its conditions hold, each command answers the state its rules give: a level is asked for (R428, R429), the regulator
  reports, is late or fails (R429, R430), the loop takes an interval (R431, R432), a wake source acts (R411, R420), the
  timer matches (R420), a moderation timer expires (R355), and the receive direction of a lane leaves low-power idle (R287,
  R288). -/
def Obligations.SupplyAndWakeCommandsComplete : Prop :=
  (∀ (s u v : State) (w : Word), s.reach (regAddr .PWR_PERF) → u = s.writeReg .PWR_PERF w.toNat → u.power.entry < 2 →
    u.asleep = false → u.on F.PWR_PERF_BUSY = false → u.avsSettled → u.f F.PWR_PERF_REQ ≠ u.f F.PWR_PERF_IN_EFFECT → v =
    (if u.f F.PWR_PERF_IN_EFFECT < u.f F.PWR_PERF_REQ then ((u.setF F.PWR_PERF_BUSY 1).unsettle).switchClocks (u.f
    F.PWR_PERF_REQ) else (u.setF F.PWR_PERF_BUSY 1).unsettle) → v.avsDriven = false → exec (.perfLevelRequest w) s = .next
    ((v.switchClocks (u.f F.PWR_PERF_REQ)).levelEnd)) ∧
  (∀ (s u : State) (l : Nat), s.awake → s.power.levelTo = some l → u = (if s.f F.PWR_PERF_IN_EFFECT = l then s else
    s.switchClocks l) → exec (.avsTargetReached) s = .next
    ({ (u.setF F.PWR_PERF_BUSY 0) with power := { u.power with levelTo := none, loopAt := u.elapsed } }.pulse 6)) ∧
  (∀ (s : State) (l : Nat), s.awake → s.power.levelTo = some l → us25 4000 ≤ (s.elapsed - s.power.avsAt) * 25 → exec
    (.avsTimeout) s = .next (s.levelEnd.ledger 0x32 (s.f F.PWR_AVS_CFG_RAIL_CORE))) ∧
  (∀ (s : State) (r : Fin 16), s.awake → s.on F.PWR_AVS_CFG_EN → exec (.avsBusError r) s = .next (((s.setF
    F.PWR_AVS_STATUS_BUS_ERR 1).ledger 0x32 r).pulse 9)) ∧
  (∀ (s t u : State) (m : Fin 64), s.awake → s.on F.PWR_AVS_CFG_LOOP_EN → s.on F.PWR_PERF_BUSY = false → s.power.loopWait =
    false → s.loopDue → t = { s with power := { s.power with loopAt := s.elapsed } } → m.val < s.f F.PWR_AVS_LOOP_TARGET →
    (t.setF F.PWR_AVS_STATUS_MARGIN m).trimStep 1 = some u → exec (.avsLoopInterval m) s = .next ((u.setF
    F.PWR_AVS_STATUS_AT_LIMIT 0).setF F.PWR_AVS_STATUS_SETTLED 0)) ∧
  (∀ (s t : State) (m : Fin 64), s.awake → s.on F.PWR_AVS_CFG_LOOP_EN → s.on F.PWR_PERF_BUSY = false → s.power.loopWait =
    false → s.loopDue → t = { s with power := { s.power with loopAt := s.elapsed } } → ¬m.val < s.f F.PWR_AVS_LOOP_TARGET →
    ¬s.f F.PWR_AVS_LOOP_TARGET + s.f F.PWR_AVS_LOOP_HYST < m.val → exec (.avsLoopInterval m) s = .next (((t.setF
    F.PWR_AVS_STATUS_MARGIN m).setF F.PWR_AVS_STATUS_AT_LIMIT 0).quietInterval)) ∧
  (∀ (s : State) (n : Fin 6), bit (s.f F.PWR_WAKE_EN_EN) n → s.clk.xtal → s.asleep → s.power.entry < 2 → actsIn n (if
    s.power.st = .dusk then 2 else 3) → s.power.waking = false → exec (.wakeEvent n) s = .next
    ({ s with power := { s.power with latched := setBit 0 n, latchAt := s.aoPeriod, waking := true, attempt := 1, tryAt := s.elapsed } })) ∧
  (∀ (s : State) (n : Fin 6), bit (s.f F.PWR_WAKE_EN_EN) n → s.clk.xtal → 2 ≤ s.power.entry → actsIn n s.power.entry → exec
    (.wakeEvent n) s = .next (s.refuseEntry 1 n)) ∧
  (∀ (s : State), s.f F.PWR_TIMER_COUNT = s.f F.PWR_TIMER_CMP_CMP → s.power.matched = false → s.clk.xtal → s.asleep = false
    → exec (.pwrTimerMatch) s = .next ((State.pulse { s with power := { s.power with matched := true } } 10).wakeEvent 0)) ∧
  (∀ (s u : State) (t : Fin 17), s.modOver t → s.asleep = false → t.val ≠ 0 → u = ((s.setModT t { met := true }).setF
    F.EVC_TGT_STATUS_TIMER_RUN 0 t).setF F.EVC_TGT_STATUS_SLOW 0 t → exec (.moderationTimerExpiry t) s = .next
    (u.evalTarget t)) ∧
  (∀ (s : State) (l : Fin 16), s.ready? l → s.rxLpi l → exec (.rxLpiExit l) s = .next ((((s.setF F.LANE_STATE_RX_LPI 0 (l /
    4) (l % 4)).setLane l { s.lane l with rxWake := some s.el25 }).eqResume l).wakeEvent 3))

/-- Where its conditions hold, each command answers the state its rules give: a state is asked for (R407), WFI begins an entry
  whose first checks pass (R408, R409), a check that runs out of time refuses it (R350, R409), the switches open (R409,
  R411), the wake completes or a step of it fails (R416 to R424), and the hold and the failure are released (R418, R424). -/
def Obligations.PowerEntryAndWakeCommandsComplete : Prop :=
  (∀ (s : State) (w : Word), s.reach (regAddr .PWR_MODE) → bits w.toNat 0 2 ≠ 2 ∨ Nat.land (s.f F.PWR_WAKE_EN_EN)
    duskSources ≠ 0 → bits w.toNat 0 2 ≠ 3 ∨ Nat.land (s.f F.PWR_WAKE_EN_EN) darkSources ≠ 0 → exec (.powerModeWrite w) s =
    .next (s.writeReg .PWR_MODE w.toNat)) ∧
  (∀ (s u : State), s.awake → s.power.entry = 0 → s.power.st = .bright → s.boot.lanternHeld = false → s.f F.PWR_MODE_MODE =
    2 ∨ s.f F.PWR_MODE_MODE = 3 → u =
    { s with power := { s.power with entry := s.f F.PWR_MODE_MODE, passed := 0, at_ := s.elapsed, wfi := true } } →
    u.firstChecks (s.f F.PWR_MODE_MODE) = none → exec (.wfi) s = .next
    ({ u with power := { u.power with passed := 5, at_ := u.elapsed } }.dmaHold)) ∧
  (∀ (s : State), s.awake → s.power.entry = 0 → s.power.st = .bright → s.boot.lanternHeld = false → s.f F.PWR_MODE_MODE = 0
    → s.on F.EVC_TGT_STATUS_PRESENTED 0 = false → exec (.wfi) s = .next ({ s with power := { s.power with wfi := true } })) ∧
  (∀ (s u : State) (c : Nat), s.awake → u = s.entryPoll → u.dmaBusy = some c → 2 ≤ u.power.entry → u.power.passed = 5 →
    us25 50 ≤ u.checkAge → exec (.dmaQuiesceTimeout) s = .next (u.refuseEntry 3 c)) ∧
  (∀ (s u : State) (p : Nat), s.awake → u = s.entryPoll → (List.range 4).find? u.portBusy = some p → 2 ≤ u.power.entry →
    u.power.passed = 6 → us25 20 ≤ u.checkAge → exec (.linkIdleTimeout) s = .next (u.refuseEntry 4 p)) ∧
  (∀ (s u : State) (b : Fin 256), s.awake → u = s.entryPoll → 2 ≤ u.power.entry → u.power.passed = 7 → cyc25 256
    (u.blockClk b) ≤ u.checkAge → exec (.busIdleTimeout b) s = .next (u.refuseEntry 2 b)) ∧
  (∀ (s u : State), s.awake → u = s.entryPoll → 2 ≤ u.power.entry → u.power.passed = 7 → u.fab.waiting = [] → u.fab.mramQ =
    [] → exec (.powerSwitchesOpen) s = .next (u.sleep)) ∧
  (∀ (s : State) (b : Fin 65536), s.asleep → s.power.waking → s.clk.xtal → s.power.latchAt < s.aoPeriod → exec
    (.wakeComplete b) s = .next (s.wake b)) ∧
  (∀ (s : State) (x : Fin 8), s.asleep → s.power.waking → s.clk.xtal → s.power.latchAt < s.aoPeriod → s.power.attempt < 3 →
    s.stepExceeded x → exec (.wakeStepTimeout x) s = .next
    ({ s with power := { s.power with attempt := s.power.attempt + 1, tryAt := s.elapsed } })) ∧
  (∀ (s : State) (w : Word), s.reach (regAddr .PWR_WAKE_STATUS) → bit (w.toNat ||| 2 ^ 30) 31 = false ∨ s.on
    F.PWR_WAKE_STATUS_WAKE_FAIL_SEEN = false → exec (.holdRelease w) s = .next ((s.setF F.PWR_WAKE_STATUS_BANK_FAIL (s.f
    F.PWR_WAKE_STATUS_BANK_FAIL - Nat.land (s.f F.PWR_WAKE_STATUS_BANK_FAIL) (bits (w.toNat ||| 2 ^ 30) 0 16))).endHold)) ∧
  (∀ (s u : State) (w : Word), s.reach (regAddr .PWR_WAKE_STATUS) → s.on F.PWR_WAKE_STATUS_WAKE_FAIL_SEEN → bit (w.toNat
    ||| 2 ^ 31) 30 = false → u = s.setF F.PWR_WAKE_STATUS_BANK_FAIL (s.f F.PWR_WAKE_STATUS_BANK_FAIL - Nat.land (s.f
    F.PWR_WAKE_STATUS_BANK_FAIL) (bits (w.toNat ||| 2 ^ 31) 0 16)) → exec (.wakeFailAck w) s = .next
    ({ (u.setF F.PWR_WAKE_STATUS_WAKE_FAIL_SEEN 0) with power := { u.power with alertHold := false } }))

/-- Where its conditions hold, each command answers the state its rules give: the start tries image A, then image B, and runs
  the first that succeeds or fails the boot (R442, R445, R446), or halts (R441), a RELOAD checks and applies its image and
  ends the hold if nothing failed (R458), and the seal is set by a write or at its deadline (R454, R455). -/
def Obligations.BootAndSealCommandsComplete : Prop :=
  (∀ (s u v : State) (found : Bool) (half : FlashPart) (a b : FlashImage) (t r : Tried), s.inReset = false → s.asleep =
    false → s.romRuns → s.boot.lanternHeld = false → u = s.noteWakeFail.setF F.SYS_BOOT_STATUS_BOOT_SEL 0 → t = u.tryImage
    a (FlashPart.half half) found → v = (t.s.failNote false t).undo u → r = v.tryImage b (FlashPart.half half) true → exec
    (.bootSequence 0 found half a b) s = .next (if t.code = 0 then t.s.bootDone false a false else if r.code = 0 then
    r.s.bootDone true b true else ((r.s.failNote true r).undo v).bootFailed)) ∧
  (∀ (s u : State) (found : Bool) (half : FlashPart) (a b : FlashImage), s.inReset = false → s.asleep = false → s.romRuns →
    s.boot.lanternHeld = false → u = s.noteWakeFail.setF F.SYS_BOOT_STATUS_BOOT_SEL 3 → exec (.bootSequence 3 found half a
    b) s = .next (((u.setF F.SYS_BOOT_STATUS_FAIL_A 0x0C).setF F.SYS_BOOT_STATUS_FAIL_B 0x0C).lockDown 2)) ∧
  (∀ (s t : State) (x : FlashImage) (c : Nat) (r : BootRun), s.held → s.asleep = false → s.inReset = false →
    s.boot.lanternHeld = false → s.f F.SYS_BOOT_STATUS_STATE = 1 → t = (if x.imageLate then s else s.stage x) → c =
    s.reloadCode x → r = (if c = 0 then BootRun.sections { s := t, polls := x.polls } x true else { s := t, code := c }) →
    exec (.reload x) s = .next (if r.code = 0 then { r.s.endHold with boot := { r.s.endHold.boot with reload := 0 } } else
    { r.s with boot := { r.s.boot with reload := r.code } })) ∧
  (∀ (s : State) (w : Word), s.reach (regAddr .SYS_SEAL) → exec (.sealWrite w) s = .next (s.sealSet)) ∧
  (∀ (s : State) (t : Nat), s.awake → s.boot.sealAt = some t → t ≤ s.elapsed → exec (.sealForced) s = .next
    ((s.sealSet.setF F.SYS_SEAL_FORCED 1).ledger 0x34 0))

/-- Where its conditions hold, each command answers the state its rules give: a key fuse is programmed and its programming ends
  (R461), an entry is acknowledged (R465), the mailbox rings (R478), the perturbation block is enabled and disabled and its
  injectors hold and release (R480 to R482), a domain is reset and returns (R474), and the whole device is reset (R438,
  R440, R495, R496). -/
def Obligations.FaultAndResetCommandsComplete : Prop :=
  (∀ (s u : State) (w : Word), s.reach (regAddr .FUSE_KEY_PROG) → s.keyFuseOk (bits (w.toNat ||| 2 ^ 31) 0 10) → u =
    ((s.writeReg .FUSE_KEY_PROG (w.toNat ||| 2 ^ 31)).setF F.FUSE_KEY_PROG_ERR 0).setF F.FUSE_KEY_PROG_BUSY 1 → exec
    (.keyFuseProgram w) s = .next ({ u with radio := { u.radio with keyBit := bits (w.toNat ||| 2 ^ 31) 0 10 } })) ∧
  (∀ (s : State), s.on F.FUSE_KEY_PROG_BUSY → exec (.fuseProgramDone true) s = .next ((s.setF F.FUSE_KEY_PROG_BUSY
    0).blowKey s.radio.keyBit)) ∧
  (∀ (s : State), s.on F.FUSE_REG_PROG_BUSY → exec (.fuseProgramDone false) s = .next ((s.setF F.FUSE_REG_PROG_BUSY
    0).blowReg s.radio.fuseBit)) ∧
  (∀ (s : State) (w : Word) (x : LedgerEntry), s.reach (regAddr .FLT_ACK) → x ∈ s.faults.entries → x.seq = bits w.toNat 0
    16 → exec (.ledgerAck w) s = .next
    ({ s with faults := { s.faults with entries := s.faults.entries.filter (fun e => e.seq != bits w.toNat 0 16), fresh := 0 } }.ledgerLines)) ∧
  (∀ (s : State) (w : Word), s.reach (regAddr .FLT_MBOX_DOOR) → 512 ≤ s.f F.FLT_MBOX_CFG_LINE → s.f F.FLT_MBOX_CFG_LINE ≤
    1022 → exec (.mailboxDoor w) s = .next (s.pulse (s.f F.FLT_MBOX_CFG_LINE))) ∧
  (∀ (s u : State) (w : Word), s.reach (regAddr .PTB_CTRL) → bits (w.toNat ||| 2 ^ 31) 16 8 = 0x3C → s.on F.PTB_CTRL_EN =
    false → u = ((s.setF F.PTB_CTRL_EN 1).setF F.FLT_STATUS_PTB_ON 1).ledger 0x36 (w.toNat ||| 2 ^ 31) → exec (.ptbEnable
    w) s = .next ({ u with ptb := { u.ptb with gen := s.f F.PTB_SEED_SEED, since := s.elapsed } })) ∧
  (∀ (s : State) (w : Word), s.reach (regAddr .PTB_CTRL) → exec (.ptbDisable w) s = .next ((s.setF F.PTB_CTRL_EN 0).setF
    F.FLT_STATUS_PTB_ON 0)) ∧
  (∀ (s : State) (b : Fin 4), s.awake → s.bpOn b → s.bpPeriod b → s.f F.PTB_BP_HOLD b ≠ 0 → SMap.get 0 s.ptb.holds b = 0 →
    exec (.bpHoldStart b) s = .next
    ({ s with ptb := { s.ptb with holds := SMap.set 0 s.ptb.holds b ((s.el25 + 1) * 1024 + s.f F.PTB_BP_KIND b * 512 + s.f F.PTB_BP_TARGET b) } })) ∧
  (∀ (s u : State) (b : Fin 4), s.awake → s.bpOver b → u =
    { s with ptb := { s.ptb with holds := SMap.set 0 s.ptb.holds b 0 } } → exec (.bpHoldEnd b) s = .next ((List.range
    4).foldl (State.releaseHeld (fun h => !u.bpHeld 1 h.flow)) u)) ∧
  (∀ (s u v : State) (w : Word) (n : Initiator) (d : Nat), s.reach (regAddr .FLT_DOM_RESET) → u = s.writeReg .FLT_DOM_RESET
    (w.toNat ||| 2 ^ 31) → d = u.f F.FLT_DOM_RESET_DOMAIN → u.power.entry < 2 → d ≤ 20 → u.absent d = false → v = ((u.setB
    F.FLT_DOM_STATUS_ABSENT d).setF F.FLT_DOM_RESET_BUSY 1).ledger 0x35 d (iniNum n) → exec (.domainReset w n) s = .next
    (((v.domainReset d).abandonEngine d).dropWaiting d)) ∧
  (∀ (s u : State) (d : Fin 21), s.awake → s.absent d → u = (s.clrB F.FLT_DOM_STATUS_ABSENT d).setF F.FLT_DOM_RESET_BUSY
    (b2n ((s.clrB F.FLT_DOM_STATUS_ABSENT d).f F.FLT_DOM_STATUS_ABSENT != 0)) → d.val ≠ 16 → d.val ≠ 20 → exec
    (.domainResetDone d) s = .next (u)) ∧
  (∀ (s u : State), s.awake → s.absent 16 → u = (s.clrB F.FLT_DOM_STATUS_ABSENT 16).setF F.FLT_DOM_RESET_BUSY (b2n ((s.clrB
    F.FLT_DOM_STATUS_ABSENT 16).f F.FLT_DOM_STATUS_ABSENT != 0)) → exec (.domainResetDone 16) s = .next
    ({ u with prism := { u.prism with back := u.elapsed } })) ∧
  (∀ (s : State) (r : Bool), exec (.powerOnReset r) s = .next
    ({ s.wholeReset 1 true with boot := { (s.wholeReset 1 true).boot with por := !r } })) ∧
  (∀ (s : State), s.boot.por = false → exec (.pinReset false) s = .next
    ({ s.wholeReset 2 false with boot := { (s.wholeReset 2 false).boot with pin := true } })) ∧
  (∀ (s : State), exec (.pinReset true) s = .next ({ s with boot := { s.boot with pin := false } })) ∧
  (∀ (s : State) (w : Word), s.reach (regAddr .SYS_RESET_CTRL) → bits w.toNat 24 8 = 0xA5 → bit w.toNat 0 → s.boot.resetAt
    = none → exec (.softwareReset w) s = .next (State.wholeReset
    { s with boot := { s.boot with resetAt := some (s.elapsed, reasonOf w.toNat) } } (reasonOf w.toNat) false))

/-- Where its conditions hold, each command answers the state its rules give: the service port's commands and the words they
  move (R476, R477), a JTAG access and the boundary-scan instructions (R478), the register accesses that have an effect of
  their own (R9, R11, R14, R398), the proxy (R330) and a tick of device time (R25). -/
def Obligations.ServiceAndRegisterCommandsComplete : Prop :=
  (∀ (s : State) (a : Word) (n : Fin 64), s.svc.op = none → s.inReset = false → exec (.readReq a n) s = .next
    ({ s with svc := { s.svc with op := some { write := false, addr := a.toNat, left := n + 1, data := [] }, buf := [], result := 0 } })) ∧
  (∀ (s : State), s.svc.op = none → s.inReset = false → exec (.readData) s = .next
    ({ s with svc := { s.svc with out := s.svcStatus :: s.svc.buf.flatMap beBytes } })) ∧
  (∀ (s : State) (a : Word) (ws : List Word), s.svc.op = none → s.inReset = false → ws ≠ [] → exec (.svcWrite a ws) s =
    .next
    ({ s with svc := { s.svc with op := some { write := true, addr := a.toNat, left := ws.length, data := ws.map (·.toNat) }, result := 0 } })) ∧
  (∀ (s : State), s.inReset = false → exec (.svcStatus) s = .next ({ s with svc := { s.svc with out := [s.svcStatus] } })) ∧
  (∀ (s : State), s.svc.op = none → s.inReset = false → exec (.svcBadCommand) s = .next
    ({ s with svc := { s.svc with result := 3 } })) ∧
  (∀ (s t : State) (e : Fin 3) (o : SvcOp) (code v : Nat), s.inReset = false → s.svc.op = some o → s.access .svc 23 (if
    o.write then .write else .read) o.addr 4 (o.data.headD 0) e = (code, v, t) → exec (.svcWordDone e) s = .next
    ({ t with svc := { t.svc with op := if o.left ≤ 1 then none else some { o with addr := (o.addr + 4) % 2 ^ 32, left := o.left - 1, data := o.data.drop 1 }, buf := if o.write then t.svc.buf else t.svc.buf ++ [if code = 0 then v else 0], result := if t.svc.result = 0 then svcCode code else t.svc.result } })) ∧
  (∀ (s t : State) (wr : Bool) (a w : Word) (e : Fin 3) (code v : Nat), s.inReset = false → s.access .jtag 24 (if wr then
    .write else .read) a.toNat 4 w.toNat e = (code, v, t) → exec (.jtagAccess wr a w e) s = .next
    ({ t with svc := { t.svc with jtag := v, jtagOk := code == 0 } })) ∧
  (∀ (s : State), s.f F.SYS_BOOT_STATUS_STATE = 2 ∨ s.f F.SYS_BOOT_STATUS_STATE = 3 → exec (.extest) s = .next
    ({ s with svc := { s.svc with scan := 1 } })) ∧
  (∀ (s : State), s.f F.SYS_BOOT_STATUS_STATE = 2 ∨ s.f F.SYS_BOOT_STATUS_STATE = 3 → exec (.clamp) s = .next
    ({ s with svc := { s.svc with scan := 2 } })) ∧
  (∀ (s : State) (n : Initiator) (a w : Word), s.reach a.toNat → exec (.registerWrite n a w) s = .next (s.regWrite (iniNum
    n) a.toNat w.toNat)) ∧
  (∀ (s : State) (r : Reader) (a : Word), s.reach a.toNat → hasRC a.toNat → exec (.readClear r a) s = .next ((s.regRead
    (readerNum r) a.toNat).2.answer (readerNum r) 0 (s.regRead (readerNum r) a.toNat).1)) ∧
  (∀ (s : State) (r : Reader) (a : Word), s.reach a.toNat → (findReg a.toNat).any (fun x => lowWord x.1.name) → exec
    (.lowWordRead r a) s = .next ((s.regRead (readerNum r) a.toNat).2.answer (readerNum r) 0 (s.regRead (readerNum r)
    a.toNat).1)) ∧
  (∀ (s : State) (r : Reader) (h : Holding), s.holding (readerNum r) = some h → us25 1 ≤ (s.elapsed - h.at_) * 25 → exec
    (.holdingRegisterExpire r) s = .next (s.dropHold (readerNum r))) ∧
  (∀ (s : State) (n : Initiator) (w : Word), s.reach (regAddr .FAB_PROXY) → proxyOk n .write (regAddr .FAB_PROXY) → exec
    (.proxyWrite n w) s = .next ((s.writeReg .FAB_PROXY w.toNat).answer (iniNum n) 0 0)) ∧
  (∀ (s u : State) (x : TickIn), u = (s.core (s.samplesTick x)).advance → exec (.deviceTimeTick x) s = .next (((u.aoTick
    s.aoPeriod).core ((u.aoTick s.aoPeriod).coreTick x)).resetDue))

/-- If among the results an engine has under way y writes register r of set k (any register of R292 but CC, whose fields
  results write one by one) at the end of the bundle in hand, no result issued after y falls due by then for that register,
  and none issued before y falls due later, then at the end of the bundle the register holds y's value, whatever the
  earlier results for it were; between the two no bundle ends, so no operation sees the earlier value. -/
def Obligations.LaterIssuedResultStands : Prop :=
  ∀ (e : Engine) (xs ys : List Result) (y : Result), e.results = xs ++ y :: ys → y.due = e.count → y.reg < 58 → y.reg ≠ rCC →
    (∀ x ∈ xs, x.due ≤ e.count) → (∀ x ∈ ys, x.due ≤ e.count → x.set_ = y.set_ → x.reg ≠ y.reg) →
    (∀ x ∈ xs ++ ys, x.set_ < 2 ∧ x.reg < 64) → y.set_ < 2 →
    e.endBundle.get y.set_ y.reg = y.val % 2 ^ regWidth y.reg

/-- For every reader (each initiator of the fabric, a DMA channel, the service port and JTAG) and every register that has RC
  fields, once the reader's own holding register holds nothing for that address, the READ_CLEAR command completes and every
  RC field of the register then reads 0. -/
def Obligations.ReadClearsRcFields : Prop :=
  ∀ (s : State) (rd : Reader) (a : Word) (d : RegDesc) (i j k : Nat), s.reach a.toNat = true →
    findReg a.toNat = some (d, i, j, k) → hasRC a.toNat = true → s.held? (readerNum rd) a.toNat = none →
    ∃ t : State, exec (.readClear rd a) s = .next t ∧ ∀ x ∈ d.flds, x.acc = .rc → t.f x i j k = 0

/-- At an address inside the span of a register block that holds no register, a fabric read returns 0 and changes nothing, and
  a register write that reaches it changes nothing. -/
def Obligations.EmptyAddressReadsZero : Prop :=
  ∀ (s : State) (ini : Initiator) (rd n ecc : Nat) (a w : Word), s.reach a.toNat = true → inSpan a.toNat = true →
    regionOf a.toNat = .reg → findReg a.toNat = none →
    s.loadAt rd a.toNat n ecc = (0, 0, s) ∧ exec (.registerWrite ini a w) s = .next s

/-- Two written words that agree in every field of a register have the same effect on it (R13), and a reserved bit of the word
  a register shows reads 0 where its fields hold values of their widths. -/
def Obligations.ReservedBitsAreIgnored : Prop :=
  (∀ (s : State) (d : RegDesc) (i j k v w : Nat), (∀ x ∈ d.flds, bits v x.lo x.w = bits w x.lo x.w) →
    s.writePlain d i j k v = s.writePlain d i j k w) ∧
  (∀ (s : State) (d : RegDesc) (i j k b : Nat), (∀ x ∈ d.flds, s.f x i j k < 2 ^ x.w) →
    (d.flds.Pairwise (fun x y => x.lo + x.w ≤ y.lo ∨ y.lo + y.w ≤ x.lo)) → (∀ x ∈ d.flds, b < x.lo ∨ x.lo + x.w ≤ b) →
    bit (s.rawRead d i j k) b = false)

/-- A register write by any initiator to a register whose fields are all RW of class S, with no effect of its own beyond R15,
  leaves the device as it is while its owning block is enabled, except that the ledger records CFG_WRITE_DISCARDED (0x01)
  with the register address. -/
def Obligations.ClassSWriteIsDiscarded : Prop :=
  ∀ (s : State) (ini : Initiator) (a w : Word) (d : RegDesc) (i j k : Nat), s.reach a.toNat = true →
    findReg a.toNat = some (d, i, j, k) → s.radioWrite d.name i j k w.toNat = none → s.linkWrite d.name i j k w.toNat = none →
    s.sysWrite (iniNum ini) d.name i j w.toNat = none → d.flds ≠ [] → (∀ x ∈ d.flds, x.acc = .rw ∧ x.cls = .s) →
    s.enabled (s.ownerOf d.name i j .s) = true →
    exec (.registerWrite ini a w) s = .next (s.ledger 0x01 a.toNat)

/-- A register write by any initiator to a register of RW fields without an effect of its own, whose class S and class B fields
  have a disabled owner, completes: every field holds its part of the word, or the replacement its map gives it (R510);
  every field of every other register, memory, the ledger and all the rest of the state are as before. -/
def Obligations.PlainWriteTakesEffect : Prop :=
  ∀ (s : State) (ini : Initiator) (a w : Word) (d : RegDesc) (i j k : Nat), s.reach a.toNat = true →
    findReg a.toNat = some (d, i, j, k) → s.radioWrite d.name i j k w.toNat = none → s.linkWrite d.name i j k w.toNat = none →
    s.sysWrite (iniNum ini) d.name i j w.toNat = none → (∀ x ∈ d.flds, x.acc = .rw) →
    (∀ x ∈ d.flds, (x.cls = .s ∨ x.cls = .b) → s.enabled (s.ownerOf d.name i j x.cls) = false) →
    ∃ t : State, exec (.registerWrite ini a w) s = .next t ∧
      (∀ x ∈ d.flds, t.f x i j k = x.norm (bits w.toNat x.lo x.w) % 2 ^ x.w) ∧
      (∀ q : Nat, q / 32 ≠ a.toNat → SMap.get 0 t.regs q = SMap.get 0 s.regs q) ∧ { t with regs := s.regs } = s

/-- After two class B writes to one field of an owner that is enabled, the field reads the value in effect (R17); at the
  owner's boundary, accepted early enough (R35), it takes the value of the second write, and nothing of it stays in shadow
  (R16). -/
def Obligations.LastShadowWriteWins : Prop :=
  ∀ (s : State) (key v w margin : Nat) (o : Owner) (t u : State), s.inv = true → o ≠ .none →
    t = (s.shadowSet key o v).shadowSet key o w → u = { t with elapsed := t.elapsed + margin } →
    t.regs = s.regs ∧ SMap.get 0 (u.commitShadow o margin).regs key = w ∧
    SMap.get {} (u.commitShadow o margin).shadow key = {}

/-- An access that the firewalls or the form rules deny (R322, R327) is answered at once with the denial and data 0; no byte of
  memory changes and no arbitration point has it waiting (R329). -/
def Obligations.DeniedAccessReachesNothing : Prop :=
  ∀ (s t : State) (i : Initiator) (k : AccKind) (a : Word) (n : Fin 65) (data : Nat) (ecc : Fin 3), s.awake = true →
    s.permitted i k a.toNat n = false → exec (.fabricAccess i k a n data ecc) s = .next t →
    (∀ b : Nat, t.readByte b = s.readByte b) ∧ t.fab.waiting = s.fab.waiting ∧
    SMap.get {} t.fab.rsp (iniNum i) = { code := 1, data := 0 }

/-- If the ledger holds an entry of the same CODE, ARG_A and ARG_B, an occurrence raises that entry's REPEAT by one, up to 63,
  and changes no other entry and no number of entries, so TIME stays that of the first occurrence; otherwise, in a ledger
  with room and as the first new entry of its tick (log entry 83), it appends one entry with REPEAT 0, the next sequence
  number and the present TIME (R462, R464). -/
def Obligations.EqualOccurrencesMerge : Prop :=
  (∀ (s : State) (code a b : Nat) (xs ys : List LedgerEntry) (e : LedgerEntry), s.faults.entries = xs ++ e :: ys →
    e.code = code → e.argA = a % 2 ^ 32 → e.argB = b % 2 ^ 32 →
    (∀ x ∈ xs, ¬(x.code = code ∧ x.argA = a % 2 ^ 32 ∧ x.argB = b % 2 ^ 32)) →
    (s.ledger code a b).faults.entries = xs ++ { e with rep := min 63 (e.rep + 1) } :: ys ∧
    (s.ledger code a b).faults.nextSeq = s.faults.nextSeq) ∧
  (∀ (s : State) (code a b : Nat),
    (∀ x ∈ s.faults.entries, ¬(x.code = code ∧ x.argA = a % 2 ^ 32 ∧ x.argB = b % 2 ^ 32)) → s.faults.entries.length < 32 →
    s.faults.freshAt ≠ s.elapsed →
    (s.ledger code a b).faults.entries = s.faults.entries ++
      [⟨codeSev code, 0, code, s.faults.nextSeq, a % 2 ^ 32, b % 2 ^ 32, s.now / 1024 % 2 ^ 32⟩] ∧
    (s.ledger code a b).faults.nextSeq = (s.faults.nextSeq + 1) % 65536)

/-- A write of line number i to EVC.SWSET, by Lantern or through an engine's window alike, pulses line i where i is 512 to
  1022, and otherwise leaves the device as it is (R361). -/
def Obligations.SoftwareLinePulses : Prop :=
  ∀ (s : State) (w : Word) (i : Nat), s.reach (regAddr .EVC_SWSET) = true → i = bits w.toNat 0 10 →
    (512 ≤ i ∧ i ≤ 1022 → exec (.softwareLineSet w) s = .next (s.pulse i)) ∧
    (¬(512 ≤ i ∧ i ≤ 1022) → exec (.softwareLineSet w) s = .next s)

/-- When one cause of zero scale begins and another ends for a path at one tile boundary, in either order, the path is at zero
  scale; after a cause ends the path is at zero scale exactly if some bit of ZS_STATUS.CAUSE remains set. -/
def Obligations.ZeroScaleOutlastsEachCause : Prop :=
  (∀ (s : State) (n : Fin 64) (c d : Fin 9), c ≠ d →
    ((s.zsHold c n).zsEnd d n).zeroHeld n = true ∧ ((s.zsEnd d n).zsHold c n).zeroHeld n = true) ∧
  (∀ (s : State) (n : Fin 64) (d : Fin 9), (s.zsEnd d n).zeroHeld n = (s.zsEnd d n).on F.TXP_ZS_STATUS_CAUSE n)

/-- Where a line is deliverable, Lantern's read of EVC.CLAIM completes: the reader receives the line, which is then pending no
  more and in service for the Lantern target, and LAST_CLAIM shows it; where none is, the reader receives 1023 (R357). -/
def Obligations.ClaimTakesTheLine : Prop :=
  (∀ (s : State) (l : Nat), s.reach (regAddr .EVC_CLAIM) = true → s.bestLine (s.deliverable 0) = some l →
    ∃ t : State, exec .eventClaim s = .next t ∧ t.evPend 0 l = false ∧ t.evSvc 0 l = true ∧
      t.f F.EVC_TGT_STATUS_LAST_CLAIM 0 = l % 1024 ∧ SMap.get {} t.fab.rsp 0 = { code := 0, data := l }) ∧
  (∀ s : State, s.reach (regAddr .EVC_CLAIM) = true → s.deliverable 0 = [] →
    ∃ t : State, exec .eventClaim s = .next t ∧ SMap.get {} t.fab.rsp 0 = { code := 0, data := 1023 })

/-- The loss of REFCLK completes in every state; every field of an always-on register holds its value through it, and so does
  every byte of memory. What the other registers then hold is undefined (R401): free values in the model (log entry 60). -/
def Obligations.RefclkLossSparesAlwaysOn : Prop :=
  ∀ s : State, ∃ t : State, exec .refclkLoss s = .next t ∧ (∀ a : Nat, t.readByte a = s.readByte a) ∧
    (∀ (x : Fld) (i j k : Nat), alwaysOn (x.key i j k / 32) = true → t.f x i j k = s.f x i j k)

/-- While no power-on reset is asserted, RESET_N held low completes: device time is 0 (R25), the ledger is empty, every field
  that is neither a fuse, nor PWR.TIMER, nor the cause of the start reads its reset value, the fuses and PWR.TIMER keep
  their values, and the MRAM store and the retention SRAM keep every byte (R440). -/
def Obligations.PinResetClearsTheDevice : Prop :=
  ∀ s : State, s.boot.por = false → ∃ t : State, exec (.pinReset false) s = .next t ∧ t.time = 0 ∧ t.faults.entries = [] ∧
    (∀ (x : Fld) (i j k : Nat), keptField false (x.key i j k) = false → x.key i j k ≠ F.SYS_BOOT_STATUS_CAUSE.key 0 0 0 →
      t.f x i j k = x.reset i j) ∧
    (∀ (x : Fld) (i j k : Nat), keptField false (x.key i j k) = true → t.f x i j k = s.f x i j k) ∧
    t.f F.SYS_BOOT_STATUS_CAUSE = 2 ∧ (∀ a : Nat, keptByte false a = true → t.readByte a = s.readByte a)

/-- After reset device time is 0 (R25), every field of every register reads the reset value of its map (R8), no command waits,
  and every byte of memory reads as one that nothing has written. That such a byte reads 0, and the reset value 0 of the
  fuses, are the model's choices (log entries 5 and 6). -/
def Obligations.ResetValues : Prop :=
  State.reset.time = 0 ∧ State.reset.pending = [] ∧ (∀ (x : Fld) (i j k : Nat), State.reset.f x i j k = x.reset i j) ∧
    (∀ a : Nat, State.reset.readByte a = 0)

/-- While PRISM.CORR_COMMIT.ARMED is 1, a write of CORR_PEND that reaches the Prism leaves the device as it is, except that the
  ledger records CFG_WRITE_DISCARDED (0x01) with the register address. -/
def Obligations.ArmedCommitGuardsCorrections : Prop :=
  ∀ (s : State) (d : Fin 2) (n : Fin 64) (w : Word), s.reach (regAddr .PRISM_CORR_PEND d n) = true →
    s.on F.PRISM_CORR_COMMIT_ARMED = true →
    exec (.corrPendWrite d n w) s = .next (s.ledger 0x01 (regAddr .PRISM_CORR_PEND d n))

/-- DINV over n bytes from a completes while the core runs: no data-cache line that shares a byte with the range is left, dirty
  or not; every other line is as before, and no byte of memory changes, so what a discarded line held is lost (R333). -/
def Obligations.InvalidateDiscardsWholeLines : Prop :=
  ∀ (s : State) (a : Word) (n : Fin 1048576), s.awake = true → ∃ t : State, exec (.dinv a n) s = .next t ∧
    (∀ (k b : Nat), a.toNat ≤ b → b < a.toNat + n → k = b / 32 → t.dline k = none) ∧
    (∀ k : Nat, (∀ b : Nat, a.toNat ≤ b → b < a.toNat + n → k ≠ b / 32) → t.dline k = s.dline k) ∧
    (∀ b : Nat, t.readByte b = s.readByte b)
end

