-- ==== Sys2Proof/Laws/SMap.lean ====
section
/-!
SUPPORT. Sys2Proof/Laws/SMap.lean: the laws of the sparse store: a read after a write, and that every operation keeps the
canonical form.
-/
namespace Sys2Proof.Machine

theorem SMap.get_erase_self {α : Type} (d : α) (m : SMap α) (k : Nat) : SMap.get d (SMap.erase m k) k = d := by
  induction m with
  | nil => rfl
  | cons e m ih =>
    obtain ⟨k', v⟩ := e
    by_cases h : k = k'
    · simp only [SMap.erase, h, if_true]; rw [← h]; exact ih
    · simp only [SMap.erase, h, if_false, SMap.get, ih]

theorem SMap.get_erase_ne {α : Type} (d : α) (m : SMap α) {k k' : Nat} (h : k' ≠ k) :
    SMap.get d (SMap.erase m k) k' = SMap.get d m k' := by
  induction m with
  | nil => rfl
  | cons e m ih =>
    obtain ⟨q, v⟩ := e
    by_cases h1 : k = q
    · subst h1; simp only [SMap.erase, if_true, SMap.get, h, if_false, ih]
    · simp only [SMap.erase, h1, if_false, SMap.get, ih]

theorem SMap.get_insert_self {α : Type} (d : α) (m : SMap α) (k : Nat) (v : α) : SMap.get d (SMap.insert m k v) k = v := by
  induction m with
  | nil => simp [SMap.insert, SMap.get]
  | cons e m ih =>
    obtain ⟨q, w⟩ := e
    by_cases h : k = q
    · simp [SMap.insert, SMap.get, h]
    · by_cases h2 : k < q
      · simp [SMap.insert, SMap.get, h, h2]
      · simp [SMap.insert, SMap.get, h, h2, ih]

theorem SMap.get_insert_ne {α : Type} (d : α) (m : SMap α) {k k' : Nat} (v : α) (h : k' ≠ k) :
    SMap.get d (SMap.insert m k v) k' = SMap.get d m k' := by
  induction m with
  | nil => simp [SMap.insert, SMap.get, h]
  | cons e m ih =>
    obtain ⟨q, w⟩ := e
    by_cases h1 : k = q
    · subst h1; simp [SMap.insert, SMap.get, h]
    · by_cases h2 : k < q
      · simp [SMap.insert, SMap.get, h1, h2, h]
      · simp only [SMap.insert, h1, h2, if_false, SMap.get, ih]

/-- A read of the key just written gives the value written. -/
@[simp] theorem SMap.get_set_self {α : Type} [DecidableEq α] (d : α) (m : SMap α) (k : Nat) (v : α) :
    SMap.get d (SMap.set d m k v) k = v := by
  unfold SMap.set
  split
  · next h => rw [SMap.get_erase_self, h]
  · exact SMap.get_insert_self d m k v

/-- A write leaves every other key alone. -/
theorem SMap.get_set_ne {α : Type} [DecidableEq α] (d : α) (m : SMap α) {k k' : Nat} (v : α) (h : k' ≠ k) :
    SMap.get d (SMap.set d m k v) k' = SMap.get d m k' := by
  unfold SMap.set
  split
  · exact SMap.get_erase_ne d m h
  · exact SMap.get_insert_ne d m v h

theorem SMap.get_set {α : Type} [DecidableEq α] (d : α) (m : SMap α) (k k' : Nat) (v : α) :
    SMap.get d (SMap.set d m k v) k' = if k' = k then v else SMap.get d m k' := by
  by_cases h : k' = k
  · subst h; simp
  · simp [SMap.get_set_ne d m v h, h]

/-- An unlisted key reads the default. -/
@[simp] theorem SMap.get_nil {α : Type} (d : α) (k : Nat) : SMap.get d ([] : SMap α) k = d := rfl

/-! ### The canonical form -/

theorem SMap.above_mono {α : Type} {k k' : Nat} {m : SMap α} (h : k ≤ k') (ha : SMap.above k' m = true) :
    SMap.above k m = true := by
  simp only [SMap.above, List.all_eq_true, decide_eq_true_eq] at *
  exact fun e he => Nat.lt_of_le_of_lt h (ha e he)

theorem SMap.above_filter {α : Type} {k : Nat} {m : SMap α} (p : Nat × α → Bool) (ha : SMap.above k m = true) :
    SMap.above k (m.filter p) = true := by
  simp only [SMap.above, List.all_eq_true, decide_eq_true_eq] at *
  exact fun e he => ha e (List.mem_filter.mp he).1

theorem SMap.erase_eq_filter {α : Type} (m : SMap α) (k : Nat) : SMap.erase m k = m.filter (fun e => !(e.1 == k)) := by
  induction m with
  | nil => rfl
  | cons e m ih =>
    obtain ⟨q, w⟩ := e
    by_cases h : k = q
    · subst h; simp [SMap.erase, ih]
    · have h' : ¬q = k := fun h2 => h h2.symm
      simp [SMap.erase, h, h', ih]

/-- Leaving entries out keeps the canonical form. -/
theorem SMap.wf_filter {α : Type} [DecidableEq α] {d : α} {m : SMap α} (p : Nat × α → Bool) (h : SMap.wf d m = true) :
    SMap.wf d (m.filter p) = true := by
  induction m with
  | nil => rfl
  | cons e m ih =>
    obtain ⟨q, w⟩ := e
    simp only [SMap.wf, Bool.and_eq_true, decide_eq_true_eq] at h
    by_cases hp : p (q, w) = true
    · rw [List.filter_cons_of_pos hp]
      simp only [SMap.wf, Bool.and_eq_true, decide_eq_true_eq]
      exact ⟨⟨h.1.1, SMap.above_filter p h.1.2⟩, ih h.2⟩
    · rw [List.filter_cons_of_neg hp]; exact ih h.2

theorem SMap.wf_erase {α : Type} [DecidableEq α] {d : α} {m : SMap α} (k : Nat) (h : SMap.wf d m = true) :
    SMap.wf d (SMap.erase m k) = true := by rw [SMap.erase_eq_filter]; exact SMap.wf_filter _ h

theorem SMap.wf_drop {α : Type} [DecidableEq α] {d : α} {m : SMap α} (p : Nat → Bool) (h : SMap.wf d m = true) :
    SMap.wf d (SMap.drop p m) = true := SMap.wf_filter _ h

theorem SMap.above_insert {α : Type} {q k : Nat} {m : SMap α} (v : α) (hq : q < k) (ha : SMap.above q m = true) :
    SMap.above q (SMap.insert m k v) = true := by
  induction m with
  | nil => simp [SMap.insert, SMap.above, hq]
  | cons e m ih =>
    obtain ⟨r, w⟩ := e
    simp only [SMap.above, List.all_cons, Bool.and_eq_true, decide_eq_true_eq] at ha
    have ih' := ih (by simpa [SMap.above] using ha.2)
    by_cases h1 : k = r
    · simp only [SMap.insert, h1, if_true, SMap.above, List.all_cons, Bool.and_eq_true, decide_eq_true_eq]
      exact ⟨ha.1, ha.2⟩
    · by_cases h2 : k < r
      · simp only [SMap.insert, h1, h2, if_false, if_true, SMap.above, List.all_cons, Bool.and_eq_true, decide_eq_true_eq]
        exact ⟨hq, ha.1, ha.2⟩
      · simp only [SMap.insert, h1, h2, if_false, SMap.above, List.all_cons, Bool.and_eq_true, decide_eq_true_eq]
        exact ⟨ha.1, ih'⟩

theorem SMap.wf_insert {α : Type} [DecidableEq α] {d : α} {m : SMap α} (k : Nat) {v : α} (hv : v ≠ d)
    (h : SMap.wf d m = true) : SMap.wf d (SMap.insert m k v) = true := by
  induction m with
  | nil => simp [SMap.insert, SMap.wf, SMap.above, hv]
  | cons e m ih =>
    obtain ⟨q, w⟩ := e
    have h0 := h
    simp only [SMap.wf, Bool.and_eq_true, decide_eq_true_eq] at h
    by_cases h1 : k = q
    · simp only [SMap.insert, h1, if_true, SMap.wf, Bool.and_eq_true, decide_eq_true_eq]
      exact ⟨⟨hv, h.1.2⟩, h.2⟩
    · by_cases h2 : k < q
      · simp only [SMap.insert, h1, h2, if_false, if_true]
        rw [SMap.wf]
        simp only [Bool.and_eq_true, decide_eq_true_eq]
        refine ⟨⟨hv, ?_⟩, h0⟩
        simp only [SMap.above, List.all_cons, Bool.and_eq_true, decide_eq_true_eq]
        exact ⟨h2, by simpa [SMap.above] using SMap.above_mono (Nat.le_of_lt h2) h.1.2⟩
      · simp only [SMap.insert, h1, h2, if_false, SMap.wf, Bool.and_eq_true, decide_eq_true_eq]
        exact ⟨⟨h.1.1, SMap.above_insert v (by omega) h.1.2⟩, ih h.2⟩

/-- A write keeps the canonical form. -/
theorem SMap.wf_set {α : Type} [DecidableEq α] {d : α} {m : SMap α} (k : Nat) (v : α) (h : SMap.wf d m = true) :
    SMap.wf d (SMap.set d m k v) = true := by
  unfold SMap.set
  split
  · exact SMap.wf_erase k h
  · next hv => exact SMap.wf_insert k hv h

/-- What is left out is not looked up. -/
theorem SMap.get_drop {α : Type} (d : α) (p : Nat → Bool) (m : SMap α) (k : Nat) (h : p k = false) :
    SMap.get d (SMap.drop p m) k = SMap.get d m k := by
  unfold SMap.drop
  induction m with
  | nil => rfl
  | cons e m ih =>
    by_cases he : p e.1 = true
    · have hne : k ≠ e.1 := by intro x; rw [x, he] at h; cases h
      rw [List.filter_cons_of_neg (by simp [he]), ih]
      simp only [SMap.get, hne, if_false]
    · rw [List.filter_cons_of_pos (by simp [he])]
      simp only [SMap.get, ih]

/-- The entries after an update are the new one or old ones. -/
theorem SMap.mem_insert {α : Type} {m : SMap α} {k : Nat} {v : α} {e : Nat × α} (h : e ∈ SMap.insert m k v) : e.1 = k ∨ e ∈ m := by
  induction m with
  | nil => simp only [SMap.insert, List.mem_cons, List.not_mem_nil, or_false] at h; exact .inl (by rw [h])
  | cons f m ih =>
    simp only [SMap.insert] at h
    split at h
    · simp only [List.mem_cons] at h
      rcases h with h | h
      · exact .inl (by rw [h])
      · exact .inr (List.mem_cons_of_mem _ h)
    · split at h
      · simp only [List.mem_cons] at h
        rcases h with h | h
        · exact .inl (by rw [h])
        · exact .inr (List.mem_cons.mpr h)
      · simp only [List.mem_cons] at h
        rcases h with h | h
        · exact .inr (List.mem_cons.mpr (.inl h))
        · rcases ih h with h | h
          · exact .inl h
          · exact .inr (List.mem_cons_of_mem _ h)

theorem SMap.mem_set {α : Type} [DecidableEq α] {d : α} {m : SMap α} {k : Nat} {v : α} {e : Nat × α} (h : e ∈ SMap.set d m k v) :
    e.1 = k ∨ e ∈ m := by
  unfold SMap.set at h
  split at h
  · rw [SMap.erase_eq_filter] at h; exact .inr (List.mem_filter.mp h).1
  · exact SMap.mem_insert h

end Sys2Proof.Machine
end

