-- ==== Sys2Proof/Laws/State.lean ====
section
/-!
SUPPORT. Sys2Proof/Laws/State.lean: what each named update of the state changes and what it leaves, one lemma per field and
update, and what a field, a byte or a record reads after a write of it.
-/
namespace Sys2Proof.Machine

/-! `State.setF` -/

@[simp] theorem State.setF_time (s : State) (x : Fld) (v i j k : Nat) : (s.setF x v i j k).time = s.time := rfl
@[simp] theorem State.setF_elapsed (s : State) (x : Fld) (v i j k : Nat) : (s.setF x v i j k).elapsed = s.elapsed := rfl
@[simp] theorem State.setF_shadow (s : State) (x : Fld) (v i j k : Nat) : (s.setF x v i j k).shadow = s.shadow := rfl
@[simp] theorem State.setF_mem (s : State) (x : Fld) (v i j k : Nat) : (s.setF x v i j k).mem = s.mem := rfl
@[simp] theorem State.setF_faults (s : State) (x : Fld) (v i j k : Nat) : (s.setF x v i j k).faults = s.faults := rfl
@[simp] theorem State.setF_evc (s : State) (x : Fld) (v i j k : Nat) : (s.setF x v i j k).evc = s.evc := rfl
@[simp] theorem State.setF_power (s : State) (x : Fld) (v i j k : Nat) : (s.setF x v i j k).power = s.power := rfl
@[simp] theorem State.setF_radio (s : State) (x : Fld) (v i j k : Nat) : (s.setF x v i j k).radio = s.radio := rfl
@[simp] theorem State.setF_rx (s : State) (x : Fld) (v i j k : Nat) : (s.setF x v i j k).rx = s.rx := rfl
@[simp] theorem State.setF_tx (s : State) (x : Fld) (v i j k : Nat) : (s.setF x v i j k).tx = s.tx := rfl
@[simp] theorem State.setF_orx (s : State) (x : Fld) (v i j k : Nat) : (s.setF x v i j k).orx = s.orx := rfl
@[simp] theorem State.setF_pairs (s : State) (x : Fld) (v i j k : Nat) : (s.setF x v i j k).pairs = s.pairs := rfl
@[simp] theorem State.setF_prism (s : State) (x : Fld) (v i j k : Nat) : (s.setF x v i j k).prism = s.prism := rfl
@[simp] theorem State.setF_mir (s : State) (x : Fld) (v i j k : Nat) : (s.setF x v i j k).mir = s.mir := rfl
@[simp] theorem State.setF_flows (s : State) (x : Fld) (v i j k : Nat) : (s.setF x v i j k).flows = s.flows := rfl
@[simp] theorem State.setF_plc (s : State) (x : Fld) (v i j k : Nat) : (s.setF x v i j k).plc = s.plc := rfl
@[simp] theorem State.setF_ports (s : State) (x : Fld) (v i j k : Nat) : (s.setF x v i j k).ports = s.ports := rfl
@[simp] theorem State.setF_lanes (s : State) (x : Fld) (v i j k : Nat) : (s.setF x v i j k).lanes = s.lanes := rfl
@[simp] theorem State.setF_seqs (s : State) (x : Fld) (v i j k : Nat) : (s.setF x v i j k).seqs = s.seqs := rfl
@[simp] theorem State.setF_clk (s : State) (x : Fld) (v i j k : Nat) : (s.setF x v i j k).clk = s.clk := rfl
@[simp] theorem State.setF_engines (s : State) (x : Fld) (v i j k : Nat) : (s.setF x v i j k).engines = s.engines := rfl
@[simp] theorem State.setF_fab (s : State) (x : Fld) (v i j k : Nat) : (s.setF x v i j k).fab = s.fab := rfl
@[simp] theorem State.setF_dma (s : State) (x : Fld) (v i j k : Nat) : (s.setF x v i j k).dma = s.dma := rfl
@[simp] theorem State.setF_hk (s : State) (x : Fld) (v i j k : Nat) : (s.setF x v i j k).hk = s.hk := rfl
@[simp] theorem State.setF_pwm (s : State) (x : Fld) (v i j k : Nat) : (s.setF x v i j k).pwm = s.pwm := rfl
@[simp] theorem State.setF_svc (s : State) (x : Fld) (v i j k : Nat) : (s.setF x v i j k).svc = s.svc := rfl
@[simp] theorem State.setF_boot (s : State) (x : Fld) (v i j k : Nat) : (s.setF x v i j k).boot = s.boot := rfl
@[simp] theorem State.setF_ptb (s : State) (x : Fld) (v i j k : Nat) : (s.setF x v i j k).ptb = s.ptb := rfl
@[simp] theorem State.setF_free (s : State) (x : Fld) (v i j k : Nat) : (s.setF x v i j k).free = s.free := rfl
@[simp] theorem State.setF_pending (s : State) (x : Fld) (v i j k : Nat) : (s.setF x v i j k).pending = s.pending := rfl

/-! `State.clrF` -/

@[simp] theorem State.clrF_time (s : State) (x : Fld) (i j k : Nat) : (s.clrF x i j k).time = s.time := rfl
@[simp] theorem State.clrF_elapsed (s : State) (x : Fld) (i j k : Nat) : (s.clrF x i j k).elapsed = s.elapsed := rfl
@[simp] theorem State.clrF_shadow (s : State) (x : Fld) (i j k : Nat) : (s.clrF x i j k).shadow = s.shadow := rfl
@[simp] theorem State.clrF_mem (s : State) (x : Fld) (i j k : Nat) : (s.clrF x i j k).mem = s.mem := rfl
@[simp] theorem State.clrF_faults (s : State) (x : Fld) (i j k : Nat) : (s.clrF x i j k).faults = s.faults := rfl
@[simp] theorem State.clrF_evc (s : State) (x : Fld) (i j k : Nat) : (s.clrF x i j k).evc = s.evc := rfl
@[simp] theorem State.clrF_power (s : State) (x : Fld) (i j k : Nat) : (s.clrF x i j k).power = s.power := rfl
@[simp] theorem State.clrF_radio (s : State) (x : Fld) (i j k : Nat) : (s.clrF x i j k).radio = s.radio := rfl
@[simp] theorem State.clrF_rx (s : State) (x : Fld) (i j k : Nat) : (s.clrF x i j k).rx = s.rx := rfl
@[simp] theorem State.clrF_tx (s : State) (x : Fld) (i j k : Nat) : (s.clrF x i j k).tx = s.tx := rfl
@[simp] theorem State.clrF_orx (s : State) (x : Fld) (i j k : Nat) : (s.clrF x i j k).orx = s.orx := rfl
@[simp] theorem State.clrF_pairs (s : State) (x : Fld) (i j k : Nat) : (s.clrF x i j k).pairs = s.pairs := rfl
@[simp] theorem State.clrF_prism (s : State) (x : Fld) (i j k : Nat) : (s.clrF x i j k).prism = s.prism := rfl
@[simp] theorem State.clrF_mir (s : State) (x : Fld) (i j k : Nat) : (s.clrF x i j k).mir = s.mir := rfl
@[simp] theorem State.clrF_flows (s : State) (x : Fld) (i j k : Nat) : (s.clrF x i j k).flows = s.flows := rfl
@[simp] theorem State.clrF_plc (s : State) (x : Fld) (i j k : Nat) : (s.clrF x i j k).plc = s.plc := rfl
@[simp] theorem State.clrF_ports (s : State) (x : Fld) (i j k : Nat) : (s.clrF x i j k).ports = s.ports := rfl
@[simp] theorem State.clrF_lanes (s : State) (x : Fld) (i j k : Nat) : (s.clrF x i j k).lanes = s.lanes := rfl
@[simp] theorem State.clrF_seqs (s : State) (x : Fld) (i j k : Nat) : (s.clrF x i j k).seqs = s.seqs := rfl
@[simp] theorem State.clrF_clk (s : State) (x : Fld) (i j k : Nat) : (s.clrF x i j k).clk = s.clk := rfl
@[simp] theorem State.clrF_engines (s : State) (x : Fld) (i j k : Nat) : (s.clrF x i j k).engines = s.engines := rfl
@[simp] theorem State.clrF_fab (s : State) (x : Fld) (i j k : Nat) : (s.clrF x i j k).fab = s.fab := rfl
@[simp] theorem State.clrF_dma (s : State) (x : Fld) (i j k : Nat) : (s.clrF x i j k).dma = s.dma := rfl
@[simp] theorem State.clrF_hk (s : State) (x : Fld) (i j k : Nat) : (s.clrF x i j k).hk = s.hk := rfl
@[simp] theorem State.clrF_pwm (s : State) (x : Fld) (i j k : Nat) : (s.clrF x i j k).pwm = s.pwm := rfl
@[simp] theorem State.clrF_svc (s : State) (x : Fld) (i j k : Nat) : (s.clrF x i j k).svc = s.svc := rfl
@[simp] theorem State.clrF_boot (s : State) (x : Fld) (i j k : Nat) : (s.clrF x i j k).boot = s.boot := rfl
@[simp] theorem State.clrF_ptb (s : State) (x : Fld) (i j k : Nat) : (s.clrF x i j k).ptb = s.ptb := rfl
@[simp] theorem State.clrF_free (s : State) (x : Fld) (i j k : Nat) : (s.clrF x i j k).free = s.free := rfl
@[simp] theorem State.clrF_pending (s : State) (x : Fld) (i j k : Nat) : (s.clrF x i j k).pending = s.pending := rfl

/-! `State.writeByte` -/

@[simp] theorem State.writeByte_time (s : State) (a : Nat) (v : Byte) : (s.writeByte a v).time = s.time := rfl
@[simp] theorem State.writeByte_elapsed (s : State) (a : Nat) (v : Byte) : (s.writeByte a v).elapsed = s.elapsed := rfl
@[simp] theorem State.writeByte_regs (s : State) (a : Nat) (v : Byte) : (s.writeByte a v).regs = s.regs := rfl
@[simp] theorem State.writeByte_shadow (s : State) (a : Nat) (v : Byte) : (s.writeByte a v).shadow = s.shadow := rfl
@[simp] theorem State.writeByte_faults (s : State) (a : Nat) (v : Byte) : (s.writeByte a v).faults = s.faults := rfl
@[simp] theorem State.writeByte_evc (s : State) (a : Nat) (v : Byte) : (s.writeByte a v).evc = s.evc := rfl
@[simp] theorem State.writeByte_power (s : State) (a : Nat) (v : Byte) : (s.writeByte a v).power = s.power := rfl
@[simp] theorem State.writeByte_radio (s : State) (a : Nat) (v : Byte) : (s.writeByte a v).radio = s.radio := rfl
@[simp] theorem State.writeByte_rx (s : State) (a : Nat) (v : Byte) : (s.writeByte a v).rx = s.rx := rfl
@[simp] theorem State.writeByte_tx (s : State) (a : Nat) (v : Byte) : (s.writeByte a v).tx = s.tx := rfl
@[simp] theorem State.writeByte_orx (s : State) (a : Nat) (v : Byte) : (s.writeByte a v).orx = s.orx := rfl
@[simp] theorem State.writeByte_pairs (s : State) (a : Nat) (v : Byte) : (s.writeByte a v).pairs = s.pairs := rfl
@[simp] theorem State.writeByte_prism (s : State) (a : Nat) (v : Byte) : (s.writeByte a v).prism = s.prism := rfl
@[simp] theorem State.writeByte_mir (s : State) (a : Nat) (v : Byte) : (s.writeByte a v).mir = s.mir := rfl
@[simp] theorem State.writeByte_flows (s : State) (a : Nat) (v : Byte) : (s.writeByte a v).flows = s.flows := rfl
@[simp] theorem State.writeByte_plc (s : State) (a : Nat) (v : Byte) : (s.writeByte a v).plc = s.plc := rfl
@[simp] theorem State.writeByte_ports (s : State) (a : Nat) (v : Byte) : (s.writeByte a v).ports = s.ports := rfl
@[simp] theorem State.writeByte_lanes (s : State) (a : Nat) (v : Byte) : (s.writeByte a v).lanes = s.lanes := rfl
@[simp] theorem State.writeByte_seqs (s : State) (a : Nat) (v : Byte) : (s.writeByte a v).seqs = s.seqs := rfl
@[simp] theorem State.writeByte_clk (s : State) (a : Nat) (v : Byte) : (s.writeByte a v).clk = s.clk := rfl
@[simp] theorem State.writeByte_engines (s : State) (a : Nat) (v : Byte) : (s.writeByte a v).engines = s.engines := rfl
@[simp] theorem State.writeByte_fab (s : State) (a : Nat) (v : Byte) : (s.writeByte a v).fab = s.fab := rfl
@[simp] theorem State.writeByte_dma (s : State) (a : Nat) (v : Byte) : (s.writeByte a v).dma = s.dma := rfl
@[simp] theorem State.writeByte_hk (s : State) (a : Nat) (v : Byte) : (s.writeByte a v).hk = s.hk := rfl
@[simp] theorem State.writeByte_pwm (s : State) (a : Nat) (v : Byte) : (s.writeByte a v).pwm = s.pwm := rfl
@[simp] theorem State.writeByte_svc (s : State) (a : Nat) (v : Byte) : (s.writeByte a v).svc = s.svc := rfl
@[simp] theorem State.writeByte_boot (s : State) (a : Nat) (v : Byte) : (s.writeByte a v).boot = s.boot := rfl
@[simp] theorem State.writeByte_ptb (s : State) (a : Nat) (v : Byte) : (s.writeByte a v).ptb = s.ptb := rfl
@[simp] theorem State.writeByte_free (s : State) (a : Nat) (v : Byte) : (s.writeByte a v).free = s.free := rfl
@[simp] theorem State.writeByte_pending (s : State) (a : Nat) (v : Byte) : (s.writeByte a v).pending = s.pending := rfl
@[simp] theorem State.writeByte_f (s : State) (a : Nat) (v : Byte) (y : Fld) (i1 j1 k1 : Nat) : (s.writeByte a v).f y i1 j1 k1 = s.f y i1 j1 k1 := rfl
@[simp] theorem State.writeByte_on (s : State) (a : Nat) (v : Byte) (y : Fld) (i1 j1 k1 : Nat) : (s.writeByte a v).on y i1 j1 k1 = s.on y i1 j1 k1 := rfl

/-! `State.shadowSet` -/

@[simp] theorem State.shadowSet_time (s : State) (q : Nat) (o : Owner) (v : Nat) : (s.shadowSet q o v).time = s.time := rfl
@[simp] theorem State.shadowSet_elapsed (s : State) (q : Nat) (o : Owner) (v : Nat) : (s.shadowSet q o v).elapsed = s.elapsed := rfl
@[simp] theorem State.shadowSet_regs (s : State) (q : Nat) (o : Owner) (v : Nat) : (s.shadowSet q o v).regs = s.regs := rfl
@[simp] theorem State.shadowSet_mem (s : State) (q : Nat) (o : Owner) (v : Nat) : (s.shadowSet q o v).mem = s.mem := rfl
@[simp] theorem State.shadowSet_faults (s : State) (q : Nat) (o : Owner) (v : Nat) : (s.shadowSet q o v).faults = s.faults := rfl
@[simp] theorem State.shadowSet_evc (s : State) (q : Nat) (o : Owner) (v : Nat) : (s.shadowSet q o v).evc = s.evc := rfl
@[simp] theorem State.shadowSet_power (s : State) (q : Nat) (o : Owner) (v : Nat) : (s.shadowSet q o v).power = s.power := rfl
@[simp] theorem State.shadowSet_radio (s : State) (q : Nat) (o : Owner) (v : Nat) : (s.shadowSet q o v).radio = s.radio := rfl
@[simp] theorem State.shadowSet_rx (s : State) (q : Nat) (o : Owner) (v : Nat) : (s.shadowSet q o v).rx = s.rx := rfl
@[simp] theorem State.shadowSet_tx (s : State) (q : Nat) (o : Owner) (v : Nat) : (s.shadowSet q o v).tx = s.tx := rfl
@[simp] theorem State.shadowSet_orx (s : State) (q : Nat) (o : Owner) (v : Nat) : (s.shadowSet q o v).orx = s.orx := rfl
@[simp] theorem State.shadowSet_pairs (s : State) (q : Nat) (o : Owner) (v : Nat) : (s.shadowSet q o v).pairs = s.pairs := rfl
@[simp] theorem State.shadowSet_prism (s : State) (q : Nat) (o : Owner) (v : Nat) : (s.shadowSet q o v).prism = s.prism := rfl
@[simp] theorem State.shadowSet_mir (s : State) (q : Nat) (o : Owner) (v : Nat) : (s.shadowSet q o v).mir = s.mir := rfl
@[simp] theorem State.shadowSet_flows (s : State) (q : Nat) (o : Owner) (v : Nat) : (s.shadowSet q o v).flows = s.flows := rfl
@[simp] theorem State.shadowSet_plc (s : State) (q : Nat) (o : Owner) (v : Nat) : (s.shadowSet q o v).plc = s.plc := rfl
@[simp] theorem State.shadowSet_ports (s : State) (q : Nat) (o : Owner) (v : Nat) : (s.shadowSet q o v).ports = s.ports := rfl
@[simp] theorem State.shadowSet_lanes (s : State) (q : Nat) (o : Owner) (v : Nat) : (s.shadowSet q o v).lanes = s.lanes := rfl
@[simp] theorem State.shadowSet_seqs (s : State) (q : Nat) (o : Owner) (v : Nat) : (s.shadowSet q o v).seqs = s.seqs := rfl
@[simp] theorem State.shadowSet_clk (s : State) (q : Nat) (o : Owner) (v : Nat) : (s.shadowSet q o v).clk = s.clk := rfl
@[simp] theorem State.shadowSet_engines (s : State) (q : Nat) (o : Owner) (v : Nat) : (s.shadowSet q o v).engines = s.engines := rfl
@[simp] theorem State.shadowSet_fab (s : State) (q : Nat) (o : Owner) (v : Nat) : (s.shadowSet q o v).fab = s.fab := rfl
@[simp] theorem State.shadowSet_dma (s : State) (q : Nat) (o : Owner) (v : Nat) : (s.shadowSet q o v).dma = s.dma := rfl
@[simp] theorem State.shadowSet_hk (s : State) (q : Nat) (o : Owner) (v : Nat) : (s.shadowSet q o v).hk = s.hk := rfl
@[simp] theorem State.shadowSet_pwm (s : State) (q : Nat) (o : Owner) (v : Nat) : (s.shadowSet q o v).pwm = s.pwm := rfl
@[simp] theorem State.shadowSet_svc (s : State) (q : Nat) (o : Owner) (v : Nat) : (s.shadowSet q o v).svc = s.svc := rfl
@[simp] theorem State.shadowSet_boot (s : State) (q : Nat) (o : Owner) (v : Nat) : (s.shadowSet q o v).boot = s.boot := rfl
@[simp] theorem State.shadowSet_ptb (s : State) (q : Nat) (o : Owner) (v : Nat) : (s.shadowSet q o v).ptb = s.ptb := rfl
@[simp] theorem State.shadowSet_free (s : State) (q : Nat) (o : Owner) (v : Nat) : (s.shadowSet q o v).free = s.free := rfl
@[simp] theorem State.shadowSet_pending (s : State) (q : Nat) (o : Owner) (v : Nat) : (s.shadowSet q o v).pending = s.pending := rfl
@[simp] theorem State.shadowSet_f (s : State) (q : Nat) (o : Owner) (v : Nat) (y : Fld) (i1 j1 k1 : Nat) : (s.shadowSet q o v).f y i1 j1 k1 = s.f y i1 j1 k1 := rfl
@[simp] theorem State.shadowSet_on (s : State) (q : Nat) (o : Owner) (v : Nat) (y : Fld) (i1 j1 k1 : Nat) : (s.shadowSet q o v).on y i1 j1 k1 = s.on y i1 j1 k1 := rfl

/-! `State.commitIf` -/

@[simp] theorem State.commitIf_time (s : State) (p : Shadow → Bool) : (s.commitIf p).time = s.time := rfl
@[simp] theorem State.commitIf_elapsed (s : State) (p : Shadow → Bool) : (s.commitIf p).elapsed = s.elapsed := rfl
@[simp] theorem State.commitIf_mem (s : State) (p : Shadow → Bool) : (s.commitIf p).mem = s.mem := rfl
@[simp] theorem State.commitIf_faults (s : State) (p : Shadow → Bool) : (s.commitIf p).faults = s.faults := rfl
@[simp] theorem State.commitIf_evc (s : State) (p : Shadow → Bool) : (s.commitIf p).evc = s.evc := rfl
@[simp] theorem State.commitIf_power (s : State) (p : Shadow → Bool) : (s.commitIf p).power = s.power := rfl
@[simp] theorem State.commitIf_radio (s : State) (p : Shadow → Bool) : (s.commitIf p).radio = s.radio := rfl
@[simp] theorem State.commitIf_rx (s : State) (p : Shadow → Bool) : (s.commitIf p).rx = s.rx := rfl
@[simp] theorem State.commitIf_tx (s : State) (p : Shadow → Bool) : (s.commitIf p).tx = s.tx := rfl
@[simp] theorem State.commitIf_orx (s : State) (p : Shadow → Bool) : (s.commitIf p).orx = s.orx := rfl
@[simp] theorem State.commitIf_pairs (s : State) (p : Shadow → Bool) : (s.commitIf p).pairs = s.pairs := rfl
@[simp] theorem State.commitIf_prism (s : State) (p : Shadow → Bool) : (s.commitIf p).prism = s.prism := rfl
@[simp] theorem State.commitIf_mir (s : State) (p : Shadow → Bool) : (s.commitIf p).mir = s.mir := rfl
@[simp] theorem State.commitIf_flows (s : State) (p : Shadow → Bool) : (s.commitIf p).flows = s.flows := rfl
@[simp] theorem State.commitIf_plc (s : State) (p : Shadow → Bool) : (s.commitIf p).plc = s.plc := rfl
@[simp] theorem State.commitIf_ports (s : State) (p : Shadow → Bool) : (s.commitIf p).ports = s.ports := rfl
@[simp] theorem State.commitIf_lanes (s : State) (p : Shadow → Bool) : (s.commitIf p).lanes = s.lanes := rfl
@[simp] theorem State.commitIf_seqs (s : State) (p : Shadow → Bool) : (s.commitIf p).seqs = s.seqs := rfl
@[simp] theorem State.commitIf_clk (s : State) (p : Shadow → Bool) : (s.commitIf p).clk = s.clk := rfl
@[simp] theorem State.commitIf_engines (s : State) (p : Shadow → Bool) : (s.commitIf p).engines = s.engines := rfl
@[simp] theorem State.commitIf_fab (s : State) (p : Shadow → Bool) : (s.commitIf p).fab = s.fab := rfl
@[simp] theorem State.commitIf_dma (s : State) (p : Shadow → Bool) : (s.commitIf p).dma = s.dma := rfl
@[simp] theorem State.commitIf_hk (s : State) (p : Shadow → Bool) : (s.commitIf p).hk = s.hk := rfl
@[simp] theorem State.commitIf_pwm (s : State) (p : Shadow → Bool) : (s.commitIf p).pwm = s.pwm := rfl
@[simp] theorem State.commitIf_svc (s : State) (p : Shadow → Bool) : (s.commitIf p).svc = s.svc := rfl
@[simp] theorem State.commitIf_boot (s : State) (p : Shadow → Bool) : (s.commitIf p).boot = s.boot := rfl
@[simp] theorem State.commitIf_ptb (s : State) (p : Shadow → Bool) : (s.commitIf p).ptb = s.ptb := rfl
@[simp] theorem State.commitIf_free (s : State) (p : Shadow → Bool) : (s.commitIf p).free = s.free := rfl
@[simp] theorem State.commitIf_pending (s : State) (p : Shadow → Bool) : (s.commitIf p).pending = s.pending := rfl

/-! `State.setSynth` -/

@[simp] theorem State.setSynth_time (s : State) (n : Nat) (v : Synth) : (s.setSynth n v).time = s.time := rfl
@[simp] theorem State.setSynth_elapsed (s : State) (n : Nat) (v : Synth) : (s.setSynth n v).elapsed = s.elapsed := rfl
@[simp] theorem State.setSynth_regs (s : State) (n : Nat) (v : Synth) : (s.setSynth n v).regs = s.regs := rfl
@[simp] theorem State.setSynth_shadow (s : State) (n : Nat) (v : Synth) : (s.setSynth n v).shadow = s.shadow := rfl
@[simp] theorem State.setSynth_mem (s : State) (n : Nat) (v : Synth) : (s.setSynth n v).mem = s.mem := rfl
@[simp] theorem State.setSynth_faults (s : State) (n : Nat) (v : Synth) : (s.setSynth n v).faults = s.faults := rfl
@[simp] theorem State.setSynth_evc (s : State) (n : Nat) (v : Synth) : (s.setSynth n v).evc = s.evc := rfl
@[simp] theorem State.setSynth_power (s : State) (n : Nat) (v : Synth) : (s.setSynth n v).power = s.power := rfl
@[simp] theorem State.setSynth_rx (s : State) (n : Nat) (v : Synth) : (s.setSynth n v).rx = s.rx := rfl
@[simp] theorem State.setSynth_tx (s : State) (n : Nat) (v : Synth) : (s.setSynth n v).tx = s.tx := rfl
@[simp] theorem State.setSynth_orx (s : State) (n : Nat) (v : Synth) : (s.setSynth n v).orx = s.orx := rfl
@[simp] theorem State.setSynth_pairs (s : State) (n : Nat) (v : Synth) : (s.setSynth n v).pairs = s.pairs := rfl
@[simp] theorem State.setSynth_prism (s : State) (n : Nat) (v : Synth) : (s.setSynth n v).prism = s.prism := rfl
@[simp] theorem State.setSynth_mir (s : State) (n : Nat) (v : Synth) : (s.setSynth n v).mir = s.mir := rfl
@[simp] theorem State.setSynth_flows (s : State) (n : Nat) (v : Synth) : (s.setSynth n v).flows = s.flows := rfl
@[simp] theorem State.setSynth_plc (s : State) (n : Nat) (v : Synth) : (s.setSynth n v).plc = s.plc := rfl
@[simp] theorem State.setSynth_ports (s : State) (n : Nat) (v : Synth) : (s.setSynth n v).ports = s.ports := rfl
@[simp] theorem State.setSynth_lanes (s : State) (n : Nat) (v : Synth) : (s.setSynth n v).lanes = s.lanes := rfl
@[simp] theorem State.setSynth_seqs (s : State) (n : Nat) (v : Synth) : (s.setSynth n v).seqs = s.seqs := rfl
@[simp] theorem State.setSynth_clk (s : State) (n : Nat) (v : Synth) : (s.setSynth n v).clk = s.clk := rfl
@[simp] theorem State.setSynth_engines (s : State) (n : Nat) (v : Synth) : (s.setSynth n v).engines = s.engines := rfl
@[simp] theorem State.setSynth_fab (s : State) (n : Nat) (v : Synth) : (s.setSynth n v).fab = s.fab := rfl
@[simp] theorem State.setSynth_dma (s : State) (n : Nat) (v : Synth) : (s.setSynth n v).dma = s.dma := rfl
@[simp] theorem State.setSynth_hk (s : State) (n : Nat) (v : Synth) : (s.setSynth n v).hk = s.hk := rfl
@[simp] theorem State.setSynth_pwm (s : State) (n : Nat) (v : Synth) : (s.setSynth n v).pwm = s.pwm := rfl
@[simp] theorem State.setSynth_svc (s : State) (n : Nat) (v : Synth) : (s.setSynth n v).svc = s.svc := rfl
@[simp] theorem State.setSynth_boot (s : State) (n : Nat) (v : Synth) : (s.setSynth n v).boot = s.boot := rfl
@[simp] theorem State.setSynth_ptb (s : State) (n : Nat) (v : Synth) : (s.setSynth n v).ptb = s.ptb := rfl
@[simp] theorem State.setSynth_free (s : State) (n : Nat) (v : Synth) : (s.setSynth n v).free = s.free := rfl
@[simp] theorem State.setSynth_pending (s : State) (n : Nat) (v : Synth) : (s.setSynth n v).pending = s.pending := rfl
@[simp] theorem State.setSynth_f (s : State) (n : Nat) (v : Synth) (y : Fld) (i1 j1 k1 : Nat) : (s.setSynth n v).f y i1 j1 k1 = s.f y i1 j1 k1 := rfl
@[simp] theorem State.setSynth_on (s : State) (n : Nat) (v : Synth) (y : Fld) (i1 j1 k1 : Nat) : (s.setSynth n v).on y i1 j1 k1 = s.on y i1 j1 k1 := rfl

/-! `State.setTile` -/

@[simp] theorem State.setTile_time (s : State) (n : Nat) (v : Tile) : (s.setTile n v).time = s.time := rfl
@[simp] theorem State.setTile_elapsed (s : State) (n : Nat) (v : Tile) : (s.setTile n v).elapsed = s.elapsed := rfl
@[simp] theorem State.setTile_regs (s : State) (n : Nat) (v : Tile) : (s.setTile n v).regs = s.regs := rfl
@[simp] theorem State.setTile_shadow (s : State) (n : Nat) (v : Tile) : (s.setTile n v).shadow = s.shadow := rfl
@[simp] theorem State.setTile_mem (s : State) (n : Nat) (v : Tile) : (s.setTile n v).mem = s.mem := rfl
@[simp] theorem State.setTile_faults (s : State) (n : Nat) (v : Tile) : (s.setTile n v).faults = s.faults := rfl
@[simp] theorem State.setTile_evc (s : State) (n : Nat) (v : Tile) : (s.setTile n v).evc = s.evc := rfl
@[simp] theorem State.setTile_power (s : State) (n : Nat) (v : Tile) : (s.setTile n v).power = s.power := rfl
@[simp] theorem State.setTile_rx (s : State) (n : Nat) (v : Tile) : (s.setTile n v).rx = s.rx := rfl
@[simp] theorem State.setTile_tx (s : State) (n : Nat) (v : Tile) : (s.setTile n v).tx = s.tx := rfl
@[simp] theorem State.setTile_orx (s : State) (n : Nat) (v : Tile) : (s.setTile n v).orx = s.orx := rfl
@[simp] theorem State.setTile_pairs (s : State) (n : Nat) (v : Tile) : (s.setTile n v).pairs = s.pairs := rfl
@[simp] theorem State.setTile_prism (s : State) (n : Nat) (v : Tile) : (s.setTile n v).prism = s.prism := rfl
@[simp] theorem State.setTile_mir (s : State) (n : Nat) (v : Tile) : (s.setTile n v).mir = s.mir := rfl
@[simp] theorem State.setTile_flows (s : State) (n : Nat) (v : Tile) : (s.setTile n v).flows = s.flows := rfl
@[simp] theorem State.setTile_plc (s : State) (n : Nat) (v : Tile) : (s.setTile n v).plc = s.plc := rfl
@[simp] theorem State.setTile_ports (s : State) (n : Nat) (v : Tile) : (s.setTile n v).ports = s.ports := rfl
@[simp] theorem State.setTile_lanes (s : State) (n : Nat) (v : Tile) : (s.setTile n v).lanes = s.lanes := rfl
@[simp] theorem State.setTile_seqs (s : State) (n : Nat) (v : Tile) : (s.setTile n v).seqs = s.seqs := rfl
@[simp] theorem State.setTile_clk (s : State) (n : Nat) (v : Tile) : (s.setTile n v).clk = s.clk := rfl
@[simp] theorem State.setTile_engines (s : State) (n : Nat) (v : Tile) : (s.setTile n v).engines = s.engines := rfl
@[simp] theorem State.setTile_fab (s : State) (n : Nat) (v : Tile) : (s.setTile n v).fab = s.fab := rfl
@[simp] theorem State.setTile_dma (s : State) (n : Nat) (v : Tile) : (s.setTile n v).dma = s.dma := rfl
@[simp] theorem State.setTile_hk (s : State) (n : Nat) (v : Tile) : (s.setTile n v).hk = s.hk := rfl
@[simp] theorem State.setTile_pwm (s : State) (n : Nat) (v : Tile) : (s.setTile n v).pwm = s.pwm := rfl
@[simp] theorem State.setTile_svc (s : State) (n : Nat) (v : Tile) : (s.setTile n v).svc = s.svc := rfl
@[simp] theorem State.setTile_boot (s : State) (n : Nat) (v : Tile) : (s.setTile n v).boot = s.boot := rfl
@[simp] theorem State.setTile_ptb (s : State) (n : Nat) (v : Tile) : (s.setTile n v).ptb = s.ptb := rfl
@[simp] theorem State.setTile_free (s : State) (n : Nat) (v : Tile) : (s.setTile n v).free = s.free := rfl
@[simp] theorem State.setTile_pending (s : State) (n : Nat) (v : Tile) : (s.setTile n v).pending = s.pending := rfl
@[simp] theorem State.setTile_f (s : State) (n : Nat) (v : Tile) (y : Fld) (i1 j1 k1 : Nat) : (s.setTile n v).f y i1 j1 k1 = s.f y i1 j1 k1 := rfl
@[simp] theorem State.setTile_on (s : State) (n : Nat) (v : Tile) (y : Fld) (i1 j1 k1 : Nat) : (s.setTile n v).on y i1 j1 k1 = s.on y i1 j1 k1 := rfl

/-! `State.setModT` -/

@[simp] theorem State.setModT_time (s : State) (n : Nat) (v : ModTimer) : (s.setModT n v).time = s.time := rfl
@[simp] theorem State.setModT_elapsed (s : State) (n : Nat) (v : ModTimer) : (s.setModT n v).elapsed = s.elapsed := rfl
@[simp] theorem State.setModT_regs (s : State) (n : Nat) (v : ModTimer) : (s.setModT n v).regs = s.regs := rfl
@[simp] theorem State.setModT_shadow (s : State) (n : Nat) (v : ModTimer) : (s.setModT n v).shadow = s.shadow := rfl
@[simp] theorem State.setModT_mem (s : State) (n : Nat) (v : ModTimer) : (s.setModT n v).mem = s.mem := rfl
@[simp] theorem State.setModT_faults (s : State) (n : Nat) (v : ModTimer) : (s.setModT n v).faults = s.faults := rfl
@[simp] theorem State.setModT_power (s : State) (n : Nat) (v : ModTimer) : (s.setModT n v).power = s.power := rfl
@[simp] theorem State.setModT_radio (s : State) (n : Nat) (v : ModTimer) : (s.setModT n v).radio = s.radio := rfl
@[simp] theorem State.setModT_rx (s : State) (n : Nat) (v : ModTimer) : (s.setModT n v).rx = s.rx := rfl
@[simp] theorem State.setModT_tx (s : State) (n : Nat) (v : ModTimer) : (s.setModT n v).tx = s.tx := rfl
@[simp] theorem State.setModT_orx (s : State) (n : Nat) (v : ModTimer) : (s.setModT n v).orx = s.orx := rfl
@[simp] theorem State.setModT_pairs (s : State) (n : Nat) (v : ModTimer) : (s.setModT n v).pairs = s.pairs := rfl
@[simp] theorem State.setModT_prism (s : State) (n : Nat) (v : ModTimer) : (s.setModT n v).prism = s.prism := rfl
@[simp] theorem State.setModT_mir (s : State) (n : Nat) (v : ModTimer) : (s.setModT n v).mir = s.mir := rfl
@[simp] theorem State.setModT_flows (s : State) (n : Nat) (v : ModTimer) : (s.setModT n v).flows = s.flows := rfl
@[simp] theorem State.setModT_plc (s : State) (n : Nat) (v : ModTimer) : (s.setModT n v).plc = s.plc := rfl
@[simp] theorem State.setModT_ports (s : State) (n : Nat) (v : ModTimer) : (s.setModT n v).ports = s.ports := rfl
@[simp] theorem State.setModT_lanes (s : State) (n : Nat) (v : ModTimer) : (s.setModT n v).lanes = s.lanes := rfl
@[simp] theorem State.setModT_seqs (s : State) (n : Nat) (v : ModTimer) : (s.setModT n v).seqs = s.seqs := rfl
@[simp] theorem State.setModT_clk (s : State) (n : Nat) (v : ModTimer) : (s.setModT n v).clk = s.clk := rfl
@[simp] theorem State.setModT_engines (s : State) (n : Nat) (v : ModTimer) : (s.setModT n v).engines = s.engines := rfl
@[simp] theorem State.setModT_fab (s : State) (n : Nat) (v : ModTimer) : (s.setModT n v).fab = s.fab := rfl
@[simp] theorem State.setModT_dma (s : State) (n : Nat) (v : ModTimer) : (s.setModT n v).dma = s.dma := rfl
@[simp] theorem State.setModT_hk (s : State) (n : Nat) (v : ModTimer) : (s.setModT n v).hk = s.hk := rfl
@[simp] theorem State.setModT_pwm (s : State) (n : Nat) (v : ModTimer) : (s.setModT n v).pwm = s.pwm := rfl
@[simp] theorem State.setModT_svc (s : State) (n : Nat) (v : ModTimer) : (s.setModT n v).svc = s.svc := rfl
@[simp] theorem State.setModT_boot (s : State) (n : Nat) (v : ModTimer) : (s.setModT n v).boot = s.boot := rfl
@[simp] theorem State.setModT_ptb (s : State) (n : Nat) (v : ModTimer) : (s.setModT n v).ptb = s.ptb := rfl
@[simp] theorem State.setModT_free (s : State) (n : Nat) (v : ModTimer) : (s.setModT n v).free = s.free := rfl
@[simp] theorem State.setModT_pending (s : State) (n : Nat) (v : ModTimer) : (s.setModT n v).pending = s.pending := rfl
@[simp] theorem State.setModT_f (s : State) (n : Nat) (v : ModTimer) (y : Fld) (i1 j1 k1 : Nat) : (s.setModT n v).f y i1 j1 k1 = s.f y i1 j1 k1 := rfl
@[simp] theorem State.setModT_on (s : State) (n : Nat) (v : ModTimer) (y : Fld) (i1 j1 k1 : Nat) : (s.setModT n v).on y i1 j1 k1 = s.on y i1 j1 k1 := rfl

/-! `State.setPort` -/

@[simp] theorem State.setPort_time (s : State) (n : Nat) (v : LinkPort) : (s.setPort n v).time = s.time := rfl
@[simp] theorem State.setPort_elapsed (s : State) (n : Nat) (v : LinkPort) : (s.setPort n v).elapsed = s.elapsed := rfl
@[simp] theorem State.setPort_regs (s : State) (n : Nat) (v : LinkPort) : (s.setPort n v).regs = s.regs := rfl
@[simp] theorem State.setPort_shadow (s : State) (n : Nat) (v : LinkPort) : (s.setPort n v).shadow = s.shadow := rfl
@[simp] theorem State.setPort_mem (s : State) (n : Nat) (v : LinkPort) : (s.setPort n v).mem = s.mem := rfl
@[simp] theorem State.setPort_faults (s : State) (n : Nat) (v : LinkPort) : (s.setPort n v).faults = s.faults := rfl
@[simp] theorem State.setPort_evc (s : State) (n : Nat) (v : LinkPort) : (s.setPort n v).evc = s.evc := rfl
@[simp] theorem State.setPort_power (s : State) (n : Nat) (v : LinkPort) : (s.setPort n v).power = s.power := rfl
@[simp] theorem State.setPort_radio (s : State) (n : Nat) (v : LinkPort) : (s.setPort n v).radio = s.radio := rfl
@[simp] theorem State.setPort_rx (s : State) (n : Nat) (v : LinkPort) : (s.setPort n v).rx = s.rx := rfl
@[simp] theorem State.setPort_tx (s : State) (n : Nat) (v : LinkPort) : (s.setPort n v).tx = s.tx := rfl
@[simp] theorem State.setPort_orx (s : State) (n : Nat) (v : LinkPort) : (s.setPort n v).orx = s.orx := rfl
@[simp] theorem State.setPort_pairs (s : State) (n : Nat) (v : LinkPort) : (s.setPort n v).pairs = s.pairs := rfl
@[simp] theorem State.setPort_prism (s : State) (n : Nat) (v : LinkPort) : (s.setPort n v).prism = s.prism := rfl
@[simp] theorem State.setPort_mir (s : State) (n : Nat) (v : LinkPort) : (s.setPort n v).mir = s.mir := rfl
@[simp] theorem State.setPort_flows (s : State) (n : Nat) (v : LinkPort) : (s.setPort n v).flows = s.flows := rfl
@[simp] theorem State.setPort_plc (s : State) (n : Nat) (v : LinkPort) : (s.setPort n v).plc = s.plc := rfl
@[simp] theorem State.setPort_lanes (s : State) (n : Nat) (v : LinkPort) : (s.setPort n v).lanes = s.lanes := rfl
@[simp] theorem State.setPort_seqs (s : State) (n : Nat) (v : LinkPort) : (s.setPort n v).seqs = s.seqs := rfl
@[simp] theorem State.setPort_clk (s : State) (n : Nat) (v : LinkPort) : (s.setPort n v).clk = s.clk := rfl
@[simp] theorem State.setPort_engines (s : State) (n : Nat) (v : LinkPort) : (s.setPort n v).engines = s.engines := rfl
@[simp] theorem State.setPort_fab (s : State) (n : Nat) (v : LinkPort) : (s.setPort n v).fab = s.fab := rfl
@[simp] theorem State.setPort_dma (s : State) (n : Nat) (v : LinkPort) : (s.setPort n v).dma = s.dma := rfl
@[simp] theorem State.setPort_hk (s : State) (n : Nat) (v : LinkPort) : (s.setPort n v).hk = s.hk := rfl
@[simp] theorem State.setPort_pwm (s : State) (n : Nat) (v : LinkPort) : (s.setPort n v).pwm = s.pwm := rfl
@[simp] theorem State.setPort_svc (s : State) (n : Nat) (v : LinkPort) : (s.setPort n v).svc = s.svc := rfl
@[simp] theorem State.setPort_boot (s : State) (n : Nat) (v : LinkPort) : (s.setPort n v).boot = s.boot := rfl
@[simp] theorem State.setPort_ptb (s : State) (n : Nat) (v : LinkPort) : (s.setPort n v).ptb = s.ptb := rfl
@[simp] theorem State.setPort_free (s : State) (n : Nat) (v : LinkPort) : (s.setPort n v).free = s.free := rfl
@[simp] theorem State.setPort_pending (s : State) (n : Nat) (v : LinkPort) : (s.setPort n v).pending = s.pending := rfl
@[simp] theorem State.setPort_f (s : State) (n : Nat) (v : LinkPort) (y : Fld) (i1 j1 k1 : Nat) : (s.setPort n v).f y i1 j1 k1 = s.f y i1 j1 k1 := rfl
@[simp] theorem State.setPort_on (s : State) (n : Nat) (v : LinkPort) (y : Fld) (i1 j1 k1 : Nat) : (s.setPort n v).on y i1 j1 k1 = s.on y i1 j1 k1 := rfl

/-! `State.setTxp` -/

@[simp] theorem State.setTxp_time (s : State) (n : Nat) (v : TxPath) : (s.setTxp n v).time = s.time := rfl
@[simp] theorem State.setTxp_elapsed (s : State) (n : Nat) (v : TxPath) : (s.setTxp n v).elapsed = s.elapsed := rfl
@[simp] theorem State.setTxp_regs (s : State) (n : Nat) (v : TxPath) : (s.setTxp n v).regs = s.regs := rfl
@[simp] theorem State.setTxp_shadow (s : State) (n : Nat) (v : TxPath) : (s.setTxp n v).shadow = s.shadow := rfl
@[simp] theorem State.setTxp_mem (s : State) (n : Nat) (v : TxPath) : (s.setTxp n v).mem = s.mem := rfl
@[simp] theorem State.setTxp_faults (s : State) (n : Nat) (v : TxPath) : (s.setTxp n v).faults = s.faults := rfl
@[simp] theorem State.setTxp_evc (s : State) (n : Nat) (v : TxPath) : (s.setTxp n v).evc = s.evc := rfl
@[simp] theorem State.setTxp_power (s : State) (n : Nat) (v : TxPath) : (s.setTxp n v).power = s.power := rfl
@[simp] theorem State.setTxp_radio (s : State) (n : Nat) (v : TxPath) : (s.setTxp n v).radio = s.radio := rfl
@[simp] theorem State.setTxp_rx (s : State) (n : Nat) (v : TxPath) : (s.setTxp n v).rx = s.rx := rfl
@[simp] theorem State.setTxp_orx (s : State) (n : Nat) (v : TxPath) : (s.setTxp n v).orx = s.orx := rfl
@[simp] theorem State.setTxp_pairs (s : State) (n : Nat) (v : TxPath) : (s.setTxp n v).pairs = s.pairs := rfl
@[simp] theorem State.setTxp_prism (s : State) (n : Nat) (v : TxPath) : (s.setTxp n v).prism = s.prism := rfl
@[simp] theorem State.setTxp_mir (s : State) (n : Nat) (v : TxPath) : (s.setTxp n v).mir = s.mir := rfl
@[simp] theorem State.setTxp_flows (s : State) (n : Nat) (v : TxPath) : (s.setTxp n v).flows = s.flows := rfl
@[simp] theorem State.setTxp_plc (s : State) (n : Nat) (v : TxPath) : (s.setTxp n v).plc = s.plc := rfl
@[simp] theorem State.setTxp_ports (s : State) (n : Nat) (v : TxPath) : (s.setTxp n v).ports = s.ports := rfl
@[simp] theorem State.setTxp_lanes (s : State) (n : Nat) (v : TxPath) : (s.setTxp n v).lanes = s.lanes := rfl
@[simp] theorem State.setTxp_seqs (s : State) (n : Nat) (v : TxPath) : (s.setTxp n v).seqs = s.seqs := rfl
@[simp] theorem State.setTxp_clk (s : State) (n : Nat) (v : TxPath) : (s.setTxp n v).clk = s.clk := rfl
@[simp] theorem State.setTxp_engines (s : State) (n : Nat) (v : TxPath) : (s.setTxp n v).engines = s.engines := rfl
@[simp] theorem State.setTxp_fab (s : State) (n : Nat) (v : TxPath) : (s.setTxp n v).fab = s.fab := rfl
@[simp] theorem State.setTxp_dma (s : State) (n : Nat) (v : TxPath) : (s.setTxp n v).dma = s.dma := rfl
@[simp] theorem State.setTxp_hk (s : State) (n : Nat) (v : TxPath) : (s.setTxp n v).hk = s.hk := rfl
@[simp] theorem State.setTxp_pwm (s : State) (n : Nat) (v : TxPath) : (s.setTxp n v).pwm = s.pwm := rfl
@[simp] theorem State.setTxp_svc (s : State) (n : Nat) (v : TxPath) : (s.setTxp n v).svc = s.svc := rfl
@[simp] theorem State.setTxp_boot (s : State) (n : Nat) (v : TxPath) : (s.setTxp n v).boot = s.boot := rfl
@[simp] theorem State.setTxp_ptb (s : State) (n : Nat) (v : TxPath) : (s.setTxp n v).ptb = s.ptb := rfl
@[simp] theorem State.setTxp_free (s : State) (n : Nat) (v : TxPath) : (s.setTxp n v).free = s.free := rfl
@[simp] theorem State.setTxp_pending (s : State) (n : Nat) (v : TxPath) : (s.setTxp n v).pending = s.pending := rfl
@[simp] theorem State.setTxp_f (s : State) (n : Nat) (v : TxPath) (y : Fld) (i1 j1 k1 : Nat) : (s.setTxp n v).f y i1 j1 k1 = s.f y i1 j1 k1 := rfl
@[simp] theorem State.setTxp_on (s : State) (n : Nat) (v : TxPath) (y : Fld) (i1 j1 k1 : Nat) : (s.setTxp n v).on y i1 j1 k1 = s.on y i1 j1 k1 := rfl

/-! `State.setRxp` -/

@[simp] theorem State.setRxp_time (s : State) (n : Nat) (v : RxPath) : (s.setRxp n v).time = s.time := rfl
@[simp] theorem State.setRxp_elapsed (s : State) (n : Nat) (v : RxPath) : (s.setRxp n v).elapsed = s.elapsed := rfl
@[simp] theorem State.setRxp_regs (s : State) (n : Nat) (v : RxPath) : (s.setRxp n v).regs = s.regs := rfl
@[simp] theorem State.setRxp_shadow (s : State) (n : Nat) (v : RxPath) : (s.setRxp n v).shadow = s.shadow := rfl
@[simp] theorem State.setRxp_mem (s : State) (n : Nat) (v : RxPath) : (s.setRxp n v).mem = s.mem := rfl
@[simp] theorem State.setRxp_faults (s : State) (n : Nat) (v : RxPath) : (s.setRxp n v).faults = s.faults := rfl
@[simp] theorem State.setRxp_evc (s : State) (n : Nat) (v : RxPath) : (s.setRxp n v).evc = s.evc := rfl
@[simp] theorem State.setRxp_power (s : State) (n : Nat) (v : RxPath) : (s.setRxp n v).power = s.power := rfl
@[simp] theorem State.setRxp_radio (s : State) (n : Nat) (v : RxPath) : (s.setRxp n v).radio = s.radio := rfl
@[simp] theorem State.setRxp_tx (s : State) (n : Nat) (v : RxPath) : (s.setRxp n v).tx = s.tx := rfl
@[simp] theorem State.setRxp_orx (s : State) (n : Nat) (v : RxPath) : (s.setRxp n v).orx = s.orx := rfl
@[simp] theorem State.setRxp_pairs (s : State) (n : Nat) (v : RxPath) : (s.setRxp n v).pairs = s.pairs := rfl
@[simp] theorem State.setRxp_prism (s : State) (n : Nat) (v : RxPath) : (s.setRxp n v).prism = s.prism := rfl
@[simp] theorem State.setRxp_mir (s : State) (n : Nat) (v : RxPath) : (s.setRxp n v).mir = s.mir := rfl
@[simp] theorem State.setRxp_flows (s : State) (n : Nat) (v : RxPath) : (s.setRxp n v).flows = s.flows := rfl
@[simp] theorem State.setRxp_plc (s : State) (n : Nat) (v : RxPath) : (s.setRxp n v).plc = s.plc := rfl
@[simp] theorem State.setRxp_ports (s : State) (n : Nat) (v : RxPath) : (s.setRxp n v).ports = s.ports := rfl
@[simp] theorem State.setRxp_lanes (s : State) (n : Nat) (v : RxPath) : (s.setRxp n v).lanes = s.lanes := rfl
@[simp] theorem State.setRxp_seqs (s : State) (n : Nat) (v : RxPath) : (s.setRxp n v).seqs = s.seqs := rfl
@[simp] theorem State.setRxp_clk (s : State) (n : Nat) (v : RxPath) : (s.setRxp n v).clk = s.clk := rfl
@[simp] theorem State.setRxp_engines (s : State) (n : Nat) (v : RxPath) : (s.setRxp n v).engines = s.engines := rfl
@[simp] theorem State.setRxp_fab (s : State) (n : Nat) (v : RxPath) : (s.setRxp n v).fab = s.fab := rfl
@[simp] theorem State.setRxp_dma (s : State) (n : Nat) (v : RxPath) : (s.setRxp n v).dma = s.dma := rfl
@[simp] theorem State.setRxp_hk (s : State) (n : Nat) (v : RxPath) : (s.setRxp n v).hk = s.hk := rfl
@[simp] theorem State.setRxp_pwm (s : State) (n : Nat) (v : RxPath) : (s.setRxp n v).pwm = s.pwm := rfl
@[simp] theorem State.setRxp_svc (s : State) (n : Nat) (v : RxPath) : (s.setRxp n v).svc = s.svc := rfl
@[simp] theorem State.setRxp_boot (s : State) (n : Nat) (v : RxPath) : (s.setRxp n v).boot = s.boot := rfl
@[simp] theorem State.setRxp_ptb (s : State) (n : Nat) (v : RxPath) : (s.setRxp n v).ptb = s.ptb := rfl
@[simp] theorem State.setRxp_free (s : State) (n : Nat) (v : RxPath) : (s.setRxp n v).free = s.free := rfl
@[simp] theorem State.setRxp_pending (s : State) (n : Nat) (v : RxPath) : (s.setRxp n v).pending = s.pending := rfl
@[simp] theorem State.setRxp_f (s : State) (n : Nat) (v : RxPath) (y : Fld) (i1 j1 k1 : Nat) : (s.setRxp n v).f y i1 j1 k1 = s.f y i1 j1 k1 := rfl
@[simp] theorem State.setRxp_on (s : State) (n : Nat) (v : RxPath) (y : Fld) (i1 j1 k1 : Nat) : (s.setRxp n v).on y i1 j1 k1 = s.on y i1 j1 k1 := rfl

/-! `State.setOrx` -/

@[simp] theorem State.setOrx_time (s : State) (n : Nat) (v : Orx) : (s.setOrx n v).time = s.time := rfl
@[simp] theorem State.setOrx_elapsed (s : State) (n : Nat) (v : Orx) : (s.setOrx n v).elapsed = s.elapsed := rfl
@[simp] theorem State.setOrx_regs (s : State) (n : Nat) (v : Orx) : (s.setOrx n v).regs = s.regs := rfl
@[simp] theorem State.setOrx_shadow (s : State) (n : Nat) (v : Orx) : (s.setOrx n v).shadow = s.shadow := rfl
@[simp] theorem State.setOrx_mem (s : State) (n : Nat) (v : Orx) : (s.setOrx n v).mem = s.mem := rfl
@[simp] theorem State.setOrx_faults (s : State) (n : Nat) (v : Orx) : (s.setOrx n v).faults = s.faults := rfl
@[simp] theorem State.setOrx_evc (s : State) (n : Nat) (v : Orx) : (s.setOrx n v).evc = s.evc := rfl
@[simp] theorem State.setOrx_power (s : State) (n : Nat) (v : Orx) : (s.setOrx n v).power = s.power := rfl
@[simp] theorem State.setOrx_radio (s : State) (n : Nat) (v : Orx) : (s.setOrx n v).radio = s.radio := rfl
@[simp] theorem State.setOrx_rx (s : State) (n : Nat) (v : Orx) : (s.setOrx n v).rx = s.rx := rfl
@[simp] theorem State.setOrx_tx (s : State) (n : Nat) (v : Orx) : (s.setOrx n v).tx = s.tx := rfl
@[simp] theorem State.setOrx_pairs (s : State) (n : Nat) (v : Orx) : (s.setOrx n v).pairs = s.pairs := rfl
@[simp] theorem State.setOrx_prism (s : State) (n : Nat) (v : Orx) : (s.setOrx n v).prism = s.prism := rfl
@[simp] theorem State.setOrx_mir (s : State) (n : Nat) (v : Orx) : (s.setOrx n v).mir = s.mir := rfl
@[simp] theorem State.setOrx_flows (s : State) (n : Nat) (v : Orx) : (s.setOrx n v).flows = s.flows := rfl
@[simp] theorem State.setOrx_plc (s : State) (n : Nat) (v : Orx) : (s.setOrx n v).plc = s.plc := rfl
@[simp] theorem State.setOrx_ports (s : State) (n : Nat) (v : Orx) : (s.setOrx n v).ports = s.ports := rfl
@[simp] theorem State.setOrx_lanes (s : State) (n : Nat) (v : Orx) : (s.setOrx n v).lanes = s.lanes := rfl
@[simp] theorem State.setOrx_seqs (s : State) (n : Nat) (v : Orx) : (s.setOrx n v).seqs = s.seqs := rfl
@[simp] theorem State.setOrx_clk (s : State) (n : Nat) (v : Orx) : (s.setOrx n v).clk = s.clk := rfl
@[simp] theorem State.setOrx_engines (s : State) (n : Nat) (v : Orx) : (s.setOrx n v).engines = s.engines := rfl
@[simp] theorem State.setOrx_fab (s : State) (n : Nat) (v : Orx) : (s.setOrx n v).fab = s.fab := rfl
@[simp] theorem State.setOrx_dma (s : State) (n : Nat) (v : Orx) : (s.setOrx n v).dma = s.dma := rfl
@[simp] theorem State.setOrx_hk (s : State) (n : Nat) (v : Orx) : (s.setOrx n v).hk = s.hk := rfl
@[simp] theorem State.setOrx_pwm (s : State) (n : Nat) (v : Orx) : (s.setOrx n v).pwm = s.pwm := rfl
@[simp] theorem State.setOrx_svc (s : State) (n : Nat) (v : Orx) : (s.setOrx n v).svc = s.svc := rfl
@[simp] theorem State.setOrx_boot (s : State) (n : Nat) (v : Orx) : (s.setOrx n v).boot = s.boot := rfl
@[simp] theorem State.setOrx_ptb (s : State) (n : Nat) (v : Orx) : (s.setOrx n v).ptb = s.ptb := rfl
@[simp] theorem State.setOrx_free (s : State) (n : Nat) (v : Orx) : (s.setOrx n v).free = s.free := rfl
@[simp] theorem State.setOrx_pending (s : State) (n : Nat) (v : Orx) : (s.setOrx n v).pending = s.pending := rfl
@[simp] theorem State.setOrx_f (s : State) (n : Nat) (v : Orx) (y : Fld) (i1 j1 k1 : Nat) : (s.setOrx n v).f y i1 j1 k1 = s.f y i1 j1 k1 := rfl
@[simp] theorem State.setOrx_on (s : State) (n : Nat) (v : Orx) (y : Fld) (i1 j1 k1 : Nat) : (s.setOrx n v).on y i1 j1 k1 = s.on y i1 j1 k1 := rfl

/-! `State.setPair` -/

@[simp] theorem State.setPair_time (s : State) (n e : Nat) (v : DpdPair) : (s.setPair n e v).time = s.time := rfl
@[simp] theorem State.setPair_elapsed (s : State) (n e : Nat) (v : DpdPair) : (s.setPair n e v).elapsed = s.elapsed := rfl
@[simp] theorem State.setPair_regs (s : State) (n e : Nat) (v : DpdPair) : (s.setPair n e v).regs = s.regs := rfl
@[simp] theorem State.setPair_shadow (s : State) (n e : Nat) (v : DpdPair) : (s.setPair n e v).shadow = s.shadow := rfl
@[simp] theorem State.setPair_mem (s : State) (n e : Nat) (v : DpdPair) : (s.setPair n e v).mem = s.mem := rfl
@[simp] theorem State.setPair_faults (s : State) (n e : Nat) (v : DpdPair) : (s.setPair n e v).faults = s.faults := rfl
@[simp] theorem State.setPair_evc (s : State) (n e : Nat) (v : DpdPair) : (s.setPair n e v).evc = s.evc := rfl
@[simp] theorem State.setPair_power (s : State) (n e : Nat) (v : DpdPair) : (s.setPair n e v).power = s.power := rfl
@[simp] theorem State.setPair_radio (s : State) (n e : Nat) (v : DpdPair) : (s.setPair n e v).radio = s.radio := rfl
@[simp] theorem State.setPair_rx (s : State) (n e : Nat) (v : DpdPair) : (s.setPair n e v).rx = s.rx := rfl
@[simp] theorem State.setPair_tx (s : State) (n e : Nat) (v : DpdPair) : (s.setPair n e v).tx = s.tx := rfl
@[simp] theorem State.setPair_orx (s : State) (n e : Nat) (v : DpdPair) : (s.setPair n e v).orx = s.orx := rfl
@[simp] theorem State.setPair_prism (s : State) (n e : Nat) (v : DpdPair) : (s.setPair n e v).prism = s.prism := rfl
@[simp] theorem State.setPair_mir (s : State) (n e : Nat) (v : DpdPair) : (s.setPair n e v).mir = s.mir := rfl
@[simp] theorem State.setPair_flows (s : State) (n e : Nat) (v : DpdPair) : (s.setPair n e v).flows = s.flows := rfl
@[simp] theorem State.setPair_plc (s : State) (n e : Nat) (v : DpdPair) : (s.setPair n e v).plc = s.plc := rfl
@[simp] theorem State.setPair_ports (s : State) (n e : Nat) (v : DpdPair) : (s.setPair n e v).ports = s.ports := rfl
@[simp] theorem State.setPair_lanes (s : State) (n e : Nat) (v : DpdPair) : (s.setPair n e v).lanes = s.lanes := rfl
@[simp] theorem State.setPair_seqs (s : State) (n e : Nat) (v : DpdPair) : (s.setPair n e v).seqs = s.seqs := rfl
@[simp] theorem State.setPair_clk (s : State) (n e : Nat) (v : DpdPair) : (s.setPair n e v).clk = s.clk := rfl
@[simp] theorem State.setPair_engines (s : State) (n e : Nat) (v : DpdPair) : (s.setPair n e v).engines = s.engines := rfl
@[simp] theorem State.setPair_fab (s : State) (n e : Nat) (v : DpdPair) : (s.setPair n e v).fab = s.fab := rfl
@[simp] theorem State.setPair_dma (s : State) (n e : Nat) (v : DpdPair) : (s.setPair n e v).dma = s.dma := rfl
@[simp] theorem State.setPair_hk (s : State) (n e : Nat) (v : DpdPair) : (s.setPair n e v).hk = s.hk := rfl
@[simp] theorem State.setPair_pwm (s : State) (n e : Nat) (v : DpdPair) : (s.setPair n e v).pwm = s.pwm := rfl
@[simp] theorem State.setPair_svc (s : State) (n e : Nat) (v : DpdPair) : (s.setPair n e v).svc = s.svc := rfl
@[simp] theorem State.setPair_boot (s : State) (n e : Nat) (v : DpdPair) : (s.setPair n e v).boot = s.boot := rfl
@[simp] theorem State.setPair_ptb (s : State) (n e : Nat) (v : DpdPair) : (s.setPair n e v).ptb = s.ptb := rfl
@[simp] theorem State.setPair_free (s : State) (n e : Nat) (v : DpdPair) : (s.setPair n e v).free = s.free := rfl
@[simp] theorem State.setPair_pending (s : State) (n e : Nat) (v : DpdPair) : (s.setPair n e v).pending = s.pending := rfl
@[simp] theorem State.setPair_f (s : State) (n e : Nat) (v : DpdPair) (y : Fld) (i1 j1 k1 : Nat) : (s.setPair n e v).f y i1 j1 k1 = s.f y i1 j1 k1 := rfl
@[simp] theorem State.setPair_on (s : State) (n e : Nat) (v : DpdPair) (y : Fld) (i1 j1 k1 : Nat) : (s.setPair n e v).on y i1 j1 k1 = s.on y i1 j1 k1 := rfl

/-! `State.setFlow` -/

@[simp] theorem State.setFlow_time (s : State) (n : Nat) (v : Flow) : (s.setFlow n v).time = s.time := rfl
@[simp] theorem State.setFlow_elapsed (s : State) (n : Nat) (v : Flow) : (s.setFlow n v).elapsed = s.elapsed := rfl
@[simp] theorem State.setFlow_regs (s : State) (n : Nat) (v : Flow) : (s.setFlow n v).regs = s.regs := rfl
@[simp] theorem State.setFlow_shadow (s : State) (n : Nat) (v : Flow) : (s.setFlow n v).shadow = s.shadow := rfl
@[simp] theorem State.setFlow_mem (s : State) (n : Nat) (v : Flow) : (s.setFlow n v).mem = s.mem := rfl
@[simp] theorem State.setFlow_faults (s : State) (n : Nat) (v : Flow) : (s.setFlow n v).faults = s.faults := rfl
@[simp] theorem State.setFlow_evc (s : State) (n : Nat) (v : Flow) : (s.setFlow n v).evc = s.evc := rfl
@[simp] theorem State.setFlow_power (s : State) (n : Nat) (v : Flow) : (s.setFlow n v).power = s.power := rfl
@[simp] theorem State.setFlow_radio (s : State) (n : Nat) (v : Flow) : (s.setFlow n v).radio = s.radio := rfl
@[simp] theorem State.setFlow_rx (s : State) (n : Nat) (v : Flow) : (s.setFlow n v).rx = s.rx := rfl
@[simp] theorem State.setFlow_tx (s : State) (n : Nat) (v : Flow) : (s.setFlow n v).tx = s.tx := rfl
@[simp] theorem State.setFlow_orx (s : State) (n : Nat) (v : Flow) : (s.setFlow n v).orx = s.orx := rfl
@[simp] theorem State.setFlow_pairs (s : State) (n : Nat) (v : Flow) : (s.setFlow n v).pairs = s.pairs := rfl
@[simp] theorem State.setFlow_prism (s : State) (n : Nat) (v : Flow) : (s.setFlow n v).prism = s.prism := rfl
@[simp] theorem State.setFlow_mir (s : State) (n : Nat) (v : Flow) : (s.setFlow n v).mir = s.mir := rfl
@[simp] theorem State.setFlow_plc (s : State) (n : Nat) (v : Flow) : (s.setFlow n v).plc = s.plc := rfl
@[simp] theorem State.setFlow_ports (s : State) (n : Nat) (v : Flow) : (s.setFlow n v).ports = s.ports := rfl
@[simp] theorem State.setFlow_lanes (s : State) (n : Nat) (v : Flow) : (s.setFlow n v).lanes = s.lanes := rfl
@[simp] theorem State.setFlow_seqs (s : State) (n : Nat) (v : Flow) : (s.setFlow n v).seqs = s.seqs := rfl
@[simp] theorem State.setFlow_clk (s : State) (n : Nat) (v : Flow) : (s.setFlow n v).clk = s.clk := rfl
@[simp] theorem State.setFlow_engines (s : State) (n : Nat) (v : Flow) : (s.setFlow n v).engines = s.engines := rfl
@[simp] theorem State.setFlow_fab (s : State) (n : Nat) (v : Flow) : (s.setFlow n v).fab = s.fab := rfl
@[simp] theorem State.setFlow_dma (s : State) (n : Nat) (v : Flow) : (s.setFlow n v).dma = s.dma := rfl
@[simp] theorem State.setFlow_hk (s : State) (n : Nat) (v : Flow) : (s.setFlow n v).hk = s.hk := rfl
@[simp] theorem State.setFlow_pwm (s : State) (n : Nat) (v : Flow) : (s.setFlow n v).pwm = s.pwm := rfl
@[simp] theorem State.setFlow_svc (s : State) (n : Nat) (v : Flow) : (s.setFlow n v).svc = s.svc := rfl
@[simp] theorem State.setFlow_boot (s : State) (n : Nat) (v : Flow) : (s.setFlow n v).boot = s.boot := rfl
@[simp] theorem State.setFlow_ptb (s : State) (n : Nat) (v : Flow) : (s.setFlow n v).ptb = s.ptb := rfl
@[simp] theorem State.setFlow_free (s : State) (n : Nat) (v : Flow) : (s.setFlow n v).free = s.free := rfl
@[simp] theorem State.setFlow_pending (s : State) (n : Nat) (v : Flow) : (s.setFlow n v).pending = s.pending := rfl
@[simp] theorem State.setFlow_f (s : State) (n : Nat) (v : Flow) (y : Fld) (i1 j1 k1 : Nat) : (s.setFlow n v).f y i1 j1 k1 = s.f y i1 j1 k1 := rfl
@[simp] theorem State.setFlow_on (s : State) (n : Nat) (v : Flow) (y : Fld) (i1 j1 k1 : Nat) : (s.setFlow n v).on y i1 j1 k1 = s.on y i1 j1 k1 := rfl

/-! The updates that are others under a name. -/

@[simp] theorem State.setB_eq (s : State) (x : Fld) (b i j k : Nat) : s.setB x b i j k = s.setF x (setBit (s.f x i j k) b) i j k := rfl
@[simp] theorem State.clrB_eq (s : State) (x : Fld) (b i j k : Nat) : s.clrB x b i j k = s.setF x (clrBit (s.f x i j k) b) i j k := rfl
@[simp] theorem State.bumpBy_eq (s : State) (x : Fld) (n i j k : Nat) :
    s.bumpBy x n i j k = s.setF x (min (s.f x i j k + n) (2 ^ x.w - 1)) i j k := rfl
@[simp] theorem State.bump_eq (s : State) (x : Fld) (i j k : Nat) :
    s.bump x i j k = s.setF x (min (s.f x i j k + 1) (2 ^ x.w - 1)) i j k := rfl
@[simp] theorem State.flushShadow_eq (s : State) (o : Owner) : s.flushShadow o = s.commitIf (fun e => decide (e.owner = o)) := rfl
@[simp] theorem State.commitShadow_eq (s : State) (o : Owner) (n : Nat) :
    s.commitShadow o n = s.commitIf (fun e => decide (e.owner = o) && decide (e.at_ + n ≤ s.elapsed)) := rfl

end Sys2Proof.Machine
end

