-- ==== Sys2Proof/Laws/Ops.lean ====
section
/-!
SUPPORT. Sys2Proof/Laws/Ops.lean: what a field, a byte or a record reads after a write of it, and what storing bytes in a row
changes.
-/
namespace Sys2Proof.Machine

/-! ### Reads after writes -/

/-- The field just written reads the value, cut to its width. -/
@[simp] theorem State.f_setF_self (s : State) (x : Fld) (v i j k : Nat) : (s.setF x v i j k).f x i j k = v % 2 ^ x.w := by
  simp [State.f, State.setF, Fld.diff, Nat.xor_assoc]

/-- A field at another place is left alone. -/
theorem State.f_setF_ne (s : State) (x y : Fld) (v i j k i1 j1 k1 : Nat) (h : y.key i1 j1 k1 ≠ x.key i j k) :
    (s.setF x v i j k).f y i1 j1 k1 = s.f y i1 j1 k1 := by
  simp only [State.f, State.setF, SMap.get_set_ne _ _ _ h]

/-- Two fields whose lowest bits differ are never one place. -/
theorem Fld.key_ne_of_lo (x y : Fld) (i j k i1 j1 k1 : Nat) (h : y.lo % 32 ≠ x.lo % 32) : y.key i1 j1 k1 ≠ x.key i j k := by
  simp only [Fld.key]; omega

theorem State.f_setF_lo (s : State) (x y : Fld) (v i j k i1 j1 k1 : Nat) (h : y.lo % 32 ≠ x.lo % 32) :
    (s.setF x v i j k).f y i1 j1 k1 = s.f y i1 j1 k1 := State.f_setF_ne s x y v i j k i1 j1 k1 (Fld.key_ne_of_lo x y i j k i1 j1 k1 h)

theorem State.f_clrF_self (s : State) (x : Fld) (i j k : Nat) : (s.clrF x i j k).f x i j k = x.reset i j := by
  simp [State.f, State.clrF, SMap.get_erase_self]

theorem State.f_clrF_ne (s : State) (x y : Fld) (i j k i1 j1 k1 : Nat) (h : y.key i1 j1 k1 ≠ x.key i j k) :
    (s.clrF x i j k).f y i1 j1 k1 = s.f y i1 j1 k1 := by
  simp only [State.f, State.clrF, SMap.get_erase_ne _ _ h]

/-- A byte just written reads back. -/
@[simp] theorem State.readByte_writeByte_self (s : State) (a : Nat) (v : Byte) : (s.writeByte a v).readByte a = v := by
  simp [State.readByte, State.writeByte]

/-- Every other byte is left alone. -/
theorem State.readByte_writeByte_ne (s : State) {a b : Nat} (v : Byte) (h : b ≠ a) :
    (s.writeByte a v).readByte b = s.readByte b := by
  simp only [State.readByte, State.writeByte, SMap.get_set_ne _ _ _ h]

@[simp] theorem State.setF_readByte (s : State) (x : Fld) (v i j k a : Nat) : (s.setF x v i j k).readByte a = s.readByte a := rfl

@[simp] theorem State.tile_setTile_self (s : State) (n : Nat) (v : Tile) : (s.setTile n v).tile n = v := by simp [State.tile, State.setTile]
theorem State.tile_setTile_ne (s : State) {n n1 : Nat} (v : Tile) (h : n1 ≠ n) : (s.setTile n v).tile n1 = s.tile n1 := by
  simp only [State.tile, State.setTile, SMap.get_set_ne _ _ _ h]
@[simp] theorem State.synth_setSynth_self (s : State) (n : Nat) (v : Synth) : (s.setSynth n v).synth n = v := by simp [State.synth, State.setSynth]
theorem State.synth_setSynth_ne (s : State) {n n1 : Nat} (v : Synth) (h : n1 ≠ n) : (s.setSynth n v).synth n1 = s.synth n1 := by
  simp only [State.synth, State.setSynth, SMap.get_set_ne _ _ _ h]
@[simp] theorem State.modT_setModT_self (s : State) (n : Nat) (v : ModTimer) : (s.setModT n v).modT n = v := by simp [State.modT, State.setModT]
theorem State.modT_setModT_ne (s : State) {n n1 : Nat} (v : ModTimer) (h : n1 ≠ n) : (s.setModT n v).modT n1 = s.modT n1 := by
  simp only [State.modT, State.setModT, SMap.get_set_ne _ _ _ h]
@[simp] theorem State.port_setPort_self (s : State) (n : Nat) (v : LinkPort) : (s.setPort n v).port n = v := by simp [State.port, State.setPort]
theorem State.port_setPort_ne (s : State) {n n1 : Nat} (v : LinkPort) (h : n1 ≠ n) : (s.setPort n v).port n1 = s.port n1 := by
  simp only [State.port, State.setPort, SMap.get_set_ne _ _ _ h]
@[simp] theorem State.txp_setTxp_self (s : State) (n : Nat) (v : TxPath) : (s.setTxp n v).txp n = v := by simp [State.txp, State.setTxp]
theorem State.txp_setTxp_ne (s : State) {n n1 : Nat} (v : TxPath) (h : n1 ≠ n) : (s.setTxp n v).txp n1 = s.txp n1 := by
  simp only [State.txp, State.setTxp, SMap.get_set_ne _ _ _ h]
@[simp] theorem State.rxp_setRxp_self (s : State) (n : Nat) (v : RxPath) : (s.setRxp n v).rxp n = v := by simp [State.rxp, State.setRxp]
theorem State.rxp_setRxp_ne (s : State) {n n1 : Nat} (v : RxPath) (h : n1 ≠ n) : (s.setRxp n v).rxp n1 = s.rxp n1 := by
  simp only [State.rxp, State.setRxp, SMap.get_set_ne _ _ _ h]
@[simp] theorem State.orxR_setOrx_self (s : State) (n : Nat) (v : Orx) : (s.setOrx n v).orxR n = v := by simp [State.orxR, State.setOrx]
theorem State.orxR_setOrx_ne (s : State) {n n1 : Nat} (v : Orx) (h : n1 ≠ n) : (s.setOrx n v).orxR n1 = s.orxR n1 := by
  simp only [State.orxR, State.setOrx, SMap.get_set_ne _ _ _ h]
@[simp] theorem State.flow_setFlow_self (s : State) (n : Nat) (v : Flow) : (s.setFlow n v).flow n = v := by simp [State.flow, State.setFlow]
theorem State.flow_setFlow_ne (s : State) {n n1 : Nat} (v : Flow) (h : n1 ≠ n) : (s.setFlow n v).flow n1 = s.flow n1 := by
  simp only [State.flow, State.setFlow, SMap.get_set_ne _ _ _ h]
@[simp] theorem State.pair_setPair_self (s : State) (n e : Nat) (v : DpdPair) : (s.setPair n e v).pair n e = v := by simp [State.pair, State.setPair]

/-! ### Bytes in a row -/

/-- Storing changes memory only. -/
theorem State.writeLE_mem_only (s : State) (a : Nat) (n v : Nat) : s.writeLE a n v = { s with mem := (s.writeLE a n v).mem } := by
  induction n generalizing s a v with
  | zero => rfl
  | succ n ih => rw [State.writeLE, ih]; rfl

@[simp] theorem State.writeLE_time (s : State) (a : Nat) (n v : Nat) : (s.writeLE a n v).time = s.time :=
  (congrArg State.time (State.writeLE_mem_only s a n v)).trans rfl
@[simp] theorem State.writeLE_elapsed (s : State) (a : Nat) (n v : Nat) : (s.writeLE a n v).elapsed = s.elapsed :=
  (congrArg State.elapsed (State.writeLE_mem_only s a n v)).trans rfl
@[simp] theorem State.writeLE_regs (s : State) (a : Nat) (n v : Nat) : (s.writeLE a n v).regs = s.regs :=
  (congrArg State.regs (State.writeLE_mem_only s a n v)).trans rfl
@[simp] theorem State.writeLE_shadow (s : State) (a : Nat) (n v : Nat) : (s.writeLE a n v).shadow = s.shadow :=
  (congrArg State.shadow (State.writeLE_mem_only s a n v)).trans rfl
@[simp] theorem State.writeLE_faults (s : State) (a : Nat) (n v : Nat) : (s.writeLE a n v).faults = s.faults :=
  (congrArg State.faults (State.writeLE_mem_only s a n v)).trans rfl
@[simp] theorem State.writeLE_evc (s : State) (a : Nat) (n v : Nat) : (s.writeLE a n v).evc = s.evc :=
  (congrArg State.evc (State.writeLE_mem_only s a n v)).trans rfl
@[simp] theorem State.writeLE_power (s : State) (a : Nat) (n v : Nat) : (s.writeLE a n v).power = s.power :=
  (congrArg State.power (State.writeLE_mem_only s a n v)).trans rfl
@[simp] theorem State.writeLE_radio (s : State) (a : Nat) (n v : Nat) : (s.writeLE a n v).radio = s.radio :=
  (congrArg State.radio (State.writeLE_mem_only s a n v)).trans rfl
@[simp] theorem State.writeLE_rx (s : State) (a : Nat) (n v : Nat) : (s.writeLE a n v).rx = s.rx :=
  (congrArg State.rx (State.writeLE_mem_only s a n v)).trans rfl
@[simp] theorem State.writeLE_tx (s : State) (a : Nat) (n v : Nat) : (s.writeLE a n v).tx = s.tx :=
  (congrArg State.tx (State.writeLE_mem_only s a n v)).trans rfl
@[simp] theorem State.writeLE_orx (s : State) (a : Nat) (n v : Nat) : (s.writeLE a n v).orx = s.orx :=
  (congrArg State.orx (State.writeLE_mem_only s a n v)).trans rfl
@[simp] theorem State.writeLE_pairs (s : State) (a : Nat) (n v : Nat) : (s.writeLE a n v).pairs = s.pairs :=
  (congrArg State.pairs (State.writeLE_mem_only s a n v)).trans rfl
@[simp] theorem State.writeLE_prism (s : State) (a : Nat) (n v : Nat) : (s.writeLE a n v).prism = s.prism :=
  (congrArg State.prism (State.writeLE_mem_only s a n v)).trans rfl
@[simp] theorem State.writeLE_mir (s : State) (a : Nat) (n v : Nat) : (s.writeLE a n v).mir = s.mir :=
  (congrArg State.mir (State.writeLE_mem_only s a n v)).trans rfl
@[simp] theorem State.writeLE_flows (s : State) (a : Nat) (n v : Nat) : (s.writeLE a n v).flows = s.flows :=
  (congrArg State.flows (State.writeLE_mem_only s a n v)).trans rfl
@[simp] theorem State.writeLE_plc (s : State) (a : Nat) (n v : Nat) : (s.writeLE a n v).plc = s.plc :=
  (congrArg State.plc (State.writeLE_mem_only s a n v)).trans rfl
@[simp] theorem State.writeLE_ports (s : State) (a : Nat) (n v : Nat) : (s.writeLE a n v).ports = s.ports :=
  (congrArg State.ports (State.writeLE_mem_only s a n v)).trans rfl
@[simp] theorem State.writeLE_lanes (s : State) (a : Nat) (n v : Nat) : (s.writeLE a n v).lanes = s.lanes :=
  (congrArg State.lanes (State.writeLE_mem_only s a n v)).trans rfl
@[simp] theorem State.writeLE_seqs (s : State) (a : Nat) (n v : Nat) : (s.writeLE a n v).seqs = s.seqs :=
  (congrArg State.seqs (State.writeLE_mem_only s a n v)).trans rfl
@[simp] theorem State.writeLE_clk (s : State) (a : Nat) (n v : Nat) : (s.writeLE a n v).clk = s.clk :=
  (congrArg State.clk (State.writeLE_mem_only s a n v)).trans rfl
@[simp] theorem State.writeLE_engines (s : State) (a : Nat) (n v : Nat) : (s.writeLE a n v).engines = s.engines :=
  (congrArg State.engines (State.writeLE_mem_only s a n v)).trans rfl
@[simp] theorem State.writeLE_fab (s : State) (a : Nat) (n v : Nat) : (s.writeLE a n v).fab = s.fab :=
  (congrArg State.fab (State.writeLE_mem_only s a n v)).trans rfl
@[simp] theorem State.writeLE_dma (s : State) (a : Nat) (n v : Nat) : (s.writeLE a n v).dma = s.dma :=
  (congrArg State.dma (State.writeLE_mem_only s a n v)).trans rfl
@[simp] theorem State.writeLE_hk (s : State) (a : Nat) (n v : Nat) : (s.writeLE a n v).hk = s.hk :=
  (congrArg State.hk (State.writeLE_mem_only s a n v)).trans rfl
@[simp] theorem State.writeLE_pwm (s : State) (a : Nat) (n v : Nat) : (s.writeLE a n v).pwm = s.pwm :=
  (congrArg State.pwm (State.writeLE_mem_only s a n v)).trans rfl
@[simp] theorem State.writeLE_svc (s : State) (a : Nat) (n v : Nat) : (s.writeLE a n v).svc = s.svc :=
  (congrArg State.svc (State.writeLE_mem_only s a n v)).trans rfl
@[simp] theorem State.writeLE_boot (s : State) (a : Nat) (n v : Nat) : (s.writeLE a n v).boot = s.boot :=
  (congrArg State.boot (State.writeLE_mem_only s a n v)).trans rfl
@[simp] theorem State.writeLE_ptb (s : State) (a : Nat) (n v : Nat) : (s.writeLE a n v).ptb = s.ptb :=
  (congrArg State.ptb (State.writeLE_mem_only s a n v)).trans rfl
@[simp] theorem State.writeLE_free (s : State) (a : Nat) (n v : Nat) : (s.writeLE a n v).free = s.free :=
  (congrArg State.free (State.writeLE_mem_only s a n v)).trans rfl
@[simp] theorem State.writeLE_pending (s : State) (a : Nat) (n v : Nat) : (s.writeLE a n v).pending = s.pending :=
  (congrArg State.pending (State.writeLE_mem_only s a n v)).trans rfl
@[simp] theorem State.writeLE_f (s : State) (a : Nat) (n v : Nat) (y : Fld) (i1 j1 k1 : Nat) : (s.writeLE a n v).f y i1 j1 k1 = s.f y i1 j1 k1 :=
  (congrArg (fun t => t.f y i1 j1 k1) (State.writeLE_mem_only s a n v)).trans rfl
@[simp] theorem State.writeLE_on (s : State) (a : Nat) (n v : Nat) (y : Fld) (i1 j1 k1 : Nat) : (s.writeLE a n v).on y i1 j1 k1 = s.on y i1 j1 k1 :=
  (congrArg (fun t => t.on y i1 j1 k1) (State.writeLE_mem_only s a n v)).trans rfl

/-- Storing changes memory only. -/
theorem State.writeBytes_mem_only (s : State) (a : Nat) (bs : List Byte) : s.writeBytes a bs = { s with mem := (s.writeBytes a bs).mem } := by
  induction bs generalizing s a with
  | nil => rfl
  | cons b bs ih => rw [State.writeBytes, ih]; rfl

@[simp] theorem State.writeBytes_time (s : State) (a : Nat) (bs : List Byte) : (s.writeBytes a bs).time = s.time :=
  (congrArg State.time (State.writeBytes_mem_only s a bs)).trans rfl
@[simp] theorem State.writeBytes_elapsed (s : State) (a : Nat) (bs : List Byte) : (s.writeBytes a bs).elapsed = s.elapsed :=
  (congrArg State.elapsed (State.writeBytes_mem_only s a bs)).trans rfl
@[simp] theorem State.writeBytes_regs (s : State) (a : Nat) (bs : List Byte) : (s.writeBytes a bs).regs = s.regs :=
  (congrArg State.regs (State.writeBytes_mem_only s a bs)).trans rfl
@[simp] theorem State.writeBytes_shadow (s : State) (a : Nat) (bs : List Byte) : (s.writeBytes a bs).shadow = s.shadow :=
  (congrArg State.shadow (State.writeBytes_mem_only s a bs)).trans rfl
@[simp] theorem State.writeBytes_faults (s : State) (a : Nat) (bs : List Byte) : (s.writeBytes a bs).faults = s.faults :=
  (congrArg State.faults (State.writeBytes_mem_only s a bs)).trans rfl
@[simp] theorem State.writeBytes_evc (s : State) (a : Nat) (bs : List Byte) : (s.writeBytes a bs).evc = s.evc :=
  (congrArg State.evc (State.writeBytes_mem_only s a bs)).trans rfl
@[simp] theorem State.writeBytes_power (s : State) (a : Nat) (bs : List Byte) : (s.writeBytes a bs).power = s.power :=
  (congrArg State.power (State.writeBytes_mem_only s a bs)).trans rfl
@[simp] theorem State.writeBytes_radio (s : State) (a : Nat) (bs : List Byte) : (s.writeBytes a bs).radio = s.radio :=
  (congrArg State.radio (State.writeBytes_mem_only s a bs)).trans rfl
@[simp] theorem State.writeBytes_rx (s : State) (a : Nat) (bs : List Byte) : (s.writeBytes a bs).rx = s.rx :=
  (congrArg State.rx (State.writeBytes_mem_only s a bs)).trans rfl
@[simp] theorem State.writeBytes_tx (s : State) (a : Nat) (bs : List Byte) : (s.writeBytes a bs).tx = s.tx :=
  (congrArg State.tx (State.writeBytes_mem_only s a bs)).trans rfl
@[simp] theorem State.writeBytes_orx (s : State) (a : Nat) (bs : List Byte) : (s.writeBytes a bs).orx = s.orx :=
  (congrArg State.orx (State.writeBytes_mem_only s a bs)).trans rfl
@[simp] theorem State.writeBytes_pairs (s : State) (a : Nat) (bs : List Byte) : (s.writeBytes a bs).pairs = s.pairs :=
  (congrArg State.pairs (State.writeBytes_mem_only s a bs)).trans rfl
@[simp] theorem State.writeBytes_prism (s : State) (a : Nat) (bs : List Byte) : (s.writeBytes a bs).prism = s.prism :=
  (congrArg State.prism (State.writeBytes_mem_only s a bs)).trans rfl
@[simp] theorem State.writeBytes_mir (s : State) (a : Nat) (bs : List Byte) : (s.writeBytes a bs).mir = s.mir :=
  (congrArg State.mir (State.writeBytes_mem_only s a bs)).trans rfl
@[simp] theorem State.writeBytes_flows (s : State) (a : Nat) (bs : List Byte) : (s.writeBytes a bs).flows = s.flows :=
  (congrArg State.flows (State.writeBytes_mem_only s a bs)).trans rfl
@[simp] theorem State.writeBytes_plc (s : State) (a : Nat) (bs : List Byte) : (s.writeBytes a bs).plc = s.plc :=
  (congrArg State.plc (State.writeBytes_mem_only s a bs)).trans rfl
@[simp] theorem State.writeBytes_ports (s : State) (a : Nat) (bs : List Byte) : (s.writeBytes a bs).ports = s.ports :=
  (congrArg State.ports (State.writeBytes_mem_only s a bs)).trans rfl
@[simp] theorem State.writeBytes_lanes (s : State) (a : Nat) (bs : List Byte) : (s.writeBytes a bs).lanes = s.lanes :=
  (congrArg State.lanes (State.writeBytes_mem_only s a bs)).trans rfl
@[simp] theorem State.writeBytes_seqs (s : State) (a : Nat) (bs : List Byte) : (s.writeBytes a bs).seqs = s.seqs :=
  (congrArg State.seqs (State.writeBytes_mem_only s a bs)).trans rfl
@[simp] theorem State.writeBytes_clk (s : State) (a : Nat) (bs : List Byte) : (s.writeBytes a bs).clk = s.clk :=
  (congrArg State.clk (State.writeBytes_mem_only s a bs)).trans rfl
@[simp] theorem State.writeBytes_engines (s : State) (a : Nat) (bs : List Byte) : (s.writeBytes a bs).engines = s.engines :=
  (congrArg State.engines (State.writeBytes_mem_only s a bs)).trans rfl
@[simp] theorem State.writeBytes_fab (s : State) (a : Nat) (bs : List Byte) : (s.writeBytes a bs).fab = s.fab :=
  (congrArg State.fab (State.writeBytes_mem_only s a bs)).trans rfl
@[simp] theorem State.writeBytes_dma (s : State) (a : Nat) (bs : List Byte) : (s.writeBytes a bs).dma = s.dma :=
  (congrArg State.dma (State.writeBytes_mem_only s a bs)).trans rfl
@[simp] theorem State.writeBytes_hk (s : State) (a : Nat) (bs : List Byte) : (s.writeBytes a bs).hk = s.hk :=
  (congrArg State.hk (State.writeBytes_mem_only s a bs)).trans rfl
@[simp] theorem State.writeBytes_pwm (s : State) (a : Nat) (bs : List Byte) : (s.writeBytes a bs).pwm = s.pwm :=
  (congrArg State.pwm (State.writeBytes_mem_only s a bs)).trans rfl
@[simp] theorem State.writeBytes_svc (s : State) (a : Nat) (bs : List Byte) : (s.writeBytes a bs).svc = s.svc :=
  (congrArg State.svc (State.writeBytes_mem_only s a bs)).trans rfl
@[simp] theorem State.writeBytes_boot (s : State) (a : Nat) (bs : List Byte) : (s.writeBytes a bs).boot = s.boot :=
  (congrArg State.boot (State.writeBytes_mem_only s a bs)).trans rfl
@[simp] theorem State.writeBytes_ptb (s : State) (a : Nat) (bs : List Byte) : (s.writeBytes a bs).ptb = s.ptb :=
  (congrArg State.ptb (State.writeBytes_mem_only s a bs)).trans rfl
@[simp] theorem State.writeBytes_free (s : State) (a : Nat) (bs : List Byte) : (s.writeBytes a bs).free = s.free :=
  (congrArg State.free (State.writeBytes_mem_only s a bs)).trans rfl
@[simp] theorem State.writeBytes_pending (s : State) (a : Nat) (bs : List Byte) : (s.writeBytes a bs).pending = s.pending :=
  (congrArg State.pending (State.writeBytes_mem_only s a bs)).trans rfl
@[simp] theorem State.writeBytes_f (s : State) (a : Nat) (bs : List Byte) (y : Fld) (i1 j1 k1 : Nat) : (s.writeBytes a bs).f y i1 j1 k1 = s.f y i1 j1 k1 :=
  (congrArg (fun t => t.f y i1 j1 k1) (State.writeBytes_mem_only s a bs)).trans rfl
@[simp] theorem State.writeBytes_on (s : State) (a : Nat) (bs : List Byte) (y : Fld) (i1 j1 k1 : Nat) : (s.writeBytes a bs).on y i1 j1 k1 = s.on y i1 j1 k1 :=
  (congrArg (fun t => t.on y i1 j1 k1) (State.writeBytes_mem_only s a bs)).trans rfl

/-- Storing changes memory only. -/
theorem State.writeWords_mem_only (s : State) (a : Nat) (ws : List Nat) : s.writeWords a ws = { s with mem := (s.writeWords a ws).mem } := by
  induction ws generalizing s a with
  | nil => rfl
  | cons w ws ih => rw [State.writeWords, ih, State.wr32, State.writeLE_mem_only]

@[simp] theorem State.writeWords_time (s : State) (a : Nat) (ws : List Nat) : (s.writeWords a ws).time = s.time :=
  (congrArg State.time (State.writeWords_mem_only s a ws)).trans rfl
@[simp] theorem State.writeWords_elapsed (s : State) (a : Nat) (ws : List Nat) : (s.writeWords a ws).elapsed = s.elapsed :=
  (congrArg State.elapsed (State.writeWords_mem_only s a ws)).trans rfl
@[simp] theorem State.writeWords_regs (s : State) (a : Nat) (ws : List Nat) : (s.writeWords a ws).regs = s.regs :=
  (congrArg State.regs (State.writeWords_mem_only s a ws)).trans rfl
@[simp] theorem State.writeWords_shadow (s : State) (a : Nat) (ws : List Nat) : (s.writeWords a ws).shadow = s.shadow :=
  (congrArg State.shadow (State.writeWords_mem_only s a ws)).trans rfl
@[simp] theorem State.writeWords_faults (s : State) (a : Nat) (ws : List Nat) : (s.writeWords a ws).faults = s.faults :=
  (congrArg State.faults (State.writeWords_mem_only s a ws)).trans rfl
@[simp] theorem State.writeWords_evc (s : State) (a : Nat) (ws : List Nat) : (s.writeWords a ws).evc = s.evc :=
  (congrArg State.evc (State.writeWords_mem_only s a ws)).trans rfl
@[simp] theorem State.writeWords_power (s : State) (a : Nat) (ws : List Nat) : (s.writeWords a ws).power = s.power :=
  (congrArg State.power (State.writeWords_mem_only s a ws)).trans rfl
@[simp] theorem State.writeWords_radio (s : State) (a : Nat) (ws : List Nat) : (s.writeWords a ws).radio = s.radio :=
  (congrArg State.radio (State.writeWords_mem_only s a ws)).trans rfl
@[simp] theorem State.writeWords_rx (s : State) (a : Nat) (ws : List Nat) : (s.writeWords a ws).rx = s.rx :=
  (congrArg State.rx (State.writeWords_mem_only s a ws)).trans rfl
@[simp] theorem State.writeWords_tx (s : State) (a : Nat) (ws : List Nat) : (s.writeWords a ws).tx = s.tx :=
  (congrArg State.tx (State.writeWords_mem_only s a ws)).trans rfl
@[simp] theorem State.writeWords_orx (s : State) (a : Nat) (ws : List Nat) : (s.writeWords a ws).orx = s.orx :=
  (congrArg State.orx (State.writeWords_mem_only s a ws)).trans rfl
@[simp] theorem State.writeWords_pairs (s : State) (a : Nat) (ws : List Nat) : (s.writeWords a ws).pairs = s.pairs :=
  (congrArg State.pairs (State.writeWords_mem_only s a ws)).trans rfl
@[simp] theorem State.writeWords_prism (s : State) (a : Nat) (ws : List Nat) : (s.writeWords a ws).prism = s.prism :=
  (congrArg State.prism (State.writeWords_mem_only s a ws)).trans rfl
@[simp] theorem State.writeWords_mir (s : State) (a : Nat) (ws : List Nat) : (s.writeWords a ws).mir = s.mir :=
  (congrArg State.mir (State.writeWords_mem_only s a ws)).trans rfl
@[simp] theorem State.writeWords_flows (s : State) (a : Nat) (ws : List Nat) : (s.writeWords a ws).flows = s.flows :=
  (congrArg State.flows (State.writeWords_mem_only s a ws)).trans rfl
@[simp] theorem State.writeWords_plc (s : State) (a : Nat) (ws : List Nat) : (s.writeWords a ws).plc = s.plc :=
  (congrArg State.plc (State.writeWords_mem_only s a ws)).trans rfl
@[simp] theorem State.writeWords_ports (s : State) (a : Nat) (ws : List Nat) : (s.writeWords a ws).ports = s.ports :=
  (congrArg State.ports (State.writeWords_mem_only s a ws)).trans rfl
@[simp] theorem State.writeWords_lanes (s : State) (a : Nat) (ws : List Nat) : (s.writeWords a ws).lanes = s.lanes :=
  (congrArg State.lanes (State.writeWords_mem_only s a ws)).trans rfl
@[simp] theorem State.writeWords_seqs (s : State) (a : Nat) (ws : List Nat) : (s.writeWords a ws).seqs = s.seqs :=
  (congrArg State.seqs (State.writeWords_mem_only s a ws)).trans rfl
@[simp] theorem State.writeWords_clk (s : State) (a : Nat) (ws : List Nat) : (s.writeWords a ws).clk = s.clk :=
  (congrArg State.clk (State.writeWords_mem_only s a ws)).trans rfl
@[simp] theorem State.writeWords_engines (s : State) (a : Nat) (ws : List Nat) : (s.writeWords a ws).engines = s.engines :=
  (congrArg State.engines (State.writeWords_mem_only s a ws)).trans rfl
@[simp] theorem State.writeWords_fab (s : State) (a : Nat) (ws : List Nat) : (s.writeWords a ws).fab = s.fab :=
  (congrArg State.fab (State.writeWords_mem_only s a ws)).trans rfl
@[simp] theorem State.writeWords_dma (s : State) (a : Nat) (ws : List Nat) : (s.writeWords a ws).dma = s.dma :=
  (congrArg State.dma (State.writeWords_mem_only s a ws)).trans rfl
@[simp] theorem State.writeWords_hk (s : State) (a : Nat) (ws : List Nat) : (s.writeWords a ws).hk = s.hk :=
  (congrArg State.hk (State.writeWords_mem_only s a ws)).trans rfl
@[simp] theorem State.writeWords_pwm (s : State) (a : Nat) (ws : List Nat) : (s.writeWords a ws).pwm = s.pwm :=
  (congrArg State.pwm (State.writeWords_mem_only s a ws)).trans rfl
@[simp] theorem State.writeWords_svc (s : State) (a : Nat) (ws : List Nat) : (s.writeWords a ws).svc = s.svc :=
  (congrArg State.svc (State.writeWords_mem_only s a ws)).trans rfl
@[simp] theorem State.writeWords_boot (s : State) (a : Nat) (ws : List Nat) : (s.writeWords a ws).boot = s.boot :=
  (congrArg State.boot (State.writeWords_mem_only s a ws)).trans rfl
@[simp] theorem State.writeWords_ptb (s : State) (a : Nat) (ws : List Nat) : (s.writeWords a ws).ptb = s.ptb :=
  (congrArg State.ptb (State.writeWords_mem_only s a ws)).trans rfl
@[simp] theorem State.writeWords_free (s : State) (a : Nat) (ws : List Nat) : (s.writeWords a ws).free = s.free :=
  (congrArg State.free (State.writeWords_mem_only s a ws)).trans rfl
@[simp] theorem State.writeWords_pending (s : State) (a : Nat) (ws : List Nat) : (s.writeWords a ws).pending = s.pending :=
  (congrArg State.pending (State.writeWords_mem_only s a ws)).trans rfl
@[simp] theorem State.writeWords_f (s : State) (a : Nat) (ws : List Nat) (y : Fld) (i1 j1 k1 : Nat) : (s.writeWords a ws).f y i1 j1 k1 = s.f y i1 j1 k1 :=
  (congrArg (fun t => t.f y i1 j1 k1) (State.writeWords_mem_only s a ws)).trans rfl
@[simp] theorem State.writeWords_on (s : State) (a : Nat) (ws : List Nat) (y : Fld) (i1 j1 k1 : Nat) : (s.writeWords a ws).on y i1 j1 k1 = s.on y i1 j1 k1 :=
  (congrArg (fun t => t.on y i1 j1 k1) (State.writeWords_mem_only s a ws)).trans rfl


theorem State.writeLE_readByte (s : State) (a n v b : Nat) (h : b < a ∨ a + n ≤ b) : (s.writeLE a n v).readByte b = s.readByte b := by
  induction n generalizing s a v with
  | zero => rfl
  | succ n ih =>
    simp only [State.writeLE]
    rw [ih _ _ _ (by omega), State.readByte_writeByte_ne _ _ (by omega)]

theorem State.writeBytes_readByte (s : State) (a b : Nat) (bs : List Byte) (h : b < a ∨ a + bs.length ≤ b) :
    (s.writeBytes a bs).readByte b = s.readByte b := by
  induction bs generalizing s a with
  | nil => rfl
  | cons c bs ih =>
    simp only [List.length_cons] at h
    simp only [State.writeBytes]
    rw [ih _ _ (by omega), State.readByte_writeByte_ne _ _ (by omega)]

end Sys2Proof.Machine
end

