-- ==== Sys2Proof/Laws/Commands.lean ====
section
/-!
SUPPORT. Sys2Proof/Laws/Commands.lean: what the two forms of a command do: a register command whose target can be reached, and an event
of the core domain while it runs.
-/
namespace Sys2Proof.Machine

/-- A command on a register that can be reached has its effect. -/
theorem State.regCmd_reach {s : State} {a : Nat} (h : s.reach a = true) (t : State) : s.regCmd a t = .next t := by
  simp only [State.reach, Bool.and_eq_true, Bool.not_eq_true'] at h
  simp [State.regCmd, h.1, h.2]

/-- An event of the core domain has its effect while that domain runs. -/
theorem State.core_awake {s : State} (h : s.awake = true) (t : State) : s.core t = t := by
  simp only [State.awake, Bool.and_eq_true, Bool.not_eq_true'] at h
  simp [State.core, h.1, h.2]

/-- What an awake device is not. -/
theorem State.awake_asleep {s : State} (h : s.awake = true) : s.asleep = false := by
  simp only [State.awake, Bool.and_eq_true, Bool.not_eq_true'] at h
  exact h.1
theorem State.awake_inReset {s : State} (h : s.awake = true) : s.inReset = false := by
  simp only [State.awake, Bool.and_eq_true, Bool.not_eq_true'] at h
  exact h.2

end Sys2Proof.Machine
end

