-- ==== Sys2Proof/Laws/Complete.lean ====
section
/-!
SUPPORT. Sys2Proof/Laws/Complete.lean: what the guards of the commands come to when their conditions hold or fail, and
the laws of single bits, of engine records and of cache lines.
-/
namespace Sys2Proof.Machine

/-! ### Fields and bits -/

theorem State.f_congr {t u : State} (h : t.regs = u.regs) (x : Fld) (i j k : Nat) : t.f x i j k = u.f x i j k := by
  simp only [State.f, h]
theorem State.on_congr {t u : State} (h : t.regs = u.regs) (x : Fld) (i j k : Nat) : t.on x i j k = u.on x i j k := by
  simp only [State.on, State.f_congr h]
theorem bit_testBit (v b : Nat) : bit v b = v.testBit b := by rw [Nat.testBit_eq_decide_div_mod_eq]; rfl
theorem bit_or31 (x : Nat) : bit (x ||| 2 ^ 31) 31 = true := by rw [bit_testBit, Nat.testBit_or, Nat.testBit_two_pow_self, Bool.or_true]
theorem bit_mod31 (x : Nat) : bit (x % 2 ^ 31) 31 = false := by rw [bit_testBit, Nat.testBit_mod_two_pow]; simp
theorem bits30_1 (x : Nat) : bits (2 ^ 30 + x % 2 ^ 30) 30 2 = 1 := by simp only [bits]; omega
theorem bits30_2 (x : Nat) : bits (2 * 2 ^ 30 + x % 2 ^ 30) 30 2 = 2 := by simp only [bits]; omega
theorem bits30_3 (x : Nat) : bits (3 * 2 ^ 30 + x % 2 ^ 30) 30 2 = 3 := by simp only [bits]; omega
theorem bit_force {x b j : Nat} (h : b ≠ j) : bit (forceBits x (2 ^ b)) j = bit x j := by
  rw [bit_testBit, bit_testBit]; show (x ||| 2 ^ b).testBit j = _; rw [Nat.testBit_or, Nat.testBit_two_pow_of_ne h, Bool.or_false]
theorem bit_force_self {x b : Nat} : bit (forceBits x (2 ^ b)) b = true := by
  rw [bit_testBit]; show (x ||| 2 ^ b).testBit b = _; rw [Nat.testBit_or, Nat.testBit_two_pow_self, Bool.or_true]

/-! ### Guards -/

theorem reach_iff {s : State} {a : Nat} : s.reach a = true ↔ s.inReset = false ∧ s.absentAt a = false := by
  simp [State.reach]
theorem State.op_stopped {s : State} {n : Nat} (h : s.on F.SE_STATUS_FAULTED n = true) (x : Slot) (ds : List Nat) (act : State → State) :
    s.op n x ds act = s := by
  rw [State.op, h]; simp
theorem State.op_nocore {s : State} {n : Nat} (h : s.asleep = true ∨ s.inReset = true) (x : Slot) (ds : List Nat) (act : State → State) :
    s.op n x ds act = s := by
  rw [State.op]; rcases h with h | h <;> simp [h]
theorem State.core_none {s : State} (h : s.asleep = true ∨ s.inReset = true) (t : State) : s.core t = s := by
  unfold State.core; rcases h with h | h <;> simp [h]

/-! ### Engine operations -/

theorem State.op_may {s : State} {n : Nat} {x : Slot} {ds : List Nat} (h : s.mayOp n x ds) (act : State → State) :
    s.op n x ds act = act (s.used n x) := by
  have h' := h; unfold State.mayOp at h'
  rw [State.op, if_pos h']; rfl
theorem State.opE_may {s : State} {n : Nat} {x : Slot} {ds : List Nat} (h : s.mayOp n x ds) (f : Engine → Engine) :
    s.opE n x ds f = (s.used n x).setEng n (f ((s.used n x).eng n)) := by
  rw [State.opE, State.op_may h]
theorem State.branchOp_may {s : State} {n : Nat} {ds : List Nat} (h : s.mayOp n .long ds) (hb : bit (s.eng n).slots 4 = true) (f : Engine → Engine) :
    s.branchOp n ds f = (s.used n .long).setEng n (f ((s.used n .long).eng n)) := by
  rw [State.branchOp, if_pos hb, State.opE_may h]
theorem State.eng_setEng_self (s : State) (n : Nat) (e : Engine) : (s.setEng n e).eng n = e := by
  show SMap.get _ (SMap.set _ _ _ _) _ = _; rw [SMap.get_set_self]
theorem State.eng_setEng_ne (s : State) {n m : Nat} (e : Engine) (h : m ≠ n) : (s.setEng n e).eng m = s.eng m := by
  show SMap.get _ (SMap.set _ _ _ _) _ = _; rw [SMap.get_set_ne _ _ _ h]; rfl
theorem Engine.get_put_self (e : Engine) (i r v : Nat) : (e.put i r v).get i r = v % 2 ^ regWidth r := by
  simp only [Engine.get, Engine.put, SMap.get_set_self]
theorem Engine.get_put_ne (e : Engine) {i r i' r' v : Nat} (h : 128 * i' + r' ≠ 128 * i + r) : (e.put i r v).get i' r' = e.get i' r' := by
  simp only [Engine.get, Engine.put, SMap.get_set_ne _ _ _ h]

/-! ### Memory of the predistorters, cache lines, packets -/

theorem State.dpdMemWrite_open (s : State) (o : Nat) (v : Nat) (h : ∀ j < 4, s.dpdGuard (o + j) = false) (h2 : o + 3 < 0xE0000) :
    s.dpdMemWrite o (wordBytes v) = (wordBytes v).zipIdx.foldl (fun u e => u.writeByte (dpdBase + o + e.2) e.1) s := by
  have a0 := h 0 (by omega); have a1 := h 1 (by omega); have a2 := h 2 (by omega); have a3 := h 3 (by omega)
  have r (j : Nat) (hj : j < 4) : dpdReserved (o + j) = false := by simp [dpdReserved]; omega
  unfold State.dpdMemWrite wordBytes
  simp only [List.range, List.range.loop, List.map, List.any, List.length, List.zipIdx, List.foldl, a0, a1, a2, a3, Bool.or_self, Bool.false_eq_true, if_false, r 0 (by omega), r 1 (by omega), r 2 (by omega), r 3 (by omega)]
theorem State.dline_invIf (s : State) (p : Nat → Bool) (k : Nat) : (s.invIf p).dline k = if p k then none else s.dline k := by
  unfold State.dline State.invIf SMap.drop
  simp only []
  induction s.fab.dcache with
  | nil => simp
  | cons e m ih =>
    simp only [List.filter_cons]
    by_cases h1 : p e.1 = true
    · simp only [h1, Bool.not_true, Bool.false_eq_true, if_false, ih]
      by_cases h2 : e.1 = k
      · rw [← h2, h1]; simp
      · rw [List.find?_cons_of_neg (by simpa using h2)]
    · simp only [h1, Bool.not_false, if_true]
      by_cases h2 : e.1 = k
      · rw [List.find?_cons_of_pos (by simpa using h2), List.find?_cons_of_pos (by simpa using h2), ← h2]; simp [h1]
      · rw [List.find?_cons_of_neg (by simpa using h2), List.find?_cons_of_neg (by simpa using h2), ih]
theorem receive_passes {s u : State} {l age : Nat} {ws : List Word} {k k' : InKind} (h1 : inKind ws = k) (h2 : s.passes l ws = true) (hk : k' = k)
    (h3 : u = s.seqSeen (l / 4) k ws) : s.receive k' l age ws = u.accept (l / 4) (l % 4) age k ws := by
  subst hk h1
  simp only [State.passes, Bool.and_eq_true, decide_eq_true_eq, beq_iff_eq, bne_iff_ne, Bool.or_eq_true, Bool.not_eq_true', ne_eq] at h2
  obtain ⟨⟨⟨⟨⟨⟨⟨a, b⟩, c⟩, n⟩, d⟩, e⟩, f⟩, g⟩ := h2
  have c' : ¬ ws.length < 3 := by omega
  have f' : ¬ (s.on F.LNK_CFG_TAG_CHECK (l / 4) = true ∧ ¬ bits (pw ws 0) 0 16 = s.f F.LNK_TAG_RX_TAG (l / 4)) := by
    rcases f with f | f <;> simp [f]
  simp only [State.receive, a, b, and_self, if_true, State.packetIn, c', d, n, Bool.true_eq_false, ne_eq, not_true_eq_false, or_self, if_false, e, f', g, Bool.not_true, Bool.false_eq_true, ← h3]

end Sys2Proof.Machine
end

