-- ==== Sys2Proof/Laws/Keeps.lean ====
section
/-!
SUPPORT. Sys2Proof/Laws/Keeps.lean: the basic operations keep the invariant, the queue, and the bytes they do
not store to.
-/
namespace Sys2Proof.Machine

variable {may : Nat → Bool} {kp : Bool}

/-- Any byte may change. -/
def anyAddr : Nat → Bool := fun _ => true

/-- `t` differs from `s` in nothing that a command may not do: it leaves the queue alone, keeps the invariant, keeps every byte of
memory outside `may`, and, with `kp`, leaves a set seal set. -/
structure Keeps (may : Nat → Bool) (kp : Bool) (s t : State) : Prop where
  intro ::
  queue : t.pending = s.pending
  inv : s.inv = true → t.inv = true
  mem : ∀ a, may a = false → t.readByte a = s.readByte a
  sealed : kp = true → s.inv = true → SMap.get 0 s.regs sealKey = 1 → SMap.get 0 t.regs sealKey = 1

theorem Keeps.refl (s : State) : Keeps may kp s s := ⟨rfl, id, fun _ _ => rfl, fun _ _ h => h⟩
theorem Keeps.trans {s t u : State} (h1 : Keeps may kp s t) (h2 : Keeps may kp t u) : Keeps may kp s u :=
  ⟨h2.queue.trans h1.queue, fun h => h2.inv (h1.inv h), fun a ha => (h2.mem a ha).trans (h1.mem a ha),
    fun hs hi h => h2.sealed hs (h1.inv hi) (h1.sealed hs hi h)⟩
theorem Keeps.ite {s a b : State} {c : Prop} [Decidable c] (ha : Keeps may kp s a) (hb : Keeps may kp s b) : Keeps may kp s (if c then a else b) := by
  split <;> assumption
/-- An update of fields that neither the invariant nor memory speaks of. -/
theorem Keeps.rest {s t u : State} (h : Keeps may kp s t) (h1 : u.pending = t.pending) (h2 : u.mem = t.mem) (h3 : u.regs = t.regs)
    (h4 : u.shadow = t.shadow) (h5 : u.faults = t.faults) : Keeps may kp s u := by
  refine ⟨h1.trans h.queue, fun hi => ?_, fun a ha => ?_, fun hs hi hk => ?_⟩
  · have := h.inv hi
    simpa only [State.inv, h2, h3, h4, h5] using this
  · have := h.mem a ha
    simpa only [State.readByte, h2] using this
  · rw [h3]; exact h.sealed hs hi hk
theorem Keeps.mk {s t : State} (h : Keeps may kp s t) (a0 : BitVec 64) (a1 : Nat) (b0 : Evc) (b1 : Power) (b2 : Radio) (b3 : SMap RxPath) (b4 : SMap TxPath) (b5 : SMap Orx) (b6 : SMap DpdPair) (b7 : Prism) (b8 : Mirror) (b9 : SMap Flow) (b10 : Plc) (b11 : SMap LinkPort) (b12 : SMap Lane) (b13 : SMap Nat) (b14 : Clk) (b15 : SMap Engine) (b16 : Fabric) (b17 : SMap DmaChan) (b18 : SMap HkConv) (b19 : SMap PwmGen) (b20 : Svc) (b21 : Boot) (b22 : Ptb) (b23 : Nat) :
    Keeps may kp s (State.mk a0 a1 t.regs t.shadow t.mem t.faults b0 b1 b2 b3 b4 b5 b6 b7 b8 b9 b10 b11 b12 b13 b14 b15 b16 b17 b18 b19 b20 b21 b22 b23 t.pending) := h.rest rfl rfl rfl rfl rfl
theorem Keeps.foldl {s : State} {α : Type} (f : State → α → State) (hf : ∀ t a, Keeps may kp s t → Keeps may kp s (f t a)) (l : List α) {t : State}
    (h : Keeps may kp s t) : Keeps may kp s (l.foldl f t) := by
  induction l generalizing t with
  | nil => exact h
  | cons a l ih => exact ih (hf t a h)

/-- No instance of the field is SYS.SEAL.SEAL. -/
def Fld.clearOfSeal (x : Fld) : Bool :=
  decide (0x40000010 < x.base) || (x.s0 == 0 && x.s1 == 0 && x.s2 == 0 && x.base * 32 + x.lo != sealKey)
theorem Fld.key_ne {x : Fld} (h : x.clearOfSeal = true) (i j k : Nat) : x.key i j k ≠ sealKey := by
  simp only [Fld.clearOfSeal, Bool.or_eq_true, Bool.and_eq_true, decide_eq_true_eq, beq_iff_eq, bne_iff_ne] at h
  unfold Fld.key Fld.addr
  rcases h with h | ⟨⟨⟨h0, h1⟩, h2⟩, h3⟩
  · have : sealKey = 0x40000010 * 32 + 31 := rfl
    omega
  · rw [h0, h1, h2]; simpa using h3
theorem State.setKey_keeps {r s : State} (h : Keeps may kp r s) (k v : Nat) (hk : k ≠ sealKey ∨ v = 1) :
    Keeps may kp r { s with regs := SMap.set 0 s.regs k v } := by
  refine ⟨h.queue, fun hi => ?_, fun a ha => h.mem a ha, fun hs hi hr => ?_⟩
  · have := h.inv hi
    simp only [State.inv, Bool.and_eq_true] at *
    exact ⟨⟨⟨⟨this.1.1.1.1, SMap.wf_set _ _ this.1.1.1.2⟩, this.1.1.2⟩, this.1.2⟩, this.2⟩
  · have h1 := h.sealed hs hi hr
    show SMap.get 0 (SMap.set 0 s.regs k v) sealKey = 1
    by_cases e : sealKey = k
    · rw [← e, SMap.get_set_self]
      rcases hk with hk | hk
      · exact absurd e.symm hk
      · exact hk
    · rw [SMap.get_set_ne _ _ _ e]; exact h1
theorem State.setF_keeps {r s : State} (h : Keeps may kp r s) (x : Fld) (v i j k : Nat) (hx : x.clearOfSeal = true) :
    Keeps may kp r (s.setF x v i j k) := State.setKey_keeps h _ _ (.inl (Fld.key_ne hx i j k))
theorem State.clrF_keeps {r s : State} (h : Keeps may kp r s) (x : Fld) (i j k : Nat) (hx : x.clearOfSeal = true) :
    Keeps may kp r (s.clrF x i j k) := by
  refine ⟨h.queue, fun hi => ?_, fun a ha => h.mem a ha, fun hs hi hr => ?_⟩
  · have := h.inv hi
    simp only [State.inv, State.clrF, Bool.and_eq_true] at *
    exact ⟨⟨⟨⟨this.1.1.1.1, SMap.wf_erase _ this.1.1.1.2⟩, this.1.1.2⟩, this.1.2⟩, this.2⟩
  · show SMap.get 0 (SMap.erase s.regs (x.key i j k)) sealKey = 1
    rw [SMap.get_erase_ne _ _ (Ne.symm (Fld.key_ne hx i j k))]
    exact h.sealed hs hi hr
/-- A property of keys that is false of the key of SYS.SEAL.SEAL. -/
def sparesSeal (p : Nat → Bool) : Prop := p sealKey = false
theorem Keeps.dropRegs {r s : State} (h : Keeps may kp r s) (p : Nat → Bool) (hp : sparesSeal p) :
    Keeps may kp r { s with regs := SMap.drop p s.regs } := by
  refine ⟨h.queue, fun hi => ?_, fun a ha => h.mem a ha, fun hs hi hr => ?_⟩
  · have := h.inv hi
    simp only [State.inv, Bool.and_eq_true] at *
    exact ⟨⟨⟨⟨this.1.1.1.1, SMap.wf_drop _ this.1.1.1.2⟩, this.1.1.2⟩, this.1.2⟩, this.2⟩
  · show SMap.get 0 (SMap.drop p s.regs) sealKey = 1
    rw [SMap.get_drop _ _ _ _ hp]; exact h.sealed hs hi hr
/-- Field values or bytes left out, and an update of fields the invariant does not speak of. -/
theorem Keeps.dropMk {s t : State} (h : Keeps may kp s t) (p q : Nat → Bool) (u : State) (h1 : u.pending = t.pending)
    (h2 : u.mem = t.mem ∨ u.mem = SMap.drop q t.mem)
    (h3 : u.regs = t.regs ∨ u.regs = SMap.drop p t.regs ∧ sparesSeal p)
    (h4 : u.shadow = t.shadow) (h5 : u.faults = t.faults) (h6 : ∀ a, may a = false → u.readByte a = t.readByte a) :
    Keeps may kp s u := by
  refine ⟨h1.trans h.queue, fun hi => ?_, fun a ha => (h6 a ha).trans (h.mem a ha), fun hs hi hr => ?_⟩
  · have := h.inv hi
    simp only [State.inv, Memory.wf, h4, h5, Bool.and_eq_true] at *
    refine ⟨⟨⟨⟨?_, ?_⟩, this.1.1.2⟩, this.1.2⟩, this.2⟩
    · rcases h2 with h2 | h2 <;> rw [h2]
      · exact this.1.1.1.1
      · exact SMap.wf_drop _ this.1.1.1.1
    · rcases h3 with h3 | ⟨h3, -⟩ <;> rw [h3]
      · exact this.1.1.1.2
      · exact SMap.wf_drop _ this.1.1.1.2
  · have h7 := h.sealed hs hi hr
    rcases h3 with h3 | ⟨h3, hp⟩ <;> rw [h3]
    · exact h7
    · rw [SMap.get_drop _ _ _ _ hp]; exact h7
/-- Nothing is asked of memory. -/
theorem noneOutside {s t : State} (a : Nat) (h : anyAddr a = false) : t.readByte a = s.readByte a := by cases h
theorem Keeps.dropMem {s t : State} (h : Keeps anyAddr kp s t) (q : Nat → Bool) (a0 : BitVec 64) (a1 : Nat) (b0 : Evc) (b1 : Power) (b2 : Radio) (b3 : SMap RxPath) (b4 : SMap TxPath) (b5 : SMap Orx) (b6 : SMap DpdPair) (b7 : Prism) (b8 : Mirror) (b9 : SMap Flow) (b10 : Plc) (b11 : SMap LinkPort) (b12 : SMap Lane) (b13 : SMap Nat) (b14 : Clk) (b15 : SMap Engine) (b16 : Fabric) (b17 : SMap DmaChan) (b18 : SMap HkConv) (b19 : SMap PwmGen) (b20 : Svc) (b21 : Boot) (b22 : Ptb) (b23 : Nat) :
    Keeps anyAddr kp s (State.mk a0 a1 t.regs t.shadow (SMap.drop q t.mem) t.faults b0 b1 b2 b3 b4 b5 b6 b7 b8 b9 b10 b11 b12 b13 b14 b15 b16 b17 b18 b19 b20 b21 b22 b23 t.pending) :=
  h.dropMk (fun _ => false) q _ rfl (.inr rfl) (.inl rfl) rfl rfl noneOutside
theorem Keeps.dropReg {s t : State} (h : Keeps may kp s t) (p : Nat → Bool) (hp : sparesSeal p) (a0 : BitVec 64) (a1 : Nat) (b0 : Evc) (b1 : Power) (b2 : Radio) (b3 : SMap RxPath) (b4 : SMap TxPath) (b5 : SMap Orx) (b6 : SMap DpdPair) (b7 : Prism) (b8 : Mirror) (b9 : SMap Flow) (b10 : Plc) (b11 : SMap LinkPort) (b12 : SMap Lane) (b13 : SMap Nat) (b14 : Clk) (b15 : SMap Engine) (b16 : Fabric) (b17 : SMap DmaChan) (b18 : SMap HkConv) (b19 : SMap PwmGen) (b20 : Svc) (b21 : Boot) (b22 : Ptb) (b23 : Nat) :
    Keeps may kp s (State.mk a0 a1 (SMap.drop p t.regs) t.shadow t.mem t.faults b0 b1 b2 b3 b4 b5 b6 b7 b8 b9 b10 b11 b12 b13 b14 b15 b16 b17 b18 b19 b20 b21 b22 b23 t.pending) :=
  h.dropMk p (fun _ => false) _ rfl (.inl rfl) (.inr ⟨rfl, hp⟩) rfl rfl (fun _ _ => rfl)
theorem Keeps.dropBoth {s t : State} (h : Keeps anyAddr kp s t) (p q : Nat → Bool) (hp : sparesSeal p) (a0 : BitVec 64) (a1 : Nat) (b0 : Evc) (b1 : Power) (b2 : Radio) (b3 : SMap RxPath) (b4 : SMap TxPath) (b5 : SMap Orx) (b6 : SMap DpdPair) (b7 : Prism) (b8 : Mirror) (b9 : SMap Flow) (b10 : Plc) (b11 : SMap LinkPort) (b12 : SMap Lane) (b13 : SMap Nat) (b14 : Clk) (b15 : SMap Engine) (b16 : Fabric) (b17 : SMap DmaChan) (b18 : SMap HkConv) (b19 : SMap PwmGen) (b20 : Svc) (b21 : Boot) (b22 : Ptb) (b23 : Nat) :
    Keeps anyAddr kp s (State.mk a0 a1 (SMap.drop p t.regs) t.shadow (SMap.drop q t.mem) t.faults b0 b1 b2 b3 b4 b5 b6 b7 b8 b9 b10 b11 b12 b13 b14 b15 b16 b17 b18 b19 b20 b21 b22 b23 t.pending) :=
  h.dropMk p q _ rfl (.inr rfl) (.inr ⟨rfl, hp⟩) rfl rfl noneOutside
theorem State.writeByte_within {r s : State} (h : Keeps may kp r s) (a : Nat) (v : Byte) (hq : may a = true) :
    Keeps may kp r (s.writeByte a v) := by
  refine ⟨h.queue, fun hi => ?_, fun x hx => ?_, h.sealed⟩
  · have := h.inv hi
    simp only [State.inv, Memory.wf, State.writeByte, Bool.and_eq_true] at *
    exact ⟨⟨⟨⟨SMap.wf_set _ _ this.1.1.1.1, this.1.1.1.2⟩, this.1.1.2⟩, this.1.2⟩, this.2⟩
  · have hne : x ≠ a := by intro e; rw [e, hq] at hx; cases hx
    exact (SMap.get_set_ne _ _ _ hne).trans (h.mem x hx)
theorem State.writeLE_within {r s : State} (h : Keeps may kp r s) (a n v : Nat)
    (hq : ∀ x, a ≤ x → x < a + n → may x = true) : Keeps may kp r (s.writeLE a n v) := by
  induction n generalizing s a v with
  | zero => exact h
  | succ n ih =>
    exact ih (State.writeByte_within h _ _ (hq a (Nat.le_refl a) (by omega))) _ _ (fun x h1 h2 => hq x (by omega) (by omega))
theorem State.writeBytes_within {r s : State} (h : Keeps may kp r s) (a : Nat) (bs : List Byte)
    (hq : ∀ x, a ≤ x → x < a + bs.length → may x = true) : Keeps may kp r (s.writeBytes a bs) := by
  induction bs generalizing s a with
  | nil => exact h
  | cons b bs ih =>
    simp only [List.length_cons] at hq
    exact ih (State.writeByte_within h _ _ (hq a (Nat.le_refl a) (by omega))) _ (fun x h1 h2 => hq x (by omega) (by omega))
theorem State.writeWords_within {r s : State} (h : Keeps may kp r s) (a : Nat) (ws : List Nat)
    (hq : ∀ x, a ≤ x → x < a + 4 * ws.length → may x = true) : Keeps may kp r (s.writeWords a ws) := by
  induction ws generalizing s a with
  | nil => exact h
  | cons w ws ih =>
    simp only [List.length_cons] at hq
    exact ih (State.writeLE_within h _ _ _ (fun x h1 h2 => hq x (by omega) (by omega))) _
      (fun x h1 h2 => hq x (by omega) (by omega))
theorem State.writeByte_keeps {r s : State} (h : Keeps anyAddr kp r s) (a : Nat) (v : Byte) : Keeps anyAddr kp r (s.writeByte a v) :=
  State.writeByte_within h a v rfl
theorem State.writeLE_keeps {r s : State} (h : Keeps anyAddr kp r s) (a n v : Nat) : Keeps anyAddr kp r (s.writeLE a n v) :=
  State.writeLE_within h a n v (fun _ _ _ => rfl)
theorem State.writeBytes_keeps {r s : State} (h : Keeps anyAddr kp r s) (a : Nat) (bs : List Byte) :
    Keeps anyAddr kp r (s.writeBytes a bs) := State.writeBytes_within h a bs (fun _ _ _ => rfl)
theorem State.writeWords_keeps {r s : State} (h : Keeps anyAddr kp r s) (a : Nat) (ws : List Nat) :
    Keeps anyAddr kp r (s.writeWords a ws) := State.writeWords_within h a ws (fun _ _ _ => rfl)
theorem State.shadowSet_keeps {r s : State} (h : Keeps may kp r s) (q : Nat) (o : Owner) (v : Nat) (hq : sealKey < q) :
    Keeps may kp r (s.shadowSet q o v) := by
  refine ⟨h.queue, fun hi => ?_, fun a ha => h.mem a ha, h.sealed⟩
  have := h.inv hi
  simp only [State.inv, State.shadowSet, Bool.and_eq_true] at *
  refine ⟨⟨⟨this.1.1.1, SMap.wf_set _ _ this.1.1.2.1, List.all_eq_true.mpr fun e he => ?_⟩, this.1.2⟩, this.2⟩
  rcases SMap.mem_set he with h1 | h1
  · rw [h1]; exact decide_eq_true hq
  · exact List.all_eq_true.mp this.1.1.2.2 e h1
theorem SMap.wf_foldl {α β : Type} [DecidableEq α] {d : α} (f : β → Nat × α) (l : List β) {m : SMap α} (h : SMap.wf d m = true) :
    SMap.wf d (l.foldl (fun r e => SMap.set d r (f e).1 (f e).2) m) = true := by
  induction l generalizing m with
  | nil => exact h
  | cons e l ih => exact ih (SMap.wf_set _ _ h)
theorem SMap.get_foldl {α β : Type} [DecidableEq α] {d : α} (f : β → Nat × α) (l : List β) (m : SMap α) (k : Nat)
    (h : ∀ e ∈ l, (f e).1 ≠ k) : SMap.get d (l.foldl (fun r e => SMap.set d r (f e).1 (f e).2) m) k = SMap.get d m k := by
  induction l generalizing m with
  | nil => rfl
  | cons e l ih =>
    rw [List.foldl_cons, ih _ (fun x hx => h x (List.mem_cons_of_mem _ hx)),
      SMap.get_set_ne _ _ _ (Ne.symm (h e (List.mem_cons_self ..)))]
theorem State.commitIf_keeps {r s : State} (h : Keeps may kp r s) (p : Shadow → Bool) : Keeps may kp r (s.commitIf p) := by
  refine ⟨h.queue, fun hi => ?_, fun a ha => h.mem a ha, fun hs hi hr => ?_⟩
  · have := h.inv hi
    simp only [State.inv, State.commitIf, Bool.and_eq_true, List.all_eq_true] at *
    exact ⟨⟨⟨⟨this.1.1.1.1, SMap.wf_foldl (fun e : Nat × Shadow => (e.1, e.2.val)) _ this.1.1.1.2⟩,
      SMap.wf_filter _ this.1.1.2.1, fun e he => this.1.1.2.2 e (List.mem_filter.mp he).1⟩, this.1.2⟩, this.2⟩
  · have h1 := h.inv hi
    simp only [State.inv, Bool.and_eq_true, List.all_eq_true, decide_eq_true_eq] at h1
    show SMap.get 0 ((s.shadow.filter (fun e => p e.2)).foldl (fun r e => SMap.set 0 r e.1 e.2.val) s.regs) sealKey = 1
    rw [SMap.get_foldl (fun e : Nat × Shadow => (e.1, e.2.val)) _ _ _
      (fun e he => by have := h1.1.1.2.2 e (List.mem_filter.mp he).1; show e.1 ≠ sealKey; omega)]
    exact h.sealed hs hi hr

/-! ### Registers by their maps -/

/-- The field's instances are not SYS.SEAL.SEAL, or it is that field; a class B field lies above it. -/
def Fld.sealSafe (x : Fld) : Prop :=
  (x.clearOfSeal = true ∨ x = F.SYS_SEAL_SEAL) ∧ (x.cls = .b → 0x40000010 < x.base)
/-- Every field of the register is safe. -/
abbrev RegDesc.sealSafe (d : RegDesc) : Prop := ∀ x ∈ d.flds, x.sealSafe
def Fld.plainSafe (x : Fld) : Bool := x.clearOfSeal && (decide (x.cls ≠ .b) || decide (0x40000010 < x.base))
theorem Fld.sealSafe_of {x : Fld} (h : x.plainSafe = true) : x.sealSafe := by
  simp only [Fld.plainSafe, Bool.and_eq_true, Bool.or_eq_true, decide_eq_true_eq] at h
  exact ⟨.inl h.1, fun hb => h.2.resolve_left (fun hn => hn hb)⟩
theorem RegDesc.sealSafe_of {d : RegDesc} (h : d.flds.all Fld.plainSafe = true) : d.sealSafe :=
  fun x hx => Fld.sealSafe_of (List.all_eq_true.mp h x hx)
theorem regBlocks_plain : (regBlocks.tail.all (fun b => b.2.2.all (fun d => d.flds.all Fld.plainSafe))) = true := by
  decide +kernel
theorem regsSYS_safe : ∀ d ∈ regsSYS, d.sealSafe := by
  intro d hd
  simp only [regsSYS, List.mem_cons, List.not_mem_nil, or_false] at hd
  rcases hd with rfl | rfl | rfl | rfl | rfl | rfl | rfl | rfl | rfl <;>
    first
    | exact RegDesc.sealSafe_of (by decide +kernel)
    | skip
  intro x hx
  simp only [List.mem_cons, List.not_mem_nil, or_false] at hx
  rcases hx with rfl | rfl | rfl
  · exact ⟨.inr rfl, fun h => by cases h⟩
  · exact Fld.sealSafe_of (by decide +kernel)
  · exact Fld.sealSafe_of (by decide +kernel)
theorem regBlocks_safe {b : Nat × Nat × List RegDesc} (hb : b ∈ regBlocks) {d : RegDesc} (hd : d ∈ b.2.2) : d.sealSafe := by
  rcases List.mem_cons.mp (show b ∈ (0x40000000, 0x40010000, regsSYS) :: regBlocks.tail from hb) with h | h
  · rw [h] at hd; exact regsSYS_safe d hd
  · exact RegDesc.sealSafe_of (List.all_eq_true.mp (List.all_eq_true.mp regBlocks_plain b h) d hd)
theorem descOf_safe (r : RName) : (descOf r).sealSafe := by
  unfold descOf
  cases h : (regBlocks.flatMap (fun b => b.2.2)).find? (fun d => decide (d.name = r)) with
  | none => intro x hx; cases hx
  | some d =>
    obtain ⟨b, hb, hd⟩ := List.mem_flatMap.mp (List.mem_of_find?_eq_some h)
    exact regBlocks_safe hb hd
theorem findIn_mem {ds : List RegDesc} {a : Nat} {r : RegDesc × Nat × Nat × Nat} (h : findIn ds a = some r) : r.1 ∈ ds := by
  induction ds with
  | nil => cases h
  | cons d ds ih =>
    unfold findIn at h
    split at h
    · split at h
      · cases h; exact List.mem_cons_self ..
      · exact List.mem_cons_of_mem _ (ih h)
    · exact List.mem_cons_of_mem _ (ih h)
theorem findReg_safe {a : Nat} {r : RegDesc × Nat × Nat × Nat} (h : findReg a = some r) : r.1.sealSafe := by
  unfold findReg at h
  split at h
  · next b hb => exact regBlocks_safe (List.mem_of_find?_eq_some hb) (findIn_mem h)
  · cases h
theorem findReg_tuple {a : Nat} {d : RegDesc} {i j k : Nat} (h : findReg a = some (d, i, j, k)) : d.sealSafe := findReg_safe h
/-- A write of SYS.SEAL.SEAL by its access rule: a 1 in the field stays. -/
theorem State.sealOr_keeps {r s : State} (h : Keeps may kp r s) (v i j k : Nat) :
    Keeps may kp r (s.setF F.SYS_SEAL_SEAL (Nat.lor (s.f F.SYS_SEAL_SEAL i j k) v) i j k) := by
  refine ⟨(State.setKey_keeps h (sealKey + 1) 0 (.inl (by omega))).queue, fun hi => ?_, fun a ha => h.mem a ha, fun hs hi hr => ?_⟩
  · have := h.inv hi
    simp only [State.inv, State.setF, Bool.and_eq_true] at *
    exact ⟨⟨⟨⟨this.1.1.1.1, SMap.wf_set _ _ this.1.1.1.2⟩, this.1.1.2⟩, this.1.2⟩, this.2⟩
  · have h1 := h.sealed hs hi hr
    have hk : F.SYS_SEAL_SEAL.key i j k = sealKey := by simp only [Fld.key, Fld.addr, sealKey, F.SYS_SEAL_SEAL, Nat.mul_zero]
    show SMap.get 0 (SMap.set 0 s.regs (F.SYS_SEAL_SEAL.key i j k) _) sealKey = 1
    rw [State.f, hk, SMap.get_set_self, h1]
    show (Nat.lor (1 ^^^ 0) v % 2 ^ 1) ^^^ 0 = 1
    have : (1 ||| v) % 2 = 1 := by simp
    rw [Nat.xor_zero, Nat.xor_zero]; exact this
theorem Fld.key_gt {x : Fld} (h : decide (0x40000010 < x.base) = true) (i j k : Nat) : sealKey < x.key i j k := by
  have : sealKey = 0x40000010 * 32 + 31 := rfl
  have := of_decide_eq_true h
  unfold Fld.key Fld.addr; omega
theorem State.setSeal_keeps {r s : State} (h : Keeps may kp r s) : Keeps may kp r (s.setF F.SYS_SEAL_SEAL 1) :=
  State.setKey_keeps h _ _ (.inr rfl)

end Sys2Proof.Machine
end

