-- ==== Sys2Proof/Laws/KeepsShared.lean ====
section
/-!
SUPPORT. Sys2Proof/Laws/KeepsShared.lean: every operation of the shared operations: records, event lines, ledger, register writes keeps the invariant, the queue and a set seal,
and memory but for what it stores.
-/
namespace Sys2Proof.Machine

variable {may : Nat → Bool} {kp : Bool}

/-! Ops -/

theorem State.setB_keeps  {s0 s : State} (h0 : Keeps may kp s0 s) (x : Fld) (bitNo : Nat) (i : Nat) (j : Nat) (k : Nat) (hx : x.clearOfSeal = true) : Keeps may kp s0 (State.setB s x bitNo i j k) := by
  unfold State.setB
  repeat' with_reducible first | assumption | apply State.setF_keeps | with_unfolding_all rfl
theorem State.clrB_keeps  {s0 s : State} (h0 : Keeps may kp s0 s) (x : Fld) (bitNo : Nat) (i : Nat) (j : Nat) (k : Nat) (hx : x.clearOfSeal = true) : Keeps may kp s0 (State.clrB s x bitNo i j k) := by
  unfold State.clrB
  repeat' with_reducible first | assumption | apply State.setF_keeps | with_unfolding_all rfl
theorem State.bumpBy_keeps  {s0 s : State} (h0 : Keeps may kp s0 s) (x : Fld) (by_ : Nat) (i : Nat) (j : Nat) (k : Nat) (hx : x.clearOfSeal = true) : Keeps may kp s0 (State.bumpBy s x by_ i j k) := by
  unfold State.bumpBy
  repeat' with_reducible first | assumption | apply State.setF_keeps | with_unfolding_all rfl
theorem State.bump_keeps  {s0 s : State} (h0 : Keeps may kp s0 s) (x : Fld) (i : Nat) (j : Nat) (k : Nat) (hx : x.clearOfSeal = true) : Keeps may kp s0 (State.bump s x i j k) := by
  unfold State.bump
  repeat' with_reducible first | assumption | apply State.bumpBy_keeps | with_unfolding_all rfl
theorem State.wr32_keeps  {s0 s : State} (h0 : Keeps anyAddr kp s0 s) (a v : Nat) : Keeps anyAddr kp s0 (State.wr32 s a v) := by
  unfold State.wr32
  repeat' with_reducible first | assumption | apply State.writeLE_keeps | with_unfolding_all rfl
theorem State.fresh_keeps  {s0 s : State} (h0 : Keeps may kp s0 s) (tag : Nat) : Keeps may kp s0 ((State.fresh s tag).2) := by
  unfold State.fresh
  repeat' with_reducible first | assumption | apply Keeps.mk | with_unfolding_all rfl
theorem State.fresh_to  {s0 s : State} (h0 : Keeps may kp s0 s) {tag : Nat} {v : Nat} {t : State} (he : State.fresh s tag = (v, t)) : Keeps may kp s0 t := by
  have := State.fresh_keeps h0 tag; rw [he] at this; exact this
theorem State.commitShadow_keeps  {s0 s : State} (h0 : Keeps may kp s0 s) (o : Owner) (margin : Nat) : Keeps may kp s0 (State.commitShadow s o margin) := by
  unfold State.commitShadow
  repeat' with_reducible first | assumption | apply State.commitIf_keeps | with_unfolding_all rfl
theorem State.flushShadow_keeps  {s0 s : State} (h0 : Keeps may kp s0 s) (o : Owner) : Keeps may kp s0 (State.flushShadow s o) := by
  unfold State.flushShadow
  repeat' with_reducible first | assumption | apply State.commitIf_keeps | with_unfolding_all rfl
theorem State.setSynth_keeps  {s0 s : State} (h0 : Keeps may kp s0 s) (m : Nat) (v : Synth) : Keeps may kp s0 (State.setSynth s m v) := by
  unfold State.setSynth
  repeat' with_reducible first | assumption | apply Keeps.mk | with_unfolding_all rfl
theorem State.setTile_keeps  {s0 s : State} (h0 : Keeps may kp s0 s) (t : Nat) (v : Tile) : Keeps may kp s0 (State.setTile s t v) := by
  unfold State.setTile
  repeat' with_reducible first | assumption | apply Keeps.mk | with_unfolding_all rfl
theorem State.setModT_keeps  {s0 s : State} (h0 : Keeps may kp s0 s) (t : Nat) (v : ModTimer) : Keeps may kp s0 (State.setModT s t v) := by
  unfold State.setModT
  repeat' with_reducible first | assumption | apply Keeps.mk | with_unfolding_all rfl
theorem State.setPort_keeps  {s0 s : State} (h0 : Keeps may kp s0 s) (p : Nat) (v : LinkPort) : Keeps may kp s0 (State.setPort s p v) := by
  unfold State.setPort
  repeat' with_reducible first | assumption | apply Keeps.mk | with_unfolding_all rfl
theorem State.setLane_keeps  {s0 s : State} (h0 : Keeps may kp s0 s) (l : Nat) (v : Lane) : Keeps may kp s0 (State.setLane s l v) := by
  unfold State.setLane
  repeat' with_reducible first | assumption | apply Keeps.mk | with_unfolding_all rfl
theorem State.setTxp_keeps  {s0 s : State} (h0 : Keeps may kp s0 s) (n : Nat) (v : TxPath) : Keeps may kp s0 (State.setTxp s n v) := by
  unfold State.setTxp
  repeat' with_reducible first | assumption | apply Keeps.mk | with_unfolding_all rfl
theorem State.setRxp_keeps  {s0 s : State} (h0 : Keeps may kp s0 s) (n : Nat) (v : RxPath) : Keeps may kp s0 (State.setRxp s n v) := by
  unfold State.setRxp
  repeat' with_reducible first | assumption | apply Keeps.mk | with_unfolding_all rfl
theorem State.setOrx_keeps  {s0 s : State} (h0 : Keeps may kp s0 s) (k : Nat) (v : Orx) : Keeps may kp s0 (State.setOrx s k v) := by
  unfold State.setOrx
  repeat' with_reducible first | assumption | apply Keeps.mk | with_unfolding_all rfl
theorem State.setPair_keeps  {s0 s : State} (h0 : Keeps may kp s0 s) (n e : Nat) (v : DpdPair) : Keeps may kp s0 (State.setPair s n e v) := by
  unfold State.setPair
  repeat' with_reducible first | assumption | apply Keeps.mk | with_unfolding_all rfl
theorem State.setFlow_keeps  {s0 s : State} (h0 : Keeps may kp s0 s) (f : Nat) (v : Flow) : Keeps may kp s0 (State.setFlow s f v) := by
  unfold State.setFlow
  repeat' with_reducible first | assumption | apply Keeps.mk | with_unfolding_all rfl

/-! Flags -/

theorem State.setSvc_keeps  {s0 s : State} (h0 : Keeps may kp s0 s) (t l : Nat) (v : Bool) : Keeps may kp s0 (State.setSvc s t l v) := by
  unfold State.setSvc
  repeat' with_reducible first | assumption | apply Keeps.mk | with_unfolding_all rfl
theorem State.wakeDim_keeps  {s0 s : State} (h0 : Keeps may kp s0 s) : Keeps may kp s0 (State.wakeDim s) := by
  unfold State.wakeDim
  repeat' with_reducible first | assumption | apply State.setF_keeps | apply Keeps.ite | split | apply Keeps.mk | with_unfolding_all rfl
theorem State.startMod_keeps  {s0 s : State} (h0 : Keeps may kp s0 s) (t : Nat) : Keeps may kp s0 (State.startMod s t) := by
  unfold State.startMod
  repeat' with_reducible first | assumption | apply State.setF_keeps | apply State.setModT_keeps | apply Keeps.ite | split | with_unfolding_all rfl
theorem State.evalTarget_keeps  {s0 s : State} (h0 : Keeps may kp s0 s) (t : Nat) : Keeps may kp s0 (State.evalTarget s t) := by
  unfold State.evalTarget
  repeat' with_reducible first | assumption | apply State.setF_keeps | apply State.setModT_keeps | apply State.wakeDim_keeps | apply State.startMod_keeps | apply Keeps.ite | split | with_unfolding_all rfl
theorem State.enqueue_keeps  {s0 s : State} (h0 : Keeps may kp s0 s) (p : Nat) (m : OutPkt) : Keeps may kp s0 (State.enqueue s p m) := by
  unfold State.enqueue
  repeat' with_reducible first | assumption | apply State.setPort_keeps | apply Keeps.mk | with_unfolding_all rfl
theorem State.clrPends_keeps  {s0 s : State} (h0 : Keeps may kp s0 s) (t : Nat) (ls : List Nat) : Keeps may kp s0 (State.clrPends s t ls) := by
  unfold State.clrPends
  repeat' with_reducible first | assumption | apply State.clrB_keeps | apply Keeps.foldl | intro t a ht | with_unfolding_all rfl
theorem State.sendEvents_keeps {r s : State} (h : Keeps may kp r s) (p n : Nat) : Keeps may kp r (s.sendEvents p n) := by
  induction n generalizing s with
  | zero => exact h
  | succ n ih =>
    unfold State.sendEvents
    repeat' with_reducible first | assumption | apply ih | apply State.setPort_keeps | apply State.clrPends_keeps | apply State.enqueue_keeps | apply State.bump_keeps | apply Keeps.ite | with_unfolding_all rfl
theorem State.linkAct_keeps  {s0 s : State} (h0 : Keeps may kp s0 s) (p : Nat) : Keeps may kp s0 (State.linkAct s p) := by
  unfold State.linkAct
  repeat' with_reducible first | assumption | apply State.setPort_keeps | apply State.sendEvents_keeps | apply Keeps.ite | split | apply Keeps.mk | with_unfolding_all rfl
theorem State.linkLine_keeps  {s0 s : State} (h0 : Keeps may kp s0 s) (p l : Nat) : Keeps may kp s0 (State.linkLine s p l) := by
  unfold State.linkLine
  repeat' with_reducible first | assumption | apply State.setPort_keeps | apply State.linkAct_keeps | apply Keeps.mk | with_unfolding_all rfl
theorem State.copyCorr_keeps  {s0 s : State} (h0 : Keeps may kp s0 s) : Keeps may kp s0 (State.copyCorr s) := by
  unfold State.copyCorr
  repeat' with_reducible first | assumption | apply State.setF_keeps | apply State.bump_keeps | apply Keeps.foldl | intro t a ht | with_unfolding_all rfl
theorem State.armCommit_keeps  {s0 s : State} (h0 : Keeps may kp s0 s) : Keeps may kp s0 (State.armCommit s) := by
  unfold State.armCommit
  repeat' with_reducible first | assumption | apply State.setF_keeps | apply State.copyCorr_keeps | apply Keeps.ite | split | apply Keeps.mk | with_unfolding_all rfl
theorem State.prismLine_keeps  {s0 s : State} (h0 : Keeps may kp s0 s) (l : Nat) : Keeps may kp s0 (State.prismLine s l) := by
  unfold State.prismLine
  repeat' with_reducible first | assumption | apply State.clrB_keeps | apply State.armCommit_keeps | apply Keeps.ite | split | with_unfolding_all rfl
theorem State.actOn_keeps  {s0 s : State} (h0 : Keeps may kp s0 s) (t l : Nat) : Keeps may kp s0 (State.actOn s t l) := by
  unfold State.actOn
  repeat' with_reducible first | assumption | apply State.evalTarget_keeps | apply State.linkLine_keeps | apply State.prismLine_keeps | apply Keeps.ite | split | with_unfolding_all rfl
theorem State.pulseTo_keeps  {s0 s : State} (h0 : Keeps may kp s0 s) (l : Nat) (t : Nat) : Keeps may kp s0 (State.pulseTo l s t) := by
  unfold State.pulseTo
  repeat' with_reducible first | assumption | apply State.setB_keeps | apply State.bump_keeps | apply State.actOn_keeps | apply Keeps.ite | split | with_unfolding_all rfl
theorem State.pulse_keeps  {s0 s : State} (h0 : Keeps may kp s0 s) (l : Nat) : Keeps may kp s0 (State.pulse s l) := by
  unfold State.pulse
  repeat' with_reducible first | assumption | apply State.pulseTo_keeps | apply Keeps.ite | apply Keeps.foldl | split | intro t a ht | with_unfolding_all rfl
theorem State.levelTo_keeps  {s0 s : State} (h0 : Keeps may kp s0 s) (l : Nat) (t : Nat) : Keeps may kp s0 (State.levelTo l s t) := by
  unfold State.levelTo
  repeat' with_reducible first | assumption | apply State.setB_keeps | apply State.actOn_keeps | apply Keeps.ite | split | with_unfolding_all rfl
theorem State.assertLine_keeps  {s0 s : State} (h0 : Keeps may kp s0 s) (l : Nat) : Keeps may kp s0 (State.assertLine s l) := by
  unfold State.assertLine
  repeat' with_reducible first | assumption | apply State.levelTo_keeps | apply Keeps.ite | apply Keeps.foldl | split | intro t a ht | apply Keeps.mk | with_unfolding_all rfl
theorem State.deassertLine_keeps  {s0 s : State} (h0 : Keeps may kp s0 s) (l : Nat) : Keeps may kp s0 (State.deassertLine s l) := by
  unfold State.deassertLine
  repeat' with_reducible first | assumption | apply Keeps.mk | with_unfolding_all rfl
theorem State.followLine_keeps  {s0 s : State} (h0 : Keeps may kp s0 s) (l : Nat) (c : Bool) : Keeps may kp s0 (State.followLine s l c) := by
  unfold State.followLine
  repeat' with_reducible first | assumption | apply State.assertLine_keeps | apply State.deassertLine_keeps | apply Keeps.ite | split | with_unfolding_all rfl
theorem State.ledgerLines_keeps  {s0 s : State} (h0 : Keeps may kp s0 s) : Keeps may kp s0 (State.ledgerLines s) := by
  unfold State.ledgerLines
  repeat' with_reducible first | assumption | apply State.followLine_keeps | apply Keeps.foldl | intro t a ht | with_unfolding_all rfl
theorem State.lostFault_keeps  {s0 s : State} (h0 : Keeps may kp s0 s) (sev : Nat) : Keeps may kp s0 (State.lostFault s sev) := by
  unfold State.lostFault
  repeat' with_reducible first | assumption | apply State.setF_keeps | apply State.bump_keeps | with_unfolding_all rfl
theorem Keeps.ledger {r s : State} (h : Keeps may kp r s) (x : Faults)
    (hx : s.faults.entries.length ≤ 32 ∧ s.faults.nextSeq < 65536 → x.entries.length ≤ 32 ∧ x.nextSeq < 65536) :
    Keeps may kp r { s with faults := x } := by
  refine ⟨h.queue, fun hi => ?_, fun a ha => h.mem a ha, h.sealed⟩
  have := h.inv hi
  simp only [State.inv, Bool.and_eq_true, decide_eq_true_eq] at *
  have hy := hx ⟨this.1.2, this.2⟩
  exact ⟨⟨⟨this.1.1.1, this.1.1.2⟩, hy.1⟩, hy.2⟩
theorem mergeEntry_length {code a b : Nat} {es fs : List LedgerEntry} (h : mergeEntry code a b es = some fs) :
    fs.length = es.length := by
  induction es generalizing fs with
  | nil => simp [mergeEntry] at h
  | cons e es ih =>
    unfold mergeEntry at h
    split at h
    · simp only [Option.some.injEq] at h; subst h; rfl
    · simp only [Option.map_eq_some_iff] at h
      obtain ⟨gs, hg, rfl⟩ := h
      simp [ih hg]
theorem evictOldest_length (v : Nat) (es : List LedgerEntry) (h : ∃ e ∈ es, e.sev = v) :
    (evictOldest v es).length + 1 = es.length := by
  induction es with
  | nil => simp at h
  | cons e es ih =>
    unfold evictOldest
    split
    · simp
    · next hne =>
      obtain ⟨f, hf, hv⟩ := h
      simp only [List.mem_cons] at hf
      rcases hf with rfl | hf
      · exact absurd hv hne
      · simp [ih ⟨f, hf, hv⟩]
theorem lowSev_mem (es : List LedgerEntry) (m : Nat) :
    es.foldl (fun m e => min m e.sev) m = m ∨ ∃ e ∈ es, e.sev = es.foldl (fun m e => min m e.sev) m := by
  induction es generalizing m with
  | nil => exact .inl rfl
  | cons e es ih =>
    simp only [List.foldl_cons]
    rcases ih (min m e.sev) with h | ⟨f, hf, hv⟩
    · rw [h]
      by_cases hm : m ≤ e.sev
      · exact .inl (Nat.min_eq_left hm)
      · exact .inr ⟨e, List.mem_cons_self, (Nat.min_eq_right (by omega)).symm⟩
    · exact .inr ⟨f, List.mem_cons_of_mem _ hf, hv⟩
theorem codeSev_le (code : Nat) : codeSev code ≤ 3 := by
  by_cases h : code < 55
  · exact (by decide : ∀ c : Fin 55, codeSev c.val ≤ 3) ⟨code, h⟩
  · unfold codeSev
    rw [List.getD_eq_getElem?_getD, List.getElem?_eq_none (by simp only [List.length_cons, List.length_nil]; omega)]; decide
theorem State.appendEntry_keeps {r s : State} (h : Keeps may kp r s) (x : LedgerEntry) (hl : r.inv = true → s.faults.entries.length < 32) :
    Keeps may kp r (s.appendEntry x) := by
  refine ⟨h.queue, fun hi => ?_, fun a ha => h.mem a ha, h.sealed⟩
  have h1 := h.inv hi
  have h2 := hl hi
  simp only [State.inv, State.appendEntry, Bool.and_eq_true, decide_eq_true_eq, List.length_append, List.length_cons,
    List.length_nil] at *
  exact ⟨⟨h1.1.1, by omega⟩,
    decide_eq_true (Nat.mod_lt _ (by omega))⟩
theorem State.putEntry_keeps {r s : State} (h : Keeps may kp r s) (x : LedgerEntry) : Keeps may kp r (s.putEntry x) := by
  unfold State.putEntry
  split
  · next hl => exact State.appendEntry_keeps h x (fun _ => hl)
  · dsimp only
    split
    · next hl hs =>
      have hm : ∃ e ∈ s.faults.entries, e.sev = s.faults.entries.foldl (fun m e => min m e.sev) 3 := by
        rcases lowSev_mem s.faults.entries 3 with h3 | h3
        · rw [h3] at hs; exact absurd (codeSev_le x.code) (by omega)
        · exact h3
      have hlen := evictOldest_length _ _ hm
      refine State.appendEntry_keeps (State.lostFault_keeps (h.ledger { s.faults with entries := evictOldest _ s.faults.entries } (fun hx => ⟨by have := hx.1; show (evictOldest _ s.faults.entries).length ≤ 32; omega, hx.2⟩)) _) x
        (fun hi => ?_)
      have h1 := h.inv hi
      simp only [State.inv, Bool.and_eq_true, decide_eq_true_eq] at h1
      show (evictOldest _ s.faults.entries).length < 32
      omega
    · exact State.lostFault_keeps h _
theorem State.dropLatest_keeps {r s : State} (h : Keeps may kp r s) (k : Nat) : Keeps may kp r (s.dropLatest k) := by
  refine h.ledger _ (fun hx => ⟨Nat.le_trans (List.length_take_le _ _) (Nat.le_trans (Nat.sub_le _ _) hx.1), ?_⟩)
  dsimp only
  split
  · exact hx.2
  · exact Nat.mod_lt _ (by decide)
theorem State.recordEntry_keeps {r s : State} (h : Keeps may kp r s) (code a b : Nat) : Keeps may kp r (s.recordEntry code a b) := by
  unfold State.recordEntry
  split
  · next es he => exact h.ledger _ (fun hx => ⟨by rw [mergeEntry_length he]; exact hx.1, hx.2⟩)
  · exact Keeps.foldl _ (fun t a ht => State.putEntry_keeps ht a) _ (State.dropLatest_keeps h _)
theorem State.ledger_keeps  {s0 s : State} (h0 : Keeps may kp s0 s) (code a : Nat) (b : Nat) : Keeps may kp s0 (State.ledger s code a b) := by
  unfold State.ledger
  repeat' with_reducible first | assumption | apply State.ledgerLines_keeps | apply State.recordEntry_keeps | with_unfolding_all rfl
theorem State.discarded_keeps  {s0 s : State} (h0 : Keeps may kp s0 s) (addr : Nat) : Keeps may kp s0 (State.discarded s addr) := by
  unfold State.discarded
  repeat' with_reducible first | assumption | apply State.ledger_keeps | with_unfolding_all rfl
theorem State.ackFault_keeps {r s : State} (h : Keeps may kp r s) (seq : Nat) : Keeps may kp r (s.ackFault seq) := by
  unfold State.ackFault
  split
  · exact State.ledgerLines_keeps (h.ledger { s.faults with entries := _, fresh := 0 } (fun hx => ⟨Nat.le_trans (List.length_filter_le _ _) hx.1, hx.2⟩))
  · exact State.bump_keeps h _ _ _ _ (by with_unfolding_all rfl)

/-! Firewall -/

theorem Nexts.of {r t : State} (h : Keeps may kp r t) : Nexts (.next t) (Keeps may kp r) := ⟨t, rfl, h⟩
theorem State.regCmd_keeps {r s t : State} (h : Keeps may kp r s) (a : Nat) (ht : Keeps may kp r t) : Nexts (s.regCmd a t) (Keeps may kp r) :=
  Nexts.of (Keeps.ite h (Keeps.ite (Keeps.ite h (State.bump_keeps h _ _ _ _ (by with_unfolding_all rfl))) ht))
theorem State.core_keeps {r s t : State} (h : Keeps may kp r s) (ht : Keeps may kp r t) : Keeps may kp r (s.core t) := by
  unfold State.core; exact Keeps.ite h ht
theorem State.deny_keeps  {s0 s : State} (h0 : Keeps may kp s0 s) (i : Initiator) (k : AccKind) (a0 : Nat) : Keeps may kp s0 (State.deny s i k a0) := by
  unfold State.deny
  repeat' with_reducible first | assumption | apply State.setF_keeps | apply State.bump_keeps | apply State.ledger_keeps | with_unfolding_all rfl

/-! Cache -/

theorem State.writeBack_keeps  {s0 s : State} (h0 : Keeps anyAddr kp s0 s) (k : Nat) (l : CacheLine) : Keeps anyAddr kp s0 (State.writeBack s k l) := by
  unfold State.writeBack
  repeat' with_reducible first | assumption | apply State.writeBytes_keeps | apply Keeps.ite | split | with_unfolding_all rfl
theorem State.cleanIf_keeps  {s0 s : State} (h0 : Keeps anyAddr kp s0 s) (p : Nat → Bool) : Keeps anyAddr kp s0 (State.cleanIf s p) := by
  unfold State.cleanIf
  repeat' with_reducible first | assumption | apply State.writeBack_keeps | apply Keeps.ite | apply Keeps.foldl | split | intro t a ht | apply Keeps.mk | with_unfolding_all rfl
theorem State.invIf_keeps  {s0 s : State} (h0 : Keeps may kp s0 s) (p : Nat → Bool) : Keeps may kp s0 (State.invIf s p) := by
  unfold State.invIf
  repeat' with_reducible first | assumption | apply Keeps.dropMem | apply Keeps.dropReg | apply Keeps.dropBoth | apply Keeps.mk | with_unfolding_all rfl
theorem State.lcSet_keeps  {s0 s : State} (h0 : Keeps may kp s0 s) (a : Nat) : Keeps may kp s0 (State.lcSet s a) := by
  unfold State.lcSet
  repeat' with_reducible first | assumption | apply Keeps.mk | with_unfolding_all rfl
theorem State.dflushAll_keeps  {s0 s : State} (h0 : Keeps anyAddr kp s0 s) : Keeps anyAddr kp s0 (State.dflushAll s) := by
  unfold State.dflushAll
  repeat' with_reducible first | assumption | apply State.cleanIf_keeps | apply State.invIf_keeps | with_unfolding_all rfl
theorem execDclean_keeps  {s0 s : State} (h0 : Keeps anyAddr kp s0 s) (a : Word) (n : Fin 1048576) : Nexts (execDclean a n s) (Keeps anyAddr kp s0) := by
  unfold execDclean
  repeat' with_reducible first | assumption | apply Nexts.of | apply State.core_keeps | apply State.cleanIf_keeps | apply State.lcSet_keeps | with_unfolding_all rfl
theorem execDinv_keeps  {s0 s : State} (h0 : Keeps may kp s0 s) (a : Word) (n : Fin 1048576) : Nexts (execDinv a n s) (Keeps may kp s0) := by
  unfold execDinv
  repeat' with_reducible first | assumption | apply Nexts.of | apply State.core_keeps | apply State.invIf_keeps | apply State.lcSet_keeps | with_unfolding_all rfl
theorem execDflush_keeps  {s0 s : State} (h0 : Keeps anyAddr kp s0 s) (a : Word) (n : Fin 1048576) : Nexts (execDflush a n s) (Keeps anyAddr kp s0) := by
  unfold execDflush
  repeat' with_reducible first | assumption | apply Nexts.of | apply State.core_keeps | apply State.cleanIf_keeps | apply State.invIf_keeps | apply State.lcSet_keeps | with_unfolding_all rfl
theorem execDcleanAll_keeps  {s0 s : State} (h0 : Keeps anyAddr kp s0 s) : Nexts (execDcleanAll s) (Keeps anyAddr kp s0) := by
  unfold execDcleanAll
  repeat' with_reducible first | assumption | apply Nexts.of | apply State.core_keeps | apply State.cleanIf_keeps | with_unfolding_all rfl
theorem execDflushAll_keeps  {s0 s : State} (h0 : Keeps anyAddr kp s0 s) : Nexts (execDflushAll s) (Keeps anyAddr kp s0) := by
  unfold execDflushAll
  repeat' with_reducible first | assumption | apply Nexts.of | apply State.core_keeps | apply State.dflushAll_keeps | with_unfolding_all rfl
theorem execIcinvAll_keeps  {s0 s : State} (h0 : Keeps may kp s0 s) : Nexts (execIcinvAll s) (Keeps may kp s0) := by
  unfold execIcinvAll
  repeat' with_reducible first | assumption | apply Nexts.of | apply State.core_keeps | apply Keeps.mk | with_unfolding_all rfl
theorem State.lanternFence_keeps  {s0 s : State} (h0 : Keeps may kp s0 s) : Keeps may kp s0 (State.lanternFence s) := by
  unfold State.lanternFence
  repeat' with_reducible first | assumption | apply Keeps.ite | split | apply Keeps.mk | with_unfolding_all rfl
theorem execLanternFence_keeps  {s0 s : State} (h0 : Keeps may kp s0 s) : Nexts (execLanternFence s) (Keeps may kp s0) := by
  unfold execLanternFence
  repeat' with_reducible first | assumption | apply Nexts.of | apply State.core_keeps | apply State.lanternFence_keeps | with_unfolding_all rfl

/-! RegWrite -/

theorem State.applyField_keeps {s0 s : State} (h : Keeps may kp s0 s) (x : Fld) (i j k v : Nat) (o : Owner) (en : Bool) (hx : x.sealSafe) :
    Keeps may kp s0 (s.applyField x i j k v o en).1 := by
  unfold State.applyField
  rcases hx.1 with hc | rfl
  · have hs : x.cls = .b → sealKey < x.key i j k := fun hb => Fld.key_gt (decide_eq_true (hx.2 hb)) i j k
    dsimp only
    cases x.acc <;> dsimp only <;> first
      | exact h
      | exact State.setF_keeps h x _ i j k hc
      | skip
    cases hcl : x.cls <;> dsimp only <;> (repeat' split) <;> first
      | exact h
      | exact State.setF_keeps h x _ i j k hc
      | exact State.shadowSet_keeps h _ _ _ (hs hcl)
  · dsimp only [F.SYS_SEAL_SEAL]
    exact State.sealOr_keeps h _ i j k
theorem Keeps.foldlFst {s : State} {α β : Type} (f : State × β → α → State × β) (l : List α)
    (hf : ∀ t, ∀ a ∈ l, Keeps may kp s t.1 → Keeps may kp s (f t a).1) {t : State × β} (h : Keeps may kp s t.1) :
    Keeps may kp s (l.foldl f t).1 := by
  induction l generalizing t with
  | nil => exact h
  | cons a l ih => exact ih (fun t b hb => hf t b (List.mem_cons_of_mem _ hb)) (hf t a (List.mem_cons_self ..) h)
theorem State.applyFields_keeps {s0 s : State} (h : Keeps may kp s0 s) (fs : List Fld) (skip : Nat → Bool) (i j k v : Nat)
    (own : ChClass → Owner) (en : ChClass → Bool) (hf : ∀ x ∈ fs, x.sealSafe) :
    Keeps may kp s0 (s.applyFields fs skip i j k v own en).1 := by
  unfold State.applyFields
  refine Keeps.foldlFst _ fs (fun t a ha ht => ?_) h
  dsimp only
  split
  · exact ht
  · exact State.applyField_keeps ht a i j k v _ _ (hf a ha)
theorem State.writeSkip_keeps  {s0 s : State} (h0 : Keeps may kp s0 s) (d : RegDesc) (skip : Nat → Bool) (i j k v : Nat) (lost : Bool) (hd : d.sealSafe) : Keeps may kp s0 (State.writeSkip s d skip i j k v lost) := by
  unfold State.writeSkip
  repeat' with_reducible first | assumption | apply State.discarded_keeps | apply State.applyFields_keeps | apply Keeps.ite | split | with_unfolding_all rfl
theorem State.writePlain_keeps  {s0 s : State} (h0 : Keeps may kp s0 s) (d : RegDesc) (i j k v : Nat) (hd : d.sealSafe) : Keeps may kp s0 (State.writePlain s d i j k v) := by
  unfold State.writePlain
  repeat' with_reducible first | assumption | apply State.writeSkip_keeps | with_unfolding_all rfl
theorem State.writeReg_keeps  {s0 s : State} (h0 : Keeps may kp s0 s) (r : RName) (v : Nat) (i : Nat) (j : Nat) (k : Nat) : Keeps may kp s0 (State.writeReg s r v i j k) := by
  unfold State.writeReg
  repeat' with_reducible first | assumption | apply State.writePlain_keeps | apply descOf_safe | with_unfolding_all rfl

/-! Shared -/

theorem State.zsHold_keeps  {s0 s : State} (h0 : Keeps may kp s0 s) (c n : Nat) : Keeps may kp s0 (State.zsHold s c n) := by
  unfold State.zsHold
  repeat' with_reducible first | assumption | apply State.setF_keeps | apply State.setB_keeps | with_unfolding_all rfl
theorem State.zsEnd_keeps  {s0 s : State} (h0 : Keeps may kp s0 s) (c n : Nat) : Keeps may kp s0 (State.zsEnd s c n) := by
  unfold State.zsEnd
  repeat' with_reducible first | assumption | apply State.setF_keeps | apply State.clrB_keeps | with_unfolding_all rfl
theorem State.zsHoldTile_keeps  {s0 s : State} (h0 : Keeps may kp s0 s) (c t : Nat) : Keeps may kp s0 (State.zsHoldTile s c t) := by
  unfold State.zsHoldTile
  repeat' with_reducible first | assumption | apply State.zsHold_keeps | apply Keeps.foldl | intro t a ht | with_unfolding_all rfl
theorem State.zsEndTile_keeps  {s0 s : State} (h0 : Keeps may kp s0 s) (c t : Nat) : Keeps may kp s0 (State.zsEndTile s c t) := by
  unfold State.zsEndTile
  repeat' with_reducible first | assumption | apply State.zsEnd_keeps | apply Keeps.foldl | intro t a ht | with_unfolding_all rfl
theorem State.mirHeader_keeps  {s0 s : State} (h0 : Keeps anyAddr kp s0 s) (incomplete aborted : Bool) : Keeps anyAddr kp s0 (State.mirHeader s incomplete aborted) := by
  unfold State.mirHeader
  repeat' with_reducible first | assumption | apply State.writeWords_keeps | with_unfolding_all rfl
theorem State.mirOver_keeps  {s0 s : State} (h0 : Keeps may kp s0 s) (aborted : Bool) : Keeps may kp s0 (State.mirOver s aborted) := by
  unfold State.mirOver
  repeat' with_reducible first | assumption | apply State.setF_keeps | apply Keeps.mk | with_unfolding_all rfl
theorem State.mirAbort_keeps  {s0 s : State} (h0 : Keeps anyAddr kp s0 s) : Keeps anyAddr kp s0 (State.mirAbort s) := by
  unfold State.mirAbort
  repeat' with_reducible first | assumption | apply State.bump_keeps | apply State.pulse_keeps | apply State.ledger_keeps | apply State.mirHeader_keeps | apply State.mirOver_keeps | apply Keeps.ite | split | with_unfolding_all rfl
theorem State.mirTrigger_keeps  {s0 s : State} (h0 : Keeps may kp s0 s) : Keeps may kp s0 (State.mirTrigger s) := by
  unfold State.mirTrigger
  repeat' with_reducible first | assumption | apply Keeps.mk | with_unfolding_all rfl
theorem State.mirOverload_keeps  {s0 s : State} (h0 : Keeps may kp s0 s) (n : Nat) : Keeps may kp s0 (State.mirOverload s n) := by
  unfold State.mirOverload
  repeat' with_reducible first | assumption | apply Keeps.ite | split | apply Keeps.mk | with_unfolding_all rfl
theorem State.mirLanded_keeps  {s0 s : State} (h0 : Keeps may kp s0 s) : Keeps may kp s0 (State.mirLanded s) := by
  unfold State.mirLanded
  repeat' with_reducible first | assumption | apply State.setF_keeps | apply State.bump_keeps | apply State.pulse_keeps | apply Keeps.ite | split | apply Keeps.mk | with_unfolding_all rfl

/-! Discipline -/

theorem State.clearDelays_keeps  {s0 s : State} (h0 : Keeps may kp s0 s) : Keeps may kp s0 (State.clearDelays s) := by
  unfold State.clearDelays
  repeat' with_reducible first | assumption | apply State.setF_keeps | apply Keeps.foldl | intro t a ht | with_unfolding_all rfl
theorem State.discRestart_keeps  {s0 s : State} (h0 : Keeps may kp s0 s) : Keeps may kp s0 (State.discRestart s) := by
  unfold State.discRestart
  repeat' with_reducible first | assumption | apply State.setF_keeps | apply Keeps.mk | with_unfolding_all rfl
theorem State.discSee_keeps  {s0 s : State} (h0 : Keeps may kp s0 s) (e : Int) : Keeps may kp s0 (State.discSee s e) := by
  unfold State.discSee
  repeat' with_reducible first | assumption | apply State.setF_keeps | apply State.pulse_keeps | apply Keeps.ite | split | apply Keeps.mk | with_unfolding_all rfl
theorem State.slewTo_keeps  {s0 s : State} (h0 : Keeps may kp s0 s) (x : Int) : Keeps may kp s0 (State.slewTo s x) := by
  unfold State.slewTo
  repeat' with_reducible first | assumption | apply Keeps.mk | with_unfolding_all rfl
theorem State.timeStep_keeps  {s0 s : State} (h0 : Keeps may kp s0 s) (t : Nat) (frac : Int) : Keeps may kp s0 (State.timeStep s t frac) := by
  unfold State.timeStep
  repeat' with_reducible first | assumption | apply State.bump_keeps | apply State.pulse_keeps | apply State.clearDelays_keeps | apply State.discRestart_keeps | apply State.slewTo_keeps | apply Keeps.mk | with_unfolding_all rfl
theorem State.stepRefused_keeps  {s0 s : State} (h0 : Keeps may kp s0 s) (e : Int) : Keeps may kp s0 (State.stepRefused s e) := by
  unfold State.stepRefused
  repeat' with_reducible first | assumption | apply State.bump_keeps | apply State.pulse_keeps | apply State.ledger_keeps | apply State.slewTo_keeps | apply Keeps.ite | split | apply Keeps.mk | with_unfolding_all rfl
theorem State.showError_keeps  {s0 s : State} (h0 : Keeps may kp s0 s) (e : Int) : Keeps may kp s0 (State.showError s e) := by
  unfold State.showError
  repeat' with_reducible first | assumption | apply State.setF_keeps | apply State.fresh_keeps | apply Keeps.ite | split | refine State.fresh_to ?_ (by assumption) | with_unfolding_all rfl
theorem State.discMeasure_keeps  {s0 s : State} (h0 : Keeps may kp s0 s) (e : Int) : Keeps may kp s0 (State.discMeasure s e) := by
  unfold State.discMeasure
  repeat' with_reducible first | assumption | apply State.discSee_keeps | apply State.slewTo_keeps | apply State.timeStep_keeps | apply State.stepRefused_keeps | apply State.showError_keeps | apply Keeps.ite | split | apply Keeps.mk | with_unfolding_all rfl

end Sys2Proof.Machine
end

