-- ==== Sys2Proof/Laws/KeepsPaths.lean ====
section
/-!
SUPPORT. Sys2Proof/Laws/KeepsPaths.lean: every operation of receive paths, transmit paths and the Prism keeps the invariant, the queue and a set seal,
and memory but for what it stores.
-/
namespace Sys2Proof.Machine

variable {may : Nat → Bool} {kp : Bool}

/-! Rx -/

theorem State.rxAlign_keeps  {s0 s : State} (h0 : Keeps may kp s0 s) (n c : Nat) : Keeps may kp s0 (State.rxAlign s n c) := by
  unfold State.rxAlign
  repeat' with_reducible first | assumption | apply State.setF_keeps | apply State.ledger_keeps | apply Keeps.ite | split | with_unfolding_all rfl
theorem State.setThr_keeps  {s0 s : State} (h0 : Keeps may kp s0 s) (n code : Nat) : Keeps may kp s0 (State.setThr s n code) := by
  unfold State.setThr
  repeat' with_reducible first | assumption | apply State.setF_keeps | with_unfolding_all rfl
theorem State.rxStart_keeps  {s0 s : State} (h0 : Keeps may kp s0 s) (n : Nat) : Keeps may kp s0 (State.rxStart s n) := by
  unfold State.rxStart
  repeat' with_reducible first | assumption | apply State.setF_keeps | apply State.setRxp_keeps | apply State.rxAlign_keeps | apply State.setThr_keeps | with_unfolding_all rfl
theorem State.setAtt_keeps  {s0 s : State} (h0 : Keeps may kp s0 s) (n att : Nat) : Keeps may kp s0 (State.setAtt s n att) := by
  unfold State.setAtt
  repeat' with_reducible first | assumption | apply State.setF_keeps | apply State.setRxp_keeps | apply Keeps.ite | split | apply Keeps.mk | with_unfolding_all rfl
theorem State.manualAtt_keeps  {s0 s : State} (h0 : Keeps may kp s0 s) (n : Nat) : Keeps may kp s0 (State.manualAtt s n) := by
  unfold State.manualAtt
  repeat' with_reducible first | assumption | apply State.setAtt_keeps | apply Keeps.ite | split | with_unfolding_all rfl
theorem State.rxCtrlWrite_keeps  {s0 s : State} (h0 : Keeps may kp s0 s) (n v : Nat) : Keeps may kp s0 (State.rxCtrlWrite s n v) := by
  unfold State.rxCtrlWrite
  repeat' with_reducible first | assumption | apply State.setF_keeps | apply State.flushShadow_keeps | apply State.discarded_keeps | apply State.applyFields_keeps | apply State.rxStart_keeps | apply State.manualAtt_keeps | apply descOf_safe | apply Keeps.ite | split | with_unfolding_all rfl
theorem execRxPathEnable_keeps  {s0 s : State} (h0 : Keeps may kp s0 s) (n : Fin 64) (w : Word) : Nexts (execRxPathEnable n w s) (Keeps may kp s0) := by
  unfold execRxPathEnable
  repeat' with_reducible first | assumption | apply Nexts.of | apply State.regCmd_keeps | apply State.rxCtrlWrite_keeps | with_unfolding_all rfl
theorem State.cfirWrite_keeps  {s0 s : State} (h0 : Keeps may kp s0 s) (tx : Bool) (n b i v : Nat) : Keeps may kp s0 (State.cfirWrite s tx n b i v) := by
  unfold State.cfirWrite
  repeat' with_reducible first | assumption | apply State.discarded_keeps | apply State.writeReg_keeps | apply Keeps.ite | split | with_unfolding_all rfl
theorem State.rxDdcWrite_keeps  {s0 s : State} (h0 : Keeps may kp s0 s) (n c v : Nat) : Keeps may kp s0 (State.rxDdcWrite s n c v) := by
  unfold State.rxDdcWrite
  repeat' with_reducible first | assumption | apply State.writeReg_keeps | apply State.rxAlign_keeps | apply Keeps.ite | split | with_unfolding_all rfl
theorem execCfirCoefWrite_keeps  {s0 s : State} (h0 : Keeps may kp s0 s) (tx : Bool) (n : Fin 64) (b : Fin 2) (i : Fin 96) (w : Word) : Nexts (execCfirCoefWrite tx n b i w s) (Keeps may kp s0) := by
  unfold execCfirCoefWrite
  repeat' with_reducible first | assumption | apply Nexts.of | apply State.regCmd_keeps | apply State.cfirWrite_keeps | apply Keeps.ite | split | with_unfolding_all rfl
theorem State.rxCfirCtrlWrite_keeps  {s0 s : State} (h0 : Keeps may kp s0 s) (n v : Nat) : Keeps may kp s0 (State.rxCfirCtrlWrite s n v) := by
  unfold State.rxCfirCtrlWrite
  repeat' with_reducible first | assumption | apply State.setF_keeps | apply State.writeReg_keeps | apply Keeps.ite | split | with_unfolding_all rfl
theorem State.agcRaise_keeps  {s0 s : State} (h0 : Keeps may kp s0 s) (n : Nat) : Keeps may kp s0 (State.agcRaise s n) := by
  unfold State.agcRaise
  repeat' with_reducible first | assumption | apply State.setF_keeps | apply State.bump_keeps | apply State.setRxp_keeps | apply State.setAtt_keeps | apply Keeps.ite | split | apply Keeps.mk | with_unfolding_all rfl
theorem State.agcAttack_keeps  {s0 s : State} (h0 : Keeps may kp s0 s) (n : Nat) : Keeps may kp s0 (State.agcAttack s n) := by
  unfold State.agcAttack
  repeat' with_reducible first | assumption | apply State.agcRaise_keeps | apply Keeps.ite | split | with_unfolding_all rfl
theorem execAgcAttack_keeps  {s0 s : State} (h0 : Keeps may kp s0 s) (n : Fin 64) : Nexts (execAgcAttack n s) (Keeps may kp s0) := by
  unfold execAgcAttack
  repeat' with_reducible first | assumption | apply Nexts.of | apply State.core_keeps | apply State.agcAttack_keeps | with_unfolding_all rfl
theorem State.agcHoldEnd_keeps  {s0 s : State} (h0 : Keeps may kp s0 s) (n : Nat) : Keeps may kp s0 (State.agcHoldEnd s n) := by
  unfold State.agcHoldEnd
  repeat' with_reducible first | assumption | apply State.setRxp_keeps | apply Keeps.ite | split | apply Keeps.mk | with_unfolding_all rfl
theorem execAgcHoldEnd_keeps  {s0 s : State} (h0 : Keeps may kp s0 s) (n : Fin 64) : Nexts (execAgcHoldEnd n s) (Keeps may kp s0) := by
  unfold execAgcHoldEnd
  repeat' with_reducible first | assumption | apply Nexts.of | apply State.core_keeps | apply State.agcHoldEnd_keeps | with_unfolding_all rfl
theorem State.adcOverload_keeps  {s0 s : State} (h0 : Keeps may kp s0 s) (n : Nat) (q : Bool) : Keeps may kp s0 (State.adcOverload s n q) := by
  unfold State.adcOverload
  repeat' with_reducible first | assumption | apply State.setF_keeps | apply State.bump_keeps | apply State.setRxp_keeps | apply State.mirOverload_keeps | apply State.agcRaise_keeps | apply Keeps.ite | split | apply Keeps.mk | with_unfolding_all rfl
theorem execAdcOverload_keeps  {s0 s : State} (h0 : Keeps may kp s0 s) (n : Fin 64) (q : Bool) : Nexts (execAdcOverload n q s) (Keeps may kp s0) := by
  unfold execAdcOverload
  repeat' with_reducible first | assumption | apply Nexts.of | apply State.core_keeps | apply State.adcOverload_keeps | with_unfolding_all rfl
theorem State.fineWindow_keeps  {s0 s : State} (h0 : Keeps may kp s0 s) (n : Nat) : Keeps may kp s0 (State.fineWindow s n) := by
  unfold State.fineWindow
  repeat' with_reducible first | assumption | apply State.setF_keeps | apply State.setRxp_keeps | apply Keeps.ite | split | apply Keeps.mk | with_unfolding_all rfl
theorem execFinePowerWindow_keeps  {s0 s : State} (h0 : Keeps may kp s0 s) (n : Fin 64) : Nexts (execFinePowerWindow n s) (Keeps may kp s0) := by
  unfold execFinePowerWindow
  repeat' with_reducible first | assumption | apply Nexts.of | apply State.core_keeps | apply State.fineWindow_keeps | with_unfolding_all rfl
theorem State.agcAir_keeps  {s0 s : State} (h0 : Keeps may kp s0 s) (n : Nat) : Keeps may kp s0 (State.agcAir s n) := by
  unfold State.agcAir
  repeat' with_reducible first | assumption | apply State.setF_keeps | apply State.bump_keeps | apply State.setRxp_keeps | apply State.setAtt_keeps | apply Keeps.ite | split | apply Keeps.mk | with_unfolding_all rfl
theorem State.agcAdapt_keeps  {s0 s : State} (h0 : Keeps may kp s0 s) (n : Nat) (written : Bool) : Keeps may kp s0 (State.agcAdapt s n written) := by
  unfold State.agcAdapt
  repeat' with_reducible first | assumption | apply State.setRxp_keeps | apply State.setThr_keeps | apply Keeps.ite | split | apply Keeps.mk | with_unfolding_all rfl
theorem State.rxPathBoundary_keeps  {s0 s : State} (h0 : Keeps may kp s0 s) (n : Nat) : Keeps may kp s0 (State.rxPathBoundary s n) := by
  unfold State.rxPathBoundary
  repeat' with_reducible first | assumption | apply State.setF_keeps | apply State.bump_keeps | apply State.commitShadow_keeps | apply State.setRxp_keeps | apply State.rxAlign_keeps | apply State.agcAdapt_keeps | apply Keeps.ite | split | apply Keeps.mk | with_unfolding_all rfl
theorem execRxPathBoundary_keeps  {s0 s : State} (h0 : Keeps may kp s0 s) (n : Fin 64) : Nexts (execRxPathBoundary n s) (Keeps may kp s0) := by
  unfold execRxPathBoundary
  repeat' with_reducible first | assumption | apply Nexts.of | apply State.core_keeps | apply State.rxPathBoundary_keeps | with_unfolding_all rfl
theorem State.rxSat_keeps  {s0 s : State} (h0 : Keeps may kp s0 s) (x : Fld) (n : Nat) (b : Bool) (hx : x.clearOfSeal = true) : Keeps may kp s0 (State.rxSat s x n b) := by
  unfold State.rxSat
  repeat' with_reducible first | assumption | apply State.setF_keeps | apply State.setRxp_keeps | apply Keeps.ite | split | apply Keeps.mk | with_unfolding_all rfl
theorem State.rxKeep_keeps  {s0 s : State} (h0 : Keeps may kp s0 s) (n k : Nat) (v : Int × Int) : Keeps may kp s0 (State.rxKeep s n k v) := by
  unfold State.rxKeep
  repeat' with_reducible first | assumption | apply State.setRxp_keeps | apply Keeps.mk | with_unfolding_all rfl
theorem State.rxCoarse_keeps  {s0 s : State} (h0 : Keeps may kp s0 s) (n sh : Nat) (a : Int × Int) : Keeps may kp s0 (State.rxCoarse s n sh a) := by
  unfold State.rxCoarse
  repeat' with_reducible first | assumption | apply State.setF_keeps | apply State.setRxp_keeps | apply Keeps.ite | apply Keeps.foldl | split | intro t a ht | apply Keeps.mk | with_unfolding_all rfl
theorem State.rxStageD_keeps  {s0 s : State} (h0 : Keeps may kp s0 s) (n c : Nat) (v : Int × Int) : Keeps may kp s0 (State.rxStageD s n c v) := by
  unfold State.rxStageD
  repeat' with_reducible first | assumption | apply State.setRxp_keeps | apply State.rxSat_keeps | apply State.rxKeep_keeps | apply Keeps.ite | split | apply Keeps.mk | with_unfolding_all rfl
theorem State.rxTick_keeps  {s0 s : State} (h0 : Keeps may kp s0 s) (n : Nat) (q : List (Int × Int)) : Keeps may kp s0 (State.rxTick s n q) := by
  unfold State.rxTick
  repeat' with_reducible first | assumption | apply State.setRxp_keeps | apply State.rxSat_keeps | apply State.rxKeep_keeps | apply State.rxCoarse_keeps | apply State.rxStageD_keeps | apply Keeps.ite | split | apply Keeps.mk | with_unfolding_all rfl

/-! Tx -/

theorem State.txAlign_keeps  {s0 s : State} (h0 : Keeps may kp s0 s) (n : Nat) : Keeps may kp s0 (State.txAlign s n) := by
  unfold State.txAlign
  repeat' with_reducible first | assumption | apply State.setF_keeps | apply State.ledger_keeps | apply Keeps.ite | split | with_unfolding_all rfl
theorem State.txStart_keeps  {s0 s : State} (h0 : Keeps may kp s0 s) (n : Nat) : Keeps may kp s0 (State.txStart s n) := by
  unfold State.txStart
  repeat' with_reducible first | assumption | apply State.setF_keeps | apply State.setTxp_keeps | apply State.txAlign_keeps | apply Keeps.mk | with_unfolding_all rfl
theorem State.txCtrlWrite_keeps  {s0 s : State} (h0 : Keeps may kp s0 s) (n v : Nat) : Keeps may kp s0 (State.txCtrlWrite s n v) := by
  unfold State.txCtrlWrite
  repeat' with_reducible first | assumption | apply State.setF_keeps | apply State.flushShadow_keeps | apply State.discarded_keeps | apply State.applyFields_keeps | apply State.zsHold_keeps | apply State.txStart_keeps | apply descOf_safe | apply Keeps.ite | split | with_unfolding_all rfl
theorem execTxPathEnable_keeps  {s0 s : State} (h0 : Keeps may kp s0 s) (n : Fin 64) (w : Word) : Nexts (execTxPathEnable n w s) (Keeps may kp s0) := by
  unfold execTxPathEnable
  repeat' with_reducible first | assumption | apply Nexts.of | apply State.regCmd_keeps | apply State.txCtrlWrite_keeps | with_unfolding_all rfl
theorem execTxPathDisable_keeps  {s0 s : State} (h0 : Keeps may kp s0 s) (n : Fin 64) (w : Word) : Nexts (execTxPathDisable n w s) (Keeps may kp s0) := by
  unfold execTxPathDisable
  repeat' with_reducible first | assumption | apply Nexts.of | apply State.regCmd_keeps | apply State.txCtrlWrite_keeps | with_unfolding_all rfl
theorem State.txCfirCtrlWrite_keeps  {s0 s : State} (h0 : Keeps may kp s0 s) (n v : Nat) : Keeps may kp s0 (State.txCfirCtrlWrite s n v) := by
  unfold State.txCfirCtrlWrite
  repeat' with_reducible first | assumption | apply State.setF_keeps | apply State.writeReg_keeps | apply Keeps.ite | split | with_unfolding_all rfl
theorem State.nsOverload_keeps  {s0 s : State} (h0 : Keeps may kp s0 s) (n : Nat) : Keeps may kp s0 (State.nsOverload s n) := by
  unfold State.nsOverload
  repeat' with_reducible first | assumption | apply State.setF_keeps | apply State.bump_keeps | apply State.setTxp_keeps | apply State.ledger_keeps | apply State.zsHold_keeps | apply Keeps.ite | split | apply Keeps.mk | with_unfolding_all rfl
theorem execNsOverload_keeps  {s0 s : State} (h0 : Keeps may kp s0 s) (n : Fin 64) : Nexts (execNsOverload n s) (Keeps may kp s0) := by
  unfold execNsOverload
  repeat' with_reducible first | assumption | apply Nexts.of | apply State.core_keeps | apply State.nsOverload_keeps | with_unfolding_all rfl
theorem State.nsOverloadEnd_keeps  {s0 s : State} (h0 : Keeps may kp s0 s) (n : Nat) : Keeps may kp s0 (State.nsOverloadEnd s n) := by
  unfold State.nsOverloadEnd
  repeat' with_reducible first | assumption | apply State.zsEnd_keeps | apply Keeps.ite | split | with_unfolding_all rfl
theorem execNsOverloadEnd_keeps  {s0 s : State} (h0 : Keeps may kp s0 s) (n : Fin 64) : Nexts (execNsOverloadEnd n s) (Keeps may kp s0) := by
  unfold execNsOverloadEnd
  repeat' with_reducible first | assumption | apply Nexts.of | apply State.core_keeps | apply State.nsOverloadEnd_keeps | with_unfolding_all rfl
theorem State.txSat_keeps  {s0 s : State} (h0 : Keeps may kp s0 s) (x : Fld) (n : Nat) (b : Bool) (hx : x.clearOfSeal = true) : Keeps may kp s0 (State.txSat s x n b) := by
  unfold State.txSat
  repeat' with_reducible first | assumption | apply State.setF_keeps | apply State.setTxp_keeps | apply Keeps.ite | split | apply Keeps.mk | with_unfolding_all rfl
theorem State.txKeep_keeps  {s0 s : State} (h0 : Keeps may kp s0 s) (n k : Nat) (v : Int × Int) : Keeps may kp s0 (State.txKeep s n k v) := by
  unfold State.txKeep
  repeat' with_reducible first | assumption | apply State.setTxp_keeps | apply Keeps.mk | with_unfolding_all rfl
theorem State.txFeed_keeps  {s0 s : State} (h0 : Keeps may kp s0 s) (n c : Nat) : Keeps may kp s0 (State.txFeed s n c) := by
  unfold State.txFeed
  repeat' with_reducible first | assumption | apply State.setTxp_keeps | apply Keeps.ite | split | apply Keeps.mk | with_unfolding_all rfl
theorem State.txIn_keeps  {s0 s : State} (h0 : Keeps may kp s0 s) (n c : Nat) (x : Int × Int) : Keeps may kp s0 (State.txIn s n c x) := by
  unfold State.txIn
  repeat' with_reducible first | assumption | apply State.setTxp_keeps | apply Keeps.ite | split | apply Keeps.mk | with_unfolding_all rfl
theorem State.txTick_keeps  {s0 s : State} (h0 : Keeps may kp s0 s) (n : Nat) : Keeps may kp s0 (State.txTick s n) := by
  unfold State.txTick
  repeat' with_reducible first | assumption | apply State.setTxp_keeps | apply State.txSat_keeps | apply State.txKeep_keeps | apply State.txFeed_keeps | apply Keeps.ite | split | apply Keeps.mk | with_unfolding_all rfl
theorem State.txEnd_keeps  {s0 s : State} (h0 : Keeps may kp s0 s) (n : Nat) (zs : List (Int × Int)) : Keeps may kp s0 (State.txEnd s n zs) := by
  unfold State.txEnd
  repeat' with_reducible first | assumption | apply State.bumpBy_keeps | apply State.setTxp_keeps | apply State.txKeep_keeps | apply Keeps.foldl | intro t a ht | apply Keeps.mk | with_unfolding_all rfl

/-! Prism -/

theorem State.setLayer_keeps  {s0 s : State} (h0 : Keeps may kp s0 s) (f : Nat) (l : Layer) : Keeps may kp s0 (State.setLayer s f l) := by
  unfold State.setLayer
  repeat' with_reducible first | assumption | apply State.setF_keeps | apply Keeps.mk | with_unfolding_all rfl
theorem State.preloadBegin_keeps  {s0 s : State} (h0 : Keeps may kp s0 s) (f idx : Nat) : Keeps may kp s0 (State.preloadBegin s f idx) := by
  unfold State.preloadBegin
  repeat' with_reducible first | assumption | apply State.setLayer_keeps | split | apply Keeps.mk | with_unfolding_all rfl
theorem State.preloadComplete_keeps  {s0 s : State} (h0 : Keeps may kp s0 s) (f : Nat) (bad : Option Nat) : Keeps may kp s0 (State.preloadComplete s f bad) := by
  unfold State.preloadComplete
  repeat' with_reducible first | assumption | apply State.bump_keeps | apply State.ledger_keeps | apply State.setLayer_keeps | apply Keeps.ite | split | apply Keeps.mk | with_unfolding_all rfl
theorem execPreloadComplete_keeps  {s0 s : State} (h0 : Keeps may kp s0 s) (f : Fin 512) (bad : Option (Fin 64)) : Nexts (execPreloadComplete f bad s) (Keeps may kp s0) := by
  unfold execPreloadComplete
  repeat' with_reducible first | assumption | apply Nexts.of | apply State.core_keeps | apply State.preloadComplete_keeps | with_unfolding_all rfl
theorem State.formUsed_keeps  {s0 s : State} (h0 : Keeps may kp s0 s) : Keeps may kp s0 (State.formUsed s) := by
  unfold State.formUsed
  repeat' with_reducible first | assumption | apply State.setF_keeps | apply Keeps.foldl | intro t a ht | with_unfolding_all rfl
theorem State.layerOff_keeps  {s0 s : State} (h0 : Keeps may kp s0 s) (f : Nat) : Keeps may kp s0 (State.layerOff s f) := by
  unfold State.layerOff
  repeat' with_reducible first | assumption | apply State.setLayer_keeps | apply State.formUsed_keeps | apply Keeps.ite | split | with_unfolding_all rfl
theorem State.setLen_keeps  {s0 s : State} (h0 : Keeps may kp s0 s) (f v : Nat) : Keeps may kp s0 (State.setLen s f v) := by
  unfold State.setLen
  repeat' with_reducible first | assumption | apply State.setF_keeps | apply State.formUsed_keeps | apply State.layerOff_keeps | apply Keeps.ite | split | with_unfolding_all rfl
theorem State.writeLen_keeps  {s0 s : State} (h0 : Keeps may kp s0 s) (f v : Nat) : Keeps may kp s0 (State.writeLen s f v) := by
  unfold State.writeLen
  repeat' with_reducible first | assumption | apply State.shadowSet_keeps | apply State.setLen_keeps | apply Fld.key_gt | apply Keeps.ite | split | with_unfolding_all rfl
theorem State.landLen_keeps  {s0 s : State} (h0 : Keeps may kp s0 s) (f margin : Nat) : Keeps may kp s0 (State.landLen s f margin) := by
  unfold State.landLen
  repeat' with_reducible first | assumption | apply State.commitShadow_keeps | apply State.formUsed_keeps | apply State.layerOff_keeps | apply Keeps.ite | split | with_unfolding_all rfl
theorem State.layerEnableWrite_keeps  {s0 s : State} (h0 : Keeps may kp s0 s) (f v : Nat) : Keeps may kp s0 (State.layerEnableWrite s f v) := by
  unfold State.layerEnableWrite
  repeat' with_reducible first | assumption | apply State.setF_keeps | apply State.shadowSet_keeps | apply State.formUsed_keeps | apply State.layerOff_keeps | apply Fld.key_gt | apply State.discarded_keeps | apply State.applyFields_keeps | apply State.preloadBegin_keeps | apply State.writeLen_keeps | apply descOf_safe | apply Keeps.ite | split | with_unfolding_all rfl
theorem State.carWrite_keeps  {s0 s : State} (h0 : Keeps may kp s0 s) (d c v : Nat) : Keeps may kp s0 (State.carWrite s d c v) := by
  unfold State.carWrite
  repeat' with_reducible first | assumption | apply State.writeReg_keeps | apply State.formUsed_keeps | with_unfolding_all rfl
theorem execLayerEnableWrite_keeps  {s0 s : State} (h0 : Keeps may kp s0 s) (f : Fin 512) (w : Word) : Nexts (execLayerEnableWrite f w s) (Keeps may kp s0) := by
  unfold execLayerEnableWrite
  repeat' with_reducible first | assumption | apply Nexts.of | apply State.regCmd_keeps | apply State.layerEnableWrite_keeps | with_unfolding_all rfl
theorem State.rangeAccept_keeps  {s0 s : State} (h0 : Keeps may kp s0 s) (marked : Nat → Bool) (f frame sym count : Nat) (entry : Option Nat) : Keeps may kp s0 (State.rangeAccept s marked f frame sym count entry) := by
  unfold State.rangeAccept
  repeat' with_reducible first | assumption | apply State.bumpBy_keeps | apply State.bump_keeps | apply State.ledger_keeps | apply State.setLayer_keeps | apply State.preloadBegin_keeps | apply Keeps.ite | split | apply Keeps.mk | with_unfolding_all rfl
theorem State.corrCommitArm_keeps  {s0 s : State} (h0 : Keeps may kp s0 s) (v : Nat) : Keeps may kp s0 (State.corrCommitArm s v) := by
  unfold State.corrCommitArm
  repeat' with_reducible first | assumption | apply State.armCommit_keeps | apply Keeps.ite | split | with_unfolding_all rfl
theorem execCorrCommitArm_keeps  {s0 s : State} (h0 : Keeps may kp s0 s) (w : Word) : Nexts (execCorrCommitArm w s) (Keeps may kp s0) := by
  unfold execCorrCommitArm
  repeat' with_reducible first | assumption | apply Nexts.of | apply State.regCmd_keeps | apply State.corrCommitArm_keeps | with_unfolding_all rfl
theorem State.keepCorr_keeps  {s0 s : State} (h0 : Keeps may kp s0 s) (air : Nat) : Keeps may kp s0 (State.keepCorr s air) := by
  unfold State.keepCorr
  repeat' with_reducible first | assumption | apply Keeps.foldl | intro t a ht | apply Keeps.mk | with_unfolding_all rfl
theorem State.corrCommitLand_keeps  {s0 s : State} (h0 : Keeps may kp s0 s) : Keeps may kp s0 (State.corrCommitLand s) := by
  unfold State.corrCommitLand
  repeat' with_reducible first | assumption | apply State.copyCorr_keeps | apply State.mirLanded_keeps | apply State.keepCorr_keeps | apply Keeps.ite | split | with_unfolding_all rfl
theorem execCorrCommitLand_keeps  {s0 s : State} (h0 : Keeps may kp s0 s) : Nexts (execCorrCommitLand s) (Keeps may kp s0) := by
  unfold execCorrCommitLand
  repeat' with_reducible first | assumption | apply Nexts.of | apply State.core_keeps | apply State.corrCommitLand_keeps | with_unfolding_all rfl
theorem State.corrPendWrite_keeps  {s0 s : State} (h0 : Keeps may kp s0 s) (d a v : Nat) : Keeps may kp s0 (State.corrPendWrite s d a v) := by
  unfold State.corrPendWrite
  repeat' with_reducible first | assumption | apply State.discarded_keeps | apply State.writeReg_keeps | apply Keeps.ite | split | with_unfolding_all rfl
theorem execCorrPendWrite_keeps  {s0 s : State} (h0 : Keeps may kp s0 s) (d : Fin 2) (a : Fin 64) (w : Word) : Nexts (execCorrPendWrite d a w s) (Keeps may kp s0) := by
  unfold execCorrPendWrite
  repeat' with_reducible first | assumption | apply Nexts.of | apply State.regCmd_keeps | apply State.corrPendWrite_keeps | with_unfolding_all rfl
theorem State.flushCars_keeps  {s0 s : State} (h0 : Keeps may kp s0 s) : Keeps may kp s0 (State.flushCars s) := by
  unfold State.flushCars
  repeat' with_reducible first | assumption | apply State.flushShadow_keeps | apply State.landLen_keeps | apply Keeps.foldl | intro t a ht | with_unfolding_all rfl
theorem State.prismEnableWrite_keeps  {s0 s : State} (h0 : Keeps anyAddr kp s0 s) (v : Nat) : Keeps anyAddr kp s0 (State.prismEnableWrite s v) := by
  unfold State.prismEnableWrite
  repeat' with_reducible first | assumption | apply State.setF_keeps | apply State.copyCorr_keeps | apply State.discarded_keeps | apply State.applyFields_keeps | apply State.mirAbort_keeps | apply State.mirLanded_keeps | apply State.flushCars_keeps | apply descOf_safe | apply Keeps.ite | split | with_unfolding_all rfl
theorem execPrismEnableWrite_keeps  {s0 s : State} (h0 : Keeps anyAddr kp s0 s) (w : Word) : Nexts (execPrismEnableWrite w s) (Keeps anyAddr kp s0) := by
  unfold execPrismEnableWrite
  repeat' with_reducible first | assumption | apply Nexts.of | apply State.regCmd_keeps | apply State.prismEnableWrite_keeps | with_unfolding_all rfl
theorem State.prismSat_keeps  {s0 s : State} (h0 : Keeps may kp s0 s) (x : Fld) (d c : Nat) (b : Bool) (hx : x.clearOfSeal = true) : Keeps may kp s0 (State.prismSat s x d c b) := by
  unfold State.prismSat
  repeat' with_reducible first | assumption | apply State.setB_keeps | apply Keeps.ite | split | with_unfolding_all rfl
theorem State.prismTxTick_keeps  {s0 s : State} (h0 : Keeps may kp s0 s) (c : Nat) (xs : List (Nat × (Int × Int))) : Keeps may kp s0 (State.prismTxTick s c xs) := by
  unfold State.prismTxTick
  repeat' with_reducible first | assumption | apply State.txIn_keeps | apply State.setLayer_keeps | apply State.prismSat_keeps | apply Keeps.foldl | intro t a ht | apply Keeps.mk | with_unfolding_all rfl
theorem State.prismRxTick_keeps  {s0 s : State} (h0 : Keeps may kp s0 s) (c : Nat) : Keeps may kp s0 (State.prismRxTick s c) := by
  unfold State.prismRxTick
  repeat' with_reducible first | assumption | apply State.setLayer_keeps | apply State.prismSat_keeps | apply Keeps.ite | apply Keeps.foldl | split | intro t a ht | apply Keeps.mk | with_unfolding_all rfl

end Sys2Proof.Machine
end

