-- ==== Sys2Proof/Laws/KeepsFlow.lean ====
section
/-!
SUPPORT. Sys2Proof/Laws/KeepsFlow.lean: every operation of flows, reservations, placement, the outbound link and the lanes keeps the invariant, the queue and a set seal,
and memory but for what it stores.
-/
namespace Sys2Proof.Machine

variable {may : Nat → Bool} {kp : Bool}

/-! Flow -/

theorem State.setPlace_keeps  {s0 s : State} (h0 : Keeps may kp s0 s) (f : Nat) (p : Place) : Keeps may kp s0 (State.setPlace s f p) := by
  unfold State.setPlace
  repeat' with_reducible first | assumption | apply State.setF_keeps | with_unfolding_all rfl
theorem State.planFrame_keeps  {s0 s : State} (h0 : Keeps may kp s0 s) (at_ : Nat) : Keeps may kp s0 (State.planFrame s at_) := by
  unfold State.planFrame
  repeat' with_reducible first | assumption | apply Keeps.mk | with_unfolding_all rfl
theorem State.setJob_keeps  {s0 s : State} (h0 : Keeps may kp s0 s) (f idx v : Nat) : Keeps may kp s0 (State.setJob s f idx v) := by
  unfold State.setJob
  repeat' with_reducible first | assumption | apply State.setFlow_keeps | apply Keeps.mk | with_unfolding_all rfl
theorem State.putSample_keeps  {s0 s : State} (h0 : Keeps anyAddr kp s0 s) (a : Nat) (x : Int × Int) : Keeps anyAddr kp s0 (State.putSample s a x) := by
  unfold State.putSample
  repeat' with_reducible first | assumption | apply State.writeLE_keeps | with_unfolding_all rfl
theorem State.bufPut_keeps {s0 s : State} (h : Keeps anyAddr kp s0 s) (f idx q : Nat) (xs : List (Int × Int)) :
    Keeps anyAddr kp s0 (s.bufPut f idx q xs) := by
  induction xs generalizing s q with
  | nil => exact h
  | cons x xs ih => unfold State.bufPut; with_reducible exact ih (State.putSample_keeps h _ _) _
theorem State.prismTxStep_keeps  {s0 s : State} (h0 : Keeps may kp s0 s) (c : Nat) (bad : List Nat) : Keeps may kp s0 (State.prismTxStep s c bad) := by
  unfold State.prismTxStep
  repeat' with_reducible first | assumption | apply State.bump_keeps | apply State.ledger_keeps | apply State.prismTxTick_keeps | apply Keeps.foldl | intro t a ht | with_unfolding_all rfl
theorem State.rxStore_keeps  {s0 s : State} (h0 : Keeps anyAddr kp s0 s) (f : Nat) : Keeps anyAddr kp s0 (State.rxStore s f) := by
  unfold State.rxStore
  repeat' with_reducible first | assumption | apply State.setFlow_keeps | apply State.setJob_keeps | apply State.bufPut_keeps | apply Keeps.ite | split | apply Keeps.mk | with_unfolding_all rfl
theorem State.prismRxStep_keeps  {s0 s : State} (h0 : Keeps anyAddr kp s0 s) (c : Nat) : Keeps anyAddr kp s0 (State.prismRxStep s c) := by
  unfold State.prismRxStep
  repeat' with_reducible first | assumption | apply State.prismRxTick_keeps | apply State.rxStore_keeps | apply Keeps.foldl | intro t a ht | with_unfolding_all rfl
theorem State.writeRec_keeps  {s0 s : State} (h0 : Keeps anyAddr kp s0 s) (r : LogRec) (e : Option (Nat × Nat)) : Keeps anyAddr kp s0 (State.writeRec s r e) := by
  unfold State.writeRec
  repeat' with_reducible first | assumption | apply State.setF_keeps | apply State.writeWords_keeps | apply State.fresh_keeps | with_unfolding_all rfl
theorem State.writeRecNow_keeps  {s0 s : State} (h0 : Keeps anyAddr kp s0 s) (r : LogRec) : Keeps anyAddr kp s0 (State.writeRecNow s r) := by
  unfold State.writeRecNow
  repeat' with_reducible first | assumption | apply State.writeRec_keeps | split | apply Keeps.mk | with_unfolding_all rfl
theorem State.record_keeps  {s0 s : State} (h0 : Keeps may kp s0 s) (r : LogRec) : Keeps may kp s0 (State.record s r) := by
  unfold State.record
  repeat' with_reducible first | assumption | apply Keeps.mk | with_unfolding_all rfl
theorem State.setAhead_keeps  {s0 s : State} (h0 : Keeps may kp s0 s) (f : Nat) : Keeps may kp s0 (State.setAhead s f) := by
  unfold State.setAhead
  repeat' with_reducible first | assumption | apply State.setF_keeps | split | apply Keeps.mk | with_unfolding_all rfl
theorem State.flowStarted_keeps  {s0 s : State} (h0 : Keeps may kp s0 s) (f idx endAir : Nat) : Keeps may kp s0 (State.flowStarted s f idx endAir) := by
  unfold State.flowStarted
  repeat' with_reducible first | assumption | apply State.setFlow_keeps | apply State.setAhead_keeps | apply Keeps.mk | with_unfolding_all rfl
theorem State.abandonRec_keeps  {s0 s : State} (h0 : Keeps anyAddr kp s0 s) (f : Nat) : Keeps anyAddr kp s0 (State.abandonRec s f) := by
  unfold State.abandonRec
  repeat' with_reducible first | assumption | apply State.setFlow_keeps | apply State.writeRec_keeps | apply Keeps.ite | split | apply Keeps.mk | with_unfolding_all rfl
theorem State.flowDelivered_keeps  {s0 s : State} (h0 : Keeps anyAddr kp s0 s) (f idx : Nat) : Keeps anyAddr kp s0 (State.flowDelivered s f idx) := by
  unfold State.flowDelivered
  repeat' with_reducible first | assumption | apply State.setF_keeps | apply State.setFlow_keeps | apply State.setAhead_keeps | apply State.abandonRec_keeps | apply Keeps.mk | with_unfolding_all rfl
theorem State.abandon_keeps  {s0 s : State} (h0 : Keeps may kp s0 s) (f idx : Nat) : Keeps may kp s0 (State.abandon s f idx) := by
  unfold State.abandon
  repeat' with_reducible first | assumption | apply State.setF_keeps | apply State.bump_keeps | apply State.setFlow_keeps | apply State.ledger_keeps | apply Keeps.ite | split | apply Keeps.mk | with_unfolding_all rfl
theorem State.dropQueued_keeps  {s0 s : State} (h0 : Keeps may kp s0 s) (f : Nat) (p : Nat) : Keeps may kp s0 (State.dropQueued f s p) := by
  unfold State.dropQueued
  repeat' with_reducible first | assumption | apply State.setF_keeps | apply State.setPort_keeps | apply Keeps.foldl | split | intro t a ht | apply Keeps.mk | with_unfolding_all rfl
theorem State.deadSending_keeps  {s0 s : State} (h0 : Keeps may kp s0 s) (f : Nat) (l : Nat) : Keeps may kp s0 (State.deadSending f s l) := by
  unfold State.deadSending
  repeat' with_reducible first | assumption | apply State.setLane_keeps | apply Keeps.ite | split | apply Keeps.mk | with_unfolding_all rfl
theorem State.abandonAll_keeps  {s0 s : State} (h0 : Keeps may kp s0 s) (f : Nat) : Keeps may kp s0 (State.abandonAll s f) := by
  unfold State.abandonAll
  repeat' with_reducible first | assumption | apply State.setFlow_keeps | apply State.abandon_keeps | apply State.dropQueued_keeps | apply State.deadSending_keeps | apply Keeps.foldl | intro t a ht | apply Keeps.mk | with_unfolding_all rfl
theorem State.flowTick_keeps  {s0 s : State} (h0 : Keeps anyAddr kp s0 s) (f : Nat) : Keeps anyAddr kp s0 (State.flowTick s f) := by
  unfold State.flowTick
  repeat' with_reducible first | assumption | apply State.flowDelivered_keeps | apply Keeps.ite | apply Keeps.foldl | split | intro t a ht | with_unfolding_all rfl
theorem State.layerStop_keeps  {s0 s : State} (h0 : Keeps may kp s0 s) (f : Nat) : Keeps may kp s0 (State.layerStop s f) := by
  unfold State.layerStop
  repeat' with_reducible first | assumption | apply State.setF_keeps | apply State.shadowSet_keeps | apply State.layerOff_keeps | apply Fld.key_gt | apply State.bumpBy_keeps | apply State.setLayer_keeps | apply State.writeLen_keeps | apply Keeps.ite | split | apply Keeps.mk | with_unfolding_all rfl
theorem State.cancelMove_keeps  {s0 s : State} (h0 : Keeps anyAddr kp s0 s) (f : Nat) : Keeps anyAddr kp s0 (State.cancelMove s f) := by
  unfold State.cancelMove
  repeat' with_reducible first | assumption | apply State.setF_keeps | apply State.setFlow_keeps | apply State.writeRec_keeps | split | apply Keeps.mk | with_unfolding_all rfl
theorem State.dropResources_keeps  {s0 s : State} (h0 : Keeps may kp s0 s) (f : Nat) : Keeps may kp s0 (State.dropResources s f) := by
  unfold State.dropResources
  repeat' with_reducible first | assumption | apply State.setF_keeps | apply State.setFlow_keeps | apply State.setPlace_keeps | apply State.abandonAll_keeps | apply State.layerStop_keeps | apply Keeps.mk | with_unfolding_all rfl
theorem State.suspendFlow_keeps  {s0 s : State} (h0 : Keeps may kp s0 s) (f cause : Nat) : Keeps may kp s0 (State.suspendFlow s f cause) := by
  unfold State.suspendFlow
  repeat' with_reducible first | assumption | apply State.setF_keeps | apply State.dropResources_keeps | with_unfolding_all rfl
theorem State.epochTrigger_keeps  {s0 s : State} (h0 : Keeps may kp s0 s) : Keeps may kp s0 (State.epochTrigger s) := by
  unfold State.epochTrigger
  repeat' with_reducible first | assumption | apply State.setF_keeps | apply Keeps.ite | split | apply Keeps.mk | with_unfolding_all rfl
theorem execEpochGo_keeps  {s0 s : State} (h0 : Keeps may kp s0 s) (w : Word) : Nexts (execEpochGo w s) (Keeps may kp s0) := by
  unfold execEpochGo
  repeat' with_reducible first | assumption | apply Nexts.of | apply State.regCmd_keeps | apply State.epochTrigger_keeps | apply Keeps.ite | split | with_unfolding_all rfl
theorem State.reqRec_keeps  {s0 s : State} (h0 : Keeps anyAddr kp s0 s) (f kind : Nat) : Keeps anyAddr kp s0 (State.reqRec s f kind) := by
  unfold State.reqRec
  repeat' with_reducible first | assumption | apply State.writeRec_keeps | with_unfolding_all rfl
theorem State.planAgain_keeps  {s0 s : State} (h0 : Keeps may kp s0 s) : Keeps may kp s0 (State.planAgain s) := by
  unfold State.planAgain
  repeat' with_reducible first | assumption | apply Keeps.mk | with_unfolding_all rfl
theorem State.admitReq_keeps  {s0 s : State} (h0 : Keeps may kp s0 s) (f : Nat) : Keeps may kp s0 (State.admitReq s f) := by
  unfold State.admitReq
  repeat' with_reducible first | assumption | apply State.setF_keeps | apply Keeps.ite | split | with_unfolding_all rfl
theorem State.releaseReq_keeps  {s0 s : State} (h0 : Keeps anyAddr kp s0 s) (f : Nat) : Keeps anyAddr kp s0 (State.releaseReq s f) := by
  unfold State.releaseReq
  repeat' with_reducible first | assumption | apply State.setF_keeps | apply State.setFlow_keeps | apply State.abandonAll_keeps | apply State.layerStop_keeps | apply State.cancelMove_keeps | apply State.reqRec_keeps | apply State.planAgain_keeps | apply Keeps.ite | split | apply Keeps.mk | with_unfolding_all rfl
theorem State.suspendReq_keeps  {s0 s : State} (h0 : Keeps anyAddr kp s0 s) (f : Nat) : Keeps anyAddr kp s0 (State.suspendReq s f) := by
  unfold State.suspendReq
  repeat' with_reducible first | assumption | apply State.cancelMove_keeps | apply State.suspendFlow_keeps | apply State.reqRec_keeps | apply State.planAgain_keeps | apply Keeps.ite | split | with_unfolding_all rfl
theorem State.flowCtrlWrite_keeps  {s0 s : State} (h0 : Keeps anyAddr kp s0 s) (f v : Nat) : Keeps anyAddr kp s0 (State.flowCtrlWrite s f v) := by
  unfold State.flowCtrlWrite
  repeat' with_reducible first | assumption | apply State.writeReg_keeps | apply State.epochTrigger_keeps | apply State.admitReq_keeps | apply State.releaseReq_keeps | apply State.suspendReq_keeps | apply Keeps.ite | split | with_unfolding_all rfl
theorem execAdmitRequest_keeps  {s0 s : State} (h0 : Keeps anyAddr kp s0 s) (f : Fin 512) (w : Word) : Nexts (execAdmitRequest f w s) (Keeps anyAddr kp s0) := by
  unfold execAdmitRequest
  repeat' with_reducible first | assumption | apply Nexts.of | apply State.regCmd_keeps | apply State.flowCtrlWrite_keeps | with_unfolding_all rfl
theorem execReleaseRequest_keeps  {s0 s : State} (h0 : Keeps anyAddr kp s0 s) (f : Fin 512) (w : Word) : Nexts (execReleaseRequest f w s) (Keeps anyAddr kp s0) := by
  unfold execReleaseRequest
  repeat' with_reducible first | assumption | apply Nexts.of | apply State.regCmd_keeps | apply State.flowCtrlWrite_keeps | with_unfolding_all rfl
theorem execSuspendRequest_keeps  {s0 s : State} (h0 : Keeps anyAddr kp s0 s) (f : Fin 512) (w : Word) : Nexts (execSuspendRequest f w s) (Keeps anyAddr kp s0) := by
  unfold execSuspendRequest
  repeat' with_reducible first | assumption | apply Nexts.of | apply State.regCmd_keeps | apply State.flowCtrlWrite_keeps | with_unfolding_all rfl
theorem State.flowReleaseDone_keeps  {s0 s : State} (h0 : Keeps anyAddr kp s0 s) (f : Nat) : Keeps anyAddr kp s0 (State.flowReleaseDone s f) := by
  unfold State.flowReleaseDone
  repeat' with_reducible first | assumption | apply State.setF_keeps | apply State.setFlow_keeps | apply State.abandonRec_keeps | apply State.dropResources_keeps | apply Keeps.ite | split | apply Keeps.mk | with_unfolding_all rfl
theorem execFlowReleaseDone_keeps  {s0 s : State} (h0 : Keeps anyAddr kp s0 s) (f : Fin 512) : Nexts (execFlowReleaseDone f s) (Keeps anyAddr kp s0) := by
  unfold execFlowReleaseDone
  repeat' with_reducible first | assumption | apply Nexts.of | apply State.core_keeps | apply State.flowReleaseDone_keeps | with_unfolding_all rfl
theorem State.flowStart_keeps  {s0 s : State} (h0 : Keeps may kp s0 s) (f : Nat) : Keeps may kp s0 (State.flowStart s f) := by
  unfold State.flowStart
  repeat' with_reducible first | assumption | apply State.setF_keeps | apply State.formUsed_keeps | apply State.setFlow_keeps | apply State.setLen_keeps | apply Keeps.ite | split | apply Keeps.mk | with_unfolding_all rfl
theorem execFlowStart_keeps  {s0 s : State} (h0 : Keeps may kp s0 s) (f : Fin 512) : Nexts (execFlowStart f s) (Keeps may kp s0) := by
  unfold execFlowStart
  repeat' with_reducible first | assumption | apply Nexts.of | apply State.core_keeps | apply State.flowStart_keeps | with_unfolding_all rfl
theorem State.moveEffective_keeps  {s0 s : State} (h0 : Keeps may kp s0 s) (f : Nat) : Keeps may kp s0 (State.moveEffective s f) := by
  unfold State.moveEffective
  repeat' with_reducible first | assumption | apply State.setF_keeps | apply State.bump_keeps | apply State.setFlow_keeps | apply State.setPlace_keeps | apply Keeps.ite | split | apply Keeps.mk | with_unfolding_all rfl
theorem execMoveEffective_keeps  {s0 s : State} (h0 : Keeps may kp s0 s) (f : Fin 512) : Nexts (execMoveEffective f s) (Keeps may kp s0) := by
  unfold execMoveEffective
  repeat' with_reducible first | assumption | apply Nexts.of | apply State.core_keeps | apply State.moveEffective_keeps | with_unfolding_all rfl
theorem State.flowLatency_keeps  {s0 s : State} (h0 : Keeps may kp s0 s) (f : Nat) : Keeps may kp s0 (State.flowLatency s f) := by
  unfold State.flowLatency
  repeat' with_reducible first | assumption | apply State.bump_keeps | apply State.setFlow_keeps | apply State.pulse_keeps | apply State.ledger_keeps | split | apply Keeps.mk | with_unfolding_all rfl
theorem execFlowLatency_keeps  {s0 s : State} (h0 : Keeps may kp s0 s) (f : Fin 512) : Nexts (execFlowLatency f s) (Keeps may kp s0) := by
  unfold execFlowLatency
  repeat' with_reducible first | assumption | apply Nexts.of | apply State.core_keeps | apply State.flowLatency_keeps | with_unfolding_all rfl
theorem State.patternWrite_keeps  {s0 s : State} (h0 : Keeps may kp s0 s) (b k w v : Nat) : Keeps may kp s0 (State.patternWrite s b k w v) := by
  unfold State.patternWrite
  repeat' with_reducible first | assumption | apply State.discarded_keeps | apply State.writeReg_keeps | apply Keeps.ite | split | with_unfolding_all rfl
theorem execPatternWrite_keeps  {s0 s : State} (h0 : Keeps may kp s0 s) (b : Fin 2) (k : Fin 4) (ix : Fin 70) (w : Word) : Nexts (execPatternWrite b k ix w s) (Keeps may kp s0) := by
  unfold execPatternWrite
  repeat' with_reducible first | assumption | apply Nexts.of | apply State.regCmd_keeps | apply State.patternWrite_keeps | with_unfolding_all rfl

/-! Reserve -/

theorem State.layProbes_keeps  {s0 s : State} (h0 : Keeps may kp s0 s) (b : Nat) : Keeps may kp s0 (State.layProbes s b) := by
  unfold State.layProbes
  repeat' with_reducible first | assumption | apply Keeps.ite | apply Keeps.foldl | split | intro t a ht | apply Keeps.mk | with_unfolding_all rfl

/-! Placement -/

theorem State.grant_keeps  {s0 s : State} (h0 : Keeps may kp s0 s) (f : Nat) (p : Place) (kind : Nat) (event : Bool) : Keeps may kp s0 (State.grant s f p kind event) := by
  unfold State.grant
  repeat' with_reducible first | assumption | apply State.setF_keeps | apply State.setFlow_keeps | apply State.setPlace_keeps | apply State.record_keeps | apply Keeps.mk | with_unfolding_all rfl
theorem State.forgetSeqs_keeps  {s0 s : State} (h0 : Keeps may kp s0 s) (f : Nat) : Keeps may kp s0 (State.forgetSeqs s f) := by
  unfold State.forgetSeqs
  repeat' with_reducible first | assumption | apply Keeps.foldl | split | intro t a ht | apply Keeps.mk | with_unfolding_all rfl
theorem State.admitOne_keeps  {s0 s : State} (h0 : Keeps may kp s0 s) (event : Bool) (f : Nat) : Keeps may kp s0 (State.admitOne event s f) := by
  unfold State.admitOne
  repeat' with_reducible first | assumption | apply State.setF_keeps | apply State.bump_keeps | apply State.record_keeps | apply State.grant_keeps | apply State.forgetSeqs_keeps | apply Keeps.ite | split | apply Keeps.mk | with_unfolding_all rfl
theorem State.resumeOne_keeps  {s0 s : State} (h0 : Keeps may kp s0 s) (f : Nat) : Keeps may kp s0 (State.resumeOne s f) := by
  unfold State.resumeOne
  repeat' with_reducible first | assumption | apply State.grant_keeps | apply Keeps.ite | split | apply Keeps.mk | with_unfolding_all rfl
theorem State.walkSuspend_keeps  {s0 s : State} (h0 : Keeps may kp s0 s) (f kind cause reason : Nat) (event : Bool) (code : Nat) : Keeps may kp s0 (State.walkSuspend s f kind cause reason event code) := by
  unfold State.walkSuspend
  repeat' with_reducible first | assumption | apply State.pulse_keeps | apply State.ledger_keeps | apply State.record_keeps | apply State.suspendFlow_keeps | apply Keeps.mk | with_unfolding_all rfl
theorem State.decideMove_keeps  {s0 s : State} (h0 : Keeps may kp s0 s) (f : Nat) (p : Place) (reason : Nat) (event : Bool) : Keeps may kp s0 (State.decideMove s f p reason event) := by
  unfold State.decideMove
  repeat' with_reducible first | assumption | apply State.setF_keeps | apply State.bump_keeps | apply State.setFlow_keeps | apply State.record_keeps | apply Keeps.mk | with_unfolding_all rfl
theorem State.checkOne_keeps  {s0 s : State} (h0 : Keeps may kp s0 s) (event : Bool) (f : Nat) : Keeps may kp s0 (State.checkOne event s f) := by
  unfold State.checkOne
  repeat' with_reducible first | assumption | apply State.walkSuspend_keeps | apply State.decideMove_keeps | apply Keeps.ite | split | apply Keeps.mk | with_unfolding_all rfl
theorem State.shedOne_keeps  {s0 s : State} (h0 : Keeps may kp s0 s) (event : Bool) (f : Nat) : Keeps may kp s0 (State.shedOne s event f) := by
  unfold State.shedOne
  repeat' with_reducible first | assumption | apply State.bump_keeps | apply State.walkSuspend_keeps | apply Keeps.ite | split | with_unfolding_all rfl
theorem State.shedAll_keeps {s0 s : State} (h : Keeps may kp s0 s) (ev : Bool) (n : Nat) : Keeps may kp s0 (State.shedAll ev n s) := by
  induction n generalizing s with
  | zero => unfold State.shedAll; exact h
  | succ n ih =>
    unfold State.shedAll
    generalize s.toShed = o
    cases o with
    | none => exact h
    | some f => exact ih (State.shedOne_keeps h ev f)
theorem Keeps.map {s0 : State} {α : Type} {f : α → State} (hf : ∀ a, Keeps may kp s0 (f a)) (o : Option α) {t : State}
    (ht : o.map f = some t) : Keeps may kp s0 t := by
  cases o with
  | none => cases ht
  | some a => cases ht; exact hf a
theorem State.balanceOne_keeps {s0 s t : State} (h : Keeps may kp s0 s) (p : Nat) (ht : s.balanceOne p = some t) : Keeps may kp s0 t := by
  unfold State.balanceOne at ht
  split at ht
  · cases ht
  · dsimp only at ht
    split at ht
    · exact Keeps.map (fun _ => State.decideMove_keeps h _ _ _ _) _ ht
    · cases ht
theorem State.compactOne_keeps {s0 s t : State} (h : Keeps may kp s0 s) (ht : s.compactOne = some t) : Keeps may kp s0 t := by
  unfold State.compactOne at ht
  split at ht
  · cases ht
  · exact Keeps.map (fun _ => State.decideMove_keeps h _ _ _ _) _ ht
theorem State.rebalance_keeps {s0 s : State} (h : Keeps may kp s0 s) (n : Nat) : Keeps may kp s0 (State.rebalance n s) := by
  induction n generalizing s with
  | zero => unfold State.rebalance; exact h
  | succ n ih =>
    unfold State.rebalance
    split
    · next s1 h1 =>
      obtain ⟨p, -, hp⟩ := List.exists_of_findSome?_eq_some h1
      exact ih (State.balanceOne_keeps h p hp)
    · split
      · next s1 h1 => exact ih (State.compactOne_keeps h h1)
      · exact h
theorem State.shortfall_keeps  {s0 s : State} (h0 : Keeps may kp s0 s) (ev : Bool) (k : Nat) : Keeps may kp s0 (State.shortfall ev s k) := by
  unfold State.shortfall
  repeat' with_reducible first | assumption | apply State.record_keeps | apply Keeps.ite | split | with_unfolding_all rfl
theorem State.walkDecide_keeps  {s0 s : State} (h0 : Keeps may kp s0 s) (frame : Bool) : Keeps may kp s0 (State.walkDecide s frame) := by
  unfold State.walkDecide
  repeat' with_reducible first | assumption | apply State.admitOne_keeps | apply State.resumeOne_keeps | apply State.checkOne_keeps | apply State.shedAll_keeps | apply State.rebalance_keeps | apply State.shortfall_keeps | apply Keeps.ite | apply Keeps.foldl | split | intro t a ht | apply Keeps.mk | with_unfolding_all rfl
theorem State.frameEpoch_keeps  {s0 s : State} (h0 : Keeps may kp s0 s) : Keeps may kp s0 (State.frameEpoch s) := by
  unfold State.frameEpoch
  repeat' with_reducible first | assumption | apply State.setF_keeps | apply State.commitShadow_keeps | apply State.walkDecide_keeps | apply Keeps.ite | split | apply Keeps.mk | with_unfolding_all rfl
theorem execFrameEpoch_keeps  {s0 s : State} (h0 : Keeps may kp s0 s) : Nexts (execFrameEpoch s) (Keeps may kp s0) := by
  unfold execFrameEpoch
  repeat' with_reducible first | assumption | apply Nexts.of | apply State.core_keeps | apply State.frameEpoch_keeps | with_unfolding_all rfl
theorem State.eventEpoch_keeps  {s0 s : State} (h0 : Keeps may kp s0 s) : Keeps may kp s0 (State.eventEpoch s) := by
  unfold State.eventEpoch
  repeat' with_reducible first | assumption | apply State.walkDecide_keeps | apply Keeps.ite | split | with_unfolding_all rfl
theorem execEventEpoch_keeps  {s0 s : State} (h0 : Keeps may kp s0 s) : Nexts (execEventEpoch s) (Keeps may kp s0) := by
  unfold execEventEpoch
  repeat' with_reducible first | assumption | apply Nexts.of | apply State.core_keeps | apply State.eventEpoch_keeps | with_unfolding_all rfl
theorem State.carryOver_keeps  {s0 s : State} (h0 : Keeps anyAddr kp s0 s) (f e : Nat) : Keeps anyAddr kp s0 (State.carryOver s f e) := by
  unfold State.carryOver
  repeat' with_reducible first | assumption | apply State.bufPut_keeps | apply Keeps.ite | apply Keeps.foldl | split | intro t a ht | apply Keeps.mk | with_unfolding_all rfl
theorem State.setEffective_keeps  {s0 s : State} (h0 : Keeps anyAddr kp s0 s) (f : Nat) : Keeps anyAddr kp s0 (State.setEffective s f) := by
  unfold State.setEffective
  repeat' with_reducible first | assumption | apply State.setFlow_keeps | apply State.carryOver_keeps | apply Keeps.ite | split | apply Keeps.mk | with_unfolding_all rfl
theorem State.setStart_keeps  {s0 s : State} (h0 : Keeps may kp s0 s) (f : Nat) : Keeps may kp s0 (State.setStart s f) := by
  unfold State.setStart
  repeat' with_reducible first | assumption | apply State.setFlow_keeps | apply State.preloadBegin_keeps | apply Keeps.ite | split | apply Keeps.mk | with_unfolding_all rfl
theorem State.showLoads_keeps  {s0 s : State} (h0 : Keeps may kp s0 s) : Keeps may kp s0 (State.showLoads s) := by
  unfold State.showLoads
  repeat' with_reducible first | assumption | apply State.setF_keeps | apply Keeps.foldl | intro t a ht | with_unfolding_all rfl
theorem State.replan_keeps  {s0 s : State} (h0 : Keeps may kp s0 s) (frame : Bool) : Keeps may kp s0 (State.replan s frame) := by
  unfold State.replan
  repeat' with_reducible first | assumption | apply State.planFrame_keeps | apply State.layProbes_keeps | apply Keeps.ite | split | apply Keeps.mk | with_unfolding_all rfl
theorem State.epochWalkEnd_keeps  {s0 s : State} (h0 : Keeps anyAddr kp s0 s) : Keeps anyAddr kp s0 (State.epochWalkEnd s) := by
  unfold State.epochWalkEnd
  repeat' with_reducible first | assumption | apply State.setF_keeps | apply State.pulse_keeps | apply State.writeRecNow_keeps | apply State.setEffective_keeps | apply State.setStart_keeps | apply State.showLoads_keeps | apply State.replan_keeps | apply Keeps.ite | apply Keeps.foldl | split | intro t a ht | apply Keeps.mk | with_unfolding_all rfl
theorem execEpochWalkEnd_keeps  {s0 s : State} (h0 : Keeps anyAddr kp s0 s) : Nexts (execEpochWalkEnd s) (Keeps anyAddr kp s0) := by
  unfold execEpochWalkEnd
  repeat' with_reducible first | assumption | apply Nexts.of | apply State.core_keeps | apply State.epochWalkEnd_keeps | with_unfolding_all rfl

/-! LinkOut -/

theorem State.stamp_keeps  {s0 s : State} (h0 : Keeps may kp s0 s) : Keeps may kp s0 ((State.stamp s).2) := by
  unfold State.stamp
  repeat' with_reducible first | assumption | apply State.fresh_keeps | refine State.fresh_to ?_ (by assumption) | with_unfolding_all rfl
theorem State.stamp_to  {s0 s : State} (h0 : Keeps may kp s0 s) {v : Nat} {t : State} (he : State.stamp s = (v, t)) : Keeps may kp s0 t := by
  have := State.stamp_keeps h0 ; rw [he] at this; exact this
theorem State.nextSeq_keeps  {s0 s : State} (h0 : Keeps may kp s0 s) (key m : Nat) : Keeps may kp s0 ((State.nextSeq s key m).2) := by
  unfold State.nextSeq
  repeat' with_reducible first | assumption | apply Keeps.mk | with_unfolding_all rfl
theorem State.nextSeq_to  {s0 s : State} (h0 : Keeps may kp s0 s) {key m : Nat} {v : Nat} {t : State} (he : State.nextSeq s key m = (v, t)) : Keeps may kp s0 t := by
  have := State.nextSeq_keeps h0 key m; rw [he] at this; exact this
theorem State.sendNative_keeps  {s0 s : State} (h0 : Keeps may kp s0 s) (p ntype id : Nat) (body : List Nat) : Keeps may kp s0 ((State.sendNative s p ntype id body).2) := by
  unfold State.sendNative
  repeat' with_reducible first | assumption | apply State.nextSeq_keeps | apply Keeps.ite | split | refine State.nextSeq_to ?_ (by assumption) | with_unfolding_all rfl
theorem State.sendNative_to  {s0 s : State} (h0 : Keeps may kp s0 s) {p ntype id : Nat} {body : List Nat} {v : List Word} {t : State} (he : State.sendNative s p ntype id body = (v, t)) : Keeps may kp s0 t := by
  have := State.sendNative_keeps h0 p ntype id body; rw [he] at this; exact this
theorem State.form_keeps  {s0 s : State} (h0 : Keeps may kp s0 s) (p : Nat) (m : OutPkt) : Keeps may kp s0 ((State.form s p m).2) := by
  unfold State.form
  repeat' with_reducible first | assumption | apply State.setF_keeps | apply State.setPort_keeps | apply State.stamp_keeps | apply State.nextSeq_keeps | apply State.sendNative_keeps | split | refine State.stamp_to ?_ (by assumption) | refine State.nextSeq_to ?_ (by assumption) | refine State.sendNative_to ?_ (by assumption) | apply Keeps.mk | with_unfolding_all rfl
theorem State.form_to  {s0 s : State} (h0 : Keeps may kp s0 s) {p : Nat} {m : OutPkt} {v : List Word} {t : State} (he : State.form s p m = (v, t)) : Keeps may kp s0 t := by
  have := State.form_keeps h0 p m; rw [he] at this; exact this
theorem State.pktStarted_keeps  {s0 s : State} (h0 : Keeps may kp s0 s) (m : OutPkt) : Keeps may kp s0 (State.pktStarted s m) := by
  unfold State.pktStarted
  repeat' with_reducible first | assumption | apply State.flowStarted_keeps | apply Keeps.ite | split | apply Keeps.mk | with_unfolding_all rfl
theorem State.skpTick_keeps  {s0 s : State} (h0 : Keeps may kp s0 s) (l : Nat) : Keeps may kp s0 (State.skpTick s l) := by
  unfold State.skpTick
  repeat' with_reducible first | assumption | apply State.setLane_keeps | apply Keeps.ite | split | apply Keeps.mk | with_unfolding_all rfl
theorem State.sendPkt_keeps  {s0 s : State} (h0 : Keeps may kp s0 s) (l i : Nat) (m : OutPkt) : Keeps may kp s0 (State.sendPkt s l i m) := by
  unfold State.sendPkt
  repeat' with_reducible first | assumption | apply State.setPort_keeps | apply State.setLane_keeps | apply State.form_keeps | apply State.pktStarted_keeps | apply Keeps.ite | split | refine State.form_to ?_ (by assumption) | apply Keeps.mk | with_unfolding_all rfl
theorem State.packetTransmit_keeps  {s0 s : State} (h0 : Keeps anyAddr kp s0 s) (l : Nat) : Keeps anyAddr kp s0 (State.packetTransmit s l) := by
  unfold State.packetTransmit
  repeat' with_reducible first | assumption | apply State.bump_keeps | apply State.setPort_keeps | apply State.sendPkt_keeps | apply Keeps.ite | split | apply Keeps.mk | with_unfolding_all rfl
theorem execPacketTransmit_keeps  {s0 s : State} (h0 : Keeps anyAddr kp s0 s) (l : Fin 16) : Nexts (execPacketTransmit l s) (Keeps anyAddr kp s0) := by
  unfold execPacketTransmit
  repeat' with_reducible first | assumption | apply Nexts.of | apply State.core_keeps | apply State.packetTransmit_keeps | with_unfolding_all rfl
theorem State.rxLatency_keeps  {s0 s : State} (h0 : Keeps may kp s0 s) (f air : Nat) : Keeps may kp s0 (State.rxLatency s f air) := by
  unfold State.rxLatency
  repeat' with_reducible first | assumption | apply State.setF_keeps | apply State.setFlow_keeps | apply Keeps.ite | split | apply Keeps.mk | with_unfolding_all rfl
theorem State.flowPktSent_keeps  {s0 s : State} (h0 : Keeps anyAddr kp s0 s) (f : Nat) (m : OutPkt) : Keeps anyAddr kp s0 (State.flowPktSent s f m) := by
  unfold State.flowPktSent
  repeat' with_reducible first | assumption | apply State.setFlow_keeps | apply State.flowDelivered_keeps | apply State.rxLatency_keeps | apply Keeps.ite | split | apply Keeps.mk | with_unfolding_all rfl
theorem State.postOver_keeps  {s0 s : State} (h0 : Keeps may kp s0 s) (m : OutPkt) : Keeps may kp s0 (State.postOver s m) := by
  unfold State.postOver
  repeat' with_reducible first | assumption | apply State.setF_keeps | split | apply Keeps.mk | with_unfolding_all rfl
theorem State.packetSent_keeps  {s0 s : State} (h0 : Keeps anyAddr kp s0 s) (l : Nat) : Keeps anyAddr kp s0 (State.packetSent s l) := by
  unfold State.packetSent
  repeat' with_reducible first | assumption | apply State.setF_keeps | apply State.setFlow_keeps | apply State.flowDelivered_keeps | apply State.rxLatency_keeps | apply State.setLane_keeps | apply State.flowPktSent_keeps | apply State.postOver_keeps | split | apply Keeps.mk | with_unfolding_all rfl
theorem State.laneSend_keeps  {s0 s : State} (h0 : Keeps anyAddr kp s0 s) (l : Nat) : Keeps anyAddr kp s0 (State.laneSend s l) := by
  unfold State.laneSend
  repeat' with_reducible first | assumption | apply State.packetSent_keeps | apply Keeps.ite | split | apply Keeps.mk | with_unfolding_all rfl
theorem State.deal_keeps  {s0 s : State} (h0 : Keeps may kp s0 s) (f a : Nat) : Keeps may kp s0 ((State.deal s f a).2) := by
  unfold State.deal
  repeat' with_reducible first | assumption | apply State.setFlow_keeps | apply Keeps.mk | with_unfolding_all rfl
theorem State.deal_to  {s0 s : State} (h0 : Keeps may kp s0 s) {f a : Nat} {v : Option Nat} {t : State} (he : State.deal s f a = (v, t)) : Keeps may kp s0 t := by
  have := State.deal_keeps h0 f a; rw [he] at this; exact this
theorem State.rxSymOver_keeps  {s0 s : State} (h0 : Keeps may kp s0 s) (f : Nat) : Keeps may kp s0 (State.rxSymOver s f) := by
  unfold State.rxSymOver
  repeat' with_reducible first | assumption | apply State.setFlow_keeps | apply Keeps.mk | with_unfolding_all rfl
theorem State.rxIqSend_keeps  {s0 s : State} (h0 : Keeps may kp s0 s) (f : Nat) (bad : Option Nat) : Keeps may kp s0 (State.rxIqSend s f bad) := by
  unfold State.rxIqSend
  repeat' with_reducible first | assumption | apply State.bump_keeps | apply State.setFlow_keeps | apply State.enqueue_keeps | apply State.ledger_keeps | apply State.setJob_keeps | apply State.abandon_keeps | apply State.deal_keeps | apply State.rxSymOver_keeps | apply Keeps.ite | split | refine State.deal_to ?_ (by assumption) | apply Keeps.mk | with_unfolding_all rfl
theorem execRxIqPacketSend_keeps  {s0 s : State} (h0 : Keeps may kp s0 s) (f : Fin 512) (bad : Option (Fin 1024)) : Nexts (execRxIqPacketSend f bad s) (Keeps may kp s0) := by
  unfold execRxIqPacketSend
  repeat' with_reducible first | assumption | apply Nexts.of | apply State.core_keeps | apply State.rxIqSend_keeps | with_unfolding_all rfl
theorem State.captureQueue_keeps {s0 s : State} (h0 : Keeps may kp s0 s) (f idx count n : Nat) : Keeps may kp s0 (s.captureQueue f idx count n) := by
  induction n generalizing s with
  | zero => exact h0
  | succ n ih =>
    unfold State.captureQueue
    repeat' with_reducible first | assumption | apply ih | apply State.enqueue_keeps | split | refine State.deal_to ?_ (by assumption) | with_unfolding_all rfl
theorem State.capPostWrite_keeps  {s0 s : State} (h0 : Keeps may kp s0 s) (p v : Nat) : Keeps may kp s0 (State.capPostWrite s p v) := by
  unfold State.capPostWrite
  repeat' with_reducible first | assumption | apply State.setFlow_keeps | apply State.ledger_keeps | apply State.writeReg_keeps | apply State.captureQueue_keeps | apply Keeps.ite | split | apply Keeps.mk | with_unfolding_all rfl
theorem execCapturePost_keeps  {s0 s : State} (h0 : Keeps may kp s0 s) (p : Fin 4) (w : Word) : Nexts (execCapturePost p w s) (Keeps may kp s0) := by
  unfold execCapturePost
  repeat' with_reducible first | assumption | apply Nexts.of | apply State.regCmd_keeps | apply State.capPostWrite_keeps | with_unfolding_all rfl
theorem State.mgmtSend_keeps  {s0 s : State} (h0 : Keeps may kp s0 s) (p : Nat) (fl : Option Nat) (post : Option Nat) (body : List Nat) : Keeps may kp s0 (State.mgmtSend s p fl post body) := by
  unfold State.mgmtSend
  repeat' with_reducible first | assumption | apply State.setF_keeps | apply State.enqueue_keeps | apply State.postOver_keeps | apply State.deal_keeps | split | refine State.deal_to ?_ (by assumption) | apply Keeps.mk | with_unfolding_all rfl
theorem State.mgmtPostWrite_keeps  {s0 s : State} (h0 : Keeps may kp s0 s) (p v : Nat) : Keeps may kp s0 (State.mgmtPostWrite s p v) := by
  unfold State.mgmtPostWrite
  repeat' with_reducible first | assumption | apply State.setF_keeps | apply State.writeReg_keeps | apply State.mgmtSend_keeps | apply Keeps.ite | split | with_unfolding_all rfl
theorem execMgmtPost_keeps  {s0 s : State} (h0 : Keeps may kp s0 s) (p : Fin 4) (w : Word) : Nexts (execMgmtPost p w s) (Keeps may kp s0) := by
  unfold execMgmtPost
  repeat' with_reducible first | assumption | apply Nexts.of | apply State.regCmd_keeps | apply State.mgmtPostWrite_keeps | with_unfolding_all rfl
theorem State.askDelay_keeps  {s0 s : State} (h0 : Keeps may kp s0 s) (p : Nat) : Keeps may kp s0 (State.askDelay s p) := by
  unfold State.askDelay
  repeat' with_reducible first | assumption | apply State.enqueue_keeps | apply Keeps.ite | split | with_unfolding_all rfl
theorem State.dmCtrlWrite_keeps  {s0 s : State} (h0 : Keeps may kp s0 s) (p v : Nat) : Keeps may kp s0 (State.dmCtrlWrite s p v) := by
  unfold State.dmCtrlWrite
  repeat' with_reducible first | assumption | apply State.askDelay_keeps | apply Keeps.ite | split | with_unfolding_all rfl
theorem execDelayMeasureGo_keeps  {s0 s : State} (h0 : Keeps may kp s0 s) (p : Fin 4) (w : Word) : Nexts (execDelayMeasureGo p w s) (Keeps may kp s0) := by
  unfold execDelayMeasureGo
  repeat' with_reducible first | assumption | apply Nexts.of | apply State.regCmd_keeps | apply State.dmCtrlWrite_keeps | with_unfolding_all rfl
theorem State.timeSyncTimer_keeps  {s0 s : State} (h0 : Keeps may kp s0 s) (p : Nat) : Keeps may kp s0 (State.timeSyncTimer s p) := by
  unfold State.timeSyncTimer
  repeat' with_reducible first | assumption | apply State.setPort_keeps | apply State.enqueue_keeps | apply Keeps.ite | split | apply Keeps.mk | with_unfolding_all rfl
theorem execTimeSyncTimer_keeps  {s0 s : State} (h0 : Keeps may kp s0 s) (p : Fin 4) : Nexts (execTimeSyncTimer p s) (Keeps may kp s0) := by
  unfold execTimeSyncTimer
  repeat' with_reducible first | assumption | apply Nexts.of | apply State.core_keeps | apply State.timeSyncTimer_keeps | with_unfolding_all rfl
theorem State.noticeSend_keeps  {s0 s : State} (h0 : Keeps may kp s0 s) (f : Nat) : Keeps may kp s0 (State.noticeSend s f) := by
  unfold State.noticeSend
  repeat' with_reducible first | assumption | apply State.setFlow_keeps | apply State.enqueue_keeps | apply Keeps.ite | apply Keeps.foldl | split | intro t a ht | apply Keeps.mk | with_unfolding_all rfl
theorem execPlacementNoticeSend_keeps  {s0 s : State} (h0 : Keeps may kp s0 s) (f : Fin 512) : Nexts (execPlacementNoticeSend f s) (Keeps may kp s0) := by
  unfold execPlacementNoticeSend
  repeat' with_reducible first | assumption | apply Nexts.of | apply State.core_keeps | apply State.noticeSend_keeps | with_unfolding_all rfl
theorem State.eventModTimer_keeps  {s0 s : State} (h0 : Keeps may kp s0 s) (p : Nat) : Keeps may kp s0 (State.eventModTimer s p) := by
  unfold State.eventModTimer
  repeat' with_reducible first | assumption | apply State.setPort_keeps | apply State.sendEvents_keeps | apply Keeps.ite | split | apply Keeps.mk | with_unfolding_all rfl
theorem State.loseOne_keeps  {s0 s : State} (h0 : Keeps may kp s0 s) (p : Nat) (m : OutPkt) : Keeps may kp s0 (State.loseOne p s m) := by
  unfold State.loseOne
  repeat' with_reducible first | assumption | apply State.setF_keeps | apply State.setFlow_keeps | apply State.enqueue_keeps | apply State.abandon_keeps | apply State.postOver_keeps | apply Keeps.ite | split | apply Keeps.mk | with_unfolding_all rfl
theorem State.losePackets_keeps  {s0 s : State} (h0 : Keeps may kp s0 s) (l : Nat) : Keeps may kp s0 (State.losePackets s l) := by
  unfold State.losePackets
  repeat' with_reducible first | assumption | apply State.setPort_keeps | apply State.setLane_keeps | apply State.loseOne_keeps | apply Keeps.ite | apply Keeps.foldl | split | intro t a ht | apply Keeps.mk | with_unfolding_all rfl
theorem State.timingLost_keeps  {s0 s : State} (h0 : Keeps may kp s0 s) (p : Nat) : Keeps may kp s0 (State.timingLost s p) := by
  unfold State.timingLost
  repeat' with_reducible first | assumption | apply State.setF_keeps | apply State.setPort_keeps | apply Keeps.mk | with_unfolding_all rfl
theorem State.setReady_keeps  {s0 s : State} (h0 : Keeps may kp s0 s) (l : Nat) (v : Bool) : Keeps may kp s0 (State.setReady s l v) := by
  unfold State.setReady
  repeat' with_reducible first | assumption | apply State.setF_keeps | apply State.pulse_keeps | apply State.timingLost_keeps | apply Keeps.ite | split | with_unfolding_all rfl

/-! LaneCtl -/

theorem State.showStage_keeps  {s0 s : State} (h0 : Keeps may kp s0 s) (l : Nat) : Keeps may kp s0 (State.showStage s l) := by
  unfold State.showStage
  repeat' with_reducible first | assumption | apply State.setF_keeps | apply State.fresh_keeps | apply Keeps.ite | split | refine State.fresh_to ?_ (by assumption) | with_unfolding_all rfl
theorem State.rxEnter_keeps  {s0 s : State} (h0 : Keeps may kp s0 s) (l st : Nat) : Keeps may kp s0 (State.rxEnter s l st) := by
  unfold State.rxEnter
  repeat' with_reducible first | assumption | apply State.setLane_keeps | apply State.showStage_keeps | apply Keeps.ite | split | apply Keeps.mk | with_unfolding_all rfl
theorem State.enter_keeps  {s0 s : State} (h0 : Keeps may kp s0 s) (l st : Nat) : Keeps may kp s0 (State.enter s l st) := by
  unfold State.enter
  repeat' with_reducible first | assumption | apply State.setLane_keeps | apply State.showStage_keeps | apply Keeps.ite | split | apply Keeps.mk | with_unfolding_all rfl
theorem State.eyeAbort_keeps  {s0 s : State} (h0 : Keeps may kp s0 s) (l : Nat) : Keeps may kp s0 (State.eyeAbort s l) := by
  unfold State.eyeAbort
  repeat' with_reducible first | assumption | apply State.setF_keeps | apply Keeps.ite | split | with_unfolding_all rfl
theorem State.laneBegin_keeps  {s0 s : State} (h0 : Keeps may kp s0 s) (l : Nat) : Keeps may kp s0 (State.laneBegin s l) := by
  unfold State.laneBegin
  repeat' with_reducible first | assumption | apply State.setF_keeps | apply State.setLane_keeps | apply State.showStage_keeps | apply State.eyeAbort_keeps | apply Keeps.ite | split | with_unfolding_all rfl
theorem State.portStart_keeps  {s0 s : State} (h0 : Keeps may kp s0 s) (p : Nat) : Keeps may kp s0 (State.portStart s p) := by
  unfold State.portStart
  repeat' with_reducible first | assumption | apply State.setPort_keeps | apply State.laneBegin_keeps | apply Keeps.foldl | intro t a ht | apply Keeps.mk | with_unfolding_all rfl
theorem State.leaveReady_keeps  {s0 s : State} (h0 : Keeps may kp s0 s) (l cause : Nat) : Keeps may kp s0 (State.leaveReady s l cause) := by
  unfold State.leaveReady
  repeat' with_reducible first | assumption | apply State.setF_keeps | apply State.bump_keeps | apply State.ledger_keeps | apply State.losePackets_keeps | apply State.setReady_keeps | apply State.eyeAbort_keeps | apply Keeps.ite | split | with_unfolding_all rfl
theorem State.laneHold_keeps  {s0 s : State} (h0 : Keeps may kp s0 s) (l : Nat) : Keeps may kp s0 (State.laneHold s l) := by
  unfold State.laneHold
  repeat' with_reducible first | assumption | apply State.setLane_keeps | apply State.showStage_keeps | apply Keeps.ite | split | with_unfolding_all rfl
theorem State.laneDown_keeps  {s0 s : State} (h0 : Keeps may kp s0 s) (l cause : Nat) : Keeps may kp s0 (State.laneDown s l cause) := by
  unfold State.laneDown
  repeat' with_reducible first | assumption | apply State.leaveReady_keeps | apply State.laneHold_keeps | apply Keeps.ite | split | with_unfolding_all rfl
theorem State.portStop_keeps  {s0 s : State} (h0 : Keeps may kp s0 s) (p : Nat) : Keeps may kp s0 (State.portStop s p) := by
  unfold State.portStop
  repeat' with_reducible first | assumption | apply State.setF_keeps | apply State.setPort_keeps | apply State.setLane_keeps | apply State.showStage_keeps | apply State.leaveReady_keeps | apply Keeps.ite | apply Keeps.foldl | split | intro t a ht | apply Keeps.mk | with_unfolding_all rfl
theorem State.portCfgWrite_keeps  {s0 s : State} (h0 : Keeps may kp s0 s) (p v : Nat) : Keeps may kp s0 (State.portCfgWrite s p v) := by
  unfold State.portCfgWrite
  repeat' with_reducible first | assumption | apply State.writeReg_keeps | apply State.portStart_keeps | apply State.portStop_keeps | apply Keeps.ite | split | with_unfolding_all rfl
theorem execPortEnable_keeps  {s0 s : State} (h0 : Keeps may kp s0 s) (p : Fin 4) (w : Word) : Nexts (execPortEnable p w s) (Keeps may kp s0) := by
  unfold execPortEnable
  repeat' with_reducible first | assumption | apply Nexts.of | apply State.regCmd_keeps | apply State.portCfgWrite_keeps | with_unfolding_all rfl
theorem execPortDisable_keeps  {s0 s : State} (h0 : Keeps may kp s0 s) (p : Fin 4) (w : Word) : Nexts (execPortDisable p w s) (Keeps may kp s0) := by
  unfold execPortDisable
  repeat' with_reducible first | assumption | apply Nexts.of | apply State.regCmd_keeps | apply State.portCfgWrite_keeps | with_unfolding_all rfl
theorem State.laneIdEnd_keeps  {s0 s : State} (h0 : Keeps may kp s0 s) (l k width rate : Nat) : Keeps may kp s0 (State.laneIdEnd s l k width rate) := by
  unfold State.laneIdEnd
  repeat' with_reducible first | assumption | apply State.setF_keeps | apply State.setLane_keeps | apply State.showStage_keeps | apply State.enter_keeps | apply Keeps.ite | split | apply Keeps.mk | with_unfolding_all rfl
theorem State.skewMeasured_keeps  {s0 s : State} (h0 : Keeps may kp s0 s) (l sk : Nat) : Keeps may kp s0 (State.skewMeasured s l sk) := by
  unfold State.skewMeasured
  repeat' with_reducible first | assumption | apply State.setF_keeps | apply State.setLane_keeps | apply State.enter_keeps | apply Keeps.ite | split | apply Keeps.mk | with_unfolding_all rfl
theorem State.laneStageEnd_keeps  {s0 s : State} (h0 : Keeps may kp s0 s) (l : Nat) (x : StageEnd) : Keeps may kp s0 (State.laneStageEnd s l x) := by
  unfold State.laneStageEnd
  repeat' with_reducible first | assumption | apply State.setF_keeps | apply State.setLane_keeps | apply State.rxEnter_keeps | apply State.enter_keeps | apply State.laneIdEnd_keeps | apply State.skewMeasured_keeps | apply Keeps.ite | split | apply Keeps.mk | with_unfolding_all rfl
theorem execLaneStageEnd_keeps  {s0 s : State} (h0 : Keeps may kp s0 s) (l : Fin 16) (x : StageEnd) : Nexts (execLaneStageEnd l x s) (Keeps may kp s0) := by
  unfold execLaneStageEnd
  repeat' with_reducible first | assumption | apply Nexts.of | apply State.core_keeps | apply State.laneStageEnd_keeps | with_unfolding_all rfl
theorem State.failRecord_keeps  {s0 s : State} (h0 : Keeps may kp s0 s) (l st : Nat) : Keeps may kp s0 (State.failRecord s l st) := by
  unfold State.failRecord
  repeat' with_reducible first | assumption | apply State.setF_keeps | apply State.bump_keeps | apply State.ledger_keeps | apply State.setLane_keeps | apply Keeps.ite | split | apply Keeps.mk | with_unfolding_all rfl
theorem State.trainFail_keeps  {s0 s : State} (h0 : Keeps may kp s0 s) (l : Nat) (rx : Bool) : Keeps may kp s0 (State.trainFail s l rx) := by
  unfold State.trainFail
  repeat' with_reducible first | assumption | apply State.setLane_keeps | apply State.showStage_keeps | apply State.rxEnter_keeps | apply State.laneHold_keeps | apply State.failRecord_keeps | apply Keeps.ite | split | apply Keeps.mk | with_unfolding_all rfl
theorem execLaneTrainFail_keeps  {s0 s : State} (h0 : Keeps may kp s0 s) (l : Fin 16) (rx : Bool) : Nexts (execLaneTrainFail l rx s) (Keeps may kp s0) := by
  unfold execLaneTrainFail
  repeat' with_reducible first | assumption | apply Nexts.of | apply State.core_keeps | apply State.trainFail_keeps | with_unfolding_all rfl
theorem State.holdEnd_keeps  {s0 s : State} (h0 : Keeps may kp s0 s) (l : Nat) : Keeps may kp s0 (State.holdEnd s l) := by
  unfold State.holdEnd
  repeat' with_reducible first | assumption | apply State.setLane_keeps | apply State.showStage_keeps | apply State.rxEnter_keeps | apply Keeps.ite | split | apply Keeps.mk | with_unfolding_all rfl
theorem execLaneIdleHoldEnd_keeps  {s0 s : State} (h0 : Keeps may kp s0 s) (l : Fin 16) : Nexts (execLaneIdleHoldEnd l s) (Keeps may kp s0) := by
  unfold execLaneIdleHoldEnd
  repeat' with_reducible first | assumption | apply Nexts.of | apply State.core_keeps | apply State.holdEnd_keeps | with_unfolding_all rfl
theorem State.laneReadyNow_keeps  {s0 s : State} (h0 : Keeps may kp s0 s) (l : Nat) : Keeps may kp s0 (State.laneReadyNow s l) := by
  unfold State.laneReadyNow
  repeat' with_reducible first | assumption | apply State.setLane_keeps | apply State.sendEvents_keeps | apply State.setReady_keeps | apply State.showStage_keeps | apply Keeps.ite | split | apply Keeps.mk | with_unfolding_all rfl
theorem execLaneReady_keeps  {s0 s : State} (h0 : Keeps may kp s0 s) (l : Fin 16) : Nexts (execLaneReady l s) (Keeps may kp s0) := by
  unfold execLaneReady
  repeat' with_reducible first | assumption | apply Nexts.of | apply State.core_keeps | apply State.laneReadyNow_keeps | with_unfolding_all rfl
theorem State.laneDownFor_keeps  {s0 s : State} (h0 : Keeps may kp s0 s) (l : Nat) (c : DownCause) : Keeps may kp s0 (State.laneDownFor s l c) := by
  unfold State.laneDownFor
  repeat' with_reducible first | assumption | apply State.laneDown_keeps | apply Keeps.ite | split | with_unfolding_all rfl
theorem execLaneDown_keeps  {s0 s : State} (h0 : Keeps may kp s0 s) (l : Fin 16) (c : DownCause) : Nexts (execLaneDown l c s) (Keeps may kp s0) := by
  unfold execLaneDown
  repeat' with_reducible first | assumption | apply Nexts.of | apply State.core_keeps | apply State.laneDownFor_keeps | with_unfolding_all rfl
theorem State.retrain_keeps  {s0 s : State} (h0 : Keeps may kp s0 s) (l : Nat) : Keeps may kp s0 (State.retrain s l) := by
  unfold State.retrain
  repeat' with_reducible first | assumption | apply State.setLane_keeps | apply State.showStage_keeps | apply State.rxEnter_keeps | apply State.laneDown_keeps | apply Keeps.ite | split | apply Keeps.mk | with_unfolding_all rfl
theorem State.eqAdapt_keeps  {s0 s : State} (h0 : Keeps may kp s0 s) (l i : Nat) : Keeps may kp s0 (State.eqAdapt s l i) := by
  unfold State.eqAdapt
  repeat' with_reducible first | assumption | apply State.setF_keeps | apply State.fresh_keeps | apply State.setLane_keeps | apply Keeps.ite | split | refine State.fresh_to ?_ (by assumption) | apply Keeps.mk | with_unfolding_all rfl
theorem State.dfeAdapt_keeps  {s0 s : State} (h0 : Keeps may kp s0 s) (l : Nat) : Keeps may kp s0 (State.dfeAdapt s l) := by
  unfold State.dfeAdapt
  repeat' with_reducible first | assumption | apply State.eqAdapt_keeps | apply Keeps.foldl | intro t a ht | with_unfolding_all rfl
theorem State.eqResume_keeps  {s0 s : State} (h0 : Keeps may kp s0 s) (l : Nat) : Keeps may kp s0 (State.eqResume s l) := by
  unfold State.eqResume
  repeat' with_reducible first | assumption | apply State.setLane_keeps | apply Keeps.mk | with_unfolding_all rfl
theorem State.eqWrite_keeps  {s0 s : State} (h0 : Keeps may kp s0 s) (l v : Nat) : Keeps may kp s0 (State.eqWrite s l v) := by
  unfold State.eqWrite
  repeat' with_reducible first | assumption | apply State.setF_keeps | apply State.fresh_keeps | apply State.enter_keeps | apply State.dfeAdapt_keeps | apply State.eqResume_keeps | apply Keeps.ite | split | refine State.fresh_to ?_ (by assumption) | with_unfolding_all rfl
theorem State.laneCtrlWrite_keeps  {s0 s : State} (h0 : Keeps may kp s0 s) (l v : Nat) : Keeps may kp s0 (State.laneCtrlWrite s l v) := by
  unfold State.laneCtrlWrite
  repeat' with_reducible first | assumption | apply State.retrain_keeps | apply State.eqWrite_keeps | apply Keeps.ite | split | with_unfolding_all rfl
theorem execLaneRetrain_keeps  {s0 s : State} (h0 : Keeps may kp s0 s) (l : Fin 16) (w : Word) : Nexts (execLaneRetrain l w s) (Keeps may kp s0) := by
  unfold execLaneRetrain
  repeat' with_reducible first | assumption | apply Nexts.of | apply State.regCmd_keeps | apply State.laneCtrlWrite_keeps | with_unfolding_all rfl
theorem execEqualiserFreezeWrite_keeps  {s0 s : State} (h0 : Keeps may kp s0 s) (l : Fin 16) (w : Word) : Nexts (execEqualiserFreezeWrite l w s) (Keeps may kp s0) := by
  unfold execEqualiserFreezeWrite
  repeat' with_reducible first | assumption | apply Nexts.of | apply State.regCmd_keeps | apply State.laneCtrlWrite_keeps | with_unfolding_all rfl
theorem State.dfeTapWrite_keeps  {s0 s : State} (h0 : Keeps may kp s0 s) (l j v : Nat) : Keeps may kp s0 (State.dfeTapWrite s l j v) := by
  unfold State.dfeTapWrite
  repeat' with_reducible first | assumption | apply State.setF_keeps | apply Keeps.ite | split | with_unfolding_all rfl
theorem execDfeTapWrite_keeps  {s0 s : State} (h0 : Keeps may kp s0 s) (l : Fin 16) (j : Fin 9) (w : Word) : Nexts (execDfeTapWrite l j w s) (Keeps may kp s0) := by
  unfold execDfeTapWrite
  repeat' with_reducible first | assumption | apply Nexts.of | apply State.regCmd_keeps | apply State.dfeTapWrite_keeps | with_unfolding_all rfl
theorem State.adaptRead_keeps  {s0 s : State} (h0 : Keeps may kp s0 s) (l : Nat) : Keeps may kp s0 (State.adaptRead s l) := by
  unfold State.adaptRead
  repeat' with_reducible first | assumption | apply State.setF_keeps | apply State.fresh_keeps | apply State.eqAdapt_keeps | apply State.dfeAdapt_keeps | apply Keeps.ite | split | with_unfolding_all rfl
theorem State.characterError_keeps  {s0 s : State} (h0 : Keeps may kp s0 s) (l : Nat) : Keeps may kp s0 (State.characterError s l) := by
  unfold State.characterError
  repeat' with_reducible first | assumption | apply State.bump_keeps | apply State.setLane_keeps | apply Keeps.ite | split | apply Keeps.mk | with_unfolding_all rfl
theorem execCharacterError_keeps  {s0 s : State} (h0 : Keeps may kp s0 s) (l : Fin 16) : Nexts (execCharacterError l s) (Keeps may kp s0) := by
  unfold execCharacterError
  repeat' with_reducible first | assumption | apply Nexts.of | apply State.core_keeps | apply State.characterError_keeps | with_unfolding_all rfl
theorem State.prbsCtrlWrite_keeps  {s0 s : State} (h0 : Keeps may kp s0 s) (l v : Nat) : Keeps may kp s0 (State.prbsCtrlWrite s l v) := by
  unfold State.prbsCtrlWrite
  repeat' with_reducible first | assumption | apply State.setF_keeps | apply State.setLane_keeps | apply State.writeReg_keeps | apply State.showStage_keeps | apply State.eyeAbort_keeps | apply Keeps.ite | split | apply Keeps.mk | with_unfolding_all rfl
theorem execPrbsCtrlWrite_keeps  {s0 s : State} (h0 : Keeps may kp s0 s) (l : Fin 16) (w : Word) : Nexts (execPrbsCtrlWrite l w s) (Keeps may kp s0) := by
  unfold execPrbsCtrlWrite
  repeat' with_reducible first | assumption | apply Nexts.of | apply State.regCmd_keeps | apply State.prbsCtrlWrite_keeps | with_unfolding_all rfl
theorem State.prbsLock_keeps  {s0 s : State} (h0 : Keeps may kp s0 s) (l : Nat) : Keeps may kp s0 (State.prbsLock s l) := by
  unfold State.prbsLock
  repeat' with_reducible first | assumption | apply State.setF_keeps | apply Keeps.ite | split | with_unfolding_all rfl
theorem execPrbsLock_keeps  {s0 s : State} (h0 : Keeps may kp s0 s) (l : Fin 16) : Nexts (execPrbsLock l s) (Keeps may kp s0) := by
  unfold execPrbsLock
  repeat' with_reducible first | assumption | apply Nexts.of | apply State.core_keeps | apply State.prbsLock_keeps | with_unfolding_all rfl
theorem State.prbsLockLoss_keeps  {s0 s : State} (h0 : Keeps may kp s0 s) (l : Nat) : Keeps may kp s0 (State.prbsLockLoss s l) := by
  unfold State.prbsLockLoss
  repeat' with_reducible first | assumption | apply State.setF_keeps | apply State.bump_keeps | apply State.setLane_keeps | apply Keeps.ite | split | apply Keeps.mk | with_unfolding_all rfl
theorem execPrbsLockLoss_keeps  {s0 s : State} (h0 : Keeps may kp s0 s) (l : Fin 16) : Nexts (execPrbsLockLoss l s) (Keeps may kp s0) := by
  unfold execPrbsLockLoss
  repeat' with_reducible first | assumption | apply Nexts.of | apply State.core_keeps | apply State.prbsLockLoss_keeps | with_unfolding_all rfl
theorem State.prbsTick_keeps  {s0 s : State} (h0 : Keeps may kp s0 s) (l : Nat) : Keeps may kp s0 (State.prbsTick s l) := by
  unfold State.prbsTick
  repeat' with_reducible first | assumption | apply State.setLane_keeps | apply Keeps.ite | split | apply Keeps.mk | with_unfolding_all rfl
theorem State.prbsErrors_keeps  {s0 s : State} (h0 : Keeps may kp s0 s) (l n : Nat) : Keeps may kp s0 (State.prbsErrors s l n) := by
  unfold State.prbsErrors
  repeat' with_reducible first | assumption | apply State.setLane_keeps | apply Keeps.ite | split | apply Keeps.mk | with_unfolding_all rfl
theorem State.prbsLatch_keeps  {s0 s : State} (h0 : Keeps may kp s0 s) (l : Nat) : Keeps may kp s0 (State.prbsLatch s l) := by
  unfold State.prbsLatch
  repeat' with_reducible first | assumption | apply State.setF_keeps | with_unfolding_all rfl
theorem State.injectWrite_keeps  {s0 s : State} (h0 : Keeps may kp s0 s) (l v : Nat) : Keeps may kp s0 (State.injectWrite s l v) := by
  unfold State.injectWrite
  repeat' with_reducible first | assumption | apply State.bump_keeps | apply State.writeReg_keeps | apply State.setLane_keeps | apply Keeps.ite | split | apply Keeps.mk | with_unfolding_all rfl
theorem execInjectOne_keeps  {s0 s : State} (h0 : Keeps may kp s0 s) (l : Fin 16) (w : Word) : Nexts (execInjectOne l w s) (Keeps may kp s0) := by
  unfold execInjectOne
  repeat' with_reducible first | assumption | apply Nexts.of | apply State.regCmd_keeps | apply State.injectWrite_keeps | with_unfolding_all rfl
theorem State.injectTick_keeps  {s0 s : State} (h0 : Keeps may kp s0 s) (l : Nat) : Keeps may kp s0 (State.injectTick s l) := by
  unfold State.injectTick
  repeat' with_reducible first | assumption | apply State.setLane_keeps | apply Keeps.ite | split | apply Keeps.mk | with_unfolding_all rfl
theorem State.injectRate_keeps  {s0 s : State} (h0 : Keeps may kp s0 s) (l : Nat) : Keeps may kp s0 (State.injectRate s l) := by
  unfold State.injectRate
  repeat' with_reducible first | assumption | apply State.bump_keeps | apply State.setLane_keeps | apply Keeps.ite | split | apply Keeps.mk | with_unfolding_all rfl
theorem execInjectRate_keeps  {s0 s : State} (h0 : Keeps may kp s0 s) (l : Fin 16) : Nexts (execInjectRate l s) (Keeps may kp s0) := by
  unfold execInjectRate
  repeat' with_reducible first | assumption | apply Nexts.of | apply State.core_keeps | apply State.injectRate_keeps | with_unfolding_all rfl
theorem State.eyeCtrlWrite_keeps  {s0 s : State} (h0 : Keeps may kp s0 s) (l v : Nat) : Keeps may kp s0 (State.eyeCtrlWrite s l v) := by
  unfold State.eyeCtrlWrite
  repeat' with_reducible first | assumption | apply State.setF_keeps | apply State.setLane_keeps | apply State.writeReg_keeps | apply State.eyeAbort_keeps | apply Keeps.ite | split | apply Keeps.mk | with_unfolding_all rfl
theorem execEyeMeasureGo_keeps  {s0 s : State} (h0 : Keeps may kp s0 s) (l : Fin 16) (w : Word) : Nexts (execEyeMeasureGo l w s) (Keeps may kp s0) := by
  unfold execEyeMeasureGo
  repeat' with_reducible first | assumption | apply Nexts.of | apply State.regCmd_keeps | apply State.eyeCtrlWrite_keeps | with_unfolding_all rfl
theorem State.eyeDone_keeps  {s0 s : State} (h0 : Keeps may kp s0 s) (l : Nat) (r : EyeResult) : Keeps may kp s0 (State.eyeDone s l r) := by
  unfold State.eyeDone
  repeat' with_reducible first | assumption | apply State.setF_keeps | apply Keeps.ite | split | apply Keeps.mk | with_unfolding_all rfl
theorem execEyeMeasureDone_keeps  {s0 s : State} (h0 : Keeps may kp s0 s) (l : Fin 16) (r : EyeResult) : Nexts (execEyeMeasureDone l r s) (Keeps may kp s0) := by
  unfold execEyeMeasureDone
  repeat' with_reducible first | assumption | apply Nexts.of | apply State.core_keeps | apply State.eyeDone_keeps | with_unfolding_all rfl
theorem State.lpiEntry_keeps  {s0 s : State} (h0 : Keeps anyAddr kp s0 s) (l : Nat) : Keeps anyAddr kp s0 (State.lpiEntry s l) := by
  unfold State.lpiEntry
  repeat' with_reducible first | assumption | apply State.setF_keeps | apply Keeps.ite | split | with_unfolding_all rfl
theorem execLpiEntry_keeps  {s0 s : State} (h0 : Keeps anyAddr kp s0 s) (l : Fin 16) : Nexts (execLpiEntry l s) (Keeps anyAddr kp s0) := by
  unfold execLpiEntry
  repeat' with_reducible first | assumption | apply Nexts.of | apply State.core_keeps | apply State.lpiEntry_keeps | with_unfolding_all rfl
theorem State.lpiReceive_keeps  {s0 s : State} (h0 : Keeps may kp s0 s) (l : Nat) : Keeps may kp s0 (State.lpiReceive s l) := by
  unfold State.lpiReceive
  repeat' with_reducible first | assumption | apply State.setF_keeps | apply State.eyeAbort_keeps | apply Keeps.ite | split | with_unfolding_all rfl
theorem execLpiReceive_keeps  {s0 s : State} (h0 : Keeps may kp s0 s) (l : Fin 16) : Nexts (execLpiReceive l s) (Keeps may kp s0) := by
  unfold execLpiReceive
  repeat' with_reducible first | assumption | apply Nexts.of | apply State.core_keeps | apply State.lpiReceive_keeps | with_unfolding_all rfl
theorem State.lpiWake_keeps  {s0 s : State} (h0 : Keeps may kp s0 s) (l : Nat) : Keeps may kp s0 (State.lpiWake s l) := by
  unfold State.lpiWake
  repeat' with_reducible first | assumption | apply State.setF_keeps | apply State.setLane_keeps | apply Keeps.ite | split | apply Keeps.mk | with_unfolding_all rfl
theorem execLpiWake_keeps  {s0 s : State} (h0 : Keeps may kp s0 s) (l : Fin 16) : Nexts (execLpiWake l s) (Keeps may kp s0) := by
  unfold execLpiWake
  repeat' with_reducible first | assumption | apply Nexts.of | apply State.core_keeps | apply State.lpiWake_keeps | with_unfolding_all rfl
theorem State.lpiWakeDone_keeps  {s0 s : State} (h0 : Keeps anyAddr kp s0 s) (l : Nat) : Keeps anyAddr kp s0 (State.lpiWakeDone s l) := by
  unfold State.lpiWakeDone
  repeat' with_reducible first | assumption | apply State.setLane_keeps | apply Keeps.ite | split | apply Keeps.mk | with_unfolding_all rfl
theorem execLpiWakeDone_keeps  {s0 s : State} (h0 : Keeps anyAddr kp s0 s) (l : Fin 16) : Nexts (execLpiWakeDone l s) (Keeps anyAddr kp s0) := by
  unfold execLpiWakeDone
  repeat' with_reducible first | assumption | apply Nexts.of | apply State.core_keeps | apply State.lpiWakeDone_keeps | with_unfolding_all rfl
theorem State.laneWakeFail_keeps  {s0 s : State} (h0 : Keeps may kp s0 s) (l : Nat) : Keeps may kp s0 (State.laneWakeFail s l) := by
  unfold State.laneWakeFail
  repeat' with_reducible first | assumption | apply State.laneDown_keeps | apply Keeps.ite | split | with_unfolding_all rfl
theorem execLaneWakeFail_keeps  {s0 s : State} (h0 : Keeps may kp s0 s) (l : Fin 16) : Nexts (execLaneWakeFail l s) (Keeps may kp s0) := by
  unfold execLaneWakeFail
  repeat' with_reducible first | assumption | apply Nexts.of | apply State.core_keeps | apply State.laneWakeFail_keeps | with_unfolding_all rfl

end Sys2Proof.Machine
end

