-- ==== Sys2Proof/Laws/KeepsBlocks.lean ====
section
/-!
SUPPORT. Sys2Proof/Laws/KeepsBlocks.lean: every operation of DMA channels, engine jobs, converters, predistortion, the front end, Mirror and domains keeps the invariant, the queue and a set seal,
and memory but for what it stores.
-/
namespace Sys2Proof.Machine

variable {may : Nat → Bool} {kp : Bool}

/-! DmaCtl -/

theorem State.setDma_keeps  {s0 s : State} (h0 : Keeps may kp s0 s) (c : Nat) (v : DmaChan) : Keeps may kp s0 (State.setDma s c v) := by
  unfold State.setDma
  repeat' with_reducible first | assumption | apply State.setF_keeps | apply Keeps.mk | with_unfolding_all rfl
theorem State.dmaStopped_keeps  {s0 s : State} (h0 : Keeps may kp s0 s) (c cause nextAddr : Nat) : Keeps may kp s0 (State.dmaStopped s c cause nextAddr) := by
  unfold State.dmaStopped
  repeat' with_reducible first | assumption | apply State.setF_keeps | with_unfolding_all rfl
theorem State.dmaGoOn_keeps  {s0 s : State} (h0 : Keeps may kp s0 s) (c : Nat) : Keeps may kp s0 (State.dmaGoOn s c) := by
  unfold State.dmaGoOn
  repeat' with_reducible first | assumption | apply State.setF_keeps | with_unfolding_all rfl
theorem State.doorbellWrite_keeps  {s0 s : State} (h0 : Keeps may kp s0 s) (c v : Nat) : Keeps may kp s0 (State.doorbellWrite s c v) := by
  unfold State.doorbellWrite
  repeat' with_reducible first | assumption | apply State.bump_keeps | apply State.ledger_keeps | apply State.setDma_keeps | apply Keeps.ite | split | apply Keeps.mk | with_unfolding_all rfl
theorem execDmaDoorbell_keeps  {s0 s : State} (h0 : Keeps may kp s0 s) (c : Fin 32) (w : Word) : Nexts (execDmaDoorbell c w s) (Keeps may kp s0) := by
  unfold execDmaDoorbell
  repeat' with_reducible first | assumption | apply Nexts.of | apply State.regCmd_keeps | apply State.doorbellWrite_keeps | with_unfolding_all rfl
theorem State.dmaStop_keeps  {s0 s : State} (h0 : Keeps may kp s0 s) (c : Nat) : Keeps may kp s0 (State.dmaStop s c) := by
  unfold State.dmaStop
  repeat' with_reducible first | assumption | apply State.setDma_keeps | apply State.dmaStopped_keeps | apply Keeps.ite | split | apply Keeps.mk | with_unfolding_all rfl
theorem State.dmaResume_keeps  {s0 s : State} (h0 : Keeps may kp s0 s) (c : Nat) : Keeps may kp s0 (State.dmaResume s c) := by
  unfold State.dmaResume
  repeat' with_reducible first | assumption | apply State.setDma_keeps | apply State.dmaGoOn_keeps | apply Keeps.ite | split | apply Keeps.mk | with_unfolding_all rfl
theorem State.chCtrlWrite_keeps  {s0 s : State} (h0 : Keeps may kp s0 s) (c v : Nat) : Keeps may kp s0 (State.chCtrlWrite s c v) := by
  unfold State.chCtrlWrite
  repeat' with_reducible first | assumption | apply State.dmaStop_keeps | apply State.dmaResume_keeps | apply Keeps.ite | split | with_unfolding_all rfl
theorem execDmaStop_keeps  {s0 s : State} (h0 : Keeps may kp s0 s) (c : Fin 32) (w : Word) : Nexts (execDmaStop c w s) (Keeps may kp s0) := by
  unfold execDmaStop
  repeat' with_reducible first | assumption | apply Nexts.of | apply State.regCmd_keeps | apply State.chCtrlWrite_keeps | with_unfolding_all rfl
theorem execDmaResume_keeps  {s0 s : State} (h0 : Keeps may kp s0 s) (c : Fin 32) (w : Word) : Nexts (execDmaResume c w s) (Keeps may kp s0) := by
  unfold execDmaResume
  repeat' with_reducible first | assumption | apply Nexts.of | apply State.regCmd_keeps | apply State.chCtrlWrite_keeps | with_unfolding_all rfl
theorem State.writeW7_keeps  {s0 s : State} (h0 : Keeps anyAddr kp s0 s) (a v : Nat) : Keeps anyAddr kp s0 ((State.writeW7 s a v).1) := by
  unfold State.writeW7
  repeat' with_reducible first | assumption | apply State.wr32_keeps | apply Keeps.ite | split | with_unfolding_all rfl
theorem State.dmaFail_keeps  {s0 s : State} (h0 : Keeps anyAddr kp s0 s) (c code written : Nat) : Keeps anyAddr kp s0 (State.dmaFail s c code written) := by
  unfold State.dmaFail
  repeat' with_reducible first | assumption | apply State.setF_keeps | apply State.bump_keeps | apply State.pulse_keeps | apply State.ledger_keeps | apply State.setDma_keeps | apply State.dmaStopped_keeps | apply State.writeW7_keeps | apply Keeps.ite | split | apply Keeps.mk | with_unfolding_all rfl
theorem State.dmaRelease_keeps  {s0 s : State} (h0 : Keeps may kp s0 s) : Keeps may kp s0 (State.dmaRelease s) := by
  unfold State.dmaRelease
  repeat' with_reducible first | assumption | apply State.setDma_keeps | apply State.dmaGoOn_keeps | apply Keeps.ite | apply Keeps.foldl | split | intro t a ht | apply Keeps.mk | with_unfolding_all rfl
theorem State.dmaReset_keeps  {s0 s : State} (h0 : Keeps anyAddr kp s0 s) : Keeps anyAddr kp s0 (State.dmaReset s) := by
  unfold State.dmaReset
  repeat' with_reducible first | assumption | apply State.setDma_keeps | apply State.dmaFail_keeps | apply Keeps.ite | apply Keeps.foldl | split | intro t a ht | with_unfolding_all rfl

/-! EngCtl -/

theorem State.setEng_keeps  {s0 s : State} (h0 : Keeps may kp s0 s) (n : Nat) (e : Engine) : Keeps may kp s0 (State.setEng s n e) := by
  unfold State.setEng
  repeat' with_reducible first | assumption | apply State.setF_keeps | apply Keeps.mk | with_unfolding_all rfl
theorem State.jobOver_keeps  {s0 s : State} (h0 : Keeps may kp s0 s) (j : Job) (v : Nat) : Keeps may kp s0 (State.jobOver s j v) := by
  unfold State.jobOver
  repeat' with_reducible first | assumption | apply State.setJob_keeps | split | apply Keeps.mk | with_unfolding_all rfl
theorem State.jobUnrun_keeps  {s0 s : State} (h0 : Keeps may kp s0 s) (n : Nat) (j : Job) (code : Nat) : Keeps may kp s0 (State.jobUnrun s n j code) := by
  unfold State.jobUnrun
  repeat' with_reducible first | assumption | apply State.bump_keeps | apply State.ledger_keeps | apply State.jobOver_keeps | with_unfolding_all rfl
theorem State.jobDue_keeps  {s0 s : State} (h0 : Keeps may kp s0 s) (n : Nat) (j : Job) : Keeps may kp s0 (State.jobDue s n j) := by
  unfold State.jobDue
  repeat' with_reducible first | assumption | apply State.setEng_keeps | apply State.jobOver_keeps | apply State.jobUnrun_keeps | apply Keeps.ite | split | apply Keeps.mk | with_unfolding_all rfl
theorem State.flowJobDue_keeps  {s0 s : State} (h0 : Keeps may kp s0 s) (f : Nat) : Keeps may kp s0 (State.flowJobDue s f) := by
  unfold State.flowJobDue
  repeat' with_reducible first | assumption | apply State.setFlow_keeps | apply State.setJob_keeps | apply State.jobDue_keeps | apply Keeps.ite | split | apply Keeps.mk | with_unfolding_all rfl
theorem execFlowJobDue_keeps  {s0 s : State} (h0 : Keeps may kp s0 s) (f : Fin 512) : Nexts (execFlowJobDue f s) (Keeps may kp s0) := by
  unfold execFlowJobDue
  repeat' with_reducible first | assumption | apply Nexts.of | apply State.core_keeps | apply State.flowJobDue_keeps | with_unfolding_all rfl
theorem State.sePostWrite_keeps  {s0 s : State} (h0 : Keeps may kp s0 s) (n v : Nat) : Keeps may kp s0 (State.sePostWrite s n v) := by
  unfold State.sePostWrite
  repeat' with_reducible first | assumption | apply State.writeReg_keeps | apply State.jobDue_keeps | apply Keeps.ite | split | with_unfolding_all rfl
theorem execHostJobPost_keeps  {s0 s : State} (h0 : Keeps may kp s0 s) (n : Fin 16) (w : Word) : Nexts (execHostJobPost n w s) (Keeps may kp s0) := by
  unfold execHostJobPost
  repeat' with_reducible first | assumption | apply Nexts.of | apply State.regCmd_keeps | apply State.sePostWrite_keeps | with_unfolding_all rfl
theorem State.ckptStart_keeps  {s0 s : State} (h0 : Keeps may kp s0 s) (n : Nat) (j : Job) : Keeps may kp s0 (State.ckptStart s n j) := by
  unfold State.ckptStart
  repeat' with_reducible first | assumption | apply State.setF_keeps | split | apply Keeps.mk | with_unfolding_all rfl
theorem State.jobStart_keeps  {s0 s : State} (h0 : Keeps may kp s0 s) (n : Nat) : Keeps may kp s0 (State.jobStart s n) := by
  unfold State.jobStart
  repeat' with_reducible first | assumption | apply State.setEng_keeps | apply State.ckptStart_keeps | apply Keeps.ite | split | apply Keeps.mk | with_unfolding_all rfl
theorem execJobStart_keeps  {s0 s : State} (h0 : Keeps may kp s0 s) (n : Fin 16) : Nexts (execJobStart n s) (Keeps may kp s0) := by
  unfold execJobStart
  repeat' with_reducible first | assumption | apply Nexts.of | apply State.core_keeps | apply State.jobStart_keeps | with_unfolding_all rfl
theorem State.abortDone_keeps  {s0 s : State} (h0 : Keeps may kp s0 s) (n : Nat) : Keeps may kp s0 (State.abortDone s n) := by
  unfold State.abortDone
  repeat' with_reducible first | assumption | apply State.setF_keeps | apply State.bump_keeps | apply State.ledger_keeps | apply State.setEng_keeps | apply State.jobOver_keeps | split | apply Keeps.mk | with_unfolding_all rfl
theorem State.abortTry_keeps  {s0 s : State} (h0 : Keeps may kp s0 s) (n : Nat) : Keeps may kp s0 (State.abortTry s n) := by
  unfold State.abortTry
  repeat' with_reducible first | assumption | apply State.setEng_keeps | apply State.abortDone_keeps | apply Keeps.ite | split | apply Keeps.mk | with_unfolding_all rfl
theorem State.abortAsk_keeps  {s0 s : State} (h0 : Keeps may kp s0 s) (n : Nat) : Keeps may kp s0 (State.abortAsk s n) := by
  unfold State.abortAsk
  repeat' with_reducible first | assumption | apply State.setEng_keeps | apply State.abortTry_keeps | apply Keeps.ite | split | apply Keeps.mk | with_unfolding_all rfl
theorem State.seCtrlWrite_keeps  {s0 s : State} (h0 : Keeps may kp s0 s) (n v : Nat) : Keeps may kp s0 (State.seCtrlWrite s n v) := by
  unfold State.seCtrlWrite
  repeat' with_reducible first | assumption | apply State.writeReg_keeps | apply State.abortAsk_keeps | apply Keeps.ite | split | with_unfolding_all rfl
theorem execEngineAbort_keeps  {s0 s : State} (h0 : Keeps may kp s0 s) (n : Fin 16) (w : Word) : Nexts (execEngineAbort n w s) (Keeps may kp s0) := by
  unfold execEngineAbort
  repeat' with_reducible first | assumption | apply Nexts.of | apply State.regCmd_keeps | apply State.seCtrlWrite_keeps | with_unfolding_all rfl
theorem State.jobWatchdog_keeps  {s0 s : State} (h0 : Keeps may kp s0 s) (n : Nat) : Keeps may kp s0 (State.jobWatchdog s n) := by
  unfold State.jobWatchdog
  repeat' with_reducible first | assumption | apply State.abortAsk_keeps | apply Keeps.ite | split | apply Keeps.mk | with_unfolding_all rfl
theorem execJobWatchdog_keeps  {s0 s : State} (h0 : Keeps may kp s0 s) (n : Fin 16) : Nexts (execJobWatchdog n s) (Keeps may kp s0) := by
  unfold execJobWatchdog
  repeat' with_reducible first | assumption | apply Nexts.of | apply State.core_keeps | apply State.jobWatchdog_keeps | with_unfolding_all rfl
theorem State.engFault_keeps  {s0 s : State} (h0 : Keeps may kp s0 s) (n cause addr : Nat) : Keeps may kp s0 (State.engFault s n cause addr) := by
  unfold State.engFault
  repeat' with_reducible first | assumption | apply State.setF_keeps | apply State.pulse_keeps | apply State.ledger_keeps | apply State.setEng_keeps | apply State.jobOver_keeps | apply Keeps.ite | split | apply Keeps.mk | with_unfolding_all rfl
theorem State.seStatusWrite_keeps  {s0 s : State} (h0 : Keeps may kp s0 s) (n v : Nat) : Keeps may kp s0 (State.seStatusWrite s n v) := by
  unfold State.seStatusWrite
  repeat' with_reducible first | assumption | apply State.writeReg_keeps | apply State.setEng_keeps | apply Keeps.ite | split | apply Keeps.mk | with_unfolding_all rfl
theorem execEngineRestart_keeps  {s0 s : State} (h0 : Keeps may kp s0 s) (n : Fin 16) (w : Word) : Nexts (execEngineRestart n w s) (Keeps may kp s0) := by
  unfold execEngineRestart
  repeat' with_reducible first | assumption | apply Nexts.of | apply State.regCmd_keeps | apply State.seStatusWrite_keeps | with_unfolding_all rfl
theorem State.engReset_keeps  {s0 s : State} (h0 : Keeps may kp s0 s) (n ckptState : Nat) : Keeps may kp s0 (State.engReset s n ckptState) := by
  unfold State.engReset
  repeat' with_reducible first | assumption | apply State.setF_keeps | apply State.bump_keeps | apply State.ledger_keeps | apply State.setEng_keeps | apply State.jobOver_keeps | apply State.jobUnrun_keeps | apply Keeps.ite | apply Keeps.foldl | split | intro t a ht | apply Keeps.mk | with_unfolding_all rfl

/-! Hk -/

theorem State.setHk_keeps  {s0 s : State} (h0 : Keeps may kp s0 s) (k : Nat) (v : HkConv) : Keeps may kp s0 (State.setHk s k v) := by
  unfold State.setHk
  repeat' with_reducible first | assumption | apply State.setF_keeps | apply Keeps.mk | with_unfolding_all rfl
theorem State.setPwm_keeps  {s0 s : State} (h0 : Keeps may kp s0 s) (n : Nat) (v : PwmGen) : Keeps may kp s0 (State.setPwm s n v) := by
  unfold State.setPwm
  repeat' with_reducible first | assumption | apply Keeps.mk | with_unfolding_all rfl
theorem State.hkAbandon_keeps  {s0 s : State} (h0 : Keeps may kp s0 s) (k : Nat) : Keeps may kp s0 (State.hkAbandon s k) := by
  unfold State.hkAbandon
  repeat' with_reducible first | assumption | apply State.bump_keeps | apply State.setHk_keeps | apply Keeps.ite | split | apply Keeps.mk | with_unfolding_all rfl
theorem State.hkStartInj_keeps  {s0 s : State} (h0 : Keeps may kp s0 s) (k : Nat) : Keeps may kp s0 (State.hkStartInj s k) := by
  unfold State.hkStartInj
  repeat' with_reducible first | assumption | apply State.setHk_keeps | apply State.hkAbandon_keeps | apply Keeps.mk | with_unfolding_all rfl
theorem State.hkStartReg_keeps  {s0 s : State} (h0 : Keeps may kp s0 s) (k e : Nat) : Keeps may kp s0 (State.hkStartReg s k e) := by
  unfold State.hkStartReg
  repeat' with_reducible first | assumption | apply State.setHk_keeps | apply Keeps.mk | with_unfolding_all rfl
theorem State.hkNext_keeps  {s0 s : State} (h0 : Keeps may kp s0 s) (k : Nat) : Keeps may kp s0 (State.hkNext s k) := by
  unfold State.hkNext
  repeat' with_reducible first | assumption | apply State.setHk_keeps | apply State.hkAbandon_keeps | apply State.hkStartInj_keeps | apply State.hkStartReg_keeps | apply Keeps.ite | split | apply Keeps.mk | with_unfolding_all rfl
theorem State.hkCalReq_keeps  {s0 s : State} (h0 : Keeps may kp s0 s) (k : Nat) : Keeps may kp s0 (State.hkCalReq s k) := by
  unfold State.hkCalReq
  repeat' with_reducible first | assumption | apply State.setHk_keeps | apply State.hkNext_keeps | apply Keeps.ite | split | apply Keeps.mk | with_unfolding_all rfl
theorem State.hkRegTrig_keeps  {s0 s : State} (h0 : Keeps may kp s0 s) (k : Nat) : Keeps may kp s0 (State.hkRegTrig s k) := by
  unfold State.hkRegTrig
  repeat' with_reducible first | assumption | apply State.bump_keeps | apply State.pulse_keeps | apply State.setHk_keeps | apply State.hkNext_keeps | apply Keeps.ite | split | apply Keeps.mk | with_unfolding_all rfl
theorem State.hkInjTrig_keeps  {s0 s : State} (h0 : Keeps may kp s0 s) (k : Nat) : Keeps may kp s0 (State.hkInjTrig s k) := by
  unfold State.hkInjTrig
  repeat' with_reducible first | assumption | apply State.bump_keeps | apply State.pulse_keeps | apply State.setHk_keeps | apply State.hkNext_keeps | apply Keeps.ite | split | apply Keeps.mk | with_unfolding_all rfl
theorem State.hkBegin_keeps  {s0 s : State} (h0 : Keeps may kp s0 s) (k : Nat) : Keeps may kp s0 (State.hkBegin s k) := by
  unfold State.hkBegin
  repeat' with_reducible first | assumption | apply State.setHk_keeps | apply State.hkCalReq_keeps | apply Keeps.mk | with_unfolding_all rfl
theorem State.hkaCtrlWrite_keeps  {s0 s : State} (h0 : Keeps may kp s0 s) (k v : Nat) : Keeps may kp s0 (State.hkaCtrlWrite s k v) := by
  unfold State.hkaCtrlWrite
  repeat' with_reducible first | assumption | apply State.writeReg_keeps | apply State.setHk_keeps | apply State.hkCalReq_keeps | apply State.hkRegTrig_keeps | apply State.hkInjTrig_keeps | apply State.hkBegin_keeps | apply Keeps.ite | split | with_unfolding_all rfl
theorem execHkEnable_keeps  {s0 s : State} (h0 : Keeps may kp s0 s) (k : Fin 2) (w : Word) : Nexts (execHkEnable k w s) (Keeps may kp s0) := by
  unfold execHkEnable
  repeat' with_reducible first | assumption | apply Nexts.of | apply State.regCmd_keeps | apply State.hkaCtrlWrite_keeps | with_unfolding_all rfl
theorem execSeqGo_keeps  {s0 s : State} (h0 : Keeps may kp s0 s) (k : Fin 2) (w : Word) : Nexts (execSeqGo k w s) (Keeps may kp s0) := by
  unfold execSeqGo
  repeat' with_reducible first | assumption | apply Nexts.of | apply State.regCmd_keeps | apply State.hkaCtrlWrite_keeps | with_unfolding_all rfl
theorem execInjGo_keeps  {s0 s : State} (h0 : Keeps may kp s0 s) (k : Fin 2) (w : Word) : Nexts (execInjGo k w s) (Keeps may kp s0) := by
  unfold execInjGo
  repeat' with_reducible first | assumption | apply Nexts.of | apply State.regCmd_keeps | apply State.hkaCtrlWrite_keeps | with_unfolding_all rfl
theorem execCalGo_keeps  {s0 s : State} (h0 : Keeps may kp s0 s) (k : Fin 2) (w : Word) : Nexts (execCalGo k w s) (Keeps may kp s0) := by
  unfold execCalGo
  repeat' with_reducible first | assumption | apply Nexts.of | apply State.regCmd_keeps | apply State.hkaCtrlWrite_keeps | with_unfolding_all rfl
theorem State.hkTriggerTimer_keeps  {s0 s : State} (h0 : Keeps may kp s0 s) (k : Nat) : Keeps may kp s0 (State.hkTriggerTimer s k) := by
  unfold State.hkTriggerTimer
  repeat' with_reducible first | assumption | apply State.setHk_keeps | apply State.hkRegTrig_keeps | apply Keeps.ite | split | apply Keeps.mk | with_unfolding_all rfl
theorem execHkTriggerTimer_keeps  {s0 s : State} (h0 : Keeps may kp s0 s) (k : Fin 2) : Nexts (execHkTriggerTimer k s) (Keeps may kp s0) := by
  unfold execHkTriggerTimer
  repeat' with_reducible first | assumption | apply Nexts.of | apply State.core_keeps | apply State.hkTriggerTimer_keeps | with_unfolding_all rfl
theorem State.hkInjTriggerTimer_keeps  {s0 s : State} (h0 : Keeps may kp s0 s) (k : Nat) : Keeps may kp s0 (State.hkInjTriggerTimer s k) := by
  unfold State.hkInjTriggerTimer
  repeat' with_reducible first | assumption | apply State.setHk_keeps | apply State.hkInjTrig_keeps | apply Keeps.ite | split | apply Keeps.mk | with_unfolding_all rfl
theorem execHkInjTriggerTimer_keeps  {s0 s : State} (h0 : Keeps may kp s0 s) (k : Fin 2) : Nexts (execHkInjTriggerTimer k s) (Keeps may kp s0) := by
  unfold execHkInjTriggerTimer
  repeat' with_reducible first | assumption | apply Nexts.of | apply State.core_keeps | apply State.hkInjTriggerTimer_keeps | with_unfolding_all rfl
theorem State.owReport_keeps  {s0 s : State} (h0 : Keeps may kp s0 s) (k cfg : Nat) (open_ : Bool) : Keeps may kp s0 (State.owReport s k cfg open_) := by
  unfold State.owReport
  repeat' with_reducible first | assumption | apply State.bump_keeps | apply State.pulse_keeps | apply State.ledger_keeps | apply Keeps.ite | split | with_unfolding_all rfl
theorem State.conversionComplete_keeps  {s0 s : State} (h0 : Keeps may kp s0 s) (k c1 c2 : Nat) : Keeps may kp s0 (State.conversionComplete s k c1 c2) := by
  unfold State.conversionComplete
  repeat' with_reducible first | assumption | apply State.setF_keeps | apply State.pulse_keeps | apply State.setHk_keeps | apply State.hkNext_keeps | apply State.owReport_keeps | apply Keeps.ite | split | apply Keeps.mk | with_unfolding_all rfl
theorem execConversionComplete_keeps  {s0 s : State} (h0 : Keeps may kp s0 s) (k : Fin 2) (c1 c2 : Fin 4096) : Nexts (execConversionComplete k c1 c2 s) (Keeps may kp s0) := by
  unfold execConversionComplete
  repeat' with_reducible first | assumption | apply Nexts.of | apply State.core_keeps | apply State.conversionComplete_keeps | with_unfolding_all rfl
theorem State.injWrite_keeps  {s0 s : State} (h0 : Keeps may kp s0 s) (k code : Nat) (open_ : Bool) : Keeps may kp s0 (State.injWrite s k code open_) := by
  unfold State.injWrite
  repeat' with_reducible first | assumption | apply State.setF_keeps | apply State.pulse_keeps | apply State.setHk_keeps | apply Keeps.mk | with_unfolding_all rfl
theorem State.crossEnd_keeps  {s0 s : State} (h0 : Keeps may kp s0 s) (c0 c1 : Nat) : Keeps may kp s0 (State.crossEnd s c0 c1) := by
  unfold State.crossEnd
  repeat' with_reducible first | assumption | apply State.setF_keeps | apply State.bump_keeps | apply State.pulse_keeps | apply State.ledger_keeps | apply State.hkNext_keeps | apply State.injWrite_keeps | apply Keeps.ite | split | with_unfolding_all rfl
theorem State.injectedComplete_keeps  {s0 s : State} (h0 : Keeps may kp s0 s) (k c1 c2 other : Nat) : Keeps may kp s0 (State.injectedComplete s k c1 c2 other) := by
  unfold State.injectedComplete
  repeat' with_reducible first | assumption | apply State.hkNext_keeps | apply State.owReport_keeps | apply State.injWrite_keeps | apply State.crossEnd_keeps | apply Keeps.ite | split | with_unfolding_all rfl
theorem execInjectedComplete_keeps  {s0 s : State} (h0 : Keeps may kp s0 s) (k : Fin 2) (c1 c2 other : Fin 4096) : Nexts (execInjectedComplete k c1 c2 other s) (Keeps may kp s0) := by
  unfold execInjectedComplete
  repeat' with_reducible first | assumption | apply Nexts.of | apply State.core_keeps | apply State.injectedComplete_keeps | with_unfolding_all rfl
theorem State.hkCalTimer_keeps  {s0 s : State} (h0 : Keeps may kp s0 s) (k : Nat) : Keeps may kp s0 (State.hkCalTimer s k) := by
  unfold State.hkCalTimer
  repeat' with_reducible first | assumption | apply State.setHk_keeps | apply State.hkCalReq_keeps | apply Keeps.ite | split | apply Keeps.mk | with_unfolding_all rfl
theorem execHkCalTimer_keeps  {s0 s : State} (h0 : Keeps may kp s0 s) (k : Fin 2) : Nexts (execHkCalTimer k s) (Keeps may kp s0) := by
  unfold execHkCalTimer
  repeat' with_reducible first | assumption | apply Nexts.of | apply State.core_keeps | apply State.hkCalTimer_keeps | with_unfolding_all rfl
theorem State.hkCalEnd_keeps  {s0 s : State} (h0 : Keeps may kp s0 s) (k : Nat) (ok : Bool) : Keeps may kp s0 (State.hkCalEnd s k ok) := by
  unfold State.hkCalEnd
  repeat' with_reducible first | assumption | apply State.setF_keeps | apply State.pulse_keeps | apply State.ledger_keeps | apply State.setHk_keeps | apply State.hkNext_keeps | apply Keeps.ite | split | apply Keeps.mk | with_unfolding_all rfl
theorem execHkCalEnd_keeps  {s0 s : State} (h0 : Keeps may kp s0 s) (k : Fin 2) (ok : Bool) : Nexts (execHkCalEnd k ok s) (Keeps may kp s0) := by
  unfold execHkCalEnd
  repeat' with_reducible first | assumption | apply Nexts.of | apply State.core_keeps | apply State.hkCalEnd_keeps | with_unfolding_all rfl
theorem State.pwmStart_keeps  {s0 s : State} (h0 : Keeps may kp s0 s) (n : Nat) : Keeps may kp s0 (State.pwmStart s n) := by
  unfold State.pwmStart
  repeat' with_reducible first | assumption | apply State.setPwm_keeps | with_unfolding_all rfl
theorem State.pwmCtrlWrite_keeps  {s0 s : State} (h0 : Keeps may kp s0 s) (n v : Nat) : Keeps may kp s0 (State.pwmCtrlWrite s n v) := by
  unfold State.pwmCtrlWrite
  repeat' with_reducible first | assumption | apply State.writeReg_keeps | apply State.pwmStart_keeps | apply Keeps.ite | split | with_unfolding_all rfl
theorem State.pwmTrigger_keeps  {s0 s : State} (h0 : Keeps may kp s0 s) (n : Nat) (rising : Bool) (k : Nat) : Keeps may kp s0 (State.pwmTrigger s n rising k) := by
  unfold State.pwmTrigger
  repeat' with_reducible first | assumption | apply State.setHk_keeps | apply Keeps.ite | split | apply Keeps.mk | with_unfolding_all rfl
theorem State.pwmEdge_keeps  {s0 s : State} (h0 : Keeps may kp s0 s) (n : Nat) : Keeps may kp s0 (State.pwmEdge s n) := by
  unfold State.pwmEdge
  repeat' with_reducible first | assumption | apply State.setPwm_keeps | apply State.pwmTrigger_keeps | apply Keeps.ite | split | apply Keeps.mk | with_unfolding_all rfl
theorem execPwmEdge_keeps  {s0 s : State} (h0 : Keeps may kp s0 s) (n : Fin 8) : Nexts (execPwmEdge n s) (Keeps may kp s0) := by
  unfold execPwmEdge
  repeat' with_reducible first | assumption | apply Nexts.of | apply State.core_keeps | apply State.pwmEdge_keeps | with_unfolding_all rfl
theorem State.pwmPeriodEnd_keeps  {s0 s : State} (h0 : Keeps may kp s0 s) (n : Nat) : Keeps may kp s0 (State.pwmPeriodEnd s n) := by
  unfold State.pwmPeriodEnd
  repeat' with_reducible first | assumption | apply State.pulse_keeps | apply State.setPwm_keeps | apply Keeps.ite | split | apply Keeps.mk | with_unfolding_all rfl
theorem execPwmPeriodEnd_keeps  {s0 s : State} (h0 : Keeps may kp s0 s) (n : Fin 8) : Nexts (execPwmPeriodEnd n s) (Keeps may kp s0) := by
  unfold execPwmPeriodEnd
  repeat' with_reducible first | assumption | apply Nexts.of | apply State.core_keeps | apply State.pwmPeriodEnd_keeps | with_unfolding_all rfl
theorem State.hkReset_keeps  {s0 s : State} (h0 : Keeps may kp s0 s) : Keeps may kp s0 (State.hkReset s) := by
  unfold State.hkReset
  repeat' with_reducible first | assumption | apply State.setHk_keeps | apply State.setPwm_keeps | apply Keeps.foldl | intro t a ht | apply Keeps.mk | with_unfolding_all rfl

/-! Dpd -/

theorem State.storeCoefs_keeps  {s0 s : State} (h0 : Keeps anyAddr kp s0 s) (a : Nat) (cs : List (Int × Int)) : Keeps anyAddr kp s0 (State.storeCoefs s a cs) := by
  unfold State.storeCoefs
  repeat' with_reducible first | assumption | apply State.writeLE_keeps | apply Keeps.foldl | intro t a ht | with_unfolding_all rfl
theorem State.copyBytes_keeps  {s0 s : State} (h0 : Keeps anyAddr kp s0 s) (src dst n : Nat) : Keeps anyAddr kp s0 (State.copyBytes s src dst n) := by
  unfold State.copyBytes
  repeat' with_reducible first | assumption | apply State.writeBytes_keeps | with_unfolding_all rfl
theorem State.setDpd_keeps  {s0 s : State} (h0 : Keeps may kp s0 s) (n : Nat) (d : DpdPath) : Keeps may kp s0 (State.setDpd s n d) := by
  unfold State.setDpd
  repeat' with_reducible first | assumption | apply State.setTxp_keeps | apply Keeps.mk | with_unfolding_all rfl
theorem State.dpdMemWrite_keeps  {s0 s : State} (h0 : Keeps anyAddr kp s0 s) (o : Nat) (bs : List Byte) : Keeps anyAddr kp s0 (State.dpdMemWrite s o bs) := by
  unfold State.dpdMemWrite
  repeat' with_reducible first | assumption | apply State.writeByte_keeps | apply State.discarded_keeps | apply Keeps.ite | apply Keeps.foldl | split | intro t a ht | with_unfolding_all rfl
theorem execDpdDescriptorWrite_keeps  {s0 s : State} (h0 : Keeps anyAddr kp s0 s) (n : Fin 64) (ix : Fin 64) (w : Word) : Nexts (execDpdDescriptorWrite n ix w s) (Keeps anyAddr kp s0) := by
  unfold execDpdDescriptorWrite
  repeat' with_reducible first | assumption | apply Nexts.of | apply State.regCmd_keeps | apply State.dpdMemWrite_keeps | with_unfolding_all rfl
theorem execDpdSetWrite_keeps  {s0 s : State} (h0 : Keeps anyAddr kp s0 s) (a : Fin 262144) (w : Word) : Nexts (execDpdSetWrite a w s) (Keeps anyAddr kp s0) := by
  unfold execDpdSetWrite
  repeat' with_reducible first | assumption | apply Nexts.of | apply State.regCmd_keeps | apply State.dpdMemWrite_keeps | with_unfolding_all rfl
theorem State.dpdTick_keeps  {s0 s : State} (h0 : Keeps may kp s0 s) (n : Nat) : Keeps may kp s0 (State.dpdTick s n) := by
  unfold State.dpdTick
  repeat' with_reducible first | assumption | apply State.setTxp_keeps | apply State.txEnd_keeps | apply State.setDpd_keeps | apply Keeps.foldl | intro t a ht | apply Keeps.mk | with_unfolding_all rfl
theorem State.txRest_keeps  {s0 s : State} (h0 : Keeps may kp s0 s) (n : Nat) : Keeps may kp s0 (State.txRest s n) := by
  unfold State.txRest
  repeat' with_reducible first | assumption | apply State.setTxp_keeps | apply Keeps.ite | split | apply Keeps.mk | with_unfolding_all rfl
theorem State.dpdGo_keeps  {s0 s : State} (h0 : Keeps may kp s0 s) (n v : Nat) : Keeps may kp s0 (State.dpdGo s n v) := by
  unfold State.dpdGo
  repeat' with_reducible first | assumption | apply State.setF_keeps | apply State.bump_keeps | apply State.writeReg_keeps | apply State.setDpd_keeps | apply Keeps.ite | split | apply Keeps.mk | with_unfolding_all rfl
theorem execDpdGo_keeps  {s0 s : State} (h0 : Keeps may kp s0 s) (n : Fin 64) (w : Word) : Nexts (execDpdGo n w s) (Keeps may kp s0) := by
  unfold execDpdGo
  repeat' with_reducible first | assumption | apply Nexts.of | apply State.regCmd_keeps | apply State.dpdGo_keeps | with_unfolding_all rfl
theorem State.dpdStagingDone_keeps  {s0 s : State} (h0 : Keeps may kp s0 s) (n : Nat) : Keeps may kp s0 (State.dpdStagingDone s n) := by
  unfold State.dpdStagingDone
  repeat' with_reducible first | assumption | apply State.setDpd_keeps | apply Keeps.ite | split | apply Keeps.mk | with_unfolding_all rfl
theorem execDpdStagingDone_keeps  {s0 s : State} (h0 : Keeps may kp s0 s) (n : Fin 64) : Nexts (execDpdStagingDone n s) (Keeps may kp s0) := by
  unfold execDpdStagingDone
  repeat' with_reducible first | assumption | apply Nexts.of | apply State.core_keeps | apply State.dpdStagingDone_keeps | with_unfolding_all rfl
theorem State.setLoadBad_keeps  {s0 s : State} (h0 : Keeps may kp s0 s) (n a : Nat) : Keeps may kp s0 (State.setLoadBad s n a) := by
  unfold State.setLoadBad
  repeat' with_reducible first | assumption | apply State.setDpd_keeps | apply State.bump_keeps | apply State.setTxp_keeps | apply State.ledger_keeps | apply State.zsHold_keeps | apply Keeps.mk | with_unfolding_all rfl
theorem State.dpdInstall_keeps  {s0 s : State} (h0 : Keeps anyAddr kp s0 s) (n : Nat) (bad : Option Nat) : Keeps anyAddr kp s0 (State.dpdInstall s n bad) := by
  unfold State.dpdInstall
  repeat' with_reducible first | assumption | apply State.setF_keeps | apply State.writeLE_keeps | apply State.wr32_keeps | apply State.storeCoefs_keeps | apply State.copyBytes_keeps | apply State.setDpd_keeps | apply State.setLoadBad_keeps | apply Keeps.ite | split | apply Keeps.mk | with_unfolding_all rfl
theorem execDpdInstall_keeps  {s0 s : State} (h0 : Keeps anyAddr kp s0 s) (n : Fin 64) (bad : Option (Fin 128)) : Nexts (execDpdInstall n bad s) (Keeps anyAddr kp s0) := by
  unfold execDpdInstall
  repeat' with_reducible first | assumption | apply Nexts.of | apply State.core_keeps | apply State.dpdInstall_keeps | with_unfolding_all rfl
theorem State.setRolls_keeps  {s0 s : State} (h0 : Keeps may kp s0 s) (n e v : Nat) : Keeps may kp s0 (State.setRolls s n e v) := by
  unfold State.setRolls
  repeat' with_reducible first | assumption | apply State.setDpd_keeps | apply Keeps.mk | with_unfolding_all rfl
theorem State.dpdRollback_keeps  {s0 s : State} (h0 : Keeps may kp s0 s) (n : Nat) : Keeps may kp s0 (State.dpdRollback s n) := by
  unfold State.dpdRollback
  repeat' with_reducible first | assumption | apply State.setF_keeps | apply State.setB_keeps | apply State.bump_keeps | apply State.pulse_keeps | apply State.ledger_keeps | apply State.setDpd_keeps | apply State.setRolls_keeps | apply Keeps.ite | split | apply Keeps.mk | with_unfolding_all rfl
theorem State.dpdTrialVerdict_keeps  {s0 s : State} (h0 : Keeps may kp s0 s) (n : Nat) : Keeps may kp s0 (State.dpdTrialVerdict s n) := by
  unfold State.dpdTrialVerdict
  repeat' with_reducible first | assumption | apply State.setF_keeps | apply State.setDpd_keeps | apply State.setRolls_keeps | apply State.dpdRollback_keeps | apply Keeps.ite | split | apply Keeps.mk | with_unfolding_all rfl
theorem execDpdTrialVerdict_keeps  {s0 s : State} (h0 : Keeps may kp s0 s) (n : Fin 64) : Nexts (execDpdTrialVerdict n s) (Keeps may kp s0) := by
  unfold execDpdTrialVerdict
  repeat' with_reducible first | assumption | apply Nexts.of | apply State.core_keeps | apply State.dpdTrialVerdict_keeps | with_unfolding_all rfl
theorem State.dpdTrialLapse_keeps  {s0 s : State} (h0 : Keeps may kp s0 s) (n : Nat) : Keeps may kp s0 (State.dpdTrialLapse s n) := by
  unfold State.dpdTrialLapse
  repeat' with_reducible first | assumption | apply State.setF_keeps | apply State.bump_keeps | apply State.setRolls_keeps | apply Keeps.ite | split | with_unfolding_all rfl
theorem execDpdTrialLapse_keeps  {s0 s : State} (h0 : Keeps may kp s0 s) (n : Fin 64) : Nexts (execDpdTrialLapse n s) (Keeps may kp s0) := by
  unfold execDpdTrialLapse
  repeat' with_reducible first | assumption | apply Nexts.of | apply State.core_keeps | apply State.dpdTrialLapse_keeps | with_unfolding_all rfl
theorem State.dpdUnfreeze_keeps  {s0 s : State} (h0 : Keeps may kp s0 s) (n v : Nat) : Keeps may kp s0 (State.dpdUnfreeze s n v) := by
  unfold State.dpdUnfreeze
  repeat' with_reducible first | assumption | apply State.writeReg_keeps | apply State.setRolls_keeps | apply Keeps.foldl | intro t a ht | with_unfolding_all rfl
theorem execDpdUnfreeze_keeps  {s0 s : State} (h0 : Keeps may kp s0 s) (n : Fin 64) (w : Word) : Nexts (execDpdUnfreeze n w s) (Keeps may kp s0) := by
  unfold execDpdUnfreeze
  repeat' with_reducible first | assumption | apply Nexts.of | apply State.regCmd_keeps | apply State.dpdUnfreeze_keeps | with_unfolding_all rfl
theorem State.dpdBypass_keeps  {s0 s : State} (h0 : Keeps may kp s0 s) (n : Nat) : Keeps may kp s0 (State.dpdBypass s n) := by
  unfold State.dpdBypass
  repeat' with_reducible first | assumption | apply State.setF_keeps | apply State.bump_keeps | apply State.ledger_keeps | apply State.setDpd_keeps | apply State.dpdRollback_keeps | apply Keeps.ite | split | apply Keeps.mk | with_unfolding_all rfl
theorem execDpdBypass_keeps  {s0 s : State} (h0 : Keeps may kp s0 s) (n : Fin 64) : Nexts (execDpdBypass n s) (Keeps may kp s0) := by
  unfold execDpdBypass
  repeat' with_reducible first | assumption | apply Nexts.of | apply State.core_keeps | apply State.dpdBypass_keeps | with_unfolding_all rfl
theorem State.dpdBypassEndRequest_keeps  {s0 s : State} (h0 : Keeps may kp s0 s) (n v : Nat) : Keeps may kp s0 (State.dpdBypassEndRequest s n v) := by
  unfold State.dpdBypassEndRequest
  repeat' with_reducible first | assumption | apply State.setDpd_keeps | apply Keeps.ite | split | apply Keeps.mk | with_unfolding_all rfl
theorem execDpdBypassEndRequest_keeps  {s0 s : State} (h0 : Keeps may kp s0 s) (n : Fin 64) (w : Word) : Nexts (execDpdBypassEndRequest n w s) (Keeps may kp s0) := by
  unfold execDpdBypassEndRequest
  repeat' with_reducible first | assumption | apply Nexts.of | apply State.regCmd_keeps | apply State.dpdBypassEndRequest_keeps | with_unfolding_all rfl
theorem State.pairUsed_keeps  {s0 s : State} (h0 : Keeps may kp s0 s) (n e : Nat) : Keeps may kp s0 (State.pairUsed s n e) := by
  unfold State.pairUsed
  repeat' with_reducible first | assumption | apply State.setPair_keeps | apply Keeps.mk | with_unfolding_all rfl
theorem State.txSymbolEnd_keeps  {s0 s : State} (h0 : Keeps anyAddr kp s0 s) (n : Nat) : Keeps anyAddr kp s0 (State.txSymbolEnd s n) := by
  unfold State.txSymbolEnd
  repeat' with_reducible first | assumption | apply State.setPair_keeps | apply State.setF_keeps | apply State.bump_keeps | apply State.wr32_keeps | apply State.setTxp_keeps | apply State.pairUsed_keeps | apply Keeps.ite | split | apply Keeps.mk | with_unfolding_all rfl
theorem State.lookupNotes_keeps  {s0 s : State} (h0 : Keeps may kp s0 s) (n key : Nat) : Keeps may kp s0 (State.lookupNotes s n key) := by
  unfold State.lookupNotes
  repeat' with_reducible first | assumption | apply State.bump_keeps | apply State.ledger_keeps | apply Keeps.ite | split | apply Keeps.mk | with_unfolding_all rfl
theorem State.dpdPass_keeps  {s0 s : State} (h0 : Keeps may kp s0 s) (n : Nat) : Keeps may kp s0 (State.dpdPass s n) := by
  unfold State.dpdPass
  repeat' with_reducible first | assumption | apply State.setF_keeps | apply State.setDpd_keeps | apply Keeps.mk | with_unfolding_all rfl
theorem State.dpdFull_keeps  {s0 s : State} (h0 : Keeps may kp s0 s) (n e pos : Nat) : Keeps may kp s0 (State.dpdFull s n e pos) := by
  unfold State.dpdFull
  repeat' with_reducible first | assumption | apply State.setF_keeps | apply State.setDpd_keeps | apply State.pairUsed_keeps | apply Keeps.mk | with_unfolding_all rfl
theorem State.dpdBlend_keeps  {s0 s : State} (h0 : Keeps may kp s0 s) (n e i b : Nat) (old : List (Int × Int)) : Keeps may kp s0 (State.dpdBlend s n e i b old) := by
  unfold State.dpdBlend
  repeat' with_reducible first | assumption | apply State.setF_keeps | apply State.setDpd_keeps | apply State.dpdFull_keeps | apply Keeps.ite | split | apply Keeps.mk | with_unfolding_all rfl
theorem State.trackSet_keeps  {s0 s : State} (h0 : Keeps may kp s0 s) (n key : Nat) : Keeps may kp s0 (State.trackSet s n key) := by
  unfold State.trackSet
  repeat' with_reducible first | assumption | apply State.setF_keeps | apply State.lookupNotes_keeps | with_unfolding_all rfl
theorem State.dpdStep_keeps  {s0 s : State} (h0 : Keeps may kp s0 s) (n key : Nat) (bad : Option Nat) : Keeps may kp s0 (State.dpdStep s n key bad) := by
  unfold State.dpdStep
  repeat' with_reducible first | assumption | apply State.trackSet_keeps | apply State.setLoadBad_keeps | apply State.lookupNotes_keeps | apply State.dpdPass_keeps | apply State.dpdFull_keeps | apply State.dpdBlend_keeps | apply Keeps.ite | split | apply Keeps.mk | with_unfolding_all rfl
theorem State.dpdBoundary_keeps  {s0 s : State} (h0 : Keeps anyAddr kp s0 s) (n key : Nat) (probe : Bool) (bad : Option Nat) : Keeps anyAddr kp s0 (State.dpdBoundary s n key probe bad) := by
  unfold State.dpdBoundary
  repeat' with_reducible first | assumption | apply State.zsEnd_keeps | apply State.setF_keeps | apply State.setTxp_keeps | apply State.copyBytes_keeps | apply State.setDpd_keeps | apply State.dpdPass_keeps | apply State.trackSet_keeps | apply State.dpdStep_keeps | apply Keeps.ite | split | apply Keeps.mk | with_unfolding_all rfl
theorem State.inputMissing_keeps  {s0 s : State} (h0 : Keeps may kp s0 s) (n : Nat) : Keeps may kp s0 (State.inputMissing s n) := by
  unfold State.inputMissing
  repeat' with_reducible first | assumption | apply State.setTxp_keeps | apply State.ledger_keeps | apply State.zsHold_keeps | apply Keeps.ite | split | apply Keeps.mk | with_unfolding_all rfl
theorem State.inputCheck_keeps  {s0 s : State} (h0 : Keeps may kp s0 s) (n : Nat) : Keeps may kp s0 (State.inputCheck s n) := by
  unfold State.inputCheck
  repeat' with_reducible first | assumption | apply State.ledger_keeps | apply State.zsHold_keeps | apply State.zsEnd_keeps | apply State.setTxp_keeps | apply State.inputMissing_keeps | apply Keeps.ite | split | apply Keeps.mk | with_unfolding_all rfl
theorem State.txPathBoundary_keeps  {s0 s : State} (h0 : Keeps anyAddr kp s0 s) (n : Nat) (bad : Option Nat) : Keeps anyAddr kp s0 (State.txPathBoundary s n bad) := by
  unfold State.txPathBoundary
  repeat' with_reducible first | assumption | apply State.setF_keeps | apply State.commitShadow_keeps | apply State.setTxp_keeps | apply State.txAlign_keeps | apply State.txSymbolEnd_keeps | apply State.dpdBoundary_keeps | apply State.inputCheck_keeps | apply Keeps.ite | split | apply Keeps.mk | with_unfolding_all rfl
theorem execTxPathBoundary_keeps  {s0 s : State} (h0 : Keeps anyAddr kp s0 s) (n : Fin 64) (bad : Option (Fin 128)) : Nexts (execTxPathBoundary n bad s) (Keeps anyAddr kp s0) := by
  unfold execTxPathBoundary
  repeat' with_reducible first | assumption | apply Nexts.of | apply State.core_keeps | apply State.txPathBoundary_keeps | with_unfolding_all rfl

/-! Orx -/

theorem State.driveSel_keeps  {s0 s : State} (h0 : Keeps may kp s0 s) (k : Nat) : Keeps may kp s0 (State.driveSel s k) := by
  unfold State.driveSel
  repeat' with_reducible first | assumption | apply State.setF_keeps | apply State.setOrx_keeps | apply Keeps.ite | split | apply Keeps.mk | with_unfolding_all rfl
theorem State.orxCtrlWrite_keeps  {s0 s : State} (h0 : Keeps may kp s0 s) (k v : Nat) : Keeps may kp s0 (State.orxCtrlWrite s k v) := by
  unfold State.orxCtrlWrite
  repeat' with_reducible first | assumption | apply State.driveSel_keeps | apply State.setF_keeps | apply State.flushShadow_keeps | apply State.setOrx_keeps | apply State.writeReg_keeps | apply Keeps.ite | split | apply Keeps.mk | with_unfolding_all rfl
theorem State.orxCaptureStart_keeps  {s0 s : State} (h0 : Keeps may kp s0 s) (k : Nat) : Keeps may kp s0 (State.orxCaptureStart s k) := by
  unfold State.orxCaptureStart
  repeat' with_reducible first | assumption | apply State.setF_keeps | apply State.bump_keeps | apply State.setOrx_keeps | apply Keeps.ite | split | apply Keeps.mk | with_unfolding_all rfl
theorem execOrxCaptureStart_keeps  {s0 s : State} (h0 : Keeps may kp s0 s) (k : Fin 8) : Nexts (execOrxCaptureStart k s) (Keeps may kp s0) := by
  unfold execOrxCaptureStart
  repeat' with_reducible first | assumption | apply Nexts.of | apply State.core_keeps | apply State.orxCaptureStart_keeps | with_unfolding_all rfl
theorem State.copyTick_keeps  {s0 s : State} (h0 : Keeps anyAddr kp s0 s) (c : Capture) (y : List (Int × Int)) : Keeps anyAddr kp s0 (State.copyTick s c y) := by
  unfold State.copyTick
  repeat' with_reducible first | assumption | apply State.wr32_keeps | apply Keeps.ite | apply Keeps.foldl | split | intro t a ht | apply Keeps.mk | with_unfolding_all rfl
theorem State.orxTick_keeps  {s0 s : State} (h0 : Keeps anyAddr kp s0 s) (k : Nat) (y : List (Int × Int)) : Keeps anyAddr kp s0 (State.orxTick s k y) := by
  unfold State.orxTick
  repeat' with_reducible first | assumption | apply State.setOrx_keeps | apply State.driveSel_keeps | apply State.copyTick_keeps | apply Keeps.ite | split | apply Keeps.mk | with_unfolding_all rfl
theorem discardFld_clear (c : DiscardCause) : (discardFld c).clearOfSeal = true := by cases c <;> decide
theorem State.orxDiscard_keeps  {s0 s : State} (h0 : Keeps may kp s0 s) (k : Nat) (c : DiscardCause) : Keeps may kp s0 (State.orxDiscard s k c) := by
  unfold State.orxDiscard
  repeat' with_reducible first | assumption | apply discardFld_clear | apply State.setF_keeps | apply State.bump_keeps | apply State.setOrx_keeps | apply State.driveSel_keeps | apply Keeps.ite | split | apply Keeps.mk | with_unfolding_all rfl
theorem execOrxCaptureDiscard_keeps  {s0 s : State} (h0 : Keeps may kp s0 s) (k : Fin 8) (c : DiscardCause) : Nexts (execOrxCaptureDiscard k c s) (Keeps may kp s0) := by
  unfold execOrxCaptureDiscard
  repeat' with_reducible first | assumption | apply Nexts.of | apply State.core_keeps | apply State.orxDiscard_keeps | with_unfolding_all rfl
theorem State.orxCaptureEnd_keeps  {s0 s : State} (h0 : Keeps may kp s0 s) (k : Nat) : Keeps may kp s0 (State.orxCaptureEnd s k) := by
  unfold State.orxCaptureEnd
  repeat' with_reducible first | assumption | apply State.setF_keeps | apply State.setOrx_keeps | apply State.driveSel_keeps | apply State.orxDiscard_keeps | apply Keeps.ite | split | apply Keeps.mk | with_unfolding_all rfl
theorem execOrxCaptureEnd_keeps  {s0 s : State} (h0 : Keeps may kp s0 s) (k : Fin 8) (x : Unit) : Nexts (execOrxCaptureEnd k x s) (Keeps may kp s0) := by
  unfold execOrxCaptureEnd
  repeat' with_reducible first | assumption | apply Nexts.of | apply State.core_keeps | apply State.orxCaptureEnd_keeps | with_unfolding_all rfl
theorem State.orxResultWrite_keeps  {s0 s : State} (h0 : Keeps anyAddr kp s0 s) (k : Nat) : Keeps anyAddr kp s0 (State.orxResultWrite s k) := by
  unfold State.orxResultWrite
  repeat' with_reducible first | assumption | apply State.writeWords_keeps | apply State.setB_keeps | apply State.clrB_keeps | apply State.setOrx_keeps | apply State.setPair_keeps | apply State.pulse_keeps | split | apply Keeps.mk | with_unfolding_all rfl
theorem execOrxResultWrite_keeps  {s0 s : State} (h0 : Keeps anyAddr kp s0 s) (k : Fin 8) : Nexts (execOrxResultWrite k s) (Keeps anyAddr kp s0) := by
  unfold execOrxResultWrite
  repeat' with_reducible first | assumption | apply Nexts.of | apply State.core_keeps | apply State.orxResultWrite_keeps | with_unfolding_all rfl
theorem State.orxRequest_keeps  {s0 s : State} (h0 : Keeps may kp s0 s) (k v : Nat) : Keeps may kp s0 (State.orxRequest s k v) := by
  unfold State.orxRequest
  repeat' with_reducible first | assumption | apply State.setF_keeps | apply State.writeReg_keeps | apply Keeps.ite | split | with_unfolding_all rfl
theorem execOrxRequest_keeps  {s0 s : State} (h0 : Keeps may kp s0 s) (k : Fin 8) (w : Word) : Nexts (execOrxRequest k w s) (Keeps may kp s0) := by
  unfold execOrxRequest
  repeat' with_reducible first | assumption | apply Nexts.of | apply State.regCmd_keeps | apply State.orxRequest_keeps | with_unfolding_all rfl
theorem execOrxBufferRelease_keeps  {s0 s : State} (h0 : Keeps may kp s0 s) (k : Fin 8) (w : Word) : Nexts (execOrxBufferRelease k w s) (Keeps may kp s0) := by
  unfold execOrxBufferRelease
  repeat' with_reducible first | assumption | apply Nexts.of | apply State.regCmd_keeps | apply State.writeReg_keeps | with_unfolding_all rfl
theorem State.refreshPair_keeps  {s0 s : State} (h0 : Keeps may kp s0 s) (n e : Nat) : Keeps may kp s0 (State.refreshPair s n e) := by
  unfold State.refreshPair
  repeat' with_reducible first | assumption | apply State.setB_keeps | apply State.bump_keeps | apply State.setPair_keeps | apply State.ledger_keeps | apply Keeps.ite | split | apply Keeps.mk | with_unfolding_all rfl
theorem State.dpdRefreshEnd_keeps  {s0 s : State} (h0 : Keeps may kp s0 s) : Keeps may kp s0 (State.dpdRefreshEnd s) := by
  unfold State.dpdRefreshEnd
  repeat' with_reducible first | assumption | apply State.refreshPair_keeps | apply Keeps.ite | apply Keeps.foldl | split | intro t a ht | with_unfolding_all rfl
theorem execDpdRefreshEnd_keeps  {s0 s : State} (h0 : Keeps may kp s0 s) : Nexts (execDpdRefreshEnd s) (Keeps may kp s0) := by
  unfold execDpdRefreshEnd
  repeat' with_reducible first | assumption | apply Nexts.of | apply State.core_keeps | apply State.dpdRefreshEnd_keeps | with_unfolding_all rfl

/-! Radio -/

theorem State.relockStart_keeps  {s0 s : State} (h0 : Keeps may kp s0 s) (m : Nat) : Keeps may kp s0 (State.relockStart s m) := by
  unfold State.relockStart
  repeat' with_reducible first | assumption | apply State.setF_keeps | apply State.setSynth_keeps | apply Keeps.mk | with_unfolding_all rfl
theorem State.loFrequencyWrite_keeps  {s0 s : State} (h0 : Keeps may kp s0 s) (m v : Nat) : Keeps may kp s0 (State.loFrequencyWrite s m v) := by
  unfold State.loFrequencyWrite
  repeat' with_reducible first | assumption | apply State.setF_keeps | apply State.ledger_keeps | apply State.discarded_keeps | apply State.relockStart_keeps | apply Keeps.ite | split | with_unfolding_all rfl
theorem execLoFrequencyWrite_keeps  {s0 s : State} (h0 : Keeps may kp s0 s) (m : Fin 4) (w : Word) : Nexts (execLoFrequencyWrite m w s) (Keeps may kp s0) := by
  unfold execLoFrequencyWrite
  repeat' with_reducible first | assumption | apply Nexts.of | apply State.regCmd_keeps | apply State.loFrequencyWrite_keeps | with_unfolding_all rfl
theorem State.tryLeaveOff_keeps  {s0 s : State} (h0 : Keeps may kp s0 s) (t : Nat) : Keeps may kp s0 (State.tryLeaveOff s t) := by
  unfold State.tryLeaveOff
  repeat' with_reducible first | assumption | apply State.setTile_keeps | apply Keeps.ite | split | apply Keeps.mk | with_unfolding_all rfl
theorem State.pairTiles_keeps  {s0 s : State} (h0 : Keeps may kp s0 s) (g : Nat) : Keeps may kp s0 (State.pairTiles s g) := by
  unfold State.pairTiles
  repeat' with_reducible first | assumption | apply State.tryLeaveOff_keeps | apply Keeps.foldl | intro t a ht | with_unfolding_all rfl
theorem State.synthEnableWrite_keeps  {s0 s : State} (h0 : Keeps may kp s0 s) (m v : Nat) : Keeps may kp s0 (State.synthEnableWrite s m v) := by
  unfold State.synthEnableWrite
  repeat' with_reducible first | assumption | apply State.setF_keeps | apply State.setSynth_keeps | apply State.writeReg_keeps | apply State.relockStart_keeps | apply State.pairTiles_keeps | apply Keeps.ite | split | apply Keeps.mk | with_unfolding_all rfl
theorem execSynthEnableWrite_keeps  {s0 s : State} (h0 : Keeps may kp s0 s) (m : Fin 4) (w : Word) : Nexts (execSynthEnableWrite m w s) (Keeps may kp s0) := by
  unfold execSynthEnableWrite
  repeat' with_reducible first | assumption | apply Nexts.of | apply State.regCmd_keeps | apply State.synthEnableWrite_keeps | with_unfolding_all rfl
theorem State.oscTick_keeps  {s0 s : State} (h0 : Keeps may kp s0 s) (m : Nat) : Keeps may kp s0 (State.oscTick s m) := by
  unfold State.oscTick
  repeat' with_reducible first | assumption | apply State.setF_keeps | apply Keeps.ite | split | with_unfolding_all rfl
theorem State.synthLock_keeps  {s0 s : State} (h0 : Keeps anyAddr kp s0 s) (m : Nat) : Keeps anyAddr kp s0 (State.synthLock s m) := by
  unfold State.synthLock
  repeat' with_reducible first | assumption | apply State.setF_keeps | apply State.setSynth_keeps | apply State.mirAbort_keeps | apply State.mirTrigger_keeps | apply Keeps.ite | split | apply Keeps.mk | with_unfolding_all rfl
theorem execSynthLock_keeps  {s0 s : State} (h0 : Keeps anyAddr kp s0 s) (m : Fin 4) : Nexts (execSynthLock m s) (Keeps anyAddr kp s0) := by
  unfold execSynthLock
  repeat' with_reducible first | assumption | apply Nexts.of | apply State.core_keeps | apply State.synthLock_keeps | with_unfolding_all rfl
theorem State.hopArm_keeps  {s0 s : State} (h0 : Keeps may kp s0 s) (g v : Nat) : Keeps may kp s0 (State.hopArm s g v) := by
  unfold State.hopArm
  repeat' with_reducible first | assumption | apply State.setF_keeps | apply State.writeSkip_keeps | apply descOf_safe | apply Keeps.ite | split | apply Keeps.mk | with_unfolding_all rfl
theorem execHopArm_keeps  {s0 s : State} (h0 : Keeps may kp s0 s) (g : Fin 2) (w : Word) : Nexts (execHopArm g w s) (Keeps may kp s0) := by
  unfold execHopArm
  repeat' with_reducible first | assumption | apply Nexts.of | apply State.regCmd_keeps | apply State.hopArm_keeps | with_unfolding_all rfl
theorem State.hopLand_keeps  {s0 s : State} (h0 : Keeps anyAddr kp s0 s) (g : Nat) : Keeps anyAddr kp s0 (State.hopLand s g) := by
  unfold State.hopLand
  repeat' with_reducible first | assumption | apply State.setF_keeps | apply State.bump_keeps | apply State.mirAbort_keeps | apply State.mirTrigger_keeps | apply State.pairTiles_keeps | apply Keeps.ite | split | with_unfolding_all rfl
theorem execHopLand_keeps  {s0 s : State} (h0 : Keeps anyAddr kp s0 s) (g : Fin 2) : Nexts (execHopLand g s) (Keeps anyAddr kp s0) := by
  unfold execHopLand
  repeat' with_reducible first | assumption | apply Nexts.of | apply State.core_keeps | apply State.hopLand_keeps | with_unfolding_all rfl
theorem State.rxOff_keeps  {s0 s : State} (h0 : Keeps may kp s0 s) (t : Nat) : Keeps may kp s0 (State.rxOff s t) := by
  unfold State.rxOff
  repeat' with_reducible first | assumption | apply State.setF_keeps | apply State.setTile_keeps | apply Keeps.ite | apply Keeps.foldl | split | intro t a ht | apply Keeps.mk | with_unfolding_all rfl
theorem State.startTx_keeps  {s0 s : State} (h0 : Keeps may kp s0 s) (t : Nat) : Keeps may kp s0 (State.startTx s t) := by
  unfold State.startTx
  repeat' with_reducible first | assumption | apply State.setF_keeps | apply Keeps.ite | split | apply Keeps.mk | with_unfolding_all rfl
theorem State.startRx_keeps  {s0 s : State} (h0 : Keeps may kp s0 s) (t : Nat) : Keeps may kp s0 (State.startRx s t) := by
  unfold State.startRx
  repeat' with_reducible first | assumption | apply State.setF_keeps | apply Keeps.ite | split | apply Keeps.mk | with_unfolding_all rfl
theorem State.startHalves_keeps  {s0 s : State} (h0 : Keeps may kp s0 s) (t : Nat) : Keeps may kp s0 (State.startHalves s t) := by
  unfold State.startHalves
  repeat' with_reducible first | assumption | apply State.startTx_keeps | apply State.startRx_keeps | with_unfolding_all rfl
theorem State.bgTry_keeps  {s0 s : State} (h0 : Keeps may kp s0 s) (t : Nat) : Keeps may kp s0 (State.bgTry s t) := by
  unfold State.bgTry
  repeat' with_reducible first | assumption | apply State.setF_keeps | apply State.setTile_keeps | apply Keeps.ite | split | apply Keeps.mk | with_unfolding_all rfl
theorem State.bgCut_keeps  {s0 s : State} (h0 : Keeps may kp s0 s) (t : Nat) : Keeps may kp s0 (State.bgCut s t) := by
  unfold State.bgCut
  repeat' with_reducible first | assumption | apply State.setF_keeps | apply State.setTile_keeps | apply Keeps.ite | split | apply Keeps.mk | with_unfolding_all rfl
theorem State.tryGoOff_keeps  {s0 s : State} (h0 : Keeps may kp s0 s) (t : Nat) : Keeps may kp s0 (State.tryGoOff s t) := by
  unfold State.tryGoOff
  repeat' with_reducible first | assumption | apply State.setTile_keeps | apply State.bgCut_keeps | apply Keeps.ite | split | apply Keeps.mk | with_unfolding_all rfl
theorem State.autoReturn_keeps  {s0 s : State} (h0 : Keeps may kp s0 s) (t : Nat) : Keeps may kp s0 (State.autoReturn s t) := by
  unfold State.autoReturn
  repeat' with_reducible first | assumption | apply State.setTile_keeps | apply State.setF_keeps | apply State.rxOff_keeps | apply State.tryGoOff_keeps | apply Keeps.ite | split | with_unfolding_all rfl
theorem State.tileSettle_keeps  {s0 s : State} (h0 : Keeps may kp s0 s) (t : Nat) : Keeps may kp s0 (State.tileSettle s t) := by
  unfold State.tileSettle
  repeat' with_reducible first | assumption | apply State.bgTry_keeps | apply State.autoReturn_keeps | apply State.startHalves_keeps | with_unfolding_all rfl
theorem State.turnTick_keeps  {s0 s : State} (h0 : Keeps may kp s0 s) (t : Nat) : Keeps may kp s0 (State.turnTick s t) := by
  unfold State.turnTick
  repeat' with_reducible first | assumption | apply State.rxOff_keeps | apply State.startTx_keeps | apply Keeps.ite | with_unfolding_all rfl
theorem State.tileEnable_keeps  {s0 s : State} (h0 : Keeps may kp s0 s) (t v : Nat) : Keeps may kp s0 (State.tileEnable s t v) := by
  unfold State.tileEnable
  repeat' with_reducible first | assumption | apply State.setF_keeps | apply State.setTile_keeps | apply State.discarded_keeps | apply State.applyFields_keeps | apply State.tryLeaveOff_keeps | apply State.bgTry_keeps | apply descOf_safe | apply Keeps.ite | split | apply Keeps.mk | with_unfolding_all rfl
theorem execTileEnable_keeps  {s0 s : State} (h0 : Keeps may kp s0 s) (t : Fin 16) (w : Word) : Nexts (execTileEnable t w s) (Keeps may kp s0) := by
  unfold execTileEnable
  repeat' with_reducible first | assumption | apply Nexts.of | apply State.regCmd_keeps | apply State.tileEnable_keeps | with_unfolding_all rfl
theorem State.tileDisable_keeps  {s0 s : State} (h0 : Keeps may kp s0 s) (t v : Nat) : Keeps may kp s0 (State.tileDisable s t v) := by
  unfold State.tileDisable
  repeat' with_reducible first | assumption | apply State.setF_keeps | apply State.flushShadow_keeps | apply State.setTile_keeps | apply State.writeReg_keeps | apply State.zsHoldTile_keeps | apply State.tryLeaveOff_keeps | apply State.rxOff_keeps | apply State.bgCut_keeps | apply State.tryGoOff_keeps | apply Keeps.ite | split | apply Keeps.mk | with_unfolding_all rfl
theorem execTileDisable_keeps  {s0 s : State} (h0 : Keeps may kp s0 s) (t : Fin 16) (w : Word) : Nexts (execTileDisable t w s) (Keeps may kp s0) := by
  unfold execTileDisable
  repeat' with_reducible first | assumption | apply Nexts.of | apply State.regCmd_keeps | apply State.tileDisable_keeps | with_unfolding_all rfl
theorem State.tileIdleReached_keeps  {s0 s : State} (h0 : Keeps may kp s0 s) (t : Nat) : Keeps may kp s0 (State.tileIdleReached s t) := by
  unfold State.tileIdleReached
  repeat' with_reducible first | assumption | apply State.startHalves_keeps | apply State.bgTry_keeps | apply State.setF_keeps | apply State.setTile_keeps | apply State.tileSettle_keeps | apply Keeps.ite | split | apply Keeps.mk | with_unfolding_all rfl
theorem execTileIdleReached_keeps  {s0 s : State} (h0 : Keeps may kp s0 s) (t : Fin 16) : Nexts (execTileIdleReached t s) (Keeps may kp s0) := by
  unfold execTileIdleReached
  repeat' with_reducible first | assumption | apply Nexts.of | apply State.core_keeps | apply State.tileIdleReached_keeps | with_unfolding_all rfl
theorem State.tileOffReached_keeps  {s0 s : State} (h0 : Keeps may kp s0 s) (t : Nat) : Keeps may kp s0 (State.tileOffReached s t) := by
  unfold State.tileOffReached
  repeat' with_reducible first | assumption | apply State.setF_keeps | apply State.setTile_keeps | apply State.tryLeaveOff_keeps | apply Keeps.ite | split | apply Keeps.mk | with_unfolding_all rfl
theorem execTileOffReached_keeps  {s0 s : State} (h0 : Keeps may kp s0 s) (t : Fin 16) : Nexts (execTileOffReached t s) (Keeps may kp s0) := by
  unfold execTileOffReached
  repeat' with_reducible first | assumption | apply Nexts.of | apply State.core_keeps | apply State.tileOffReached_keeps | with_unfolding_all rfl
theorem State.burstRequest_keeps  {s0 s : State} (h0 : Keeps may kp s0 s) (t len : Nat) : Keeps may kp s0 (State.burstRequest s t len) := by
  unfold State.burstRequest
  repeat' with_reducible first | assumption | apply State.bump_keeps | apply State.setTile_keeps | apply State.ledger_keeps | apply State.zsHoldTile_keeps | apply State.tryLeaveOff_keeps | apply State.startTx_keeps | apply Keeps.ite | split | apply Keeps.mk | with_unfolding_all rfl
theorem execBurstRequest_keeps  {s0 s : State} (h0 : Keeps may kp s0 s) (t : Fin 16) (len : Nat) : Nexts (execBurstRequest t len s) (Keeps may kp s0) := by
  unfold execBurstRequest
  repeat' with_reducible first | assumption | apply Nexts.of | apply State.core_keeps | apply State.burstRequest_keeps | with_unfolding_all rfl
theorem State.rxRunRequest_keeps  {s0 s : State} (h0 : Keeps may kp s0 s) (t len : Nat) : Keeps may kp s0 (State.rxRunRequest s t len) := by
  unfold State.rxRunRequest
  repeat' with_reducible first | assumption | apply State.bump_keeps | apply State.setTile_keeps | apply State.ledger_keeps | apply State.tryLeaveOff_keeps | apply State.startRx_keeps | apply Keeps.ite | split | apply Keeps.mk | with_unfolding_all rfl
theorem execRxRunRequest_keeps  {s0 s : State} (h0 : Keeps may kp s0 s) (t : Fin 16) (len : Nat) : Nexts (execRxRunRequest t len s) (Keeps may kp s0) := by
  unfold execRxRunRequest
  repeat' with_reducible first | assumption | apply Nexts.of | apply State.core_keeps | apply State.rxRunRequest_keeps | with_unfolding_all rfl
theorem State.txHalfOn_keeps  {s0 s : State} (h0 : Keeps may kp s0 s) (t : Nat) : Keeps may kp s0 (State.txHalfOn s t) := by
  unfold State.txHalfOn
  repeat' with_reducible first | assumption | apply State.setF_keeps | apply Keeps.ite | split | with_unfolding_all rfl
theorem execTxHalfOn_keeps  {s0 s : State} (h0 : Keeps may kp s0 s) (t : Fin 16) : Nexts (execTxHalfOn t s) (Keeps may kp s0) := by
  unfold execTxHalfOn
  repeat' with_reducible first | assumption | apply Nexts.of | apply State.core_keeps | apply State.txHalfOn_keeps | with_unfolding_all rfl
theorem State.txHalfOff_keeps  {s0 s : State} (h0 : Keeps may kp s0 s) (t : Nat) : Keeps may kp s0 (State.txHalfOff s t) := by
  unfold State.txHalfOff
  repeat' with_reducible first | assumption | apply State.tileSettle_keeps | apply State.setF_keeps | apply State.startHalves_keeps | apply State.bgTry_keeps | apply State.tryGoOff_keeps | apply Keeps.ite | split | with_unfolding_all rfl
theorem execTxHalfOff_keeps  {s0 s : State} (h0 : Keeps may kp s0 s) (t : Fin 16) : Nexts (execTxHalfOff t s) (Keeps may kp s0) := by
  unfold execTxHalfOff
  repeat' with_reducible first | assumption | apply Nexts.of | apply State.core_keeps | apply State.txHalfOff_keeps | with_unfolding_all rfl
theorem State.rxHalfOn_keeps  {s0 s : State} (h0 : Keeps may kp s0 s) (t : Nat) : Keeps may kp s0 (State.rxHalfOn s t) := by
  unfold State.rxHalfOn
  repeat' with_reducible first | assumption | apply State.setF_keeps | apply Keeps.ite | split | with_unfolding_all rfl
theorem execRxHalfOn_keeps  {s0 s : State} (h0 : Keeps may kp s0 s) (t : Fin 16) : Nexts (execRxHalfOn t s) (Keeps may kp s0) := by
  unfold execRxHalfOn
  repeat' with_reducible first | assumption | apply Nexts.of | apply State.core_keeps | apply State.rxHalfOn_keeps | with_unfolding_all rfl
theorem State.gpioSet_keeps  {s0 s : State} (h0 : Keeps may kp s0 s) (t : Nat) (fn : GpioFunc) : Keeps may kp s0 (State.gpioSet s t fn) := by
  unfold State.gpioSet
  repeat' with_reducible first | assumption | apply State.setTile_keeps | apply Keeps.ite | split | apply Keeps.mk | with_unfolding_all rfl
theorem State.gpioTick_keeps  {s0 s : State} (h0 : Keeps may kp s0 s) (t : Nat) : Keeps may kp s0 (State.gpioTick s t) := by
  unfold State.gpioTick
  repeat' with_reducible first | assumption | apply State.gpioSet_keeps | with_unfolding_all rfl
theorem State.gpioEdge_keeps  {s0 s : State} (h0 : Keeps may kp s0 s) (t : Nat) (fn : GpioFunc) (level : Bool) : Keeps may kp s0 (State.gpioEdge s t fn level) := by
  unfold State.gpioEdge
  repeat' with_reducible first | assumption | apply State.setTile_keeps | apply State.gpioSet_keeps | apply Keeps.ite | split | with_unfolding_all rfl
theorem execGpioEdge_keeps  {s0 s : State} (h0 : Keeps may kp s0 s) (t : Fin 16) (fn : GpioFunc) (level : Bool) : Nexts (execGpioEdge t fn level s) (Keeps may kp s0) := by
  unfold execGpioEdge
  repeat' with_reducible first | assumption | apply Nexts.of | apply State.core_keeps | apply State.gpioEdge_keeps | with_unfolding_all rfl
theorem State.calRequest_keeps  {s0 s : State} (h0 : Keeps may kp s0 s) (t v : Nat) : Keeps may kp s0 (State.calRequest s t v) := by
  unfold State.calRequest
  repeat' with_reducible first | assumption | apply State.setTile_keeps | apply State.writeReg_keeps | apply Keeps.ite | split | apply Keeps.mk | with_unfolding_all rfl
theorem execCalRequest_keeps  {s0 s : State} (h0 : Keeps may kp s0 s) (t : Fin 16) (w : Word) : Nexts (execCalRequest t w s) (Keeps may kp s0) := by
  unfold execCalRequest
  repeat' with_reducible first | assumption | apply Nexts.of | apply State.regCmd_keeps | apply State.calRequest_keeps | with_unfolding_all rfl
theorem State.calLeave_keeps  {s0 s : State} (h0 : Keeps may kp s0 s) (t : Nat) : Keeps may kp s0 (State.calLeave s t) := by
  unfold State.calLeave
  repeat' with_reducible first | assumption | apply State.tileSettle_keeps | apply State.setF_keeps | apply State.setTile_keeps | apply State.startHalves_keeps | apply Keeps.mk | with_unfolding_all rfl
theorem State.calDone_keeps  {s0 s : State} (h0 : Keeps may kp s0 s) (t k : Nat) : Keeps may kp s0 (State.calDone s t k) := by
  unfold State.calDone
  repeat' with_reducible first | assumption | apply State.clrB_keeps | apply Keeps.ite | split | with_unfolding_all rfl
theorem State.calFail_keeps  {s0 s : State} (h0 : Keeps may kp s0 s) (t k : Nat) : Keeps may kp s0 (State.calFail s t k) := by
  unfold State.calFail
  repeat' with_reducible first | assumption | apply State.setB_keeps | apply State.ledger_keeps | with_unfolding_all rfl
theorem State.calNext_keeps  {s0 s : State} (h0 : Keeps may kp s0 s) (t : Nat) (n : Nat) : Keeps may kp s0 (State.calNext s t n) := by
  induction n generalizing s t with
  | zero =>
    unfold State.calNext
    repeat' with_reducible first | assumption | apply State.setF_keeps | apply State.setTile_keeps | apply State.calLeave_keeps | apply State.calDone_keeps | apply State.calFail_keeps | apply Keeps.ite | split | apply Keeps.mk | with_unfolding_all rfl
  | succ n ih =>
    unfold State.calNext
    repeat' with_reducible first | assumption | apply ih | apply State.setF_keeps | apply State.setTile_keeps | apply State.calLeave_keeps | apply State.calDone_keeps | apply State.calFail_keeps | apply Keeps.ite | split | apply Keeps.mk | with_unfolding_all rfl
theorem State.calStart_keeps  {s0 s : State} (h0 : Keeps may kp s0 s) (t : Nat) : Keeps may kp s0 (State.calStart s t) := by
  unfold State.calStart
  repeat' with_reducible first | assumption | apply State.setF_keeps | apply State.setTile_keeps | apply State.calNext_keeps | apply Keeps.ite | split | apply Keeps.mk | with_unfolding_all rfl
theorem execCalStart_keeps  {s0 s : State} (h0 : Keeps may kp s0 s) (t : Fin 16) : Nexts (execCalStart t s) (Keeps may kp s0) := by
  unfold execCalStart
  repeat' with_reducible first | assumption | apply Nexts.of | apply State.core_keeps | apply State.calStart_keeps | with_unfolding_all rfl
theorem State.calEnd_keeps  {s0 s : State} (h0 : Keeps may kp s0 s) (t : Nat) (r : CalResult) : Keeps may kp s0 (State.calEnd s t r) := by
  unfold State.calEnd
  repeat' with_reducible first | assumption | apply State.calDone_keeps | apply State.calFail_keeps | apply State.calNext_keeps | apply Keeps.ite | split | apply Keeps.mk | with_unfolding_all rfl
theorem execCalEnd_keeps  {s0 s : State} (h0 : Keeps may kp s0 s) (t : Fin 16) (r : CalResult) : Nexts (execCalEnd t r s) (Keeps may kp s0) := by
  unfold execCalEnd
  repeat' with_reducible first | assumption | apply Nexts.of | apply State.core_keeps | apply State.calEnd_keeps | with_unfolding_all rfl
theorem State.bgPassTimer_keeps  {s0 s : State} (h0 : Keeps may kp s0 s) (t : Nat) : Keeps may kp s0 (State.bgPassTimer s t) := by
  unfold State.bgPassTimer
  repeat' with_reducible first | assumption | apply State.setTile_keeps | apply State.bgTry_keeps | apply Keeps.ite | split | apply Keeps.mk | with_unfolding_all rfl
theorem execBgPassTimer_keeps  {s0 s : State} (h0 : Keeps may kp s0 s) (t : Fin 16) : Nexts (execBgPassTimer t s) (Keeps may kp s0) := by
  unfold execBgPassTimer
  repeat' with_reducible first | assumption | apply Nexts.of | apply State.core_keeps | apply State.bgPassTimer_keeps | with_unfolding_all rfl
theorem State.bgCalStep_keeps  {s0 s : State} (h0 : Keeps may kp s0 s) (t : Nat) (r : CalResult) : Keeps may kp s0 (State.bgCalStep s t r) := by
  unfold State.bgCalStep
  repeat' with_reducible first | assumption | apply State.startHalves_keeps | apply State.bgTry_keeps | apply State.setF_keeps | apply State.setTile_keeps | apply State.tileSettle_keeps | apply State.calFail_keeps | apply Keeps.ite | split | apply Keeps.mk | with_unfolding_all rfl
theorem execBgCalStep_keeps  {s0 s : State} (h0 : Keeps may kp s0 s) (t : Fin 16) (r : CalResult) : Nexts (execBgCalStep t r s) (Keeps may kp s0) := by
  unfold execBgCalStep
  repeat' with_reducible first | assumption | apply Nexts.of | apply State.core_keeps | apply State.bgCalStep_keeps | with_unfolding_all rfl
theorem State.dutyReached_keeps  {s0 s : State} (h0 : Keeps may kp s0 s) (t : Nat) : Keeps may kp s0 (State.dutyReached s t) := by
  unfold State.dutyReached
  repeat' with_reducible first | assumption | apply State.setF_keeps | apply State.bump_keeps | apply State.setTile_keeps | apply State.ledger_keeps | apply State.zsHoldTile_keeps | apply Keeps.ite | split | apply Keeps.mk | with_unfolding_all rfl
theorem execDutyLimit_keeps  {s0 s : State} (h0 : Keeps may kp s0 s) (t : Fin 16) : Nexts (execDutyLimit t s) (Keeps may kp s0) := by
  unfold execDutyLimit
  repeat' with_reducible first | assumption | apply Nexts.of | apply State.core_keeps | apply State.dutyReached_keeps | with_unfolding_all rfl
theorem State.dutySliceEnd_keeps  {s0 s : State} (h0 : Keeps may kp s0 s) (t : Nat) : Keeps may kp s0 (State.dutySliceEnd s t) := by
  unfold State.dutySliceEnd
  repeat' with_reducible first | assumption | apply State.setF_keeps | apply State.setTile_keeps | apply Keeps.ite | split | apply Keeps.mk | with_unfolding_all rfl
theorem execDutySliceEnd_keeps  {s0 s : State} (h0 : Keeps may kp s0 s) (t : Fin 16) : Nexts (execDutySliceEnd t s) (Keeps may kp s0) := by
  unfold execDutySliceEnd
  repeat' with_reducible first | assumption | apply Nexts.of | apply State.core_keeps | apply State.dutySliceEnd_keeps | with_unfolding_all rfl
theorem State.dutyTick_keeps  {s0 s : State} (h0 : Keeps may kp s0 s) (t : Nat) : Keeps may kp s0 (State.dutyTick s t) := by
  unfold State.dutyTick
  repeat' with_reducible first | assumption | apply State.setF_keeps | apply State.setTile_keeps | apply Keeps.ite | split | apply Keeps.mk | with_unfolding_all rfl
theorem State.blowReg_keeps  {s0 s : State} (h0 : Keeps may kp s0 s) (b : Nat) : Keeps may kp s0 (State.blowReg s b) := by
  unfold State.blowReg
  repeat' with_reducible first | assumption | apply State.setF_keeps | apply State.setB_keeps | apply Keeps.ite | split | with_unfolding_all rfl
theorem State.fuseProgram_keeps  {s0 s : State} (h0 : Keeps may kp s0 s) (v : Nat) : Keeps may kp s0 (State.fuseProgram s v) := by
  unfold State.fuseProgram
  repeat' with_reducible first | assumption | apply State.setF_keeps | apply State.writeReg_keeps | apply Keeps.ite | split | apply Keeps.mk | with_unfolding_all rfl
theorem execFuseProgram_keeps  {s0 s : State} (h0 : Keeps may kp s0 s) (w : Word) : Nexts (execFuseProgram w s) (Keeps may kp s0) := by
  unfold execFuseProgram
  repeat' with_reducible first | assumption | apply Nexts.of | apply State.regCmd_keeps | apply State.fuseProgram_keeps | with_unfolding_all rfl

/-! Boundary -/

theorem State.dutyRelease_keeps  {s0 s : State} (h0 : Keeps may kp s0 s) (t : Nat) : Keeps may kp s0 (State.dutyRelease s t) := by
  unfold State.dutyRelease
  repeat' with_reducible first | assumption | apply State.setF_keeps | apply State.zsEndTile_keeps | apply Keeps.ite | split | with_unfolding_all rfl
theorem State.burstEnd_keeps  {s0 s : State} (h0 : Keeps may kp s0 s) (t : Nat) : Keeps may kp s0 (State.burstEnd s t) := by
  unfold State.burstEnd
  repeat' with_reducible first | assumption | apply State.setF_keeps | apply State.setTile_keeps | apply State.zsHold_keeps | apply State.zsHoldTile_keeps | apply State.zsEndTile_keeps | apply Keeps.ite | apply Keeps.foldl | split | intro t a ht | apply Keeps.mk | with_unfolding_all rfl
theorem State.burstCheck_keeps  {s0 s : State} (h0 : Keeps may kp s0 s) (t : Nat) (b : Burst) : Keeps may kp s0 (State.burstCheck s t b) := by
  unfold State.burstCheck
  repeat' with_reducible first | assumption | apply State.bump_keeps | apply State.setTile_keeps | apply State.ledger_keeps | apply State.zsHoldTile_keeps | apply State.zsEndTile_keeps | apply Keeps.ite | split | apply Keeps.mk | with_unfolding_all rfl
theorem State.burstSymbol_keeps  {s0 s : State} (h0 : Keeps may kp s0 s) (t : Nat) : Keeps may kp s0 (State.burstSymbol s t) := by
  unfold State.burstSymbol
  repeat' with_reducible first | assumption | apply State.zsEnd_keeps | apply State.burstCheck_keeps | apply Keeps.ite | apply Keeps.foldl | split | intro t a ht | apply Keeps.mk | with_unfolding_all rfl
theorem State.runEnd_keeps  {s0 s : State} (h0 : Keeps may kp s0 s) (t : Nat) : Keeps may kp s0 (State.runEnd s t) := by
  unfold State.runEnd
  repeat' with_reducible first | assumption | apply State.setTile_keeps | apply State.rxOff_keeps | apply Keeps.ite | split | apply Keeps.mk | with_unfolding_all rfl
theorem State.gateSymbol_keeps  {s0 s : State} (h0 : Keeps may kp s0 s) (t : Nat) : Keeps may kp s0 (State.gateSymbol s t) := by
  unfold State.gateSymbol
  repeat' with_reducible first | assumption | apply State.bump_keeps | apply State.setTxp_keeps | apply State.zsHold_keeps | apply State.zsEnd_keeps | apply Keeps.ite | apply Keeps.foldl | split | intro t a ht | apply Keeps.mk | with_unfolding_all rfl
theorem State.zsEndDue_keeps  {s0 s : State} (h0 : Keeps may kp s0 s) (n : Nat) : Keeps may kp s0 (State.zsEndDue s n) := by
  unfold State.zsEndDue
  repeat' with_reducible first | assumption | apply State.setTxp_keeps | apply State.zsEnd_keeps | apply Keeps.ite | split | apply Keeps.mk | with_unfolding_all rfl
theorem State.tileBoundary_keeps  {s0 s : State} (h0 : Keeps may kp s0 s) (t : Nat) : Keeps may kp s0 (State.tileBoundary s t) := by
  unfold State.tileBoundary
  repeat' with_reducible first | assumption | apply State.commitShadow_keeps | apply State.agcAir_keeps | apply State.startHalves_keeps | apply State.bgTry_keeps | apply State.autoReturn_keeps | apply State.dutyRelease_keeps | apply State.burstEnd_keeps | apply State.burstSymbol_keeps | apply State.runEnd_keeps | apply State.gateSymbol_keeps | apply State.zsEndDue_keeps | apply Keeps.ite | apply Keeps.foldl | split | intro t a ht | with_unfolding_all rfl
theorem execTileBoundary_keeps  {s0 s : State} (h0 : Keeps may kp s0 s) (t : Fin 16) : Nexts (execTileBoundary t s) (Keeps may kp s0) := by
  unfold execTileBoundary
  repeat' with_reducible first | assumption | apply Nexts.of | apply State.core_keeps | apply State.tileBoundary_keeps | with_unfolding_all rfl
theorem State.taggedStage_keeps  {s0 s : State} (h0 : Keeps may kp s0 s) (n g : Nat) : Keeps may kp s0 (State.taggedStage s n g) := by
  unfold State.taggedStage
  repeat' with_reducible first | assumption | apply State.setTxp_keeps | apply Keeps.mk | with_unfolding_all rfl
theorem execTaggedSampleStage_keeps  {s0 s : State} (h0 : Keeps may kp s0 s) (n : Fin 64) (g : Fin 10) : Nexts (execTaggedSampleStage n g s) (Keeps may kp s0) := by
  unfold execTaggedSampleStage
  repeat' with_reducible first | assumption | apply Nexts.of | apply State.core_keeps | apply State.taggedStage_keeps | with_unfolding_all rfl
theorem State.swapBanks_keeps  {s0 s : State} (h0 : Keeps may kp s0 s) (f : Nat) (zero : Bool) : Keeps may kp s0 (State.swapBanks s f zero) := by
  unfold State.swapBanks
  repeat' with_reducible first | assumption | apply State.setLayer_keeps | apply Keeps.ite | split | apply Keeps.mk | with_unfolding_all rfl
theorem State.prismTxBoundary_keeps  {s0 s : State} (h0 : Keeps may kp s0 s) (f : Nat) : Keeps may kp s0 (State.prismTxBoundary s f) := by
  unfold State.prismTxBoundary
  repeat' with_reducible first | assumption | apply State.layerOff_keeps | apply State.bump_keeps | apply State.commitShadow_keeps | apply State.setFlow_keeps | apply State.ledger_keeps | apply State.preloadBegin_keeps | apply State.landLen_keeps | apply State.flowStarted_keeps | apply State.swapBanks_keeps | apply Keeps.ite | split | apply Keeps.mk | with_unfolding_all rfl
theorem execPrismTxBoundary_keeps  {s0 s : State} (h0 : Keeps may kp s0 s) (f : Fin 512) : Nexts (execPrismTxBoundary f s) (Keeps may kp s0) := by
  unfold execPrismTxBoundary
  repeat' with_reducible first | assumption | apply Nexts.of | apply State.core_keeps | apply State.prismTxBoundary_keeps | with_unfolding_all rfl
theorem State.prismRxBoundary_keeps  {s0 s : State} (h0 : Keeps may kp s0 s) (f : Nat) : Keeps may kp s0 (State.prismRxBoundary s f) := by
  unfold State.prismRxBoundary
  repeat' with_reducible first | assumption | apply State.layerOff_keeps | apply State.bump_keeps | apply State.commitShadow_keeps | apply State.preloadBegin_keeps | apply State.landLen_keeps | apply State.swapBanks_keeps | apply Keeps.ite | split | with_unfolding_all rfl
theorem execPrismRxBoundary_keeps  {s0 s : State} (h0 : Keeps may kp s0 s) (f : Fin 512) : Nexts (execPrismRxBoundary f s) (Keeps may kp s0) := by
  unfold execPrismRxBoundary
  repeat' with_reducible first | assumption | apply Nexts.of | apply State.core_keeps | apply State.prismRxBoundary_keeps | with_unfolding_all rfl
theorem State.gateDecide_keeps  {s0 s : State} (h0 : Keeps may kp s0 s) (air : Nat) (n : Nat) : Keeps may kp s0 (State.gateDecide s air n) := by
  unfold State.gateDecide
  repeat' with_reducible first | assumption | apply State.setTxp_keeps | apply Keeps.mk | with_unfolding_all rfl
theorem State.preloadCutoff_keeps  {s0 s : State} (h0 : Keeps may kp s0 s) (f : Nat) : Keeps may kp s0 (State.preloadCutoff s f) := by
  unfold State.preloadCutoff
  repeat' with_reducible first | assumption | apply State.setLayer_keeps | apply State.gateDecide_keeps | apply Keeps.ite | apply Keeps.foldl | split | intro t a ht | apply Keeps.mk | with_unfolding_all rfl
theorem execPreloadCutoff_keeps  {s0 s : State} (h0 : Keeps may kp s0 s) (f : Fin 512) : Nexts (execPreloadCutoff f s) (Keeps may kp s0) := by
  unfold execPreloadCutoff
  repeat' with_reducible first | assumption | apply Nexts.of | apply State.core_keeps | apply State.preloadCutoff_keeps | with_unfolding_all rfl
theorem State.controlRange_keeps  {s0 s : State} (h0 : Keeps may kp s0 s) (f frame sym count : Nat) (entry : Option Nat) : Keeps may kp s0 (State.controlRange s f frame sym count entry) := by
  unfold State.controlRange
  repeat' with_reducible first | assumption | apply State.bump_keeps | apply State.rangeAccept_keeps | apply Keeps.ite | split | with_unfolding_all rfl
theorem execControlRangeAccept_keeps  {s0 s : State} (h0 : Keeps may kp s0 s) (f : Fin 512) (frame : Fin 1024) (sym : Fin 2048) (count : Fin 2048) (entry : Option (Fin 8192)) : Nexts (execControlRangeAccept f frame sym count entry s) (Keeps may kp s0) := by
  unfold execControlRangeAccept
  repeat' with_reducible first | assumption | apply Nexts.of | apply State.core_keeps | apply State.controlRange_keeps | with_unfolding_all rfl

/-! Mirror -/

theorem State.mirEnableWrite_keeps  {s0 s : State} (h0 : Keeps anyAddr kp s0 s) (v : Nat) : Keeps anyAddr kp s0 (State.mirEnableWrite s v) := by
  unfold State.mirEnableWrite
  repeat' with_reducible first | assumption | apply State.setF_keeps | apply State.flushShadow_keeps | apply State.discarded_keeps | apply State.applyFields_keeps | apply State.mirAbort_keeps | apply descOf_safe | apply Keeps.ite | split | apply Keeps.mk | with_unfolding_all rfl
theorem execMirEnableWrite_keeps  {s0 s : State} (h0 : Keeps anyAddr kp s0 s) (w : Word) : Nexts (execMirEnableWrite w s) (Keeps anyAddr kp s0) := by
  unfold execMirEnableWrite
  repeat' with_reducible first | assumption | apply Nexts.of | apply State.regCmd_keeps | apply State.mirEnableWrite_keeps | with_unfolding_all rfl
theorem State.mirStartWrite_keeps  {s0 s : State} (h0 : Keeps may kp s0 s) (v : Nat) : Keeps may kp s0 (State.mirStartWrite s v) := by
  unfold State.mirStartWrite
  repeat' with_reducible first | assumption | apply State.writeReg_keeps | apply Keeps.ite | split | apply Keeps.mk | with_unfolding_all rfl
theorem execMirStartWrite_keeps  {s0 s : State} (h0 : Keeps may kp s0 s) (w : Word) : Nexts (execMirStartWrite w s) (Keeps may kp s0) := by
  unfold execMirStartWrite
  repeat' with_reducible first | assumption | apply Nexts.of | apply State.regCmd_keeps | apply State.mirStartWrite_keeps | with_unfolding_all rfl
theorem State.mirRoundStart_keeps  {s0 s : State} (h0 : Keeps anyAddr kp s0 s) : Keeps anyAddr kp s0 (State.mirRoundStart s) := by
  unfold State.mirRoundStart
  repeat' with_reducible first | assumption | apply State.setF_keeps | apply State.bump_keeps | apply State.commitShadow_keeps | apply State.mirAbort_keeps | apply Keeps.ite | split | apply Keeps.mk | with_unfolding_all rfl
theorem execMirRoundStart_keeps  {s0 s : State} (h0 : Keeps anyAddr kp s0 s) : Nexts (execMirRoundStart s) (Keeps anyAddr kp s0) := by
  unfold execMirRoundStart
  repeat' with_reducible first | assumption | apply Nexts.of | apply State.core_keeps | apply State.mirRoundStart_keeps | with_unfolding_all rfl
theorem State.presentProbe_keeps  {s0 s : State} (h0 : Keeps may kp s0 s) (e a : Nat) (rcv : List Nat) : Keeps may kp s0 (State.presentProbe s e a rcv) := by
  unfold State.presentProbe
  repeat' with_reducible first | assumption | apply State.setTile_keeps | apply State.burstRequest_keeps | apply State.rxRunRequest_keeps | apply Keeps.ite | apply Keeps.foldl | split | intro t a ht | apply Keeps.mk | with_unfolding_all rfl
theorem State.mirProbe_keeps  {s0 s : State} (h0 : Keeps may kp s0 s) : Keeps may kp s0 (State.mirProbe s) := by
  unfold State.mirProbe
  repeat' with_reducible first | assumption | apply State.driveSel_keeps | apply State.fresh_keeps | apply State.setTile_keeps | apply State.burstRequest_keeps | apply State.rxRunRequest_keeps | apply State.setF_keeps | apply State.presentProbe_keeps | apply Keeps.ite | split | apply Keeps.mk | with_unfolding_all rfl
theorem execMirProbe_keeps  {s0 s : State} (h0 : Keeps may kp s0 s) : Nexts (execMirProbe s) (Keeps may kp s0) := by
  unfold execMirProbe
  repeat' with_reducible first | assumption | apply Nexts.of | apply State.core_keeps | apply State.mirProbe_keeps | with_unfolding_all rfl
theorem State.mirTick_keeps  {s0 s : State} (h0 : Keeps may kp s0 s) (y : Nat → List (Int × Int)) : Keeps may kp s0 (State.mirTick s y) := by
  unfold State.mirTick
  repeat' with_reducible first | assumption | apply Keeps.ite | apply Keeps.foldl | split | intro t a ht | apply Keeps.mk | with_unfolding_all rfl
theorem State.mirWindowEnd_keeps  {s0 s : State} (h0 : Keeps may kp s0 s) : Keeps may kp s0 (State.mirWindowEnd s) := by
  unfold State.mirWindowEnd
  repeat' with_reducible first | assumption | apply State.bumpBy_keeps | apply State.driveSel_keeps | apply Keeps.ite | split | apply Keeps.mk | with_unfolding_all rfl
theorem execMirCaptureWindowEnd_keeps  {s0 s : State} (h0 : Keeps may kp s0 s) (x y : Unit) : Nexts (execMirCaptureWindowEnd x y s) (Keeps may kp s0) := by
  unfold execMirCaptureWindowEnd
  repeat' with_reducible first | assumption | apply Nexts.of | apply State.core_keeps | apply State.mirWindowEnd_keeps | with_unfolding_all rfl
theorem State.mirRecord_keeps  {s0 s : State} (h0 : Keeps anyAddr kp s0 s) (p : Probe) (v : MirValue) : Keeps anyAddr kp s0 (State.mirRecord s p v) := by
  unfold State.mirRecord
  repeat' with_reducible first | assumption | apply State.writeWords_keeps | apply Keeps.ite | split | apply Keeps.mk | with_unfolding_all rfl
theorem State.mirRecords_keeps  {s0 s : State} (h0 : Keeps anyAddr kp s0 s) : Keeps anyAddr kp s0 (State.mirRecords s) := by
  unfold State.mirRecords
  repeat' with_reducible first | assumption | apply State.mirRecord_keeps | apply Keeps.ite | apply Keeps.foldl | split | intro t a ht | apply Keeps.mk | with_unfolding_all rfl
theorem execMirRecordsWrite_keeps  {s0 s : State} (h0 : Keeps anyAddr kp s0 s) (x : Unit) : Nexts (execMirRecordsWrite x s) (Keeps anyAddr kp s0) := by
  unfold execMirRecordsWrite
  repeat' with_reducible first | assumption | apply Nexts.of | apply State.core_keeps | apply State.mirRecords_keeps | with_unfolding_all rfl
theorem State.mirRoundEnd_keeps  {s0 s : State} (h0 : Keeps anyAddr kp s0 s) : Keeps anyAddr kp s0 (State.mirRoundEnd s) := by
  unfold State.mirRoundEnd
  repeat' with_reducible first | assumption | apply State.pulse_keeps | apply State.ledger_keeps | apply State.mirHeader_keeps | apply State.mirOver_keeps | apply Keeps.ite | split | with_unfolding_all rfl
theorem execMirRoundEnd_keeps  {s0 s : State} (h0 : Keeps anyAddr kp s0 s) : Nexts (execMirRoundEnd s) (Keeps anyAddr kp s0) := by
  unfold execMirRoundEnd
  repeat' with_reducible first | assumption | apply Nexts.of | apply State.core_keeps | apply State.mirRoundEnd_keeps | with_unfolding_all rfl
theorem State.mirOutcome_keeps  {s0 s : State} (h0 : Keeps may kp s0 s) (last r : Nat) : Keeps may kp s0 (State.mirOutcome s last r) := by
  unfold State.mirOutcome
  repeat' with_reducible first | assumption | apply State.setF_keeps | apply State.pulse_keeps | with_unfolding_all rfl
theorem State.mirSolve_keeps  {s0 s : State} (h0 : Keeps may kp s0 s) (v : Nat) : Keeps may kp s0 (State.mirSolve s v) := by
  unfold State.mirSolve
  repeat' with_reducible first | assumption | apply State.setF_keeps | apply State.bump_keeps | apply State.ledger_keeps | apply State.writeReg_keeps | apply State.mirOutcome_keeps | apply Keeps.ite | split | apply Keeps.mk | with_unfolding_all rfl
theorem execMirSolveGo_keeps  {s0 s : State} (h0 : Keeps may kp s0 s) (w : Word) : Nexts (execMirSolveGo w s) (Keeps may kp s0) := by
  unfold execMirSolveGo
  repeat' with_reducible first | assumption | apply Nexts.of | apply State.regCmd_keeps | apply State.mirSolve_keeps | with_unfolding_all rfl
theorem State.putCorr_keeps  {s0 s : State} (h0 : Keeps may kp s0 s) (l : List Nat) : Keeps may kp s0 (State.putCorr s l) := by
  unfold State.putCorr
  repeat' with_reducible first | assumption | apply State.setF_keeps | apply Keeps.foldl | intro t a ht | with_unfolding_all rfl
theorem State.mirCommitArm_keeps  {s0 s : State} (h0 : Keeps may kp s0 s) : Keeps may kp s0 (State.mirCommitArm s) := by
  unfold State.mirCommitArm
  repeat' with_reducible first | assumption | apply State.armCommit_keeps | apply State.mirLanded_keeps | apply State.putCorr_keeps | apply Keeps.ite | split | apply Keeps.mk | with_unfolding_all rfl
theorem execMirCommitArm_keeps  {s0 s : State} (h0 : Keeps may kp s0 s) : Nexts (execMirCommitArm s) (Keeps may kp s0) := by
  unfold execMirCommitArm
  repeat' with_reducible first | assumption | apply Nexts.of | apply State.core_keeps | apply State.mirCommitArm_keeps | with_unfolding_all rfl
theorem State.mirDrop_keeps  {s0 s : State} (h0 : Keeps may kp s0 s) : Keeps may kp s0 (State.mirDrop s) := by
  unfold State.mirDrop
  repeat' with_reducible first | assumption | apply State.setF_keeps | apply State.ledger_keeps | apply State.mirOutcome_keeps | apply Keeps.ite | split | apply Keeps.mk | with_unfolding_all rfl

/-! Domain -/

theorem State.resetFields_keeps  {s0 s : State} (h0 : Keeps may kp s0 s) (d : Nat) (keep : Nat → Bool) : Keeps may kp s0 (State.resetFields s d keep) := by
  unfold State.resetFields
  refine h0.dropRegs _ ?_
  have h : domainOf (sealKey / 32) = none := by decide +kernel
  show (domainOf (sealKey / 32) == some d && resetsWith sealKey && !keep (sealKey / 32)) = false
  rw [h]; rfl
theorem State.answer_keeps  {s0 s : State} (h0 : Keeps may kp s0 s) (ini code data : Nat) : Keeps may kp s0 (State.answer s ini code data) := by
  unfold State.answer
  repeat' with_reducible first | assumption | apply Keeps.mk | with_unfolding_all rfl
theorem State.dropWaiting_keeps  {s0 s : State} (h0 : Keeps may kp s0 s) (d : Nat) : Keeps may kp s0 (State.dropWaiting s d) := by
  unfold State.dropWaiting
  repeat' with_reducible first | assumption | apply State.bump_keeps | apply State.answer_keeps | apply Keeps.foldl | intro t a ht | apply Keeps.mk | with_unfolding_all rfl
theorem State.abandonTx_keeps  {s0 s : State} (h0 : Keeps may kp s0 s) (paths : List Nat) : Keeps may kp s0 (State.abandonTx s paths) := by
  unfold State.abandonTx
  repeat' with_reducible first | assumption | apply State.abandon_keeps | apply Keeps.ite | apply Keeps.foldl | split | intro t a ht | with_unfolding_all rfl
theorem State.inputLost_keeps  {s0 s : State} (h0 : Keeps may kp s0 s) (n : Nat) : Keeps may kp s0 (State.inputLost s n) := by
  unfold State.inputLost
  repeat' with_reducible first | assumption | apply State.setTxp_keeps | apply State.zsHold_keeps | apply State.inputMissing_keeps | apply Keeps.ite | split | apply Keeps.mk | with_unfolding_all rfl
theorem State.prismReset_keeps  {s0 s : State} (h0 : Keeps may kp s0 s) : Keeps may kp s0 (State.prismReset s) := by
  unfold State.prismReset
  repeat' with_reducible first | assumption | apply State.zsHold_keeps | apply State.formUsed_keeps | apply State.mirDrop_keeps | apply State.resetFields_keeps | apply State.abandonTx_keeps | apply State.inputLost_keeps | apply Keeps.foldl | intro t a ht | apply Keeps.mk | with_unfolding_all rfl
theorem State.dpdReset_keeps  {s0 s : State} (h0 : Keeps may kp s0 s) : Keeps may kp s0 (State.dpdReset s) := by
  unfold State.dpdReset
  repeat' with_reducible first | assumption | apply State.setTxp_keeps | apply State.zsHold_keeps | apply State.resetFields_keeps | apply State.abandonTx_keeps | apply Keeps.foldl | intro t a ht | apply Keeps.mk | with_unfolding_all rfl
theorem State.domainReset_keeps  {s0 s : State} (h0 : Keeps anyAddr kp s0 s) (d : Nat) : Keeps anyAddr kp s0 (State.domainReset s d) := by
  unfold State.domainReset
  repeat' with_reducible first | assumption | apply State.mirAbort_keeps | apply State.dmaReset_keeps | apply State.engReset_keeps | apply State.hkReset_keeps | apply State.mirDrop_keeps | apply State.resetFields_keeps | apply State.prismReset_keeps | apply State.dpdReset_keeps | apply Keeps.ite | split | apply Keeps.mk | with_unfolding_all rfl
theorem State.abandonEngine_keeps  {s0 s : State} (h0 : Keeps may kp s0 s) (d : Nat) : Keeps may kp s0 (State.abandonEngine s d) := by
  unfold State.abandonEngine
  repeat' with_reducible first | assumption | apply State.abandon_keeps | apply Keeps.ite | apply Keeps.foldl | split | intro t a ht | with_unfolding_all rfl
theorem State.domainGo_keeps  {s0 s : State} (h0 : Keeps anyAddr kp s0 s) (d ini : Nat) : Keeps anyAddr kp s0 (State.domainGo s d ini) := by
  unfold State.domainGo
  repeat' with_reducible first | assumption | apply State.setF_keeps | apply State.setB_keeps | apply State.ledger_keeps | apply State.dropWaiting_keeps | apply State.domainReset_keeps | apply State.abandonEngine_keeps | apply Keeps.ite | split | with_unfolding_all rfl
theorem State.domResetWrite_keeps  {s0 s : State} (h0 : Keeps anyAddr kp s0 s) (v ini : Nat) : Keeps anyAddr kp s0 (State.domResetWrite s v ini) := by
  unfold State.domResetWrite
  repeat' with_reducible first | assumption | apply State.writeReg_keeps | apply State.domainGo_keeps | apply Keeps.ite | split | refine Keeps.ledger ?_ _ (fun hx => hx) | apply Keeps.mk | with_unfolding_all rfl
theorem execDomainReset_keeps  {s0 s : State} (h0 : Keeps anyAddr kp s0 s) (w : Word) (ini : Initiator) : Nexts (execDomainReset w ini s) (Keeps anyAddr kp s0) := by
  unfold execDomainReset
  repeat' with_reducible first | assumption | apply Nexts.of | apply State.regCmd_keeps | apply State.domResetWrite_keeps | with_unfolding_all rfl
theorem State.domainDone_keeps  {s0 s : State} (h0 : Keeps may kp s0 s) (d : Nat) : Keeps may kp s0 (State.domainDone s d) := by
  unfold State.domainDone
  repeat' with_reducible first | assumption | apply State.setF_keeps | apply State.clrB_keeps | apply State.hkNext_keeps | apply Keeps.ite | apply Keeps.foldl | split | intro t a ht | apply Keeps.mk | with_unfolding_all rfl
theorem execDomainResetDone_keeps  {s0 s : State} (h0 : Keeps may kp s0 s) (d : Fin 21) : Nexts (execDomainResetDone d s) (Keeps may kp s0) := by
  unfold execDomainResetDone
  repeat' with_reducible first | assumption | apply Nexts.of | apply State.core_keeps | apply State.domainDone_keeps | with_unfolding_all rfl
theorem State.domainWaiting_keeps  {s0 s : State} (h0 : Keeps anyAddr kp s0 s) : Keeps anyAddr kp s0 (State.domainWaiting s) := by
  unfold State.domainWaiting
  repeat' with_reducible first | assumption | apply State.domainGo_keeps | apply Keeps.foldl | intro t a ht | refine Keeps.ledger ?_ _ (fun hx => hx) | apply Keeps.mk | with_unfolding_all rfl

end Sys2Proof.Machine
end

