-- ==== Sys2Proof/Laws/KeepsPower.lean ====
section
/-!
SUPPORT. Sys2Proof/Laws/KeepsPower.lean: every operation of power, clocks, event targets, the inbound link, faults and resets keeps the invariant, the queue and a set seal,
and memory but for what it stores.
-/
namespace Sys2Proof.Machine

variable {may : Nat → Bool} {kp : Bool}

/-! Wake -/

theorem State.refuse_keeps  {s0 s : State} (h0 : Keeps may kp s0 s) (action code sub : Nat) : Keeps may kp s0 (State.refuse s action code sub) := by
  unfold State.refuse
  repeat' with_reducible first | assumption | apply State.setF_keeps | apply State.bump_keeps | apply State.pulse_keeps | apply Keeps.ite | split | with_unfolding_all rfl
theorem State.showDiv_keeps  {s0 s : State} (h0 : Keeps may kp s0 s) : Keeps may kp s0 (State.showDiv s) := by
  unfold State.showDiv
  repeat' with_reducible first | assumption | apply State.setF_keeps | apply Keeps.ite | split | with_unfolding_all rfl
theorem undefinedRegs_wf {m : SMap Nat} (h : SMap.wf 0 m = true) (es : List (Nat × Nat)) :
    SMap.wf 0 (undefinedRegs m es) = true := by
  induction es with
  | nil => exact h
  | cons e es ih =>
    obtain ⟨k, v⟩ := e
    unfold undefinedRegs
    generalize fldOfKey k = o
    cases o with
    | none => exact ih
    | some x =>
      dsimp only
      split
      · exact ih
      · exact SMap.wf_set _ _ ih
theorem undefinedRegs_seal (m : SMap Nat) (es : List (Nat × Nat)) :
    SMap.get 0 (undefinedRegs m es) sealKey = SMap.get 0 m sealKey := by
  induction es with
  | nil => rfl
  | cons e es ih =>
    obtain ⟨k, v⟩ := e
    unfold undefinedRegs
    generalize fldOfKey k = o
    cases o with
    | none => exact ih
    | some x =>
      dsimp only
      split
      · exact ih
      · next hk =>
        have hne : sealKey ≠ k := fun e => hk (e ▸ (show keepsAo sealKey = true by decide +kernel))
        rw [SMap.get_set_ne _ _ _ hne]; exact ih
theorem State.undefine_keeps {s0 s : State} (h : Keeps may kp s0 s) : Keeps may kp s0 s.undefine := by
  refine ⟨h.queue, fun hi => ?_, fun a ha => h.mem a ha, fun hs hi hr => ?_⟩
  · have := h.inv hi
    simp only [State.inv, State.undefine, Bool.and_eq_true] at *
    exact ⟨⟨⟨⟨this.1.1.1.1, undefinedRegs_wf (SMap.wf_drop _ this.1.1.1.2) _⟩, this.1.1.2⟩, this.1.2⟩, this.2⟩
  · show SMap.get 0 (undefinedRegs (SMap.drop (fun k => !keepsAo k) s.regs) (Config.freeRegs s.free)) sealKey = 1
    rw [undefinedRegs_seal, SMap.get_drop _ _ _ _ (by with_unfolding_all rfl)]
    exact h.sealed hs hi hr
theorem State.onPlls_keeps  {s0 s : State} (h0 : Keeps may kp s0 s) : Keeps may kp s0 (State.onPlls s) := by
  unfold State.onPlls
  repeat' with_reducible first | assumption | apply State.setF_keeps | apply State.undefine_keeps | apply Keeps.ite | split | with_unfolding_all rfl
theorem State.switchClocks_keeps  {s0 s : State} (h0 : Keeps may kp s0 s) (l : Nat) : Keeps may kp s0 (State.switchClocks s l) := by
  unfold State.switchClocks
  repeat' with_reducible first | assumption | apply State.undefine_keeps | apply Keeps.ite | apply State.setF_keeps | apply State.showDiv_keeps | with_unfolding_all rfl
theorem State.writeVolt_keeps  {s0 s : State} (h0 : Keeps may kp s0 s) (l : Nat) : Keeps may kp s0 (State.writeVolt s l) := by
  unfold State.writeVolt
  repeat' with_reducible first | assumption | apply State.setF_keeps | apply Keeps.mk | with_unfolding_all rfl
theorem State.unsettle_keeps  {s0 s : State} (h0 : Keeps may kp s0 s) : Keeps may kp s0 (State.unsettle s) := by
  unfold State.unsettle
  repeat' with_reducible first | assumption | apply State.setF_keeps | apply Keeps.mk | with_unfolding_all rfl
theorem State.levelEnd_keeps  {s0 s : State} (h0 : Keeps may kp s0 s) : Keeps may kp s0 (State.levelEnd s) := by
  unfold State.levelEnd
  repeat' with_reducible first | assumption | apply State.setF_keeps | apply State.pulse_keeps | apply State.levelTo_keeps | apply Keeps.mk | with_unfolding_all rfl
theorem State.levelStart_keeps  {s0 s : State} (h0 : Keeps may kp s0 s) (l : Nat) : Keeps may kp s0 (State.levelStart s l) := by
  unfold State.levelStart
  repeat' with_reducible first | assumption | apply State.setF_keeps | apply State.levelTo_keeps | apply State.refuse_keeps | apply State.switchClocks_keeps | apply State.writeVolt_keeps | apply State.unsettle_keeps | apply State.levelEnd_keeps | apply Keeps.ite | split | apply Keeps.mk | with_unfolding_all rfl
theorem State.perfWrite_keeps  {s0 s : State} (h0 : Keeps may kp s0 s) (v : Nat) : Keeps may kp s0 (State.perfWrite s v) := by
  unfold State.perfWrite
  repeat' with_reducible first | assumption | apply State.writeReg_keeps | apply State.levelStart_keeps | apply Keeps.ite | split | apply Keeps.mk | with_unfolding_all rfl
theorem execPerfLevelRequest_keeps  {s0 s : State} (h0 : Keeps may kp s0 s) (w : Word) : Nexts (execPerfLevelRequest w s) (Keeps may kp s0) := by
  unfold execPerfLevelRequest
  repeat' with_reducible first | assumption | apply Nexts.of | apply State.regCmd_keeps | apply State.perfWrite_keeps | with_unfolding_all rfl
theorem State.afterEntry_keeps  {s0 s : State} (h0 : Keeps anyAddr kp s0 s) : Keeps anyAddr kp s0 (State.afterEntry s) := by
  unfold State.afterEntry
  repeat' with_reducible first | assumption | apply State.domainWaiting_keeps | apply State.levelStart_keeps | split | apply Keeps.mk | with_unfolding_all rfl
theorem State.avsReached_keeps  {s0 s : State} (h0 : Keeps may kp s0 s) : Keeps may kp s0 (State.avsReached s) := by
  unfold State.avsReached
  repeat' with_reducible first | assumption | apply State.levelTo_keeps | apply State.switchClocks_keeps | apply State.levelEnd_keeps | apply Keeps.ite | split | apply Keeps.mk | with_unfolding_all rfl
theorem execAvsTargetReached_keeps  {s0 s : State} (h0 : Keeps may kp s0 s) : Nexts (execAvsTargetReached s) (Keeps may kp s0) := by
  unfold execAvsTargetReached
  repeat' with_reducible first | assumption | apply Nexts.of | apply State.core_keeps | apply State.avsReached_keeps | with_unfolding_all rfl
theorem State.avsTimeout_keeps  {s0 s : State} (h0 : Keeps may kp s0 s) : Keeps may kp s0 (State.avsTimeout s) := by
  unfold State.avsTimeout
  repeat' with_reducible first | assumption | apply State.levelEnd_keeps | apply State.setF_keeps | apply State.levelTo_keeps | apply State.ledger_keeps | apply Keeps.ite | split | apply Keeps.mk | with_unfolding_all rfl
theorem execAvsTimeout_keeps  {s0 s : State} (h0 : Keeps may kp s0 s) : Nexts (execAvsTimeout s) (Keeps may kp s0) := by
  unfold execAvsTimeout
  repeat' with_reducible first | assumption | apply Nexts.of | apply State.core_keeps | apply State.avsTimeout_keeps | with_unfolding_all rfl
theorem State.avsBusError_keeps  {s0 s : State} (h0 : Keeps may kp s0 s) (rail : Nat) : Keeps may kp s0 (State.avsBusError s rail) := by
  unfold State.avsBusError
  repeat' with_reducible first | assumption | apply State.setF_keeps | apply State.pulse_keeps | apply State.ledger_keeps | apply Keeps.ite | split | with_unfolding_all rfl
theorem execAvsBusError_keeps  {s0 s : State} (h0 : Keeps may kp s0 s) (rail : Fin 16) : Nexts (execAvsBusError rail s) (Keeps may kp s0) := by
  unfold execAvsBusError
  repeat' with_reducible first | assumption | apply Nexts.of | apply State.core_keeps | apply State.avsBusError_keeps | with_unfolding_all rfl
theorem State.trimStep_to {s0 s : State} (h : Keeps may kp s0 s) {d : Int} {t : State} (he : s.trimStep d = some t) : Keeps may kp s0 t := by
  unfold State.trimStep at he
  dsimp only at he
  split at he
  · cases he
  · simp only [Option.some.injEq] at he
    rw [← he]
    repeat' with_reducible first | assumption | apply State.setF_keeps | apply Keeps.mk | with_unfolding_all rfl
theorem State.trimStep_keeps {s0 s t : State} (h : Keeps may kp s0 s) (d : Int) (he : s.trimStep d = some t) : Keeps may kp s0 t :=
  State.trimStep_to h he
theorem State.quietInterval_keeps  {s0 s : State} (h0 : Keeps may kp s0 s) : Keeps may kp s0 (State.quietInterval s) := by
  unfold State.quietInterval
  repeat' with_reducible first | assumption | apply State.setF_keeps | apply State.pulse_keeps | apply Keeps.ite | split | apply Keeps.mk | with_unfolding_all rfl
theorem State.avsCfgWrite_keeps  {s0 s : State} (h0 : Keeps may kp s0 s) (v : Nat) : Keeps may kp s0 (State.avsCfgWrite s v) := by
  unfold State.avsCfgWrite
  repeat' with_reducible first | assumption | apply State.writeReg_keeps | apply Keeps.ite | split | apply Keeps.mk | with_unfolding_all rfl
theorem State.avsInterval_keeps  {s0 s : State} (h0 : Keeps may kp s0 s) (m : Nat) : Keeps may kp s0 (State.avsInterval s m) := by
  unfold State.avsInterval
  repeat' with_reducible first | assumption | apply State.setF_keeps | apply State.pulse_keeps | apply State.ledger_keeps | apply State.quietInterval_keeps | apply Keeps.ite | split | refine State.trimStep_to ?_ (by assumption) | apply Keeps.mk | with_unfolding_all rfl
theorem execAvsLoopInterval_keeps  {s0 s : State} (h0 : Keeps may kp s0 s) (m : Fin 64) : Nexts (execAvsLoopInterval m s) (Keeps may kp s0) := by
  unfold execAvsLoopInterval
  repeat' with_reducible first | assumption | apply Nexts.of | apply State.core_keeps | apply State.avsInterval_keeps | with_unfolding_all rfl
theorem State.refuseEntry_keeps  {s0 s : State} (h0 : Keeps anyAddr kp s0 s) (code sub : Nat) : Keeps anyAddr kp s0 (State.refuseEntry s code sub) := by
  unfold State.refuseEntry
  repeat' with_reducible first | assumption | apply State.dmaRelease_keeps | apply State.refuse_keeps | apply State.afterEntry_keeps | apply Keeps.mk | with_unfolding_all rfl
theorem State.wakeEvent_keeps  {s0 s : State} (h0 : Keeps anyAddr kp s0 s) (src : Nat) : Keeps anyAddr kp s0 (State.wakeEvent s src) := by
  unfold State.wakeEvent
  repeat' with_reducible first | assumption | apply State.refuseEntry_keeps | apply Keeps.ite | split | apply Keeps.mk | with_unfolding_all rfl
theorem execWakeEvent_keeps  {s0 s : State} (h0 : Keeps anyAddr kp s0 s) (src : Fin 6) : Nexts (execWakeEvent src s) (Keeps anyAddr kp s0) := by
  unfold execWakeEvent
  repeat' with_reducible first | assumption | apply Nexts.of | apply State.wakeEvent_keeps | with_unfolding_all rfl
theorem State.timerMatch_keeps  {s0 s : State} (h0 : Keeps anyAddr kp s0 s) : Keeps anyAddr kp s0 (State.timerMatch s) := by
  unfold State.timerMatch
  repeat' with_reducible first | assumption | apply State.pulse_keeps | apply State.wakeEvent_keeps | apply Keeps.ite | split | apply Keeps.mk | with_unfolding_all rfl
theorem execPwrTimerMatch_keeps  {s0 s : State} (h0 : Keeps anyAddr kp s0 s) : Nexts (execPwrTimerMatch s) (Keeps anyAddr kp s0) := by
  unfold execPwrTimerMatch
  repeat' with_reducible first | assumption | apply Nexts.of | apply State.timerMatch_keeps | with_unfolding_all rfl
theorem State.modExpire_keeps  {s0 s : State} (h0 : Keeps anyAddr kp s0 s) (t : Nat) : Keeps anyAddr kp s0 (State.modExpire s t) := by
  unfold State.modExpire
  repeat' with_reducible first | assumption | apply State.setF_keeps | apply State.setModT_keeps | apply State.evalTarget_keeps | apply State.wakeEvent_keeps | apply Keeps.ite | split | with_unfolding_all rfl
theorem execModerationTimerExpiry_keeps  {s0 s : State} (h0 : Keeps anyAddr kp s0 s) (t : Fin 17) : Nexts (execModerationTimerExpiry t s) (Keeps anyAddr kp s0) := by
  unfold execModerationTimerExpiry
  repeat' with_reducible first | assumption | apply Nexts.of | apply State.modExpire_keeps | with_unfolding_all rfl
theorem State.modSlow_keeps  {s0 s : State} (h0 : Keeps may kp s0 s) : Keeps may kp s0 (State.modSlow s) := by
  unfold State.modSlow
  repeat' with_reducible first | assumption | apply State.setF_keeps | apply State.setModT_keeps | apply Keeps.ite | split | apply Keeps.mk | with_unfolding_all rfl
theorem State.modFast_keeps  {s0 s : State} (h0 : Keeps may kp s0 s) : Keeps may kp s0 (State.modFast s) := by
  unfold State.modFast
  repeat' with_reducible first | assumption | apply State.setF_keeps | apply State.setModT_keeps | apply Keeps.ite | split | apply Keeps.mk | with_unfolding_all rfl
theorem State.modEdge_keeps  {s0 s : State} (h0 : Keeps may kp s0 s) : Keeps may kp s0 (State.modEdge s) := by
  unfold State.modEdge
  repeat' with_reducible first | assumption | apply State.setModT_keeps | apply Keeps.ite | split | apply Keeps.mk | with_unfolding_all rfl
theorem State.portsSlow_keeps  {s0 s : State} (h0 : Keeps may kp s0 s) : Keeps may kp s0 (State.portsSlow s) := by
  unfold State.portsSlow
  repeat' with_reducible first | assumption | apply State.setPort_keeps | apply Keeps.ite | apply Keeps.foldl | split | intro t a ht | apply Keeps.mk | with_unfolding_all rfl
theorem State.eventModOver_keeps  {s0 s : State} (h0 : Keeps anyAddr kp s0 s) (p : Nat) : Keeps anyAddr kp s0 (State.eventModOver s p) := by
  unfold State.eventModOver
  repeat' with_reducible first | assumption | apply State.setPort_keeps | apply State.eventModTimer_keeps | apply State.wakeEvent_keeps | apply Keeps.ite | split | apply Keeps.mk | with_unfolding_all rfl
theorem execEventModTimer_keeps  {s0 s : State} (h0 : Keeps anyAddr kp s0 s) (p : Fin 4) : Nexts (execEventModTimer p s) (Keeps anyAddr kp s0) := by
  unfold execEventModTimer
  repeat' with_reducible first | assumption | apply Nexts.of | apply State.eventModOver_keeps | with_unfolding_all rfl
theorem State.rxLpiExit_keeps  {s0 s : State} (h0 : Keeps anyAddr kp s0 s) (l : Nat) : Keeps anyAddr kp s0 (State.rxLpiExit s l) := by
  unfold State.rxLpiExit
  repeat' with_reducible first | assumption | apply State.setF_keeps | apply State.setLane_keeps | apply State.eqResume_keeps | apply State.wakeEvent_keeps | apply Keeps.ite | split | apply Keeps.mk | with_unfolding_all rfl
theorem execRxLpiExit_keeps  {s0 s : State} (h0 : Keeps anyAddr kp s0 s) (l : Fin 16) : Nexts (execRxLpiExit l s) (Keeps anyAddr kp s0) := by
  unfold execRxLpiExit
  repeat' with_reducible first | assumption | apply Nexts.of | apply State.rxLpiExit_keeps | with_unfolding_all rfl

/-! Clock -/

theorem execPllStart_keeps  {s0 s : State} (h0 : Keeps may kp s0 s) (w : Word) : Nexts (execPllStart w s) (Keeps may kp s0) := by
  unfold execPllStart
  repeat' with_reducible first | assumption | apply Nexts.of | apply State.regCmd_keeps | apply State.writeReg_keeps | with_unfolding_all rfl
theorem State.leaveBypass_keeps  {s0 s : State} (h0 : Keeps may kp s0 s) : Keeps may kp s0 (State.leaveBypass s) := by
  unfold State.leaveBypass
  repeat' with_reducible first | assumption | apply State.setF_keeps | apply State.onPlls_keeps | apply Keeps.ite | split | with_unfolding_all rfl
theorem State.pllLock_keeps  {s0 s : State} (h0 : Keeps may kp s0 s) (u : Pll) : Keeps may kp s0 (State.pllLock s u) := by
  unfold State.pllLock
  repeat' with_reducible first | assumption | apply State.setF_keeps | apply State.setB_keeps | apply State.setSynth_keeps | apply State.core_keeps | apply State.leaveBypass_keeps | apply Keeps.ite | split | apply Keeps.mk | with_unfolding_all rfl
theorem execPllLock_keeps  {s0 s : State} (h0 : Keeps may kp s0 s) (u : Pll) : Nexts (execPllLock u s) (Keeps may kp s0) := by
  unfold execPllLock
  repeat' with_reducible first | assumption | apply Nexts.of | apply State.core_keeps | apply State.pllLock_keeps | with_unfolding_all rfl
theorem State.pllLoss_keeps  {s0 s : State} (h0 : Keeps may kp s0 s) (u : Pll) : Keeps may kp s0 (State.pllLoss s u) := by
  unfold State.pllLoss
  repeat' with_reducible first | assumption | apply State.setF_keeps | apply State.clrB_keeps | apply State.core_keeps | split | apply Keeps.mk | with_unfolding_all rfl
theorem execPllLockLoss_keeps  {s0 s : State} (h0 : Keeps may kp s0 s) (u : Pll) : Nexts (execPllLockLoss u s) (Keeps may kp s0) := by
  unfold execPllLockLoss
  repeat' with_reducible first | assumption | apply Nexts.of | apply State.core_keeps | apply State.pllLoss_keeps | with_unfolding_all rfl
theorem State.coreCfgWrite_keeps  {s0 s : State} (h0 : Keeps may kp s0 s) (v : Nat) : Keeps may kp s0 (State.coreCfgWrite s v) := by
  unfold State.coreCfgWrite
  repeat' with_reducible first | assumption | apply State.writeReg_keeps | apply State.showDiv_keeps | apply State.undefine_keeps | apply Keeps.ite | with_unfolding_all rfl
theorem State.edgeCapture_keeps  {s0 s : State} (h0 : Keeps may kp s0 s) (frac : Nat) : Keeps may kp s0 (State.edgeCapture s frac) := by
  unfold State.edgeCapture
  repeat' with_reducible first | assumption | apply State.setF_keeps | apply State.pulse_keeps | with_unfolding_all rfl
theorem State.edgeLoad_keeps  {s0 s : State} (h0 : Keeps may kp s0 s) (frac : Nat) : Keeps may kp s0 (State.edgeLoad s frac) := by
  unfold State.edgeLoad
  repeat' with_reducible first | assumption | apply State.setF_keeps | apply State.timeStep_keeps | apply State.stepRefused_keeps | apply Keeps.ite | split | apply Keeps.mk | with_unfolding_all rfl
theorem State.edgePeriodic_keeps  {s0 s : State} (h0 : Keeps may kp s0 s) (frac : Nat) (e : Int) : Keeps may kp s0 (State.edgePeriodic s frac e) := by
  unfold State.edgePeriodic
  repeat' with_reducible first | assumption | apply State.discMeasure_keeps | apply State.edgeCapture_keeps | apply Keeps.ite | split | apply Keeps.mk | with_unfolding_all rfl
theorem State.syncEdge_keeps  {s0 s : State} (h0 : Keeps anyAddr kp s0 s) (rising : Bool) (frac : Nat) : Keeps anyAddr kp s0 (State.syncEdge s rising frac) := by
  unfold State.syncEdge
  repeat' with_reducible first | assumption | apply State.bump_keeps | apply State.wakeEvent_keeps | apply State.edgeCapture_keeps | apply State.edgeLoad_keeps | apply State.edgePeriodic_keeps | apply Keeps.ite | split | apply Keeps.mk | with_unfolding_all rfl
theorem execSyncEdge_keeps  {s0 s : State} (h0 : Keeps anyAddr kp s0 s) (rising : Bool) (frac : Fin 64) : Nexts (execSyncEdge rising frac s) (Keeps anyAddr kp s0) := by
  unfold execSyncEdge
  repeat' with_reducible first | assumption | apply Nexts.of | apply State.syncEdge_keeps | with_unfolding_all rfl
theorem State.syncMissed_keeps  {s0 s : State} (h0 : Keeps may kp s0 s) : Keeps may kp s0 (State.syncMissed s) := by
  unfold State.syncMissed
  repeat' with_reducible first | assumption | apply State.bump_keeps | apply State.pulse_keeps | apply Keeps.ite | split | apply Keeps.mk | with_unfolding_all rfl
theorem execSyncMissed_keeps  {s0 s : State} (h0 : Keeps may kp s0 s) : Nexts (execSyncMissed s) (Keeps may kp s0) := by
  unfold execSyncMissed
  repeat' with_reducible first | assumption | apply Nexts.of | apply State.core_keeps | apply State.syncMissed_keeps | with_unfolding_all rfl
theorem State.syncCfgWrite_keeps  {s0 s : State} (h0 : Keeps may kp s0 s) (v : Nat) : Keeps may kp s0 (State.syncCfgWrite s v) := by
  unfold State.syncCfgWrite
  repeat' with_reducible first | assumption | apply State.writeReg_keeps | apply Keeps.ite | split | apply Keeps.mk | with_unfolding_all rfl
theorem State.discCfgWrite_keeps  {s0 s : State} (h0 : Keeps may kp s0 s) (v : Nat) : Keeps may kp s0 (State.discCfgWrite s v) := by
  unfold State.discCfgWrite
  repeat' with_reducible first | assumption | apply State.writeReg_keeps | apply State.discRestart_keeps | apply Keeps.ite | split | with_unfolding_all rfl
theorem State.slewStep_keeps  {s0 s : State} (h0 : Keeps may kp s0 s) : Keeps may kp s0 (State.slewStep s) := by
  unfold State.slewStep
  repeat' with_reducible first | assumption | apply State.setF_keeps | apply Keeps.ite | split | apply Keeps.mk | with_unfolding_all rfl
theorem execSlewStep_keeps  {s0 s : State} (h0 : Keeps may kp s0 s) : Nexts (execSlewStep s) (Keeps may kp s0) := by
  unfold execSlewStep
  repeat' with_reducible first | assumption | apply Nexts.of | apply State.core_keeps | apply State.slewStep_keeps | with_unfolding_all rfl
theorem State.holdover_keeps  {s0 s : State} (h0 : Keeps may kp s0 s) : Keeps may kp s0 (State.holdover s) := by
  unfold State.holdover
  repeat' with_reducible first | assumption | apply State.setF_keeps | apply State.pulse_keeps | apply State.ledger_keeps | apply Keeps.ite | split | apply Keeps.mk | with_unfolding_all rfl
theorem execHoldover_keeps  {s0 s : State} (h0 : Keeps may kp s0 s) : Nexts (execHoldover s) (Keeps may kp s0) := by
  unfold execHoldover
  repeat' with_reducible first | assumption | apply Nexts.of | apply State.core_keeps | apply State.holdover_keeps | with_unfolding_all rfl
theorem State.outTake_keeps  {s0 s : State} (h0 : Keeps may kp s0 s) : Keeps may kp s0 (State.outTake s) := by
  unfold State.outTake
  repeat' with_reducible first | assumption | apply Keeps.mk | with_unfolding_all rfl
theorem State.clkoutWrite_keeps  {s0 s : State} (h0 : Keeps may kp s0 s) (v : Nat) : Keeps may kp s0 (State.clkoutWrite s v) := by
  unfold State.clkoutWrite
  repeat' with_reducible first | assumption | apply State.writeReg_keeps | apply State.outTake_keeps | apply Keeps.ite | split | apply Keeps.mk | with_unfolding_all rfl
theorem execClkoutCfgWrite_keeps  {s0 s : State} (h0 : Keeps may kp s0 s) (w : Word) : Nexts (execClkoutCfgWrite w s) (Keeps may kp s0) := by
  unfold execClkoutCfgWrite
  repeat' with_reducible first | assumption | apply Nexts.of | apply State.regCmd_keeps | apply State.clkoutWrite_keeps | with_unfolding_all rfl
theorem State.outEdge_keeps  {s0 s : State} (h0 : Keeps may kp s0 s) : Keeps may kp s0 (State.outEdge s) := by
  unfold State.outEdge
  repeat' with_reducible first | assumption | apply State.outTake_keeps | apply Keeps.ite | split | apply Keeps.mk | with_unfolding_all rfl
theorem State.refclkLoss_keeps {s0 s : State} (h0 : Keeps may kp s0 s) : Keeps may kp s0 s.refclkLoss := by
  have h := State.undefine_keeps h0
  exact ⟨h.queue, h.inv, h.mem, h.sealed⟩
theorem execRefclkLoss_keeps  {s0 s : State} (h0 : Keeps may kp s0 s) : Nexts (execRefclkLoss s) (Keeps may kp s0) := by
  unfold execRefclkLoss
  repeat' with_reducible first | assumption | apply Nexts.of | apply State.refclkLoss_keeps | with_unfolding_all rfl
theorem State.crystalStop_keeps  {s0 s : State} (h0 : Keeps may kp s0 s) : Keeps may kp s0 (State.crystalStop s) := by
  unfold State.crystalStop
  repeat' with_reducible first | assumption | apply Keeps.mk | with_unfolding_all rfl
theorem execCrystalStop_keeps  {s0 s : State} (h0 : Keeps may kp s0 s) : Nexts (execCrystalStop s) (Keeps may kp s0) := by
  unfold execCrystalStop
  repeat' with_reducible first | assumption | apply Nexts.of | apply State.crystalStop_keeps | with_unfolding_all rfl

/-! EvcCmd -/

theorem State.eventPulse_keeps  {s0 s : State} (h0 : Keeps may kp s0 s) (l : Nat) : Keeps may kp s0 (State.eventPulse s l) := by
  unfold State.eventPulse
  repeat' with_reducible first | assumption | apply State.pulse_keeps | apply Keeps.ite | split | with_unfolding_all rfl
theorem execEventPulse_keeps  {s0 s : State} (h0 : Keeps may kp s0 s) (l : Fin 1024) : Nexts (execEventPulse l s) (Keeps may kp s0) := by
  unfold execEventPulse
  repeat' with_reducible first | assumption | apply Nexts.of | apply State.core_keeps | apply State.eventPulse_keeps | with_unfolding_all rfl
theorem State.eventLevel_keeps  {s0 s : State} (h0 : Keeps may kp s0 s) (l : Nat) (v : Bool) : Keeps may kp s0 (State.eventLevel s l v) := by
  unfold State.eventLevel
  repeat' with_reducible first | assumption | apply State.followLine_keeps | apply Keeps.ite | split | with_unfolding_all rfl
theorem execEventLevelAssert_keeps  {s0 s : State} (h0 : Keeps may kp s0 s) (l : Fin 1024) : Nexts (execEventLevelAssert l s) (Keeps may kp s0) := by
  unfold execEventLevelAssert
  repeat' with_reducible first | assumption | apply Nexts.of | apply State.core_keeps | apply State.eventLevel_keeps | with_unfolding_all rfl
theorem execEventLevelDeassert_keeps  {s0 s : State} (h0 : Keeps may kp s0 s) (l : Fin 1024) : Nexts (execEventLevelDeassert l s) (Keeps may kp s0) := by
  unfold execEventLevelDeassert
  repeat' with_reducible first | assumption | apply Nexts.of | apply State.core_keeps | apply State.eventLevel_keeps | with_unfolding_all rfl
theorem State.actAgain_keeps  {s0 s : State} (h0 : Keeps may kp s0 s) (t : Nat) : Keeps may kp s0 (State.actAgain s t) := by
  unfold State.actAgain
  repeat' with_reducible first | assumption | apply State.evalTarget_keeps | apply State.linkAct_keeps | apply State.prismLine_keeps | apply Keeps.ite | apply Keeps.foldl | split | intro t a ht | with_unfolding_all rfl
theorem State.evEnWrite_keeps  {s0 s : State} (h0 : Keeps may kp s0 s) (t wd v : Nat) : Keeps may kp s0 (State.evEnWrite s t wd v) := by
  unfold State.evEnWrite
  repeat' with_reducible first | assumption | apply State.levelTo_keeps | apply State.writeReg_keeps | apply State.actAgain_keeps | apply Keeps.ite | apply Keeps.foldl | split | intro t a ht | with_unfolding_all rfl
theorem execEventEnableWrite_keeps  {s0 s : State} (h0 : Keeps may kp s0 s) (t : Fin 23) (wd : Fin 32) (w : Word) : Nexts (execEventEnableWrite t wd w s) (Keeps may kp s0) := by
  unfold execEventEnableWrite
  repeat' with_reducible first | assumption | apply Nexts.of | apply State.regCmd_keeps | apply State.evEnWrite_keeps | with_unfolding_all rfl
theorem State.claim_keeps  {s0 s : State} (h0 : Keeps may kp s0 s) (t : Nat) : Keeps may kp s0 (State.claim s t) := by
  unfold State.claim
  repeat' with_reducible first | assumption | apply State.setF_keeps | apply State.clrB_keeps | apply State.bump_keeps | apply State.setSvc_keeps | apply State.evalTarget_keeps | split | apply Keeps.mk | with_unfolding_all rfl
theorem execEventClaim_keeps  {s0 s : State} (h0 : Keeps may kp s0 s) : Nexts (execEventClaim s) (Keeps may kp s0) := by
  unfold execEventClaim
  repeat' with_reducible first | assumption | apply Nexts.of | apply State.regCmd_keeps | apply State.answer_keeps | apply State.claim_keeps | with_unfolding_all rfl
theorem State.complete_keeps  {s0 s : State} (h0 : Keeps may kp s0 s) (t l : Nat) : Keeps may kp s0 (State.complete s t l) := by
  unfold State.complete
  repeat' with_reducible first | assumption | apply State.bump_keeps | apply State.setSvc_keeps | apply State.evalTarget_keeps | apply State.levelTo_keeps | apply Keeps.ite | split | with_unfolding_all rfl
theorem execEventComplete_keeps  {s0 s : State} (h0 : Keeps may kp s0 s) (w : Word) : Nexts (execEventComplete w s) (Keeps may kp s0) := by
  unfold execEventComplete
  repeat' with_reducible first | assumption | apply Nexts.of | apply State.regCmd_keeps | apply State.complete_keeps | with_unfolding_all rfl
theorem State.gdisWrite_keeps  {s0 s : State} (h0 : Keeps may kp s0 s) (v : Nat) : Keeps may kp s0 (State.gdisWrite s v) := by
  unfold State.gdisWrite
  repeat' with_reducible first | assumption | apply State.writeReg_keeps | apply State.actAgain_keeps | apply Keeps.foldl | intro t a ht | with_unfolding_all rfl
theorem execGdisWrite_keeps  {s0 s : State} (h0 : Keeps may kp s0 s) (w : Word) : Nexts (execGdisWrite w s) (Keeps may kp s0) := by
  unfold execGdisWrite
  repeat' with_reducible first | assumption | apply Nexts.of | apply State.regCmd_keeps | apply State.gdisWrite_keeps | with_unfolding_all rfl
theorem State.swSet_keeps  {s0 s : State} (h0 : Keeps may kp s0 s) (l : Nat) : Keeps may kp s0 (State.swSet s l) := by
  unfold State.swSet
  repeat' with_reducible first | assumption | apply State.pulse_keeps | apply Keeps.ite | split | with_unfolding_all rfl
theorem execSoftwareLineSet_keeps  {s0 s : State} (h0 : Keeps may kp s0 s) (w : Word) : Nexts (execSoftwareLineSet w s) (Keeps may kp s0) := by
  unfold execSoftwareLineSet
  repeat' with_reducible first | assumption | apply Nexts.of | apply State.regCmd_keeps | apply State.swSet_keeps | with_unfolding_all rfl
theorem State.alertClear_keeps  {s0 s : State} (h0 : Keeps may kp s0 s) (l : Nat) : Keeps may kp s0 (State.alertClear s l) := by
  unfold State.alertClear
  repeat' with_reducible first | assumption | apply State.clrB_keeps | apply State.levelTo_keeps | apply Keeps.ite | split | with_unfolding_all rfl
theorem execAlertClear_keeps  {s0 s : State} (h0 : Keeps may kp s0 s) (w : Word) : Nexts (execAlertClear w s) (Keeps may kp s0) := by
  unfold execAlertClear
  repeat' with_reducible first | assumption | apply Nexts.of | apply State.regCmd_keeps | apply State.alertClear_keeps | with_unfolding_all rfl
theorem State.prioWrite_keeps  {s0 s : State} (h0 : Keeps may kp s0 s) (l v : Nat) : Keeps may kp s0 (State.prioWrite s l v) := by
  unfold State.prioWrite
  repeat' with_reducible first | assumption | apply State.evalTarget_keeps | apply State.writeReg_keeps | apply Keeps.foldl | intro t a ht | with_unfolding_all rfl
theorem State.tgtWrite_keeps  {s0 s : State} (h0 : Keeps may kp s0 s) (t v : Nat) : Keeps may kp s0 (State.tgtWrite s t v) := by
  unfold State.tgtWrite
  repeat' with_reducible first | assumption | apply State.evalTarget_keeps | apply State.writeReg_keeps | with_unfolding_all rfl

/-! Link -/

theorem State.noteOnce_keeps  {s0 s : State} (h0 : Keeps may kp s0 s) (p code arg : Nat) : Keeps may kp s0 (State.noteOnce s p code arg) := by
  unfold State.noteOnce
  repeat' with_reducible first | assumption | apply State.setPort_keeps | apply State.ledger_keeps | apply Keeps.ite | split | apply Keeps.mk | with_unfolding_all rfl
theorem State.refusePkt_keeps  {s0 s : State} (h0 : Keeps may kp s0 s) (p : Nat) (x : Fld) (hx : x.clearOfSeal = true) : Keeps may kp s0 (State.refusePkt s p x) := by
  unfold State.refusePkt
  repeat' with_reducible first | assumption | apply State.bump_keeps | apply State.noteOnce_keeps | with_unfolding_all rfl
theorem State.sawSeq_keeps  {s0 s : State} (h0 : Keeps may kp s0 s) (p key m n : Nat) : Keeps may kp s0 (State.sawSeq s p key m n) := by
  unfold State.sawSeq
  repeat' with_reducible first | assumption | apply State.bump_keeps | apply Keeps.ite | split | apply Keeps.mk | with_unfolding_all rfl
theorem State.seqSeen_keeps  {s0 s : State} (h0 : Keeps may kp s0 s) (p : Nat) (k : InKind) (ws : List Word) : Keeps may kp s0 (State.seqSeen s p k ws) := by
  unfold State.seqSeen
  repeat' with_reducible first | assumption | apply State.sawSeq_keeps | split | apply Keeps.mk | with_unfolding_all rfl
theorem State.iqWrite_keeps  {s0 s : State} (h0 : Keeps anyAddr kp s0 s) (f idx pk : Nat) (xs : List (Int × Int)) : Keeps anyAddr kp s0 (State.iqWrite s f idx pk xs) := by
  unfold State.iqWrite
  repeat' with_reducible first | assumption | apply State.setFlow_keeps | apply State.setJob_keeps | apply State.bufPut_keeps | apply Keeps.ite | split | apply Keeps.mk | with_unfolding_all rfl
theorem State.pktLate_keeps  {s0 s : State} (h0 : Keeps may kp s0 s) (p f : Nat) : Keeps may kp s0 (State.pktLate s p f) := by
  unfold State.pktLate
  repeat' with_reducible first | assumption | apply State.bump_keeps | apply State.noteOnce_keeps | with_unfolding_all rfl
theorem State.iqArrive_keeps  {s0 s : State} (h0 : Keeps anyAddr kp s0 s) (p f idx age : Nat) (ws : List Word) : Keeps anyAddr kp s0 (State.iqArrive s p f idx age ws) := by
  unfold State.iqArrive
  repeat' with_reducible first | assumption | apply State.bump_keeps | apply State.setPort_keeps | apply State.iqWrite_keeps | apply State.pktLate_keeps | apply Keeps.ite | split | apply Keeps.mk | with_unfolding_all rfl
theorem State.iqReceive_keeps  {s0 s : State} (h0 : Keeps anyAddr kp s0 s) (p age : Nat) (ws : List Word) : Keeps anyAddr kp s0 (State.iqReceive s p age ws) := by
  unfold State.iqReceive
  repeat' with_reducible first | assumption | apply State.refusePkt_keeps | apply State.iqArrive_keeps | apply Keeps.ite | split | apply Keeps.mk | with_unfolding_all rfl
theorem State.messageIn_keeps  {s0 s : State} (h0 : Keeps anyAddr kp s0 s) (f : Nat) : Keeps anyAddr kp s0 (State.messageIn s f) := by
  unfold State.messageIn
  repeat' with_reducible first | assumption | apply State.flowStarted_keeps | apply State.flowDelivered_keeps | with_unfolding_all rfl
theorem State.section__keeps  {s0 s : State} (h0 : Keeps may kp s0 s) (p : Nat) (d : Nat × Nat) : Keeps may kp s0 (State.section_ p s d) := by
  unfold State.section_
  repeat' with_reducible first | assumption | apply State.controlRange_keeps | apply State.refusePkt_keeps | apply Keeps.ite | split | apply Keeps.mk | with_unfolding_all rfl
theorem State.rtcReceive_keeps  {s0 s : State} (h0 : Keeps anyAddr kp s0 s) (p : Nat) (ws : List Word) : Keeps anyAddr kp s0 (State.rtcReceive s p ws) := by
  unfold State.rtcReceive
  repeat' with_reducible first | assumption | apply State.refusePkt_keeps | apply State.messageIn_keeps | apply State.section__keeps | apply Keeps.ite | apply Keeps.foldl | split | intro t a ht | apply Keeps.mk | with_unfolding_all rfl
theorem State.beamReceive_keeps  {s0 s : State} (h0 : Keeps anyAddr kp s0 s) (p : Nat) (ws : List Word) : Keeps anyAddr kp s0 (State.beamReceive s p ws) := by
  unfold State.beamReceive
  repeat' with_reducible first | assumption | apply State.writeBytes_keeps | apply State.bump_keeps | apply State.deny_keeps | apply State.refusePkt_keeps | apply State.messageIn_keeps | apply Keeps.ite | split | apply Keeps.mk | with_unfolding_all rfl
theorem State.ringLine_keeps  {s0 s : State} (h0 : Keeps may kp s0 s) (p : Nat) : Keeps may kp s0 (State.ringLine s p) := by
  unfold State.ringLine
  repeat' with_reducible first | assumption | apply State.followLine_keeps | with_unfolding_all rfl
theorem State.ringWrite_keeps  {s0 s : State} (h0 : Keeps may kp s0 s) (p v : Nat) : Keeps may kp s0 (State.ringWrite s p v) := by
  unfold State.ringWrite
  repeat' with_reducible first | assumption | apply State.writeReg_keeps | apply State.ringLine_keeps | with_unfolding_all rfl
theorem State.mgmtReceive_keeps  {s0 s : State} (h0 : Keeps anyAddr kp s0 s) (p : Nat) (ws : List Word) : Keeps anyAddr kp s0 (State.mgmtReceive s p ws) := by
  unfold State.mgmtReceive
  repeat' with_reducible first | assumption | apply State.setF_keeps | apply State.writeWords_keeps | apply State.setPort_keeps | apply State.mgmtSend_keeps | apply State.refusePkt_keeps | apply State.messageIn_keeps | apply State.ringLine_keeps | apply Keeps.ite | split | apply Keeps.mk | with_unfolding_all rfl
theorem State.timeSyncReceive_keeps  {s0 s : State} (h0 : Keeps may kp s0 s) (p j age : Nat) (ws : List Word) : Keeps may kp s0 (State.timeSyncReceive s p j age ws) := by
  unfold State.timeSyncReceive
  repeat' with_reducible first | assumption | apply State.setPort_keeps | apply State.askDelay_keeps | apply Keeps.ite | split | apply Keeps.mk | with_unfolding_all rfl
theorem State.delayReqReceive_keeps  {s0 s : State} (h0 : Keeps may kp s0 s) (p age : Nat) (ws : List Word) : Keeps may kp s0 (State.delayReqReceive s p age ws) := by
  unfold State.delayReqReceive
  repeat' with_reducible first | assumption | apply State.enqueue_keeps | with_unfolding_all rfl
theorem State.roundFree_keeps  {s0 s : State} (h0 : Keeps may kp s0 s) (num den : Int) : Keeps may kp s0 ((State.roundFree s num den).2) := by
  unfold State.roundFree
  repeat' with_reducible first | assumption | apply State.fresh_keeps | apply Keeps.ite | split | refine State.fresh_to ?_ (by assumption) | with_unfolding_all rfl
theorem State.roundFree_to  {s0 s : State} (h0 : Keeps may kp s0 s) {num den : Int} {v : Int} {t : State} (he : State.roundFree s num den = (v, t)) : Keeps may kp s0 t := by
  have := State.roundFree_keeps h0 num den; rw [he] at this; exact this
theorem State.setRange_keeps  {s0 s : State} (h0 : Keeps may kp s0 s) (x : Fld) (p : Nat) (lo hi v : Int) (hx : x.clearOfSeal = true) : Keeps may kp s0 (State.setRange s x p lo hi v) := by
  unfold State.setRange
  repeat' with_reducible first | assumption | apply State.setF_keeps | apply State.fresh_keeps | apply Keeps.ite | split | refine State.fresh_to ?_ (by assumption) | with_unfolding_all rfl
theorem State.delayResult_keeps  {s0 s : State} (h0 : Keeps may kp s0 s) (p : Nat) (a b : Int) : Keeps may kp s0 (State.delayResult s p a b) := by
  unfold State.delayResult
  repeat' with_reducible first | assumption | apply State.setF_keeps | apply State.pulse_keeps | apply State.discMeasure_keeps | apply State.roundFree_keeps | apply State.setRange_keeps | apply Keeps.ite | split | refine State.roundFree_to ?_ (by assumption) | with_unfolding_all rfl
theorem State.delayOver_keeps  {s0 s : State} (h0 : Keeps may kp s0 s) (p : Nat) : Keeps may kp s0 (State.delayOver s p) := by
  unfold State.delayOver
  repeat' with_reducible first | assumption | apply State.setF_keeps | apply State.setPort_keeps | apply Keeps.mk | with_unfolding_all rfl
theorem State.delayRspReceive_keeps  {s0 s : State} (h0 : Keeps may kp s0 s) (p j : Nat) (ws : List Word) : Keeps may kp s0 (State.delayRspReceive s p j ws) := by
  unfold State.delayRspReceive
  repeat' with_reducible first | assumption | apply State.bump_keeps | apply State.delayResult_keeps | apply State.delayOver_keeps | apply Keeps.ite | split | apply Keeps.mk | with_unfolding_all rfl
theorem State.delayTimeout_keeps  {s0 s : State} (h0 : Keeps may kp s0 s) (p : Nat) : Keeps may kp s0 (State.delayTimeout s p) := by
  unfold State.delayTimeout
  repeat' with_reducible first | assumption | apply State.delayOver_keeps | apply Keeps.ite | split | with_unfolding_all rfl
theorem execDelayResponseTimeout_keeps  {s0 s : State} (h0 : Keeps may kp s0 s) (p : Fin 4) : Nexts (execDelayResponseTimeout p s) (Keeps may kp s0) := by
  unfold execDelayResponseTimeout
  repeat' with_reducible first | assumption | apply Nexts.of | apply State.core_keeps | apply State.delayTimeout_keeps | with_unfolding_all rfl
theorem State.accept_keeps  {s0 s : State} (h0 : Keeps anyAddr kp s0 s) (p j age : Nat) (k : InKind) (ws : List Word) : Keeps anyAddr kp s0 (State.accept s p j age k ws) := by
  unfold State.accept
  repeat' with_reducible first | assumption | apply State.askDelay_keeps | apply State.iqReceive_keeps | apply State.rtcReceive_keeps | apply State.beamReceive_keeps | apply State.mgmtReceive_keeps | apply State.timeSyncReceive_keeps | apply State.delayReqReceive_keeps | apply State.delayRspReceive_keeps | split | apply Keeps.mk | with_unfolding_all rfl
theorem State.packetIn_keeps  {s0 s : State} (h0 : Keeps anyAddr kp s0 s) (l age : Nat) (ws : List Word) : Keeps anyAddr kp s0 (State.packetIn s l age ws) := by
  unfold State.packetIn
  repeat' with_reducible first | assumption | apply State.bump_keeps | apply State.noteOnce_keeps | apply State.refusePkt_keeps | apply State.seqSeen_keeps | apply State.accept_keeps | apply Keeps.ite | split | with_unfolding_all rfl
theorem State.receive_keeps  {s0 s : State} (h0 : Keeps anyAddr kp s0 s) (k : InKind) (l age : Nat) (ws : List Word) : Keeps anyAddr kp s0 (State.receive s k l age ws) := by
  unfold State.receive
  repeat' with_reducible first | assumption | apply State.packetIn_keeps | apply Keeps.ite | split | with_unfolding_all rfl
theorem execIqDataReceive_keeps  {s0 s : State} (h0 : Keeps anyAddr kp s0 s) (l : Fin 16) (age : Nat) (ws : List Word) : Nexts (execIqDataReceive l age ws s) (Keeps anyAddr kp s0) := by
  unfold execIqDataReceive
  repeat' with_reducible first | assumption | apply Nexts.of | apply State.core_keeps | apply State.receive_keeps | with_unfolding_all rfl
theorem execRealTimeControlReceive_keeps  {s0 s : State} (h0 : Keeps anyAddr kp s0 s) (l : Fin 16) (age : Nat) (ws : List Word) : Nexts (execRealTimeControlReceive l age ws s) (Keeps anyAddr kp s0) := by
  unfold execRealTimeControlReceive
  repeat' with_reducible first | assumption | apply Nexts.of | apply State.core_keeps | apply State.receive_keeps | with_unfolding_all rfl
theorem execBeamWriteReceive_keeps  {s0 s : State} (h0 : Keeps anyAddr kp s0 s) (l : Fin 16) (age : Nat) (ws : List Word) : Nexts (execBeamWriteReceive l age ws s) (Keeps anyAddr kp s0) := by
  unfold execBeamWriteReceive
  repeat' with_reducible first | assumption | apply Nexts.of | apply State.core_keeps | apply State.receive_keeps | with_unfolding_all rfl
theorem execMgmtReqReceive_keeps  {s0 s : State} (h0 : Keeps anyAddr kp s0 s) (l : Fin 16) (age : Nat) (ws : List Word) : Nexts (execMgmtReqReceive l age ws s) (Keeps anyAddr kp s0) := by
  unfold execMgmtReqReceive
  repeat' with_reducible first | assumption | apply Nexts.of | apply State.core_keeps | apply State.receive_keeps | with_unfolding_all rfl
theorem execTimeSyncReceive_keeps  {s0 s : State} (h0 : Keeps anyAddr kp s0 s) (l : Fin 16) (age : Nat) (ws : List Word) : Nexts (execTimeSyncReceive l age ws s) (Keeps anyAddr kp s0) := by
  unfold execTimeSyncReceive
  repeat' with_reducible first | assumption | apply Nexts.of | apply State.core_keeps | apply State.receive_keeps | with_unfolding_all rfl
theorem execDelayRequestReceive_keeps  {s0 s : State} (h0 : Keeps anyAddr kp s0 s) (l : Fin 16) (age : Nat) (ws : List Word) : Nexts (execDelayRequestReceive l age ws s) (Keeps anyAddr kp s0) := by
  unfold execDelayRequestReceive
  repeat' with_reducible first | assumption | apply Nexts.of | apply State.core_keeps | apply State.receive_keeps | with_unfolding_all rfl
theorem execRemoteRequestReceive_keeps  {s0 s : State} (h0 : Keeps anyAddr kp s0 s) (l : Fin 16) (age : Nat) (ws : List Word) : Nexts (execRemoteRequestReceive l age ws s) (Keeps anyAddr kp s0) := by
  unfold execRemoteRequestReceive
  repeat' with_reducible first | assumption | apply Nexts.of | apply State.core_keeps | apply State.receive_keeps | with_unfolding_all rfl
theorem execDelayResponseReceive_keeps  {s0 s : State} (h0 : Keeps anyAddr kp s0 s) (l : Fin 16) (age : Nat) (ws : List Word) : Nexts (execDelayResponseReceive l age ws s) (Keeps anyAddr kp s0) := by
  unfold execDelayResponseReceive
  repeat' with_reducible first | assumption | apply Nexts.of | apply State.core_keeps | apply State.receive_keeps | with_unfolding_all rfl
theorem execUnsupportedPacketReceive_keeps  {s0 s : State} (h0 : Keeps anyAddr kp s0 s) (l : Fin 16) (age : Nat) (ws : List Word) : Nexts (execUnsupportedPacketReceive l age ws s) (Keeps anyAddr kp s0) := by
  unfold execUnsupportedPacketReceive
  repeat' with_reducible first | assumption | apply Nexts.of | apply State.core_keeps | apply State.receive_keeps | with_unfolding_all rfl

/-! Power -/

theorem State.modeWrite_keeps  {s0 s : State} (h0 : Keeps may kp s0 s) (v : Nat) : Keeps may kp s0 (State.modeWrite s v) := by
  unfold State.modeWrite
  repeat' with_reducible first | assumption | apply State.discarded_keeps | apply State.writeReg_keeps | apply Keeps.ite | split | with_unfolding_all rfl
theorem execPowerModeWrite_keeps  {s0 s : State} (h0 : Keeps may kp s0 s) (w : Word) : Nexts (execPowerModeWrite w s) (Keeps may kp s0) := by
  unfold execPowerModeWrite
  repeat' with_reducible first | assumption | apply Nexts.of | apply State.regCmd_keeps | apply State.modeWrite_keeps | with_unfolding_all rfl
theorem State.passTo_keeps  {s0 s : State} (h0 : Keeps may kp s0 s) (n : Nat) : Keeps may kp s0 (State.passTo s n) := by
  unfold State.passTo
  repeat' with_reducible first | assumption | apply Keeps.mk | with_unfolding_all rfl
theorem State.dimTry_keeps  {s0 s : State} (h0 : Keeps anyAddr kp s0 s) : Keeps anyAddr kp s0 (State.dimTry s) := by
  unfold State.dimTry
  repeat' with_reducible first | assumption | apply State.refuseEntry_keeps | apply State.modSlow_keeps | apply Keeps.ite | split | apply Keeps.mk | with_unfolding_all rfl
theorem State.dmaHold_keeps  {s0 s : State} (h0 : Keeps may kp s0 s) : Keeps may kp s0 (State.dmaHold s) := by
  unfold State.dmaHold
  repeat' with_reducible first | assumption | apply State.setDma_keeps | apply State.dmaStopped_keeps | apply Keeps.ite | apply Keeps.foldl | split | intro t a ht | apply Keeps.mk | with_unfolding_all rfl
theorem State.wfiGo_keeps  {s0 s : State} (h0 : Keeps anyAddr kp s0 s) : Keeps anyAddr kp s0 (State.wfiGo s) := by
  unfold State.wfiGo
  repeat' with_reducible first | assumption | apply State.refuseEntry_keeps | apply State.passTo_keeps | apply State.dimTry_keeps | apply State.dmaHold_keeps | apply Keeps.ite | split | apply Keeps.mk | with_unfolding_all rfl
theorem execWfi_keeps  {s0 s : State} (h0 : Keeps anyAddr kp s0 s) : Nexts (execWfi s) (Keeps anyAddr kp s0) := by
  unfold execWfi
  repeat' with_reducible first | assumption | apply Nexts.of | apply State.core_keeps | apply State.wfiGo_keeps | with_unfolding_all rfl
theorem State.entryPoll_keeps  {s0 s : State} (h0 : Keeps anyAddr kp s0 s) : Keeps anyAddr kp s0 (State.entryPoll s) := by
  unfold State.entryPoll
  repeat' with_reducible first | assumption | apply State.refuseEntry_keeps | apply State.passTo_keeps | apply Keeps.ite | split | apply Keeps.mk | with_unfolding_all rfl
theorem State.dmaTimeout_keeps  {s0 s : State} (h0 : Keeps anyAddr kp s0 s) : Keeps anyAddr kp s0 (State.dmaTimeout s) := by
  unfold State.dmaTimeout
  repeat' with_reducible first | assumption | apply State.refuseEntry_keeps | apply State.entryPoll_keeps | apply Keeps.ite | split | apply Keeps.mk | with_unfolding_all rfl
theorem execDmaQuiesceTimeout_keeps  {s0 s : State} (h0 : Keeps anyAddr kp s0 s) : Nexts (execDmaQuiesceTimeout s) (Keeps anyAddr kp s0) := by
  unfold execDmaQuiesceTimeout
  repeat' with_reducible first | assumption | apply Nexts.of | apply State.core_keeps | apply State.dmaTimeout_keeps | with_unfolding_all rfl
theorem State.linkTimeout_keeps  {s0 s : State} (h0 : Keeps anyAddr kp s0 s) : Keeps anyAddr kp s0 (State.linkTimeout s) := by
  unfold State.linkTimeout
  repeat' with_reducible first | assumption | apply State.refuseEntry_keeps | apply State.entryPoll_keeps | apply Keeps.ite | split | apply Keeps.mk | with_unfolding_all rfl
theorem execLinkIdleTimeout_keeps  {s0 s : State} (h0 : Keeps anyAddr kp s0 s) : Nexts (execLinkIdleTimeout s) (Keeps anyAddr kp s0) := by
  unfold execLinkIdleTimeout
  repeat' with_reducible first | assumption | apply Nexts.of | apply State.core_keeps | apply State.linkTimeout_keeps | with_unfolding_all rfl
theorem State.busTimeout_keeps  {s0 s : State} (h0 : Keeps anyAddr kp s0 s) (b : Nat) : Keeps anyAddr kp s0 (State.busTimeout s b) := by
  unfold State.busTimeout
  repeat' with_reducible first | assumption | apply State.refuseEntry_keeps | apply State.entryPoll_keeps | apply Keeps.ite | split | with_unfolding_all rfl
theorem execBusIdleTimeout_keeps  {s0 s : State} (h0 : Keeps anyAddr kp s0 s) (b : Fin 256) : Nexts (execBusIdleTimeout b s) (Keeps anyAddr kp s0) := by
  unfold execBusIdleTimeout
  repeat' with_reducible first | assumption | apply Nexts.of | apply State.core_keeps | apply State.busTimeout_keeps | with_unfolding_all rfl
theorem State.saveRecord_keeps  {s0 s : State} (h0 : Keeps anyAddr kp s0 s) : Keeps anyAddr kp s0 (State.saveRecord s) := by
  unfold State.saveRecord
  repeat' with_reducible first | assumption | apply State.wr32_keeps | apply Keeps.foldl | intro t a ht | with_unfolding_all rfl
theorem State.saveBank_keeps  {s0 s : State} (h0 : Keeps anyAddr kp s0 s) (b : Nat) : Keeps anyAddr kp s0 (State.saveBank s b) := by
  unfold State.saveBank
  repeat' with_reducible first | assumption | apply State.writeBytes_keeps | apply State.wr32_keeps | apply Keeps.ite | split | apply Keeps.mk | with_unfolding_all rfl
theorem State.sleep_keeps  {s0 s : State} (h0 : Keeps anyAddr kp s0 s) : Keeps anyAddr kp s0 (State.sleep s) := by
  unfold State.sleep
  repeat' with_reducible first | assumption | apply State.setF_keeps | apply State.commitIf_keeps | apply State.dflushAll_keeps | apply State.modSlow_keeps | apply State.portsSlow_keeps | apply State.saveRecord_keeps | apply State.saveBank_keeps | apply Keeps.ite | apply Keeps.foldl | split | intro t a ht | apply Keeps.dropMem | apply Keeps.dropReg | apply Keeps.dropBoth | apply Keeps.mk | with_unfolding_all rfl
theorem State.switchesOpen_keeps  {s0 s : State} (h0 : Keeps anyAddr kp s0 s) : Keeps anyAddr kp s0 (State.switchesOpen s) := by
  unfold State.switchesOpen
  repeat' with_reducible first | assumption | apply State.entryPoll_keeps | apply State.sleep_keeps | apply Keeps.ite | split | with_unfolding_all rfl
theorem execPowerSwitchesOpen_keeps  {s0 s : State} (h0 : Keeps anyAddr kp s0 s) : Nexts (execPowerSwitchesOpen s) (Keeps anyAddr kp s0) := by
  unfold execPowerSwitchesOpen
  repeat' with_reducible first | assumption | apply Nexts.of | apply State.core_keeps | apply State.switchesOpen_keeps | with_unfolding_all rfl
theorem Keeps.foldlMem {s : State} {α : Type} (f : State → α → State) (l : List α) (hf : ∀ t, ∀ a ∈ l, Keeps may kp s t → Keeps may kp s (f t a))
    {t : State} (h : Keeps may kp s t) : Keeps may kp s (l.foldl f t) := by
  induction l generalizing t with
  | nil => exact h
  | cons a l ih => exact ih (fun t b hb => hf t b (List.mem_cons_of_mem _ hb)) (hf t a (List.mem_cons_self ..) h)
theorem State.restoreWord_keeps {s0 s : State} (h : Keeps may kp s0 s) (r : RName) (f v : Nat) : Keeps may kp s0 (s.restoreWord r f v) := by
  unfold State.restoreWord
  refine Keeps.foldlMem _ _ (fun t x hx ht => ?_) h
  obtain ⟨hm, ha⟩ := List.mem_filter.mp hx
  rcases (descOf_safe r x hm).1 with hc | rfl
  · exact State.setF_keeps ht x _ f 0 0 hc
  · exact absurd ha (by decide)
theorem State.restoreFlows_keeps  {s0 s : State} (h0 : Keeps may kp s0 s) (good : Nat → Bool) : Keeps may kp s0 (State.restoreFlows s good) := by
  unfold State.restoreFlows
  repeat' with_reducible first | assumption | apply State.setF_keeps | apply State.restoreWord_keeps | apply Keeps.ite | apply Keeps.foldl | split | intro t a ht | with_unfolding_all rfl
theorem State.duskBlocks_keeps {s0 s : State} (h : Keeps may kp s0 s) (good : Nat → Bool) : Keeps may kp s0 (s.duskBlocks good) := by
  have h2 := h.ledger (if good 8 then s.faults else {}) (fun hx => by
    split
    · exact hx
    · exact ⟨by decide, by decide⟩)
  exact h2.rest rfl rfl rfl rfl rfl
theorem State.darkBlocks_keeps {s0 s : State} (h : Keeps may kp s0 s) (good : Nat → Bool) : Keeps may kp s0 (s.darkBlocks good) := by
  have h2 := (State.duskBlocks_keeps h good).ledger {} (fun _ => ⟨by decide, by decide⟩)
  exact h2.rest rfl rfl rfl rfl rfl
theorem State.allLocked_keeps  {s0 s : State} (h0 : Keeps may kp s0 s) : Keeps may kp s0 (State.allLocked s) := by
  unfold State.allLocked
  repeat' with_reducible first | assumption | apply State.setF_keeps | with_unfolding_all rfl
theorem State.restart_keeps  {s0 s : State} (h0 : Keeps may kp s0 s) : Keeps may kp s0 (State.restart s) := by
  unfold State.restart
  repeat' with_reducible first | assumption | apply State.setF_keeps | apply State.setHk_keeps | apply State.hkBegin_keeps | apply State.pwmStart_keeps | apply State.relockStart_keeps | apply State.showDiv_keeps | apply Keeps.ite | apply Keeps.foldl | split | intro t a ht | with_unfolding_all rfl
theorem State.pathsBack_keeps  {s0 s : State} (h0 : Keeps may kp s0 s) : Keeps may kp s0 (State.pathsBack s) := by
  unfold State.pathsBack
  repeat' with_reducible first | assumption | apply State.rxStart_keeps | apply State.txStart_keeps | apply Keeps.ite | apply Keeps.foldl | split | intro t a ht | with_unfolding_all rfl
theorem State.darkBack_keeps  {s0 s : State} (h0 : Keeps may kp s0 s) : Keeps may kp s0 (State.darkBack s) := by
  unfold State.darkBack
  repeat' with_reducible first | assumption | apply State.setF_keeps | apply State.clearDelays_keeps | apply State.discRestart_keeps | apply State.portStart_keeps | apply Keeps.ite | apply Keeps.foldl | split | intro t a ht | apply Keeps.mk | with_unfolding_all rfl
theorem State.failSeen_keeps  {s0 s : State} (h0 : Keeps anyAddr kp s0 s) : Keeps anyAddr kp s0 (State.failSeen s) := by
  unfold State.failSeen
  repeat' with_reducible first | assumption | apply State.setF_keeps | apply State.wr32_keeps | apply State.pulse_keeps | apply State.ledger_keeps | apply Keeps.ite | split | with_unfolding_all rfl
theorem State.linesBack_keeps  {s0 s : State} (h0 : Keeps may kp s0 s) : Keeps may kp s0 (State.linesBack s) := by
  unfold State.linesBack
  repeat' with_reducible first | assumption | apply State.sendEvents_keeps | apply State.ledgerLines_keeps | apply State.ringLine_keeps | apply Keeps.ite | apply Keeps.foldl | split | intro t a ht | with_unfolding_all rfl
theorem State.zeroBanks_keeps  {s0 s : State} (h0 : Keeps anyAddr kp s0 s) (m : Nat) : Keeps anyAddr kp s0 (State.zeroBanks s m) := by
  unfold State.zeroBanks
  repeat' with_reducible first | assumption | apply Keeps.ite | apply Keeps.foldl | split | intro t a ht | apply Keeps.dropMem | apply Keeps.dropReg | apply Keeps.dropBoth | apply Keeps.mk | with_unfolding_all rfl
theorem State.wakeFields_keeps {s0 s : State} (h : Keeps may kp s0 s) (dark : Bool) (good : Nat → Bool) : Keeps may kp s0 (s.wakeFields dark good) := by
  unfold State.wakeFields State.wakeRegs
  refine h.dropRegs _ ?_
  have hk : keptAt (sealKey / 32) = true := by decide +kernel
  show (!(keptAt (sealKey / 32) || _)) = false
  rw [hk]; rfl
theorem State.wake_keeps  {s0 s : State} (h0 : Keeps anyAddr kp s0 s) (bad : Nat) : Keeps anyAddr kp s0 (State.wake s bad) := by
  unfold State.wake
  repeat' with_reducible first | assumption | apply State.setF_keeps | apply State.evalTarget_keeps | apply State.pulse_keeps | apply State.ledger_keeps | apply State.dmaRelease_keeps | apply State.unsettle_keeps | apply State.afterEntry_keeps | apply State.modFast_keeps | apply State.restoreFlows_keeps | apply State.duskBlocks_keeps | apply State.darkBlocks_keeps | apply State.allLocked_keeps | apply State.restart_keeps | apply State.pathsBack_keeps | apply State.darkBack_keeps | apply State.failSeen_keeps | apply State.linesBack_keeps | apply State.zeroBanks_keeps | apply State.wakeFields_keeps | apply Keeps.ite | split | apply Keeps.mk | with_unfolding_all rfl
theorem State.wakeComplete_keeps  {s0 s : State} (h0 : Keeps anyAddr kp s0 s) (bad : Nat) : Keeps anyAddr kp s0 (State.wakeComplete s bad) := by
  unfold State.wakeComplete
  repeat' with_reducible first | assumption | apply State.wake_keeps | apply Keeps.ite | split | with_unfolding_all rfl
theorem execWakeComplete_keeps  {s0 s : State} (h0 : Keeps anyAddr kp s0 s) (bad : Fin 65536) : Nexts (execWakeComplete bad s) (Keeps anyAddr kp s0) := by
  unfold execWakeComplete
  repeat' with_reducible first | assumption | apply Nexts.of | apply State.wakeComplete_keeps | with_unfolding_all rfl
theorem State.wakeRecord_keeps  {s0 s : State} (h0 : Keeps anyAddr kp s0 s) (step : Nat) : Keeps anyAddr kp s0 (State.wakeRecord s step) := by
  unfold State.wakeRecord
  repeat' with_reducible first | assumption | apply State.writeWords_keeps | apply State.wr32_keeps | apply Keeps.ite | split | with_unfolding_all rfl
theorem State.wakeStepTimeout_keeps  {s0 s : State} (h0 : Keeps anyAddr kp s0 s) (step : Nat) : Keeps anyAddr kp s0 (State.wakeStepTimeout s step) := by
  unfold State.wakeStepTimeout
  repeat' with_reducible first | assumption | apply State.wakeRecord_keeps | apply Keeps.ite | split | apply Keeps.dropMem | apply Keeps.dropReg | apply Keeps.dropBoth | apply Keeps.mk | with_unfolding_all rfl
theorem execWakeStepTimeout_keeps  {s0 s : State} (h0 : Keeps anyAddr kp s0 s) (step : Fin 8) : Nexts (execWakeStepTimeout step s) (Keeps anyAddr kp s0) := by
  unfold execWakeStepTimeout
  repeat' with_reducible first | assumption | apply Nexts.of | apply State.wakeStepTimeout_keeps | with_unfolding_all rfl
theorem State.plcCfgWrite_keeps  {s0 s : State} (h0 : Keeps may kp s0 s) (v : Nat) : Keeps may kp s0 (State.plcCfgWrite s v) := by
  unfold State.plcCfgWrite
  repeat' with_reducible first | assumption | apply State.setF_keeps | apply State.flushShadow_keeps | apply State.discarded_keeps | apply State.applyFields_keeps | apply descOf_safe | apply Keeps.ite | split | with_unfolding_all rfl
theorem State.endHold_keeps  {s0 s : State} (h0 : Keeps anyAddr kp s0 s) : Keeps anyAddr kp s0 (State.endHold s) := by
  unfold State.endHold
  repeat' with_reducible first | assumption | apply State.setF_keeps | apply State.rxCtrlWrite_keeps | apply State.txCtrlWrite_keeps | apply State.prismEnableWrite_keeps | apply State.plcCfgWrite_keeps | apply descOf_safe | apply Keeps.ite | apply Keeps.foldl | split | intro t a ht | with_unfolding_all rfl
theorem State.wakeStatusWrite_keeps  {s0 s : State} (h0 : Keeps anyAddr kp s0 s) (v : Nat) : Keeps anyAddr kp s0 (State.wakeStatusWrite s v) := by
  unfold State.wakeStatusWrite
  repeat' with_reducible first | assumption | apply State.setF_keeps | apply State.endHold_keeps | apply Keeps.ite | split | apply Keeps.mk | with_unfolding_all rfl
theorem execHoldRelease_keeps  {s0 s : State} (h0 : Keeps anyAddr kp s0 s) (w : Word) : Nexts (execHoldRelease w s) (Keeps anyAddr kp s0) := by
  unfold execHoldRelease
  repeat' with_reducible first | assumption | apply Nexts.of | apply State.regCmd_keeps | apply State.wakeStatusWrite_keeps | with_unfolding_all rfl
theorem execWakeFailAck_keeps  {s0 s : State} (h0 : Keeps anyAddr kp s0 s) (w : Word) : Nexts (execWakeFailAck w s) (Keeps anyAddr kp s0) := by
  unfold execWakeFailAck
  repeat' with_reducible first | assumption | apply Nexts.of | apply State.regCmd_keeps | apply State.wakeStatusWrite_keeps | with_unfolding_all rfl

/-! Fault -/

theorem State.blowKey_keeps  {s0 s : State} (h0 : Keeps may kp s0 s) (b : Nat) : Keeps may kp s0 (State.blowKey s b) := by
  unfold State.blowKey
  repeat' with_reducible first | assumption | apply State.setF_keeps | apply State.setB_keeps | apply Keeps.ite | split | with_unfolding_all rfl
theorem State.fuseDone_keeps  {s0 s : State} (h0 : Keeps may kp s0 s) (key : Bool) : Keeps may kp s0 (State.fuseDone s key) := by
  unfold State.fuseDone
  repeat' with_reducible first | assumption | apply State.setF_keeps | apply State.blowReg_keeps | apply State.blowKey_keeps | apply Keeps.ite | split | with_unfolding_all rfl
theorem execFuseProgramDone_keeps  {s0 s : State} (h0 : Keeps may kp s0 s) (key : Bool) : Nexts (execFuseProgramDone key s) (Keeps may kp s0) := by
  unfold execFuseProgramDone
  repeat' with_reducible first | assumption | apply Nexts.of | apply State.fuseDone_keeps | with_unfolding_all rfl
theorem State.keyFuseWrite_keeps  {s0 s : State} (h0 : Keeps may kp s0 s) (v : Nat) : Keeps may kp s0 (State.keyFuseWrite s v) := by
  unfold State.keyFuseWrite
  repeat' with_reducible first | assumption | apply State.setF_keeps | apply State.writeReg_keeps | apply Keeps.ite | split | apply Keeps.mk | with_unfolding_all rfl
theorem execKeyFuseProgram_keeps  {s0 s : State} (h0 : Keeps may kp s0 s) (w : Word) : Nexts (execKeyFuseProgram w s) (Keeps may kp s0) := by
  unfold execKeyFuseProgram
  repeat' with_reducible first | assumption | apply Nexts.of | apply State.regCmd_keeps | apply State.keyFuseWrite_keeps | with_unfolding_all rfl
theorem State.sealSet_keeps  {s0 s : State} (h0 : Keeps may kp s0 s) : Keeps may kp s0 (State.sealSet s) := by
  unfold State.sealSet
  exact (State.setSeal_keeps h0).rest rfl rfl rfl rfl rfl
theorem State.sealWrite_keeps  {s0 s : State} (h0 : Keeps may kp s0 s) (v : Nat) : Keeps may kp s0 (State.sealWrite s v) := by
  unfold State.sealWrite
  repeat' with_reducible first | assumption | apply State.sealSet_keeps | apply Keeps.ite | split | with_unfolding_all rfl
theorem execSealWrite_keeps  {s0 s : State} (h0 : Keeps may kp s0 s) (w : Word) : Nexts (execSealWrite w s) (Keeps may kp s0) := by
  unfold execSealWrite
  repeat' with_reducible first | assumption | apply Nexts.of | apply State.regCmd_keeps | apply State.sealWrite_keeps | with_unfolding_all rfl
theorem State.sealForced_keeps  {s0 s : State} (h0 : Keeps may kp s0 s) : Keeps may kp s0 (State.sealForced s) := by
  unfold State.sealForced
  repeat' with_reducible first | assumption | apply State.setF_keeps | apply State.ledger_keeps | apply State.sealSet_keeps | apply Keeps.ite | split | apply Keeps.mk | with_unfolding_all rfl
theorem execSealForced_keeps  {s0 s : State} (h0 : Keeps may kp s0 s) : Nexts (execSealForced s) (Keeps may kp s0) := by
  unfold execSealForced
  repeat' with_reducible first | assumption | apply Nexts.of | apply State.core_keeps | apply State.sealForced_keeps | with_unfolding_all rfl
theorem execLedgerAck_keeps  {s0 s : State} (h0 : Keeps may kp s0 s) (w : Word) : Nexts (execLedgerAck w s) (Keeps may kp s0) := by
  unfold execLedgerAck
  repeat' with_reducible first | assumption | apply Nexts.of | apply State.ackFault_keeps | apply State.regCmd_keeps | with_unfolding_all rfl
theorem State.ovfWrite_keeps  {s0 s : State} (h0 : Keeps may kp s0 s) (v : Nat) : Keeps may kp s0 (State.ovfWrite s v) := by
  unfold State.ovfWrite
  repeat' with_reducible first | assumption | apply State.setF_keeps | apply Keeps.ite | split | with_unfolding_all rfl
theorem State.mboxDoor_keeps  {s0 s : State} (h0 : Keeps may kp s0 s) : Keeps may kp s0 (State.mboxDoor s) := by
  unfold State.mboxDoor
  repeat' with_reducible first | assumption | apply State.swSet_keeps | with_unfolding_all rfl
theorem execMailboxDoor_keeps  {s0 s : State} (h0 : Keeps may kp s0 s) (_w : Word) : Nexts (execMailboxDoor _w s) (Keeps may kp s0) := by
  unfold execMailboxDoor
  repeat' with_reducible first | assumption | apply Nexts.of | apply State.regCmd_keeps | apply State.mboxDoor_keeps | with_unfolding_all rfl
theorem State.ptbCtrlWrite_keeps  {s0 s : State} (h0 : Keeps may kp s0 s) (v : Nat) : Keeps may kp s0 (State.ptbCtrlWrite s v) := by
  unfold State.ptbCtrlWrite
  repeat' with_reducible first | assumption | apply State.setF_keeps | apply State.ledger_keeps | apply Keeps.ite | split | apply Keeps.mk | with_unfolding_all rfl
theorem execPtbEnable_keeps  {s0 s : State} (h0 : Keeps may kp s0 s) (w : Word) : Nexts (execPtbEnable w s) (Keeps may kp s0) := by
  unfold execPtbEnable
  repeat' with_reducible first | assumption | apply Nexts.of | apply State.regCmd_keeps | apply State.ptbCtrlWrite_keeps | with_unfolding_all rfl
theorem execPtbDisable_keeps  {s0 s : State} (h0 : Keeps may kp s0 s) (w : Word) : Nexts (execPtbDisable w s) (Keeps may kp s0) := by
  unfold execPtbDisable
  repeat' with_reducible first | assumption | apply Nexts.of | apply State.regCmd_keeps | apply State.ptbCtrlWrite_keeps | with_unfolding_all rfl
theorem State.bpStart_keeps  {s0 s : State} (h0 : Keeps may kp s0 s) (i : Nat) : Keeps may kp s0 (State.bpStart s i) := by
  unfold State.bpStart
  repeat' with_reducible first | assumption | apply Keeps.ite | split | apply Keeps.mk | with_unfolding_all rfl
theorem execBpHoldStart_keeps  {s0 s : State} (h0 : Keeps may kp s0 s) (b : Fin 4) : Nexts (execBpHoldStart b s) (Keeps may kp s0) := by
  unfold execBpHoldStart
  repeat' with_reducible first | assumption | apply Nexts.of | apply State.core_keeps | apply State.bpStart_keeps | with_unfolding_all rfl
theorem State.releasePkt_keeps  {s0 s : State} (h0 : Keeps anyAddr kp s0 s) (p : Nat) (h : HeldPkt) : Keeps anyAddr kp s0 (State.releasePkt p s h) := by
  unfold State.releasePkt
  repeat' with_reducible first | assumption | apply State.iqWrite_keeps | apply State.pktLate_keeps | apply Keeps.ite | split | with_unfolding_all rfl
theorem State.releaseHeld_keeps  {s0 s : State} (h0 : Keeps anyAddr kp s0 s) (go : HeldPkt → Bool) (p : Nat) : Keeps anyAddr kp s0 (State.releaseHeld go s p) := by
  unfold State.releaseHeld
  repeat' with_reducible first | assumption | apply State.setPort_keeps | apply State.releasePkt_keeps | apply Keeps.foldl | intro t a ht | apply Keeps.mk | with_unfolding_all rfl
theorem State.bpEnd_keeps  {s0 s : State} (h0 : Keeps anyAddr kp s0 s) (i : Nat) : Keeps anyAddr kp s0 (State.bpEnd s i) := by
  unfold State.bpEnd
  repeat' with_reducible first | assumption | apply State.releaseHeld_keeps | apply Keeps.ite | apply Keeps.foldl | split | intro t a ht | apply Keeps.mk | with_unfolding_all rfl
theorem execBpHoldEnd_keeps  {s0 s : State} (h0 : Keeps anyAddr kp s0 s) (b : Fin 4) : Nexts (execBpHoldEnd b s) (Keeps anyAddr kp s0) := by
  unfold execBpHoldEnd
  repeat' with_reducible first | assumption | apply Nexts.of | apply State.core_keeps | apply State.bpEnd_keeps | with_unfolding_all rfl
theorem State.heldLate_keeps  {s0 s : State} (h0 : Keeps anyAddr kp s0 s) : Keeps anyAddr kp s0 (State.heldLate s) := by
  unfold State.heldLate
  repeat' with_reducible first | assumption | apply State.releaseHeld_keeps | apply Keeps.foldl | intro t a ht | with_unfolding_all rfl

/-! Reset -/

theorem State.cutWord_keeps  {s0 s : State} (h0 : Keeps anyAddr kp s0 s) : Keeps anyAddr kp s0 (State.cutWord s) := by
  unfold State.cutWord
  repeat' with_reducible first | assumption | apply State.writeBytes_keeps | split | apply Keeps.mk | with_unfolding_all rfl
theorem State.cleared_keeps {s0 s : State} (h : Keeps anyAddr false s0 s) (power : Bool) : Keeps anyAddr false s0 (s.cleared power) := by
  have h1 : Keeps anyAddr false s0 (if power then s.cutWord else s) := Keeps.ite (State.cutWord_keeps h) h
  unfold State.cleared
  generalize (if power then s.cutWord else s) = s1 at h1
  refine ⟨h1.queue, fun hi => ?_, fun a ha => noneOutside a ha, fun hs => by cases hs⟩
  have := h1.inv hi
  simp only [State.inv, Memory.wf, Bool.and_eq_true] at *
  exact ⟨⟨⟨⟨SMap.wf_drop _ this.1.1.1.1, SMap.wf_drop _ this.1.1.1.2⟩, rfl, rfl⟩, rfl⟩, rfl⟩
theorem State.wholeReset_keeps  {s0 s : State} (h0 : Keeps anyAddr false s0 s) (cause : Nat) (power : Bool) : Keeps anyAddr false s0 (State.wholeReset s cause power) := by
  unfold State.wholeReset
  repeat' with_reducible first | assumption | apply State.setF_keeps | apply State.cleared_keeps | with_unfolding_all rfl
theorem State.powerOn_keeps  {s0 s : State} (h0 : Keeps anyAddr false s0 s) (release : Bool) : Keeps anyAddr false s0 (State.powerOn s release) := by
  unfold State.powerOn
  repeat' with_reducible first | assumption | apply State.wholeReset_keeps | apply Keeps.mk | with_unfolding_all rfl
theorem execPowerOnReset_keeps  {s0 s : State} (h0 : Keeps anyAddr false s0 s) (release : Bool) : Nexts (execPowerOnReset release s) (Keeps anyAddr false s0) := by
  unfold execPowerOnReset
  repeat' with_reducible first | assumption | apply Nexts.of | apply State.powerOn_keeps | with_unfolding_all rfl
theorem State.pinReset_keeps  {s0 s : State} (h0 : Keeps anyAddr false s0 s) (release : Bool) : Keeps anyAddr false s0 (State.pinReset s release) := by
  unfold State.pinReset
  repeat' with_reducible first | assumption | apply State.wholeReset_keeps | apply Keeps.ite | split | apply Keeps.mk | with_unfolding_all rfl
theorem execPinReset_keeps  {s0 s : State} (h0 : Keeps anyAddr false s0 s) (release : Bool) : Nexts (execPinReset release s) (Keeps anyAddr false s0) := by
  unfold execPinReset
  repeat' with_reducible first | assumption | apply Nexts.of | apply State.pinReset_keeps | with_unfolding_all rfl
theorem State.resetAsk_keeps  {s0 s : State} (h0 : Keeps may kp s0 s) (v : Nat) : Keeps may kp s0 (State.resetAsk s v) := by
  unfold State.resetAsk
  repeat' with_reducible first | assumption | apply Keeps.ite | split | apply Keeps.mk | with_unfolding_all rfl
theorem State.resetDue_keeps  {s0 s : State} (h0 : Keeps anyAddr false s0 s) : Keeps anyAddr false s0 (State.resetDue s) := by
  unfold State.resetDue
  repeat' with_reducible first | assumption | apply State.wholeReset_keeps | split | apply Keeps.mk | with_unfolding_all rfl
theorem execSoftwareReset_keeps  {s0 s : State} (h0 : Keeps anyAddr false s0 s) (w : Word) : Nexts (execSoftwareReset w s) (Keeps anyAddr false s0) := by
  unfold execSoftwareReset
  repeat' with_reducible first | assumption | apply Nexts.of | apply State.regCmd_keeps | apply State.resetAsk_keeps | apply State.resetDue_keeps | with_unfolding_all rfl

end Sys2Proof.Machine
end

