-- ==== Sys2Proof/Laws/KeepsFabric.lean ====
section
/-!
SUPPORT. Sys2Proof/Laws/KeepsFabric.lean: every operation of register accesses, the fabric and the DMA transfers keeps the invariant, the queue and a set seal,
and memory but for what it stores.
-/
namespace Sys2Proof.Machine

variable {may : Nat → Bool} {kp : Bool}

/-! Bus -/

theorem State.tlCfgWrite_keeps  {s0 s : State} (h0 : Keeps may kp s0 s) (k v : Nat) : Keeps may kp s0 (State.tlCfgWrite s k v) := by
  unfold State.tlCfgWrite
  repeat' with_reducible first | assumption | apply State.setF_keeps | apply State.discarded_keeps | apply State.applyFields_keeps | apply descOf_safe | apply Keeps.ite | split | with_unfolding_all rfl
theorem execTimelineEnableWrite_keeps  {s0 s : State} (h0 : Keeps may kp s0 s) (k : Fin 4) (w : Word) : Nexts (execTimelineEnableWrite k w s) (Keeps may kp s0) := by
  unfold execTimelineEnableWrite
  repeat' with_reducible first | assumption | apply Nexts.of | apply State.regCmd_keeps | apply State.tlCfgWrite_keeps | with_unfolding_all rfl
theorem State.rxAttWrite_keeps  {s0 s : State} (h0 : Keeps may kp s0 s) (t i v : Nat) : Keeps may kp s0 (State.rxAttWrite s t i v) := by
  unfold State.rxAttWrite
  repeat' with_reducible first | assumption | apply State.setF_keeps | apply State.writeReg_keeps | apply State.manualAtt_keeps | apply Keeps.ite | split | with_unfolding_all rfl
theorem State.radioWrite_to {s0 s : State} (h : Keeps anyAddr kp s0 s) {r : RName} {i j k v : Nat} {u : State}
    (he : s.radioWrite r i j k v = some u) : Keeps anyAddr kp s0 u := by
  unfold State.radioWrite at he
  split at he <;> cases he <;>
    repeat' with_reducible first | assumption | apply State.calRequest_keeps | apply State.rxDdcWrite_keeps | apply State.carWrite_keeps | apply State.cfirWrite_keeps | apply State.corrCommitArm_keeps | apply State.corrPendWrite_keeps | apply State.dpdBypassEndRequest_keeps | apply State.dpdGo_keeps | apply State.dpdUnfreeze_keeps | apply State.fuseProgram_keeps | apply State.hopArm_keeps | apply State.layerEnableWrite_keeps | apply State.loFrequencyWrite_keeps | apply State.mirEnableWrite_keeps | apply State.mirSolve_keeps | apply State.mirStartWrite_keeps | apply State.orxCtrlWrite_keeps | apply State.orxRequest_keeps | apply State.prismEnableWrite_keeps | apply State.rxAttWrite_keeps | apply State.rxCfirCtrlWrite_keeps | apply State.rxCtrlWrite_keeps | apply State.synthEnableWrite_keeps | apply State.tileDisable_keeps | apply State.tileEnable_keeps | apply State.tlCfgWrite_keeps | apply State.txCfirCtrlWrite_keeps | apply State.txCtrlWrite_keeps | apply Keeps.ite | with_unfolding_all rfl
theorem State.radioWrite_keeps {s0 s u : State} (h : Keeps anyAddr kp s0 s) (r : RName) (i j k v : Nat)
    (he : s.radioWrite r i j k v = some u) : Keeps anyAddr kp s0 u := State.radioWrite_to h he
theorem State.linkWrite_to {s0 s : State} (h : Keeps anyAddr kp s0 s) {r : RName} {i j k v : Nat} {u : State}
    (he : s.linkWrite r i j k v = some u) : Keeps anyAddr kp s0 u := by
  unfold State.linkWrite at he
  split at he <;> cases he <;>
    repeat' with_reducible first | assumption | apply State.capPostWrite_keeps | apply State.dfeTapWrite_keeps | apply State.dmCtrlWrite_keeps | apply State.epochTrigger_keeps | apply State.eyeCtrlWrite_keeps | apply State.flowCtrlWrite_keeps | apply State.injectWrite_keeps | apply State.laneCtrlWrite_keeps | apply State.mgmtPostWrite_keeps | apply State.patternWrite_keeps | apply State.plcCfgWrite_keeps | apply State.portCfgWrite_keeps | apply State.prbsCtrlWrite_keeps | apply State.ringWrite_keeps | apply State.seCtrlWrite_keeps | apply State.sePostWrite_keeps | apply State.seStatusWrite_keeps | apply Keeps.ite | with_unfolding_all rfl
theorem State.linkWrite_keeps {s0 s u : State} (h : Keeps anyAddr kp s0 s) (r : RName) (i j k v : Nat)
    (he : s.linkWrite r i j k v = some u) : Keeps anyAddr kp s0 u := State.linkWrite_to h he
theorem State.sysWrite_to {s0 s : State} (h : Keeps anyAddr kp s0 s) {ini : Nat} {r : RName} {i j v : Nat} {u : State}
    (he : s.sysWrite ini r i j v = some u) : Keeps anyAddr kp s0 u := by
  unfold State.sysWrite at he
  split at he <;> cases he <;>
    repeat' with_reducible first | assumption | apply State.ackFault_keeps | apply State.alertClear_keeps | apply State.avsCfgWrite_keeps | apply State.chCtrlWrite_keeps | apply State.clkoutWrite_keeps | apply State.complete_keeps | apply State.coreCfgWrite_keeps | apply State.discCfgWrite_keeps | apply State.domResetWrite_keeps | apply State.doorbellWrite_keeps | apply State.evEnWrite_keeps | apply State.gdisWrite_keeps | apply State.hkaCtrlWrite_keeps | apply State.keyFuseWrite_keeps | apply State.mboxDoor_keeps | apply State.modeWrite_keeps | apply State.ovfWrite_keeps | apply State.perfWrite_keeps | apply State.prioWrite_keeps | apply State.ptbCtrlWrite_keeps | apply State.pwmCtrlWrite_keeps | apply State.resetAsk_keeps | apply State.sealWrite_keeps | apply State.swSet_keeps | apply State.syncCfgWrite_keeps | apply State.tgtWrite_keeps | apply State.wakeStatusWrite_keeps | apply Keeps.ite | with_unfolding_all rfl
theorem State.sysWrite_keeps {s0 s u : State} (h : Keeps anyAddr kp s0 s) (ini : Nat) (r : RName) (i j v : Nat)
    (he : s.sysWrite ini r i j v = some u) : Keeps anyAddr kp s0 u := State.sysWrite_to h he
theorem State.regWrite_keeps {s0 s : State} (h : Keeps anyAddr kp s0 s) (ini a v : Nat) : Keeps anyAddr kp s0 (s.regWrite ini a v) := by
  unfold State.regWrite
  cases ho : findReg a with
  | none => exact h
  | some x =>
    have hd := findReg_safe ho
    obtain ⟨d, i, j, k⟩ := x
    dsimp only
    cases h1 : s.radioWrite d.name i j k v with
    | some t => exact State.radioWrite_to h h1
    | none =>
      cases h2 : s.linkWrite d.name i j k v with
      | some t => exact State.linkWrite_to h h2
      | none =>
        cases h3 : s.sysWrite ini d.name i j v with
        | some t => exact State.sysWrite_to h h3
        | none => exact State.writePlain_keeps h d i j k v hd
theorem State.settle_keeps  {s0 s : State} (h0 : Keeps may kp s0 s) (r : RName) (i j : Nat) : Keeps may kp s0 (State.settle s r i j) := by
  unfold State.settle
  repeat' with_reducible first | assumption | apply State.setF_keeps | apply State.adaptRead_keeps | apply State.prbsLatch_keeps | apply Keeps.ite | apply Keeps.foldl | split | intro t a ht | apply Keeps.mk | with_unfolding_all rfl
theorem State.clearRC_keeps {s0 s : State} (h : Keeps may kp s0 s) (d : RegDesc) (i j k : Nat) (hd : d.sealSafe) :
    Keeps may kp s0 (s.clearRC d i j k) := by
  unfold State.clearRC
  refine Keeps.foldlMem _ _ (fun t x hx ht => ?_) h
  rcases (hd x hx).1 with hc | rfl
  · exact Keeps.ite (State.setF_keeps ht x _ i j k hc) ht
  · exact ht
theorem State.dropHold_keeps  {s0 s : State} (h0 : Keeps may kp s0 s) (rd : Nat) : Keeps may kp s0 (State.dropHold s rd) := by
  unfold State.dropHold
  repeat' with_reducible first | assumption | apply Keeps.mk | with_unfolding_all rfl
theorem State.latchHigh_keeps  {s0 s : State} (h0 : Keeps may kp s0 s) (rd a : Nat) (d : RegDesc) (i j k : Nat) (hd : d.sealSafe) : Keeps may kp s0 (State.latchHigh s rd a d i j k) := by
  unfold State.latchHigh
  repeat' with_reducible first | assumption | apply Keeps.ite | split | refine findReg_tuple (by assumption) | apply Keeps.mk | with_unfolding_all rfl
theorem State.regRead_keeps  {s0 s : State} (h0 : Keeps may kp s0 s) (rd a : Nat) : Keeps may kp s0 ((State.regRead s rd a).2) := by
  unfold State.regRead
  repeat' with_reducible first | assumption | apply State.claim_keeps | apply State.settle_keeps | apply State.clearRC_keeps | apply State.dropHold_keeps | apply State.latchHigh_keeps | apply Keeps.ite | split | refine findReg_tuple (by assumption) | apply Keeps.mk | with_unfolding_all rfl
theorem State.regRead_to  {s0 s : State} (h0 : Keeps may kp s0 s) {rd a : Nat} {v : Nat} {t : State} (he : State.regRead s rd a = (v, t)) : Keeps may kp s0 t := by
  have := State.regRead_keeps h0 rd a; rw [he] at this; exact this
theorem State.readCmd_keeps  {s0 s : State} (h0 : Keeps may kp s0 s) (rd a : Nat) (ok : Bool) : Nexts (State.readCmd s rd a ok) (Keeps may kp s0) := by
  unfold State.readCmd
  repeat' with_reducible first | assumption | apply Nexts.of | apply State.bump_keeps | apply State.answer_keeps | apply State.regRead_keeps | apply Keeps.ite | split | refine State.regRead_to ?_ (by assumption) | with_unfolding_all rfl
theorem execRegisterWrite_keeps  {s0 s : State} (h0 : Keeps anyAddr kp s0 s) (ini : Initiator) (a w : Word) : Nexts (execRegisterWrite ini a w s) (Keeps anyAddr kp s0) := by
  unfold execRegisterWrite
  repeat' with_reducible first | assumption | apply Nexts.of | apply State.regCmd_keeps | apply State.regWrite_keeps | with_unfolding_all rfl
theorem execReadClear_keeps  {s0 s : State} (h0 : Keeps may kp s0 s) (rd : Reader) (a : Word) : Nexts (execReadClear rd a s) (Keeps may kp s0) := by
  unfold execReadClear
  repeat' with_reducible first | assumption | apply Nexts.of | apply State.readCmd_keeps | with_unfolding_all rfl
theorem execLowWordRead_keeps  {s0 s : State} (h0 : Keeps may kp s0 s) (rd : Reader) (a : Word) : Nexts (execLowWordRead rd a s) (Keeps may kp s0) := by
  unfold execLowWordRead
  repeat' with_reducible first | assumption | apply Nexts.of | apply State.readCmd_keeps | with_unfolding_all rfl
theorem State.holdExpire_keeps  {s0 s : State} (h0 : Keeps may kp s0 s) (rd : Nat) : Keeps may kp s0 (State.holdExpire s rd) := by
  unfold State.holdExpire
  repeat' with_reducible first | assumption | apply State.dropHold_keeps | apply Keeps.ite | split | apply Keeps.mk | with_unfolding_all rfl
theorem execHoldingRegisterExpire_keeps  {s0 s : State} (h0 : Keeps may kp s0 s) (rd : Reader) : Nexts (execHoldingRegisterExpire rd s) (Keeps may kp s0) := by
  unfold execHoldingRegisterExpire
  repeat' with_reducible first | assumption | apply Nexts.of | apply State.holdExpire_keeps | with_unfolding_all rfl
theorem State.proxyWrite_keeps  {s0 s : State} (h0 : Keeps may kp s0 s) (ini : Initiator) (v : Nat) : Keeps may kp s0 (State.proxyWrite s ini v) := by
  unfold State.proxyWrite
  repeat' with_reducible first | assumption | apply State.deny_keeps | apply State.writeReg_keeps | apply State.answer_keeps | apply Keeps.ite | split | with_unfolding_all rfl
theorem execProxyWrite_keeps  {s0 s : State} (h0 : Keeps may kp s0 s) (ini : Initiator) (w : Word) : Nexts (execProxyWrite ini w s) (Keeps may kp s0) := by
  unfold execProxyWrite
  repeat' with_reducible first | assumption | apply Nexts.of | apply State.regCmd_keeps | apply State.proxyWrite_keeps | with_unfolding_all rfl

/-! Fabric -/

theorem State.sramBad_keeps  {s0 s : State} (h0 : Keeps may kp s0 s) (a : Nat) : Keeps may kp s0 (State.sramBad s a) := by
  unfold State.sramBad
  repeat' with_reducible first | assumption | apply State.bump_keeps | apply State.ledger_keeps | with_unfolding_all rfl
theorem State.memRead_keeps  {s0 s : State} (h0 : Keeps may kp s0 s) (a n ecc : Nat) : Keeps may kp s0 ((State.memRead s a n ecc).2.2) := by
  unfold State.memRead
  repeat' with_reducible first | assumption | apply State.bump_keeps | apply State.ledger_keeps | apply State.sramBad_keeps | apply Keeps.ite | split | with_unfolding_all rfl
theorem State.memRead_to  {s0 s : State} (h0 : Keeps may kp s0 s) {a n ecc : Nat} {v : Nat} {w : Nat} {t : State} (he : State.memRead s a n ecc = (v, w, t)) : Keeps may kp s0 t := by
  have := State.memRead_keeps h0 a n ecc; rw [he] at this; exact this
theorem State.keepStale_keeps  {s0 s : State} (h0 : Keeps may kp s0 s) (n a : Nat) (len : Nat) : Keeps may kp s0 (State.keepStale s n a len) := by
  unfold State.keepStale
  repeat' with_reducible first | assumption | apply State.setEng_keeps | apply Keeps.ite | apply Keeps.foldl | split | intro t a ht | apply Keeps.mk | with_unfolding_all rfl
theorem State.moveBegin_keeps  {s0 s : State} (h0 : Keeps may kp s0 s) (a : Nat) : Keeps may kp s0 (State.moveBegin s a) := by
  unfold State.moveBegin
  repeat' with_reducible first | assumption | apply State.setF_keeps | apply Keeps.mk | with_unfolding_all rfl
theorem State.mramStore_keeps  {s0 s : State} (h0 : Keeps anyAddr kp s0 s) (a n data : Nat) : Keeps anyAddr kp s0 (State.mramStore s a n data) := by
  unfold State.mramStore
  repeat' with_reducible first | assumption | apply State.writeLE_keeps | apply Keeps.mk | with_unfolding_all rfl
theorem State.mramPut_keeps  {s0 s : State} (h0 : Keeps anyAddr kp s0 s) (a n data : Nat) : Keeps anyAddr kp s0 (State.mramPut s a n data) := by
  unfold State.mramPut
  repeat' with_reducible first | assumption | apply State.moveBegin_keeps | apply State.mramStore_keeps | apply Keeps.ite | split | with_unfolding_all rfl
theorem State.storeAt_keeps  {s0 s : State} (h0 : Keeps anyAddr kp s0 s) (ini a n data : Nat) : Keeps anyAddr kp s0 (State.storeAt s ini a n data) := by
  unfold State.storeAt
  repeat' with_reducible first | assumption | apply State.writeLE_keeps | apply State.dpdMemWrite_keeps | apply State.regWrite_keeps | apply State.mramPut_keeps | split | apply Keeps.mk | with_unfolding_all rfl
theorem State.loadAt_keeps  {s0 s : State} (h0 : Keeps may kp s0 s) (rd a n ecc : Nat) : Keeps may kp s0 ((State.loadAt s rd a n ecc).2.2) := by
  unfold State.loadAt
  repeat' with_reducible first | assumption | apply State.regRead_keeps | apply State.memRead_keeps | split | refine State.regRead_to ?_ (by assumption) | refine State.memRead_to ?_ (by assumption) | apply Keeps.mk | with_unfolding_all rfl
theorem State.loadAt_to  {s0 s : State} (h0 : Keeps may kp s0 s) {rd a n ecc : Nat} {v : Nat} {w : Nat} {t : State} (he : State.loadAt s rd a n ecc = (v, w, t)) : Keeps may kp s0 t := by
  have := State.loadAt_keeps h0 rd a n ecc; rw [he] at this; exact this
theorem State.access_keeps {s0 s : State} (h : Keeps anyAddr kp s0 s) (i : Initiator) (rd : Nat) (k : AccKind) (a0 n data ecc : Nat) :
    Keeps anyAddr kp s0 (s.access i rd k a0 n data ecc).2.2 := by
  unfold State.access
  by_cases h1 : (!s.permitted i k a0 n) = true
  · rw [if_pos h1]; with_reducible exact State.deny_keeps h i k a0
  · rw [if_neg h1]
    by_cases h2 : s.absentAt (nativeAddr a0) = true
    · rw [if_pos h2]; with_reducible exact State.bump_keeps h _ _ _ _ (by with_unfolding_all rfl)
    · rw [if_neg h2]
      by_cases h3 : k = .write
      · rw [if_pos h3]
        by_cases h4 : (i = .svc ∨ i = .jtag) ∧ s.romRuns = true
        · rw [if_pos h4]; exact h
        · rw [if_neg h4]; with_reducible exact State.storeAt_keeps h _ _ _ _
      · rw [if_neg h3]; with_reducible exact State.loadAt_keeps h _ _ _ _
theorem State.access_to {s0 s : State} (h : Keeps anyAddr kp s0 s) {i : Initiator} {rd : Nat} {k : AccKind} {a0 n data ecc v w : Nat}
    {t : State} (he : s.access i rd k a0 n data ecc = (v, w, t)) : Keeps anyAddr kp s0 t := by
  have := State.access_keeps h i rd k a0 n data ecc; rw [he] at this; exact this
theorem Keeps.getD {s0 s : State} (h : Keeps may kp s0 s) {α : Type} {f : α → State} (hf : ∀ a, Keeps may kp s0 (f a)) (o : Option α) :
    Keeps may kp s0 ((o.map f).getD s) := by
  cases o with
  | none => exact h
  | some a => exact hf a
theorem State.fillD_keeps {s0 s : State} (h : Keeps anyAddr kp s0 s) (k : Nat) : Keeps anyAddr kp s0 (s.fillD k) := by
  unfold State.fillD
  split
  · exact h
  · exact (Keeps.getD h (fun e : Nat × CacheLine => State.writeBack_keeps h e.1 e.2) _).rest rfl rfl rfl rfl rfl
theorem State.fillI_keeps  {s0 s : State} (h0 : Keeps may kp s0 s) (k : Nat) : Keeps may kp s0 (State.fillI s k) := by
  unfold State.fillI
  repeat' with_reducible first | assumption | apply Keeps.ite | split | apply Keeps.mk | with_unfolding_all rfl
theorem State.dStore_keeps  {s0 s : State} (h0 : Keeps may kp s0 s) (a : Nat) (b : Byte) : Keeps may kp s0 (State.dStore s a b) := by
  unfold State.dStore
  repeat' with_reducible first | assumption | split | apply Keeps.mk | with_unfolding_all rfl
theorem State.cacheDo_keeps  {s0 s : State} (h0 : Keeps anyAddr kp s0 s) (kind a n data : Nat) : Keeps anyAddr kp s0 ((State.cacheDo s kind a n data).2) := by
  unfold State.cacheDo
  repeat' with_reducible first | assumption | apply State.fillD_keeps | apply State.fillI_keeps | apply State.dStore_keeps | apply Keeps.ite | apply Keeps.foldl | split | intro t a ht | with_unfolding_all rfl
theorem State.cacheDo_to  {s0 s : State} (h0 : Keeps anyAddr kp s0 s) {kind a n data : Nat} {v : Nat} {t : State} (he : State.cacheDo s kind a n data = (v, t)) : Keeps anyAddr kp s0 t := by
  have := State.cacheDo_keeps h0 kind a n data; rw [he] at this; exact this
theorem State.setWaiting_keeps  {s0 s : State} (h0 : Keeps may kp s0 s) (p : Nat) (q : List Request) : Keeps may kp s0 (State.setWaiting s p q) := by
  unfold State.setWaiting
  repeat' with_reducible first | assumption | apply Keeps.mk | with_unfolding_all rfl
theorem State.fabricAccess_keeps  {s0 s : State} (h0 : Keeps anyAddr kp s0 s) (i : Initiator) (k : AccKind) (a0 n data ecc : Nat) : Keeps anyAddr kp s0 (State.fabricAccess s i k a0 n data ecc) := by
  unfold State.fabricAccess
  repeat' with_reducible first | assumption | apply State.bump_keeps | apply State.deny_keeps | apply State.answer_keeps | apply State.cacheDo_keeps | apply State.setWaiting_keeps | apply Keeps.ite | split | refine State.cacheDo_to ?_ (by assumption) | with_unfolding_all rfl
theorem execFabricAccess_keeps  {s0 s : State} (h0 : Keeps anyAddr kp s0 s) (i : Initiator) (k : AccKind) (a : Word) (n : Fin 65) (data : Nat) (ecc : Fin 3) : Nexts (execFabricAccess i k a n data ecc s) (Keeps anyAddr kp s0) := by
  unfold execFabricAccess
  repeat' with_reducible first | assumption | apply Nexts.of | apply State.core_keeps | apply State.fabricAccess_keeps | with_unfolding_all rfl
theorem execCompatWindowAccess_keeps  {s0 s : State} (h0 : Keeps anyAddr kp s0 s) (i : Initiator) (k : AccKind) (w : Fin 1048576) (data : Word) : Nexts (execCompatWindowAccess i k w data s) (Keeps anyAddr kp s0) := by
  unfold execCompatWindowAccess
  repeat' with_reducible first | assumption | apply Nexts.of | apply State.core_keeps | apply State.fabricAccess_keeps | with_unfolding_all rfl
theorem State.serve_keeps  {s0 s : State} (h0 : Keeps anyAddr kp s0 s) (r : Request) : Keeps anyAddr kp s0 (State.serve s r) := by
  unfold State.serve
  repeat' with_reducible first | assumption | apply State.bump_keeps | apply State.answer_keeps | apply State.sramBad_keeps | apply State.storeAt_keeps | apply State.loadAt_keeps | apply State.cacheDo_keeps | apply Keeps.ite | split | refine State.loadAt_to ?_ (by assumption) | refine State.cacheDo_to ?_ (by assumption) | apply Keeps.mk | with_unfolding_all rfl
theorem State.grantReq_keeps  {s0 s : State} (h0 : Keeps anyAddr kp s0 s) (p : Nat) (r : Request) : Keeps anyAddr kp s0 (State.grantReq s p r) := by
  unfold State.grantReq
  repeat' with_reducible first | assumption | apply State.bump_keeps | apply State.setWaiting_keeps | apply State.serve_keeps | apply Keeps.ite | split | apply Keeps.mk | with_unfolding_all rfl
theorem State.fabricGrant_keeps  {s0 s : State} (h0 : Keeps anyAddr kp s0 s) (p : Nat) : Keeps anyAddr kp s0 (State.fabricGrant s p) := by
  unfold State.fabricGrant
  repeat' with_reducible first | assumption | apply State.bump_keeps | apply State.grantReq_keeps | apply Keeps.ite | split | apply Keeps.mk | with_unfolding_all rfl
theorem execFabricGrant_keeps  {s0 s : State} (h0 : Keeps anyAddr kp s0 s) (p : Fin 38) : Nexts (execFabricGrant p s) (Keeps anyAddr kp s0) := by
  unfold execFabricGrant
  repeat' with_reducible first | assumption | apply Nexts.of | apply State.core_keeps | apply State.fabricGrant_keeps | with_unfolding_all rfl
theorem State.mramDone_keeps  {s0 s : State} (h0 : Keeps may kp s0 s) (r : Request) : Keeps may kp s0 (State.mramDone s r) := by
  unfold State.mramDone
  repeat' with_reducible first | assumption | apply Keeps.mk | with_unfolding_all rfl
theorem State.mramRead_keeps  {s0 s : State} (h0 : Keeps may kp s0 s) (ecc : Nat) : Keeps may kp s0 (State.mramRead s ecc) := by
  unfold State.mramRead
  repeat' with_reducible first | assumption | apply State.answer_keeps | apply State.memRead_keeps | apply State.mramDone_keeps | split | refine State.memRead_to ?_ (by assumption) | apply Keeps.mk | with_unfolding_all rfl
theorem execMramRead_keeps  {s0 s : State} (h0 : Keeps may kp s0 s) (ecc : Fin 3) : Nexts (execMramRead ecc s) (Keeps may kp s0) := by
  unfold execMramRead
  repeat' with_reducible first | assumption | apply Nexts.of | apply State.core_keeps | apply State.mramRead_keeps | with_unfolding_all rfl
theorem State.mramWrite_keeps  {s0 s : State} (h0 : Keeps anyAddr kp s0 s) : Keeps anyAddr kp s0 (State.mramWrite s) := by
  unfold State.mramWrite
  repeat' with_reducible first | assumption | apply State.answer_keeps | apply State.moveBegin_keeps | apply State.mramStore_keeps | apply State.mramDone_keeps | apply Keeps.ite | split | apply Keeps.mk | with_unfolding_all rfl
theorem execMramWrite_keeps  {s0 s : State} (h0 : Keeps anyAddr kp s0 s) : Nexts (execMramWrite s) (Keeps anyAddr kp s0) := by
  unfold execMramWrite
  repeat' with_reducible first | assumption | apply Nexts.of | apply State.core_keeps | apply State.mramWrite_keeps | with_unfolding_all rfl
theorem State.pageMoved_keeps  {s0 s : State} (h0 : Keeps may kp s0 s) : Keeps may kp s0 (State.pageMoved s) := by
  unfold State.pageMoved
  repeat' with_reducible first | assumption | apply State.setF_keeps | apply State.bump_keeps | split | apply Keeps.mk | with_unfolding_all rfl
theorem execMramPageMove_keeps  {s0 s : State} (h0 : Keeps may kp s0 s) : Nexts (execMramPageMove s) (Keeps may kp s0) := by
  unfold execMramPageMove
  repeat' with_reducible first | assumption | apply Nexts.of | apply State.core_keeps | apply State.pageMoved_keeps | with_unfolding_all rfl

/-! Dma -/

theorem State.dmaWords_keeps {s0 s : State} (h : Keeps anyAddr kp s0 s) (c a ecc n : Nat) : Keeps anyAddr kp s0 (s.dmaWords c a ecc n).2.2 := by
  induction n generalizing s a ecc with
  | zero => exact h
  | succ n ih =>
    unfold State.dmaWords
    have h1 := State.access_keeps h .dma (32 + c) .read a 4 0 ecc
    generalize s.access .dma (32 + c) .read a 4 0 ecc = r at h1
    dsimp only
    split
    · exact ih h1 _ _
    · exact h1
theorem State.dmaStart_keeps {s0 s : State} (h : Keeps anyAddr kp s0 s) (c : Nat) (bad : Bool) : Keeps anyAddr kp s0 (s.dmaStart c bad) := by
  unfold State.dmaStart
  split
  · next a he =>
    split
    · have h1 := State.dmaWords_keeps h c a (if bad then 2 else 0) 7
      generalize s.dmaWords c a (if bad then 2 else 0) 7 = r at h1
      dsimp only
      repeat' with_reducible first | assumption | apply State.setF_keeps | apply State.setDma_keeps | with_unfolding_all rfl
    · exact h
  · exact h
theorem execDmaDescriptorStart_keeps  {s0 s : State} (h0 : Keeps anyAddr kp s0 s) (c : Fin 32) (bad : Bool) : Nexts (execDmaDescriptorStart c bad s) (Keeps anyAddr kp s0) := by
  unfold execDmaDescriptorStart
  repeat' with_reducible first | assumption | apply Nexts.of | apply State.core_keeps | apply State.dmaStart_keeps | with_unfolding_all rfl
theorem Keeps.foldlBy {s : State} {α β : Type} (g : β → State) (f : β → α → β)
    (hf : ∀ t a, Keeps may kp s (g t) → Keeps may kp s (g (f t a))) (l : List α) {t : β} (h : Keeps may kp s (g t)) : Keeps may kp s (g (l.foldl f t)) := by
  induction l generalizing t with
  | nil => exact h
  | cons a l ih => exact ih (hf t a h)
theorem dmaRead1_run {s0 : State} (c : Nat) (d : List Nat) (bad : Option Nat) (r : DmaRun) (p : Nat × Nat)
    (h : Keeps anyAddr kp s0 r.s) : Keeps anyAddr kp s0 (dmaRead1 c d bad r p).s := by
  unfold dmaRead1
  split
  · exact h
  · dsimp only
    have h1 := fun e => State.access_keeps h .dma (32 + c) .read p.1 p.2 0 e
    have h2 := h1 (if bad.any (fun b => decide (r.bytes.length ≤ b ∧ b < r.bytes.length + p.2)) then 2 else 0)
    generalize r.s.access .dma (32 + c) .read p.1 p.2 0 _ = x at h2 ⊢
    split
    · exact h2
    · exact h2.rest rfl rfl rfl rfl rfl
theorem dmaReadRun_run {s0 : State} (c : Nat) (d : List Nat) (bad : Option Nat) (r : DmaRun) (p : Nat × Nat)
    (h : Keeps anyAddr kp s0 r.s) : Keeps anyAddr kp s0 (dmaReadRun c d bad r p).s :=
  Keeps.foldlBy DmaRun.s _ (fun t a ht => dmaRead1_run c d bad t a ht) _ h
theorem dmaIndex_run {s0 : State} (c : Nat) (d : List Nat) (r : DmaRun) (k : Nat) (h : Keeps anyAddr kp s0 r.s) :
    Keeps anyAddr kp s0 (dmaIndex c d r k).2.s := by
  unfold dmaIndex
  exact dmaReadRun_run c d none { r with bytes := [] } _ h
theorem dmaGather_run {s0 : State} (c : Nat) (d : List Nat) (bad : Option Nat) (r : DmaRun) (k : Nat) (h : Keeps anyAddr kp s0 r.s) :
    Keeps anyAddr kp s0 (dmaGather c d bad r k).s := by
  unfold dmaGather
  split
  · exact h
  · dsimp only
    have h1 := dmaIndex_run c d r k h
    generalize dmaIndex c d r k = t at h1
    split
    · exact h1
    · exact dmaReadRun_run c d bad t.2 _ h1
theorem dmaWrite1_run {s0 : State} (c : Nat) (data : List Byte) (r : DmaRun) (p : Nat × Nat) (h : Keeps anyAddr kp s0 r.s) :
    Keeps anyAddr kp s0 (dmaWrite1 c data r p).s := by
  unfold dmaWrite1
  split
  · exact h
  · dsimp only
    have h2 := State.access_keeps h .dma (32 + c) .write p.1 p.2
      (leBytes (fun i => ((data.drop r.bytes.length).take p.2).getD i 0) 0 p.2) 0
    generalize r.s.access .dma (32 + c) .write p.1 p.2 _ 0 = x at h2 ⊢
    split <;> exact h2
theorem dmaUnit_run {s0 : State} (c : Nat) (d : List Nat) (bad : Option Nat) (r : DmaRun) (k : Nat) (h : Keeps anyAddr kp s0 r.s) :
    Keeps anyAddr kp s0 (dmaUnit c d bad r k).s := by
  unfold dmaUnit
  split
  · exact dmaGather_run c d bad r k h
  · exact dmaRead1_run c d bad r _ h
theorem dmaFill_run {s0 : State} (c : Nat) (d : List Nat) (bad : Option Nat) (e n : Nat) (r : DmaRun) (k : Nat)
    (h : Keeps anyAddr kp s0 r.s) : Keeps anyAddr kp s0 (dmaFill c d bad e n r k).1.s := by
  induction n generalizing r k with
  | zero => exact h
  | succ n ih =>
    unfold dmaFill
    split
    · exact h
    · exact ih _ _ (dmaUnit_run c d bad r k h)
theorem State.dmaTurnOf_keeps {s0 s : State} (h : Keeps anyAddr kp s0 s) (c : Nat) (bad : Option Nat) :
    Keeps anyAddr kp s0 (s.dmaTurnOf c bad) := by
  unfold State.dmaTurnOf
  generalize s.dmaC c = x
  dsimp only
  split
  · exact h
  · next d he =>
    have h1 := fun e => dmaFill_run c d bad e 2048 { bytes := x.got, s := s } x.units h
    have h2 := h1 (x.written + ((withinBudget 256 ((dmaWrites d).drop x.writes)).map (·.2)).sum)
    generalize dmaFill c d bad _ 2048 { bytes := x.got, s := s } x.units = f at h2 ⊢
    have h3 : Keeps anyAddr kp s0 { f.1.s with free := f.1.s.free + 1 } := h2.rest rfl rfl rfl rfl rfl
    exact State.setDma_keeps (Keeps.foldlBy DmaRun.s _ (fun t a ht => dmaWrite1_run c _ t a ht) _ h3) _ _
theorem State.dmaTurn_keeps {s0 s : State} (h0 : Keeps anyAddr kp s0 s) (c : Nat) (bad : Option Nat) :
    Keeps anyAddr kp s0 (s.dmaTurn c bad) := by
  unfold State.dmaTurn
  split
  · exact (State.dmaTurnOf_keeps h0 _ _).rest rfl rfl rfl rfl rfl
  · exact h0
theorem State.dmaFinish_keeps {s0 s : State} (h : Keeps anyAddr kp s0 s) (c : Nat) (bad : Option Nat) (n : Nat) :
    Keeps anyAddr kp s0 (State.dmaFinish c bad n s) := by
  induction n generalizing s with
  | zero => exact h
  | succ n ih => unfold State.dmaFinish; exact Keeps.ite (ih (State.dmaTurn_keeps h c bad)) h
theorem State.dmaTick_keeps  {s0 s : State} (h0 : Keeps anyAddr kp s0 s) : Keeps anyAddr kp s0 (State.dmaTick s) := by
  unfold State.dmaTick
  repeat' with_reducible first | assumption | apply State.dmaTurn_keeps | apply Keeps.ite | split | with_unfolding_all rfl
theorem State.dmaW7_keeps {s0 s : State} (h : Keeps anyAddr kp s0 s) (c : Nat) (d : List Nat) (w : Nat) :
    Keeps anyAddr kp s0 (s.dmaW7 c d w).2 := by
  unfold State.dmaW7
  split
  · exact State.access_keeps h .dma (32 + c) .write _ 4 _ 0
  · exact h
theorem State.dmaAfter_keeps  {s0 s : State} (h0 : Keeps may kp s0 s) (c : Nat) (d : List Nat) : Keeps may kp s0 (State.dmaAfter s c d) := by
  unfold State.dmaAfter
  repeat' with_reducible first | assumption | apply State.setDma_keeps | apply State.dmaStopped_keeps | apply Keeps.ite | split | apply Keeps.mk | with_unfolding_all rfl
theorem State.dmaEnd_keeps {s0 s : State} (h : Keeps anyAddr kp s0 s) (c : Nat) : Keeps anyAddr kp s0 (s.dmaEnd c) := by
  unfold State.dmaEnd
  split
  · next d he =>
    dsimp only
    have h1 := State.dmaFinish_keeps h c none (s.dmaTurns c)
    generalize State.dmaFinish c none (s.dmaTurns c) s = s1 at h1
    have h2 := State.dmaW7_keeps h1 c d (s1.dmaC c).written
    generalize s1.dmaW7 c d (s1.dmaC c).written = w at h2
    repeat' with_reducible first | assumption | apply State.dmaAfter_keeps | apply State.pulse_keeps | apply State.bump_keeps | apply Keeps.ite | with_unfolding_all rfl
  · exact h
theorem execDmaDescriptorEnd_keeps  {s0 s : State} (h0 : Keeps anyAddr kp s0 s) (c : Fin 32) : Nexts (execDmaDescriptorEnd c s) (Keeps anyAddr kp s0) := by
  unfold execDmaDescriptorEnd
  repeat' with_reducible first | assumption | apply Nexts.of | apply State.core_keeps | apply State.dmaEnd_keeps | with_unfolding_all rfl
theorem State.dmaError_keeps {s0 s : State} (h : Keeps anyAddr kp s0 s) (c : Nat) (bad : Option Nat) :
    Keeps anyAddr kp s0 (s.dmaError c bad) := by
  unfold State.dmaError
  split
  · next d he =>
    dsimp only
    have h1 := State.dmaFinish_keeps h c bad (s.dmaTurns c)
    generalize State.dmaFinish c bad (s.dmaTurns c) s = s1 at h1
    have h2 := State.dmaW7_keeps h1 c d (s1.dmaC c).written
    generalize s1.dmaW7 c d (s1.dmaC c).written = w at h2
    repeat' with_reducible first | assumption | apply State.dmaFail_keeps | apply Keeps.ite | with_unfolding_all rfl
  · exact h
theorem execDmaError_keeps  {s0 s : State} (h0 : Keeps anyAddr kp s0 s) (c : Fin 32) (bad : Option Nat) : Nexts (execDmaError c bad s) (Keeps anyAddr kp s0) := by
  unfold execDmaError
  repeat' with_reducible first | assumption | apply Nexts.of | apply State.core_keeps | apply State.dmaError_keeps | with_unfolding_all rfl

end Sys2Proof.Machine
end

