-- ==== Sys2Proof/Laws/KeepsEngine.lean ====
section
/-!
SUPPORT. Sys2Proof/Laws/KeepsEngine.lean: every operation of the signal engines keeps the invariant, the queue and a set seal,
and memory but for what it stores.
-/
namespace Sys2Proof.Machine

variable {may : Nat → Bool} {kp : Bool}

/-! Engine -/

theorem State.bundleEnd_keeps  {s0 s : State} (h0 : Keeps may kp s0 s) (n : Nat) : Keeps may kp s0 (State.bundleEnd s n) := by
  unfold State.bundleEnd
  repeat' with_reducible first | assumption | apply State.setEng_keeps | apply State.abortTry_keeps | apply Keeps.ite | split | with_unfolding_all rfl
theorem execResultWriteback_keeps  {s0 s : State} (h0 : Keeps may kp s0 s) (n : Fin 16) : Nexts (execResultWriteback n s) (Keeps may kp s0) := by
  unfold execResultWriteback
  repeat' with_reducible first | assumption | apply Nexts.of | apply State.core_keeps | apply State.bundleEnd_keeps | with_unfolding_all rfl
theorem State.bundleFetch_keeps  {s0 s : State} (h0 : Keeps may kp s0 s) (n : Nat) (b0 : BundleInfo) : Keeps may kp s0 (State.bundleFetch s n b0) := by
  unfold State.bundleFetch
  repeat' with_reducible first | assumption | apply State.setF_keeps | apply State.bumpBy_keeps | apply State.setEng_keeps | apply State.engFault_keeps | apply State.sramBad_keeps | apply Keeps.ite | split | apply Keeps.mk | with_unfolding_all rfl
theorem State.bundleIssue_keeps  {s0 s : State} (h0 : Keeps may kp s0 s) (n : Nat) (b : BundleInfo) : Keeps may kp s0 (State.bundleIssue s n b) := by
  unfold State.bundleIssue
  repeat' with_reducible first | assumption | apply State.bundleEnd_keeps | apply State.bundleFetch_keeps | apply Keeps.ite | split | with_unfolding_all rfl
theorem execBundleIssue_keeps  {s0 s : State} (h0 : Keeps may kp s0 s) (n : Fin 16) (b : BundleInfo) : Nexts (execBundleIssue n b s) (Keeps may kp s0) := by
  unfold execBundleIssue
  repeat' with_reducible first | assumption | apply Nexts.of | apply State.core_keeps | apply State.bundleIssue_keeps | with_unfolding_all rfl
theorem State.op_keeps {s0 s : State} (h : Keeps may kp s0 s) (n : Nat) (x : Slot) (ds : List Nat) (act : State → State)
    (ha : ∀ t, Keeps may kp s0 t → Keeps may kp s0 (act t)) : Keeps may kp s0 (s.op n x ds act) := by
  unfold State.op
  exact Keeps.ite (ha _ (State.setEng_keeps h _ _)) h
theorem State.opE_keeps  {s0 s : State} (h0 : Keeps may kp s0 s) (n : Nat) (x : Slot) (ds : List Nat) (f : Engine → Engine) : Keeps may kp s0 (State.opE s n x ds f) := by
  unfold State.opE
  repeat' with_reducible first | assumption | apply State.setEng_keeps | apply State.op_keeps | intro t ht | with_unfolding_all rfl
theorem State.branchOp_keeps  {s0 s : State} (h0 : Keeps may kp s0 s) (n : Nat) (ds : List Nat) (f : Engine → Engine) : Keeps may kp s0 (State.branchOp s n ds f) := by
  unfold State.branchOp
  repeat' with_reducible first | assumption | apply State.opE_keeps | apply Keeps.ite | split | with_unfolding_all rfl
theorem execBr_keeps  {s0 s : State} (h0 : Keeps may kp s0 s) (n : Fin 16) (t : Fin 65536) : Nexts (execBr n t s) (Keeps may kp s0) := by
  unfold execBr
  repeat' with_reducible first | assumption | apply Nexts.of | apply State.branchOp_keeps | with_unfolding_all rfl
theorem execBrcc_keeps  {s0 s : State} (h0 : Keeps may kp s0 s) (n : Fin 16) (c : Cond) (want : Bool) (t : Fin 65536) : Nexts (execBrcc n c want t s) (Keeps may kp s0) := by
  unfold execBrcc
  repeat' with_reducible first | assumption | apply Nexts.of | apply State.branchOp_keeps | with_unfolding_all rfl
theorem execCall_keeps  {s0 s : State} (h0 : Keeps may kp s0 s) (n : Fin 16) (t : Fin 65536) : Nexts (execCall n t s) (Keeps may kp s0) := by
  unfold execCall
  repeat' with_reducible first | assumption | apply Nexts.of | apply State.branchOp_keeps | with_unfolding_all rfl
theorem execRetOp_keeps  {s0 s : State} (h0 : Keeps may kp s0 s) (n : Fin 16) : Nexts (execRetOp n s) (Keeps may kp s0) := by
  unfold execRetOp
  repeat' with_reducible first | assumption | apply Nexts.of | apply State.branchOp_keeps | with_unfolding_all rfl
theorem State.loopOp_keeps  {s0 s : State} (h0 : Keeps may kp s0 s) (n : Nat) : Keeps may kp s0 (State.loopOp s n) := by
  unfold State.loopOp
  repeat' with_reducible first | assumption | apply State.setEng_keeps | apply State.engFault_keeps | apply Keeps.ite | split | apply Keeps.mk | with_unfolding_all rfl
theorem execLoopOp_keeps  {s0 s : State} (h0 : Keeps may kp s0 s) (n : Fin 16) : Nexts (execLoopOp n s) (Keeps may kp s0) := by
  unfold execLoopOp
  repeat' with_reducible first | assumption | apply Nexts.of | apply State.op_keeps | apply State.loopOp_keeps | intro t ht | with_unfolding_all rfl
theorem State.eventEntry_keeps  {s0 s : State} (h0 : Keeps may kp s0 s) (n : Nat) : Keeps may kp s0 (State.eventEntry s n) := by
  unfold State.eventEntry
  repeat' with_reducible first | assumption | apply State.setEng_keeps | apply State.bundleEnd_keeps | apply Keeps.ite | split | apply Keeps.mk | with_unfolding_all rfl
theorem execEngineEventEntry_keeps  {s0 s : State} (h0 : Keeps may kp s0 s) (n : Fin 16) : Nexts (execEngineEventEntry n s) (Keeps may kp s0) := by
  unfold execEngineEventEntry
  repeat' with_reducible first | assumption | apply Nexts.of | apply State.core_keeps | apply State.eventEntry_keeps | with_unfolding_all rfl
theorem State.retiOp_keeps  {s0 s : State} (h0 : Keeps may kp s0 s) (n : Nat) : Keeps may kp s0 (State.retiOp s n) := by
  unfold State.retiOp
  repeat' with_reducible first | assumption | apply State.setEng_keeps | apply State.abortTry_keeps | apply State.engFault_keeps | apply Keeps.ite | split | apply Keeps.mk | with_unfolding_all rfl
theorem execReti_keeps  {s0 s : State} (h0 : Keeps may kp s0 s) (n : Fin 16) : Nexts (execReti n s) (Keeps may kp s0) := by
  unfold execReti
  repeat' with_reducible first | assumption | apply Nexts.of | apply State.op_keeps | apply State.retiOp_keeps | intro t ht | with_unfolding_all rfl
theorem execSig_keeps  {s0 s : State} (h0 : Keeps may kp s0 s) (n : Fin 16) : Nexts (execSig n s) (Keeps may kp s0) := by
  unfold execSig
  repeat' with_reducible first | assumption | apply Nexts.of | apply State.pulse_keeps | apply State.op_keeps | intro t ht | with_unfolding_all rfl
theorem execClaimOp_keeps  {s0 s : State} (h0 : Keeps may kp s0 s) (n j : Fin 16) : Nexts (execClaimOp n j s) (Keeps may kp s0) := by
  unfold execClaimOp
  repeat' with_reducible first | assumption | apply Nexts.of | apply State.setEng_keeps | apply State.claim_keeps | apply State.op_keeps | intro t ht | with_unfolding_all rfl
theorem execComplete_keeps  {s0 s : State} (h0 : Keeps may kp s0 s) (n j : Fin 16) : Nexts (execComplete n j s) (Keeps may kp s0) := by
  unfold execComplete
  repeat' with_reducible first | assumption | apply Nexts.of | apply State.complete_keeps | apply State.op_keeps | intro t ht | with_unfolding_all rfl

/-! EngineMac -/

theorem execMpy_keeps  {s0 s : State} (h0 : Keeps may kp s0 s) (n : Fin 16) (sl : Fin 2) (t : MulTerm) (u : Option MulTerm) : Nexts (execMpy n sl t u s) (Keeps may kp s0) := by
  unfold execMpy
  repeat' with_reducible first | assumption | apply Nexts.of | apply State.opE_keeps | with_unfolding_all rfl
theorem execMac_keeps  {s0 s : State} (h0 : Keeps may kp s0 s) (n : Fin 16) (sl : Fin 2) (t : MulTerm) (u : Option MulTerm) : Nexts (execMac n sl t u s) (Keeps may kp s0) := by
  unfold execMac
  repeat' with_reducible first | assumption | apply Nexts.of | apply State.opE_keeps | with_unfolding_all rfl
theorem execMsu_keeps  {s0 s : State} (h0 : Keeps may kp s0 s) (n : Fin 16) (sl : Fin 2) (t : MulTerm) (u : Option MulTerm) : Nexts (execMsu n sl t u s) (Keeps may kp s0) := by
  unfold execMsu
  repeat' with_reducible first | assumption | apply Nexts.of | apply State.opE_keeps | with_unfolding_all rfl
theorem execCmpy_keeps  {s0 s : State} (h0 : Keeps may kp s0 s) (n : Fin 16) (k : Fin 2) (x y : Fin 8) : Nexts (execCmpy n k x y s) (Keeps may kp s0) := by
  unfold execCmpy
  repeat' with_reducible first | assumption | apply Nexts.of | apply State.opE_keeps | with_unfolding_all rfl
theorem execCmac_keeps  {s0 s : State} (h0 : Keeps may kp s0 s) (n : Fin 16) (k : Fin 2) (x y : Fin 8) : Nexts (execCmac n k x y s) (Keeps may kp s0) := by
  unfold execCmac
  repeat' with_reducible first | assumption | apply Nexts.of | apply State.opE_keeps | with_unfolding_all rfl
theorem execCmacj_keeps  {s0 s : State} (h0 : Keeps may kp s0 s) (n : Fin 16) (k : Fin 2) (x y : Fin 8) : Nexts (execCmacj n k x y s) (Keeps may kp s0) := by
  unfold execCmacj
  repeat' with_reducible first | assumption | apply Nexts.of | apply State.opE_keeps | with_unfolding_all rfl
theorem execClra_keeps  {s0 s : State} (h0 : Keeps may kp s0 s) (n : Fin 16) (sl : Fin 2) (k : Fin 4) : Nexts (execClra n sl k s) (Keeps may kp s0) := by
  unfold execClra
  repeat' with_reducible first | assumption | apply Nexts.of | apply State.opE_keeps | with_unfolding_all rfl
theorem execMovda_keeps  {s0 s : State} (h0 : Keeps may kp s0 s) (n : Fin 16) (sl : Fin 2) (k : Fin 4) (j : Fin 16) : Nexts (execMovda n sl k j s) (Keeps may kp s0) := by
  unfold execMovda
  repeat' with_reducible first | assumption | apply Nexts.of | apply State.opE_keeps | with_unfolding_all rfl
theorem execAdda_keeps  {s0 s : State} (h0 : Keeps may kp s0 s) (n : Fin 16) (sl : Fin 2) (k j : Fin 4) : Nexts (execAdda n sl k j s) (Keeps may kp s0) := by
  unfold execAdda
  repeat' with_reducible first | assumption | apply Nexts.of | apply State.opE_keeps | with_unfolding_all rfl
theorem execSuba_keeps  {s0 s : State} (h0 : Keeps may kp s0 s) (n : Fin 16) (sl : Fin 2) (k j : Fin 4) : Nexts (execSuba n sl k j s) (Keeps may kp s0) := by
  unfold execSuba
  repeat' with_reducible first | assumption | apply Nexts.of | apply State.opE_keeps | with_unfolding_all rfl
theorem execNega_keeps  {s0 s : State} (h0 : Keeps may kp s0 s) (n : Fin 16) (sl : Fin 2) (k : Fin 4) : Nexts (execNega n sl k s) (Keeps may kp s0) := by
  unfold execNega
  repeat' with_reducible first | assumption | apply Nexts.of | apply State.opE_keeps | with_unfolding_all rfl
theorem State.sha_keeps  {s0 s : State} (h0 : Keeps may kp s0 s) (n k : Nat) (sh : Int) : Keeps may kp s0 (State.sha s n k sh) := by
  unfold State.sha
  repeat' with_reducible first | assumption | apply State.setEng_keeps | apply Keeps.ite | split | apply Keeps.mk | with_unfolding_all rfl
theorem execSha_keeps  {s0 s : State} (h0 : Keeps may kp s0 s) (n : Fin 16) (sl : Fin 2) (k : Fin 4) (sh : BitVec 6) : Nexts (execSha n sl k sh s) (Keeps may kp s0) := by
  unfold execSha
  repeat' with_reducible first | assumption | apply Nexts.of | apply State.op_keeps | apply State.sha_keeps | intro t ht | with_unfolding_all rfl
theorem execMva_keeps  {s0 s : State} (h0 : Keeps may kp s0 s) (n j : Fin 16) (k : Fin 4) : Nexts (execMva n j k s) (Keeps may kp s0) := by
  unfold execMva
  repeat' with_reducible first | assumption | apply Nexts.of | apply State.opE_keeps | with_unfolding_all rfl
theorem execAddOp_keeps  {s0 s : State} (h0 : Keeps may kp s0 s) (n j a b : Fin 16) : Nexts (execAddOp n j a b s) (Keeps may kp s0) := by
  unfold execAddOp
  repeat' with_reducible first | assumption | apply Nexts.of | apply State.opE_keeps | with_unfolding_all rfl
theorem execAdds_keeps  {s0 s : State} (h0 : Keeps may kp s0 s) (n j a b : Fin 16) : Nexts (execAdds n j a b s) (Keeps may kp s0) := by
  unfold execAdds
  repeat' with_reducible first | assumption | apply Nexts.of | apply State.opE_keeps | with_unfolding_all rfl
theorem execSubOp_keeps  {s0 s : State} (h0 : Keeps may kp s0 s) (n j a b : Fin 16) : Nexts (execSubOp n j a b s) (Keeps may kp s0) := by
  unfold execSubOp
  repeat' with_reducible first | assumption | apply Nexts.of | apply State.opE_keeps | with_unfolding_all rfl
theorem execCmp_keeps  {s0 s : State} (h0 : Keeps may kp s0 s) (n a b : Fin 16) : Nexts (execCmp n a b s) (Keeps may kp s0) := by
  unfold execCmp
  repeat' with_reducible first | assumption | apply Nexts.of | apply State.opE_keeps | with_unfolding_all rfl
theorem execAndOp_keeps  {s0 s : State} (h0 : Keeps may kp s0 s) (n j a b : Fin 16) : Nexts (execAndOp n j a b s) (Keeps may kp s0) := by
  unfold execAndOp
  repeat' with_reducible first | assumption | apply Nexts.of | apply State.opE_keeps | with_unfolding_all rfl
theorem execOrOp_keeps  {s0 s : State} (h0 : Keeps may kp s0 s) (n j a b : Fin 16) : Nexts (execOrOp n j a b s) (Keeps may kp s0) := by
  unfold execOrOp
  repeat' with_reducible first | assumption | apply Nexts.of | apply State.opE_keeps | with_unfolding_all rfl
theorem execXorOp_keeps  {s0 s : State} (h0 : Keeps may kp s0 s) (n j a b : Fin 16) : Nexts (execXorOp n j a b s) (Keeps may kp s0) := by
  unfold execXorOp
  repeat' with_reducible first | assumption | apply Nexts.of | apply State.opE_keeps | with_unfolding_all rfl
theorem execShl_keeps  {s0 s : State} (h0 : Keeps may kp s0 s) (n j a : Fin 16) (k : EVal) : Nexts (execShl n j a k s) (Keeps may kp s0) := by
  unfold execShl
  repeat' with_reducible first | assumption | apply Nexts.of | apply State.opE_keeps | apply Keeps.ite | split | with_unfolding_all rfl
theorem execShr_keeps  {s0 s : State} (h0 : Keeps may kp s0 s) (n j a : Fin 16) (k : EVal) : Nexts (execShr n j a k s) (Keeps may kp s0) := by
  unfold execShr
  repeat' with_reducible first | assumption | apply Nexts.of | apply State.opE_keeps | apply Keeps.ite | split | with_unfolding_all rfl
theorem execNormOp_keeps  {s0 s : State} (h0 : Keeps may kp s0 s) (n j : Fin 16) (k : Fin 4) : Nexts (execNormOp n j k s) (Keeps may kp s0) := by
  unfold execNormOp
  repeat' with_reducible first | assumption | apply Nexts.of | apply State.opE_keeps | with_unfolding_all rfl
theorem execMovOp_keeps  {s0 s : State} (h0 : Keeps may kp s0 s) (n j a : Fin 16) : Nexts (execMovOp n j a s) (Keeps may kp s0) := by
  unfold execMovOp
  repeat' with_reducible first | assumption | apply Nexts.of | apply State.opE_keeps | with_unfolding_all rfl
theorem execMovi_keeps  {s0 s : State} (h0 : Keeps may kp s0 s) (n j : Fin 16) (v : BitVec 24) : Nexts (execMovi n j v s) (Keeps may kp s0) := by
  unfold execMovi
  repeat' with_reducible first | assumption | apply Nexts.of | apply State.opE_keeps | with_unfolding_all rfl
theorem execMovp_keeps  {s0 s : State} (h0 : Keeps may kp s0 s) (n : Fin 16) (k : Fin 8) (v : EVal) : Nexts (execMovp n k v s) (Keeps may kp s0) := by
  unfold execMovp
  repeat' with_reducible first | assumption | apply Nexts.of | apply State.opE_keeps | with_unfolding_all rfl
theorem execSetb_keeps  {s0 s : State} (h0 : Keeps may kp s0 s) (n : Fin 16) (k : Fin 8) (v : EVal) : Nexts (execSetb n k v s) (Keeps may kp s0) := by
  unfold execSetb
  repeat' with_reducible first | assumption | apply Nexts.of | apply State.opE_keeps | with_unfolding_all rfl
theorem execSetl_keeps  {s0 s : State} (h0 : Keeps may kp s0 s) (n : Fin 16) (k : Fin 8) (v : EVal) : Nexts (execSetl n k v s) (Keeps may kp s0) := by
  unfold execSetl
  repeat' with_reducible first | assumption | apply Nexts.of | apply State.opE_keeps | with_unfolding_all rfl
theorem execSetm_keeps  {s0 s : State} (h0 : Keeps may kp s0 s) (n : Fin 16) (k : Fin 8) (v : EVal) : Nexts (execSetm n k v s) (Keeps may kp s0) := by
  unfold execSetm
  repeat' with_reducible first | assumption | apply Nexts.of | apply State.opE_keeps | with_unfolding_all rfl
theorem execSetcc_keeps  {s0 s : State} (h0 : Keeps may kp s0 s) (n : Fin 16) (v : EVal) : Nexts (execSetcc n v s) (Keeps may kp s0) := by
  unfold execSetcc
  repeat' with_reducible first | assumption | apply Nexts.of | apply State.opE_keeps | with_unfolding_all rfl
theorem execSetwin_keeps  {s0 s : State} (h0 : Keeps may kp s0 s) (n : Fin 16) (w : Fin 2) (v : EVal) : Nexts (execSetwin n w v s) (Keeps may kp s0) := by
  unfold execSetwin
  repeat' with_reducible first | assumption | apply Nexts.of | apply State.opE_keeps | with_unfolding_all rfl

/-! EngineMem -/

theorem State.loadLocal_keeps  {s0 s : State} (h0 : Keeps may kp s0 s) (n : Nat) (x : LoadPart) : Keeps may kp s0 (State.loadLocal s n x) := by
  unfold State.loadLocal
  repeat' with_reducible first | assumption | apply State.form_keeps | apply State.setEng_keeps | apply State.sramBad_keeps | apply Keeps.ite | split | refine State.form_to ?_ (by assumption) | apply Keeps.mk | with_unfolding_all rfl
theorem State.bankStall_keeps  {s0 s : State} (h0 : Keeps may kp s0 s) (n : Nat) (xs : List (Nat × LoadPart)) : Keeps may kp s0 (State.bankStall s n xs) := by
  unfold State.bankStall
  repeat' with_reducible first | assumption | apply State.bump_keeps | apply State.setEng_keeps | apply Keeps.ite | split | apply Keeps.mk | with_unfolding_all rfl
theorem State.load_keeps  {s0 s : State} (h0 : Keeps may kp s0 s) (n align : Nat) (xs : List (Nat × LoadPart)) (us : List (Addr × Option Nat)) : Keeps may kp s0 (State.load s n align xs us) := by
  unfold State.load
  repeat' with_reducible first | assumption | apply State.setEng_keeps | apply State.engFault_keeps | apply State.loadLocal_keeps | apply State.bankStall_keeps | apply Keeps.ite | apply Keeps.foldl | split | intro t a ht | apply Keeps.mk | with_unfolding_all rfl
theorem State.loadOp_keeps  {s0 s : State} (h0 : Keeps may kp s0 s) (n : Nat) (a : Addr) (size align form : Nat) (regs : List Nat) : Keeps may kp s0 (State.loadOp s n a size align form regs) := by
  unfold State.loadOp
  repeat' with_reducible first | assumption | apply State.form_keeps | apply State.op_keeps | apply State.load_keeps | intro t ht | refine State.form_to ?_ (by assumption) | with_unfolding_all rfl
theorem execLd_keeps  {s0 s : State} (h0 : Keeps may kp s0 s) (n j : Fin 16) (a : Addr) : Nexts (execLd n j a s) (Keeps may kp s0) := by
  unfold execLd
  repeat' with_reducible first | assumption | apply Nexts.of | apply State.loadOp_keeps | with_unfolding_all rfl
theorem execLdh_keeps  {s0 s : State} (h0 : Keeps may kp s0 s) (n j : Fin 16) (a : Addr) : Nexts (execLdh n j a s) (Keeps may kp s0) := by
  unfold execLdh
  repeat' with_reducible first | assumption | apply Nexts.of | apply State.loadOp_keeps | with_unfolding_all rfl
theorem execLd2_keeps  {s0 s : State} (h0 : Keeps may kp s0 s) (n : Fin 16) (k : Fin 8) (a : Addr) : Nexts (execLd2 n k a s) (Keeps may kp s0) := by
  unfold execLd2
  repeat' with_reducible first | assumption | apply Nexts.of | apply State.loadOp_keeps | with_unfolding_all rfl
theorem execLdk_keeps  {s0 s : State} (h0 : Keeps may kp s0 s) (n : Fin 16) (k : Fin 8) (a : Addr) : Nexts (execLdk n k a s) (Keeps may kp s0) := by
  unfold execLdk
  repeat' with_reducible first | assumption | apply Nexts.of | apply State.loadOp_keeps | with_unfolding_all rfl
theorem execLdp_keeps  {s0 s : State} (h0 : Keeps may kp s0 s) (n : Fin 16) (k : Fin 8) (a : Addr) : Nexts (execLdp n k a s) (Keeps may kp s0) := by
  unfold execLdp
  repeat' with_reducible first | assumption | apply Nexts.of | apply State.loadOp_keeps | with_unfolding_all rfl
theorem execLdx_keeps  {s0 s : State} (h0 : Keeps may kp s0 s) (n : Fin 16) (k l : Fin 8) (a b : Addr) : Nexts (execLdx n k l a b s) (Keeps may kp s0) := by
  unfold execLdx
  repeat' with_reducible first | assumption | apply Nexts.of | apply State.form_keeps | apply State.op_keeps | apply State.load_keeps | intro t ht | refine State.form_to ?_ (by assumption) | with_unfolding_all rfl
theorem State.loadWindow_keeps  {s0 s : State} (h0 : Keeps anyAddr kp s0 s) (n : Fin 16) (ecc : Nat) (x : LoadPart) : Keeps anyAddr kp s0 (State.loadWindow s n ecc x) := by
  unfold State.loadWindow
  repeat' with_reducible first | assumption | apply State.form_keeps | apply State.setEng_keeps | apply State.engFault_keeps | apply State.access_keeps | apply Keeps.ite | split | refine State.form_to ?_ (by assumption) | refine State.access_to ?_ (by assumption) | apply Keeps.mk | with_unfolding_all rfl
theorem State.windowData_keeps  {s0 s : State} (h0 : Keeps anyAddr kp s0 s) (n : Fin 16) (ecc : Nat) : Keeps anyAddr kp s0 (State.windowData s n ecc) := by
  unfold State.windowData
  repeat' with_reducible first | assumption | apply State.setEng_keeps | apply State.load_keeps | apply State.loadWindow_keeps | apply Keeps.ite | apply Keeps.foldl | split | intro t a ht | apply Keeps.mk | with_unfolding_all rfl
theorem execWindowLoadData_keeps  {s0 s : State} (h0 : Keeps anyAddr kp s0 s) (n : Fin 16) (ecc : Fin 3) : Nexts (execWindowLoadData n ecc s) (Keeps anyAddr kp s0) := by
  unfold execWindowLoadData
  repeat' with_reducible first | assumption | apply Nexts.of | apply State.core_keeps | apply State.windowData_keeps | with_unfolding_all rfl
theorem State.storeOp_keeps  {s0 s : State} (h0 : Keeps may kp s0 s) (n : Nat) (a : Addr) (size align : Nat) (bs : Engine → List Byte) (sv : Engine → Option Nat) : Keeps may kp s0 (State.storeOp s n a size align bs sv) := by
  unfold State.storeOp
  repeat' with_reducible first | assumption | apply State.setEng_keeps | apply State.engFault_keeps | apply State.op_keeps | apply Keeps.ite | split | intro t ht | with_unfolding_all rfl
theorem execSt_keeps  {s0 s : State} (h0 : Keeps may kp s0 s) (n j : Fin 16) (a : Addr) : Nexts (execSt n j a s) (Keeps may kp s0) := by
  unfold execSt
  repeat' with_reducible first | assumption | apply Nexts.of | apply State.storeOp_keeps | with_unfolding_all rfl
theorem execSth_keeps  {s0 s : State} (h0 : Keeps may kp s0 s) (n j : Fin 16) (a : Addr) : Nexts (execSth n j a s) (Keeps may kp s0) := by
  unfold execSth
  repeat' with_reducible first | assumption | apply Nexts.of | apply State.storeOp_keeps | with_unfolding_all rfl
theorem execSt2_keeps  {s0 s : State} (h0 : Keeps may kp s0 s) (n : Fin 16) (k : Fin 8) (a : Addr) : Nexts (execSt2 n k a s) (Keeps may kp s0) := by
  unfold execSt2
  repeat' with_reducible first | assumption | apply Nexts.of | apply State.storeOp_keeps | with_unfolding_all rfl
theorem execStk_keeps  {s0 s : State} (h0 : Keeps may kp s0 s) (n : Fin 16) (k : Fin 8) (a : Addr) : Nexts (execStk n k a s) (Keeps may kp s0) := by
  unfold execStk
  repeat' with_reducible first | assumption | apply Nexts.of | apply State.storeOp_keeps | with_unfolding_all rfl
theorem execSta_keeps  {s0 s : State} (h0 : Keeps may kp s0 s) (n : Fin 16) (k : Fin 4) (a : Addr) : Nexts (execSta n k a s) (Keeps may kp s0) := by
  unfold execSta
  repeat' with_reducible first | assumption | apply Nexts.of | apply State.storeOp_keeps | with_unfolding_all rfl
theorem State.staleStore_keeps  {s0 s : State} (h0 : Keeps may kp s0 s) (n : Nat) (b : BufStore) : Keeps may kp s0 (State.staleStore s n b) := by
  unfold State.staleStore
  repeat' with_reducible first | assumption | apply State.keepStale_keeps | apply Keeps.ite | split | with_unfolding_all rfl
theorem State.storeRetire_keeps  {s0 s : State} (h0 : Keeps anyAddr kp s0 s) (n : Fin 16) : Keeps anyAddr kp s0 (State.storeRetire s n) := by
  unfold State.storeRetire
  repeat' with_reducible first | assumption | apply State.writeBytes_keeps | apply State.setEng_keeps | apply State.access_keeps | apply State.staleStore_keeps | apply Keeps.ite | split | refine State.access_to ?_ (by assumption) | apply Keeps.mk | with_unfolding_all rfl
theorem execStoreRetire_keeps  {s0 s : State} (h0 : Keeps anyAddr kp s0 s) (n : Fin 16) : Nexts (execStoreRetire n s) (Keeps anyAddr kp s0) := by
  unfold execStoreRetire
  repeat' with_reducible first | assumption | apply Nexts.of | apply State.core_keeps | apply State.storeRetire_keeps | with_unfolding_all rfl
theorem State.storeError_keeps  {s0 s : State} (h0 : Keeps may kp s0 s) (n : Nat) : Keeps may kp s0 (State.storeError s n) := by
  unfold State.storeError
  repeat' with_reducible first | assumption | apply State.setEng_keeps | apply State.engFault_keeps | apply Keeps.ite | split | apply Keeps.mk | with_unfolding_all rfl
theorem execStoreErrorResponse_keeps  {s0 s : State} (h0 : Keeps may kp s0 s) (n : Fin 16) : Nexts (execStoreErrorResponse n s) (Keeps may kp s0) := by
  unfold execStoreErrorResponse
  repeat' with_reducible first | assumption | apply Nexts.of | apply State.core_keeps | apply State.storeError_keeps | with_unfolding_all rfl
theorem State.drainOp_keeps  {s0 s : State} (h0 : Keeps may kp s0 s) (n : Nat) (w : Stall) (inMain : Bool) : Keeps may kp s0 (State.drainOp s n w inMain) := by
  unfold State.drainOp
  repeat' with_reducible first | assumption | apply State.setEng_keeps | apply State.engFault_keeps | apply Keeps.ite | split | apply Keeps.mk | with_unfolding_all rfl
theorem execFence_keeps  {s0 s : State} (h0 : Keeps may kp s0 s) (n : Fin 16) : Nexts (execFence n s) (Keeps may kp s0) := by
  unfold execFence
  repeat' with_reducible first | assumption | apply Nexts.of | apply State.op_keeps | apply State.drainOp_keeps | intro t ht | with_unfolding_all rfl
theorem execCkpt_keeps  {s0 s : State} (h0 : Keeps may kp s0 s) (n : Fin 16) (step : Fin 256) : Nexts (execCkpt n step s) (Keeps may kp s0) := by
  unfold execCkpt
  repeat' with_reducible first | assumption | apply Nexts.of | apply State.op_keeps | apply State.drainOp_keeps | intro t ht | with_unfolding_all rfl
theorem execJobend_keeps  {s0 s : State} (h0 : Keeps may kp s0 s) (n : Fin 16) : Nexts (execJobend n s) (Keeps may kp s0) := by
  unfold execJobend
  repeat' with_reducible first | assumption | apply Nexts.of | apply State.op_keeps | apply State.drainOp_keeps | intro t ht | with_unfolding_all rfl
theorem State.jobEnd_keeps  {s0 s : State} (h0 : Keeps may kp s0 s) (n : Nat) : Keeps may kp s0 (State.jobEnd s n) := by
  unfold State.jobEnd
  repeat' with_reducible first | assumption | apply State.setF_keeps | apply State.bump_keeps | apply State.setEng_keeps | apply State.jobOver_keeps | apply Keeps.ite | split | apply Keeps.mk | with_unfolding_all rfl
theorem State.drained_keeps  {s0 s : State} (h0 : Keeps may kp s0 s) (n : Nat) : Keeps may kp s0 (State.drained s n) := by
  unfold State.drained
  repeat' with_reducible first | assumption | apply State.setF_keeps | apply State.setEng_keeps | apply State.abortDone_keeps | apply State.jobEnd_keeps | apply Keeps.ite | split | apply Keeps.mk | with_unfolding_all rfl
theorem execDrainComplete_keeps  {s0 s : State} (h0 : Keeps may kp s0 s) (n : Fin 16) : Nexts (execDrainComplete n s) (Keeps may kp s0) := by
  unfold execDrainComplete
  repeat' with_reducible first | assumption | apply Nexts.of | apply State.core_keeps | apply State.drained_keeps | with_unfolding_all rfl

end Sys2Proof.Machine
end

