-- ==== Sys2Proof/Laws/KeepsStart.lean ====
section
/-!
SUPPORT. Sys2Proof/Laws/KeepsStart.lean: every operation of the service port, the boot ROM and the tick keeps the invariant, the queue and a set seal,
and memory but for what it stores.
-/
namespace Sys2Proof.Machine

variable {may : Nat → Bool} {kp : Bool}

/-! Service -/

theorem State.readReq_keeps  {s0 s : State} (h0 : Keeps may kp s0 s) (a n : Nat) : Keeps may kp s0 (State.readReq s a n) := by
  unfold State.readReq
  repeat' with_reducible first | assumption | apply State.op_keeps | apply Keeps.ite | split | apply Keeps.mk | with_unfolding_all rfl
theorem execReadReq_keeps  {s0 s : State} (h0 : Keeps may kp s0 s) (a : Word) (n : Fin 64) : Nexts (execReadReq a n s) (Keeps may kp s0) := by
  unfold execReadReq
  repeat' with_reducible first | assumption | apply Nexts.of | apply State.readReq_keeps | with_unfolding_all rfl
theorem State.readData_keeps  {s0 s : State} (h0 : Keeps may kp s0 s) : Keeps may kp s0 (State.readData s) := by
  unfold State.readData
  repeat' with_reducible first | assumption | apply Keeps.ite | split | apply Keeps.mk | with_unfolding_all rfl
theorem execReadData_keeps  {s0 s : State} (h0 : Keeps may kp s0 s) : Nexts (execReadData s) (Keeps may kp s0) := by
  unfold execReadData
  repeat' with_reducible first | assumption | apply Nexts.of | apply State.readData_keeps | with_unfolding_all rfl
theorem State.svcWrite_keeps  {s0 s : State} (h0 : Keeps may kp s0 s) (a : Nat) (ws : List Nat) : Keeps may kp s0 (State.svcWrite s a ws) := by
  unfold State.svcWrite
  repeat' with_reducible first | assumption | apply State.op_keeps | apply Keeps.ite | split | apply Keeps.mk | with_unfolding_all rfl
theorem execSvcWrite_keeps  {s0 s : State} (h0 : Keeps may kp s0 s) (a : Word) (ws : List Word) : Nexts (execSvcWrite a ws s) (Keeps may kp s0) := by
  unfold execSvcWrite
  repeat' with_reducible first | assumption | apply Nexts.of | apply State.svcWrite_keeps | with_unfolding_all rfl
theorem State.svcState_keeps  {s0 s : State} (h0 : Keeps may kp s0 s) : Keeps may kp s0 (State.svcState s) := by
  unfold State.svcState
  repeat' with_reducible first | assumption | apply Keeps.ite | split | apply Keeps.mk | with_unfolding_all rfl
theorem execSvcStatus_keeps  {s0 s : State} (h0 : Keeps may kp s0 s) : Nexts (execSvcStatus s) (Keeps may kp s0) := by
  unfold execSvcStatus
  repeat' with_reducible first | assumption | apply Nexts.of | apply State.svcState_keeps | with_unfolding_all rfl
theorem State.svcBad_keeps  {s0 s : State} (h0 : Keeps may kp s0 s) : Keeps may kp s0 (State.svcBad s) := by
  unfold State.svcBad
  repeat' with_reducible first | assumption | apply Keeps.ite | split | apply Keeps.mk | with_unfolding_all rfl
theorem execSvcBadCommand_keeps  {s0 s : State} (h0 : Keeps may kp s0 s) : Nexts (execSvcBadCommand s) (Keeps may kp s0) := by
  unfold execSvcBadCommand
  repeat' with_reducible first | assumption | apply Nexts.of | apply State.svcBad_keeps | with_unfolding_all rfl
theorem State.svcWord_keeps  {s0 s : State} (h0 : Keeps anyAddr kp s0 s) (ecc : Nat) : Keeps anyAddr kp s0 (State.svcWord s ecc) := by
  unfold State.svcWord
  repeat' with_reducible first | assumption | apply State.access_keeps | apply State.op_keeps | apply Keeps.ite | split | intro t ht | refine State.access_to ?_ (by assumption) | apply Keeps.mk | with_unfolding_all rfl
theorem execSvcWordDone_keeps  {s0 s : State} (h0 : Keeps anyAddr kp s0 s) (ecc : Fin 3) : Nexts (execSvcWordDone ecc s) (Keeps anyAddr kp s0) := by
  unfold execSvcWordDone
  repeat' with_reducible first | assumption | apply Nexts.of | apply State.svcWord_keeps | apply Keeps.ite | split | with_unfolding_all rfl
theorem State.jtag_keeps  {s0 s : State} (h0 : Keeps anyAddr kp s0 s) (k : AccKind) (a w ecc : Nat) : Keeps anyAddr kp s0 (State.jtag s k a w ecc) := by
  unfold State.jtag
  repeat' with_reducible first | assumption | apply State.access_keeps | refine State.access_to ?_ (by assumption) | apply Keeps.mk | with_unfolding_all rfl
theorem execJtagAccess_keeps  {s0 s : State} (h0 : Keeps anyAddr kp s0 s) (wr : Bool) (a w : Word) (ecc : Fin 3) : Nexts (execJtagAccess wr a w ecc s) (Keeps anyAddr kp s0) := by
  unfold execJtagAccess
  repeat' with_reducible first | assumption | apply Nexts.of | apply State.jtag_keeps | apply Keeps.ite | split | with_unfolding_all rfl
theorem State.scanOp_keeps  {s0 s : State} (h0 : Keeps may kp s0 s) (code : Nat) : Keeps may kp s0 (State.scanOp s code) := by
  unfold State.scanOp
  repeat' with_reducible first | assumption | apply Keeps.ite | split | apply Keeps.mk | with_unfolding_all rfl
theorem execExtest_keeps  {s0 s : State} (h0 : Keeps may kp s0 s) : Nexts (execExtest s) (Keeps may kp s0) := by
  unfold execExtest
  repeat' with_reducible first | assumption | apply Nexts.of | apply State.scanOp_keeps | with_unfolding_all rfl
theorem execClamp_keeps  {s0 s : State} (h0 : Keeps may kp s0 s) : Nexts (execClamp s) (Keeps may kp s0) := by
  unfold execClamp
  repeat' with_reducible first | assumption | apply Nexts.of | apply State.scanOp_keeps | with_unfolding_all rfl

/-! Boot -/

theorem State.stage_keeps  {s0 s : State} (h0 : Keeps anyAddr kp s0 s) (x : FlashImage) : Keeps anyAddr kp s0 (State.stage s x) := by
  unfold State.stage
  repeat' with_reducible first | assumption | apply State.writeBytes_keeps | with_unfolding_all rfl
theorem State.bootClocks_keeps  {s0 s : State} (h0 : Keeps may kp s0 s) (x : FlashImage) : Keeps may kp s0 (State.bootClocks s x) := by
  unfold State.bootClocks
  repeat' with_reducible first | assumption | apply State.setF_keeps | apply State.undefine_keeps | apply State.allLocked_keeps | apply Keeps.ite | split | apply Keeps.mk | with_unfolding_all rfl
theorem BootRun.put_run {s0 : State} {r : BootRun} (h : Keeps anyAddr kp s0 r.s) (a v : Nat) : Keeps anyAddr kp s0 (r.put a v).s := by
  unfold BootRun.put
  split
  · exact h
  · have h1 := State.access_keeps h .rom 0 .write a 4 v 0
    generalize r.s.access .rom 0 .write a 4 v 0 = x at h1
    exact h1
theorem BootRun.copy_run {s0 : State} {r : BootRun} (h : Keeps anyAddr kp s0 r.s) (x : FlashImage) (off len dest : Nat) :
    Keeps anyAddr kp s0 (r.copy x off len dest).s := by
  unfold BootRun.copy
  exact Keeps.foldlBy BootRun.s _ (fun t a ht => BootRun.put_run ht _ _) _ h
theorem BootRun.entry_run {s0 : State} {r : BootRun} (h : Keeps anyAddr kp s0 r.s) (reload : Bool) (a0 v m : Nat) :
    Keeps anyAddr kp s0 (r.entry reload a0 v m).s := by
  unfold BootRun.entry
  dsimp only
  split
  · exact h
  · split
    · exact h
    · split
      · exact BootRun.put_run h _ _
      · have h1 := State.access_keeps h .rom 0 .read (a0 / 4 * 4) 4 0 0
        generalize r.s.access .rom 0 .read (a0 / 4 * 4) 4 0 0 = x at h1
        split
        · exact BootRun.put_run (r := { r with s := x.2.2 }) h1 _ _
        · exact h1
theorem BootRun.flowRec_run {s0 : State} {r : BootRun} (h : Keeps anyAddr kp s0 r.s) (x : FlashImage) (o : Nat) :
    Keeps anyAddr kp s0 (r.flowRec x o).s := by
  unfold BootRun.flowRec
  repeat' with_reducible first | assumption | apply BootRun.put_run | with_unfolding_all rfl
theorem BootRun.patterns_run {s0 : State} {r : BootRun} (h : Keeps anyAddr kp s0 r.s) (x : FlashImage) (y : Section) :
    Keeps anyAddr kp s0 (r.patterns x y).s := by
  unfold BootRun.patterns
  split
  · exact h
  · exact Keeps.foldlBy BootRun.s _ (fun t a ht => BootRun.put_run ht _ _) _ h
theorem BootRun.policy_run {s0 : State} {r : BootRun} (h : Keeps anyAddr kp s0 r.s) (x : FlashImage) (y : Section) :
    Keeps anyAddr kp s0 (r.policy x y).s := by
  unfold BootRun.policy
  repeat' with_reducible first | assumption | apply BootRun.put_run | with_unfolding_all rfl
theorem BootRun.seed_run {s0 : State} {r : BootRun} (h : Keeps anyAddr kp s0 r.s) (x : FlashImage) (o : Nat) :
    Keeps anyAddr kp s0 (r.seed x o).s := by
  unfold BootRun.seed
  split
  · exact h
  · split
    · exact BootRun.put_run h _ _
    · exact h
theorem BootRun.apply_run {s0 : State} (x : FlashImage) (reload : Bool) {r : BootRun} (h : Keeps anyAddr kp s0 r.s) (y : Section) :
    Keeps anyAddr kp s0 (BootRun.apply x reload r y).s := by
  unfold BootRun.apply
  split
  · exact Keeps.foldlBy BootRun.s _ (fun t a ht => BootRun.entry_run ht _ _ _ _) _ h
  · exact BootRun.copy_run h _ _ _ _
  · exact Keeps.foldlBy BootRun.s _ (fun t a ht => BootRun.copy_run ht _ _ _ _) _ h
  · split
    · exact h
    · exact Keeps.foldlBy BootRun.s _ (fun t a ht => BootRun.flowRec_run ht _ _) _ h
  · split
    · exact BootRun.patterns_run h x y
    · exact BootRun.patterns_run (BootRun.policy_run h x y) x y
  · split
    · exact h
    · exact Keeps.foldlBy BootRun.s _ (fun t a ht => BootRun.put_run ht _ _) _ h
  · split
    · exact h
    · exact Keeps.foldlBy BootRun.s _ (fun t a ht => BootRun.seed_run ht _ _) _ h
theorem BootRun.sections_run {s0 : State} {r : BootRun} (h : Keeps anyAddr kp s0 r.s) (x : FlashImage) (reload : Bool) :
    Keeps anyAddr kp s0 (r.sections x reload).s := by
  unfold BootRun.sections
  refine Keeps.foldlBy BootRun.s _ (fun t a ht => ?_) _ h
  split
  · exact ht
  · have h1 : Keeps anyAddr kp s0 (if FImage.sectionOk x a then t.apply x reload (FImage.section x a) else { t with code := 8 }).s := by
      split
      · exact BootRun.apply_run x reload ht _
      · exact ht
    generalize (if FImage.sectionOk x a then t.apply x reload (FImage.section x a) else { t with code := 8 }) = u at h1
    dsimp only
    split <;> exact h1
theorem State.tryImage_run {s0 s : State} (h : Keeps anyAddr kp s0 s) (x : FlashImage) (half : Nat) (found : Bool) :
    Keeps anyAddr kp s0 (s.tryImage x half found).s := by
  unfold State.tryImage
  have h1 := State.bootClocks_keeps h x
  have h2 := State.stage_keeps h1 x
  have h3 := BootRun.sections_run (r := { s := (s.bootClocks x).stage x, polls := x.polls }) h2 x false
  dsimp only
  generalize s.bootClocks x = s1 at *
  generalize s1.stage x = s2 at *
  generalize ({ s := s2, polls := x.polls } : BootRun).sections x false = r at *
  repeat' split
  all_goals first | exact h | exact h1 | exact h2 | exact h3
theorem State.undo_keeps {s0 s u : State} (h : Keeps anyAddr false s0 s) (hu : Keeps anyAddr false s0 u) : Keeps anyAddr false s0 (s.undo u) := by
  refine ⟨h.queue, fun hi => ?_, fun a ha => noneOutside a ha, fun hs => by cases hs⟩
  have h1 := h.inv hi
  have h2 := hu.inv hi
  simp only [State.inv, State.undo, Memory.wf, State.undoRegs, Bool.and_eq_true] at *
  refine ⟨⟨⟨⟨SMap.wf_drop _ h1.1.1.1.1, ?_⟩, rfl, rfl⟩, rfl⟩, rfl⟩
  split
  · exact SMap.wf_drop _ h1.1.1.1.2
  · exact SMap.wf_foldl (fun e : Nat × Nat => e) _ (SMap.wf_drop _ h2.1.1.1.2)
theorem State.lockDown_keeps  {s0 s : State} (h0 : Keeps may kp s0 s) (state : Nat) : Keeps may kp s0 (State.lockDown s state) := by
  unfold State.lockDown
  repeat' with_reducible first | assumption | apply State.setF_keeps | apply State.sealSet_keeps | apply Keeps.foldl | intro t a ht | apply Keeps.mk | with_unfolding_all rfl
theorem State.bootFailed_keeps  {s0 s : State} (h0 : Keeps may kp s0 s) : Keeps may kp s0 (State.bootFailed s) := by
  unfold State.bootFailed
  repeat' with_reducible first | assumption | apply State.lockDown_keeps | apply Keeps.mk | with_unfolding_all rfl
theorem State.failNote_keeps  {s0 s : State} (h0 : Keeps may kp s0 s) (b : Bool) (t : Tried) : Keeps may kp s0 (State.failNote s b t) := by
  unfold State.failNote
  repeat' with_reducible first | assumption | apply State.setF_keeps | apply Keeps.ite | split | with_unfolding_all rfl
theorem State.skipNote_keeps  {s0 s : State} (h0 : Keeps may kp s0 s) (b : Bool) : Keeps may kp s0 (State.skipNote s b) := by
  unfold State.skipNote
  repeat' with_reducible first | assumption | apply State.setF_keeps | apply Keeps.ite | split | with_unfolding_all rfl
theorem State.bootDone_keeps  {s0 s : State} (h0 : Keeps may kp s0 s) (b : Bool) (x : FlashImage) (fallback : Bool) : Keeps may kp s0 (State.bootDone s b x fallback) := by
  unfold State.bootDone
  repeat' with_reducible first | assumption | apply State.setF_keeps | apply State.sealSet_keeps | apply Keeps.ite | split | apply Keeps.mk | with_unfolding_all rfl
theorem State.noteWakeFail_keeps  {s0 s : State} (h0 : Keeps anyAddr kp s0 s) : Keeps anyAddr kp s0 (State.noteWakeFail s) := by
  unfold State.noteWakeFail
  repeat' with_reducible first | assumption | apply State.setF_keeps | apply State.wr32_keeps | apply Keeps.ite | split | with_unfolding_all rfl
theorem State.bootTry_keeps {s0 s : State} (h : Keeps anyAddr false s0 s) (half : Nat) (a b : FlashImage) (found fallback : Bool)
    (ks : List Bool) : Keeps anyAddr false s0 (s.bootTry half a b found fallback ks) := by
  induction ks generalizing s found fallback with
  | nil => unfold State.bootTry; with_reducible exact State.bootFailed_keeps h
  | cons k ks ih =>
    unfold State.bootTry
    dsimp only
    generalize (if k then b else a) = x
    have h1 := State.tryImage_run h x half found
    generalize s.tryImage x half found = t at h1 ⊢
    split
    · with_reducible exact State.bootDone_keeps h1 _ _ _
    · exact ih (State.undo_keeps (State.failNote_keeps h1 _ _) h) _ _
theorem State.bootRun_keeps {s0 s : State} (h : Keeps anyAddr false s0 s) (sel : Nat) (found : Bool) (half : FlashPart) (a b : FlashImage) :
    Keeps anyAddr false s0 (s.bootRun sel found half a b) := by
  unfold State.bootRun
  repeat' with_reducible first | assumption | apply State.lockDown_keeps | apply State.skipNote_keeps | apply State.bootTry_keeps | apply State.setF_keeps | apply State.noteWakeFail_keeps | apply Keeps.ite | split | with_unfolding_all rfl
theorem execBootSequence_keeps  {s0 s : State} (h0 : Keeps anyAddr false s0 s) (sel : Fin 4) (found : Bool) (flash : FlashPart) (a b : FlashImage) : Nexts (execBootSequence sel found flash a b s) (Keeps anyAddr false s0) := by
  unfold execBootSequence
  repeat' with_reducible first | assumption | apply Nexts.of | apply State.bootRun_keeps | with_unfolding_all rfl
theorem State.reloadRun_keeps {s0 s : State} (h : Keeps anyAddr kp s0 s) (x : FlashImage) : Keeps anyAddr kp s0 (s.reloadRun x) := by
  unfold State.reloadRun
  split
  · dsimp only
    have h1 : Keeps anyAddr kp s0 (if x.imageLate then s else s.stage x) := Keeps.ite h (State.stage_keeps h x)
    generalize (if x.imageLate then s else s.stage x) = s1 at h1
    have h2 : Keeps anyAddr kp s0 (if s.reloadCode x = 0 then ({ s := s1, polls := x.polls } : BootRun).sections x true
        else { s := s1, code := s.reloadCode x }).s := by
      split
      · exact BootRun.sections_run h1 x true
      · exact h1
    generalize (if s.reloadCode x = 0 then ({ s := s1, polls := x.polls } : BootRun).sections x true
        else { s := s1, code := s.reloadCode x }) = r at h2
    have h3 : Keeps anyAddr kp s0 (if r.code = 0 then r.s.endHold else r.s) := Keeps.ite (State.endHold_keeps h2) h2
    exact h3.rest rfl rfl rfl rfl rfl
  · exact h
theorem execReload_keeps  {s0 s : State} (h0 : Keeps anyAddr kp s0 s) (x : FlashImage) : Nexts (execReload x s) (Keeps anyAddr kp s0) := by
  unfold execReload
  repeat' with_reducible first | assumption | apply Nexts.of | apply State.reloadRun_keeps | with_unfolding_all rfl

/-! Tick -/

theorem State.prismTick_keeps  {s0 s : State} (h0 : Keeps anyAddr kp s0 s) (x : TickIn) : Keeps anyAddr kp s0 (State.prismTick s x) := by
  unfold State.prismTick
  repeat' with_reducible first | assumption | apply State.prismTxStep_keeps | apply State.prismRxStep_keeps | apply Keeps.ite | apply Keeps.foldl | split | intro t a ht | with_unfolding_all rfl
theorem State.samplesTick_keeps  {s0 s : State} (h0 : Keeps anyAddr kp s0 s) (x : TickIn) : Keeps anyAddr kp s0 (State.samplesTick s x) := by
  unfold State.samplesTick
  repeat' with_reducible first | assumption | apply State.rxTick_keeps | apply State.txTick_keeps | apply State.dpdTick_keeps | apply State.txRest_keeps | apply State.orxTick_keeps | apply State.dutyTick_keeps | apply State.mirTick_keeps | apply State.prismTick_keeps | apply Keeps.foldl | intro t a ht | with_unfolding_all rfl
theorem State.advance_keeps  {s0 s : State} (h0 : Keeps may kp s0 s) : Keeps may kp s0 (State.advance s) := by
  unfold State.advance
  repeat' with_reducible first | assumption | apply Keeps.ite | split | apply Keeps.mk | with_unfolding_all rfl
theorem State.aoEdge_keeps  {s0 s : State} (h0 : Keeps may kp s0 s) : Keeps may kp s0 (State.aoEdge s) := by
  unfold State.aoEdge
  repeat' with_reducible first | assumption | apply State.setF_keeps | apply State.modEdge_keeps | apply Keeps.ite | split | apply Keeps.mk | with_unfolding_all rfl
theorem State.aoTick_keeps  {s0 s : State} (h0 : Keeps may kp s0 s) (before : Nat) : Keeps may kp s0 (State.aoTick s before) := by
  unfold State.aoTick
  repeat' with_reducible first | assumption | apply State.aoEdge_keeps | apply Keeps.ite | split | with_unfolding_all rfl
theorem State.engTick_keeps  {s0 s : State} (h0 : Keeps may kp s0 s) (n : Nat) : Keeps may kp s0 (State.engTick s n) := by
  unfold State.engTick
  repeat' with_reducible first | assumption | apply State.setF_keeps | apply State.setEng_keeps | apply Keeps.ite | split | apply Keeps.mk | with_unfolding_all rfl
theorem State.wakeTick_keeps  {s0 s : State} (h0 : Keeps may kp s0 s) (l : Nat) : Keeps may kp s0 (State.wakeTick s l) := by
  unfold State.wakeTick
  repeat' with_reducible first | assumption | apply State.setLane_keeps | apply Keeps.ite | split | apply Keeps.mk | with_unfolding_all rfl
theorem State.laneTick_keeps  {s0 s : State} (h0 : Keeps anyAddr kp s0 s) (l : Nat) : Keeps anyAddr kp s0 (State.laneTick s l) := by
  unfold State.laneTick
  repeat' with_reducible first | assumption | apply State.skpTick_keeps | apply State.laneSend_keeps | apply State.prbsTick_keeps | apply State.injectTick_keeps | apply State.wakeTick_keeps | with_unfolding_all rfl
theorem State.coreTick_keeps  {s0 s : State} (h0 : Keeps anyAddr kp s0 s) (x : TickIn) : Keeps anyAddr kp s0 (State.coreTick s x) := by
  unfold State.coreTick
  repeat' with_reducible first | assumption | apply State.mirTick_keeps | apply State.flowTick_keeps | apply State.prbsErrors_keeps | apply State.oscTick_keeps | apply State.turnTick_keeps | apply State.gpioTick_keeps | apply State.outEdge_keeps | apply State.dimTry_keeps | apply State.entryPoll_keeps | apply State.heldLate_keeps | apply State.dmaTick_keeps | apply State.engTick_keeps | apply State.laneTick_keeps | apply Keeps.foldl | intro t a ht | with_unfolding_all rfl
theorem State.tick_keeps  {s0 s : State} (h0 : Keeps anyAddr false s0 s) (x : TickIn) : Keeps anyAddr false s0 (State.tick s x) := by
  unfold State.tick
  repeat' with_reducible first | assumption | apply State.core_keeps | apply State.resetDue_keeps | apply State.samplesTick_keeps | apply State.advance_keeps | apply State.aoTick_keeps | apply State.coreTick_keeps | with_unfolding_all rfl
theorem execDeviceTimeTick_keeps  {s0 s : State} (h0 : Keeps anyAddr false s0 s) (x : TickIn) : Nexts (execDeviceTimeTick x s) (Keeps anyAddr false s0) := by
  unfold execDeviceTimeTick
  repeat' with_reducible first | assumption | apply Nexts.of | apply State.tick_keeps | with_unfolding_all rfl

end Sys2Proof.Machine
end

