-- ==== Sys2Proof/WellFormed.lean ====
section
/-!
DEFINITION. Sys2Proof/WellFormed.lean: which commands are well formed: the operand ranges the spec states that their types do not
already hold.
-/
namespace Sys2Proof

/-- The sizes of a fabric access (R322, R345): at least one byte. -/
def sizeOk (n : Nat) : Bool := decide (1 ≤ n)

/-- A control range covers 1 to 1,120 symbols (R136). -/
def rangeOk (count : Nat) : Bool := decide (1 ≤ count) && decide (count ≤ 1120)

/-- Quantiser levels run from −7 to +7 (R76). -/
def levelOk (q : Int × Int) : Bool :=
  decide (-7 ≤ q.1) && decide (q.1 ≤ 7) && decide (-7 ≤ q.2) && decide (q.2 ≤ 7)

/-- A tick brings at most eight quantiser pairs to a path (R76). -/
def adcOk (e : Fin 64 × List (Int × Int)) : Bool := decide (e.2.length ≤ 8) && e.2.all levelOk

/-- A tick brings at most four samples to an observation receiver, each in Q1.15 (R166). -/
def obsOk (e : Fin 8 × List (Int × Int)) : Bool :=
  decide (e.2.length ≤ 4) && e.2.all (fun v => decide (-32768 ≤ v.1) && decide (v.1 ≤ 32767) && decide (-32768 ≤ v.2) &&
    decide (v.2 ≤ 32767))

/-- What a tick brings is in range. -/
def tickOk (x : TickIn) : Bool := x.adc.all adcOk && x.obs.all obsOk

/-- A dual load takes one pointer of P0 to P3 and one of P4 to P7 (R297). -/
def dualOk (a b : Addr) : Bool := decide (a.p.val < 4) && decide (4 ≤ b.p.val)

/-- A service-port write carries 1 to 64 words (R476). -/
def svcOk (ws : List Word) : Bool := decide (1 ≤ ws.length) && decide (ws.length ≤ 64)

/-- A packet has at least its header words and at most the longest packet's (R231 and the receive checks). -/
def packetOk (ws : List Word) : Bool := decide (1 ≤ ws.length)

/-- A burst or a run lasts at least one tick (R47). -/
def lenOk (len : Nat) : Bool := decide (1 ≤ len)

/-- A supply rail's monitor code, and a scan's openings, fit their fields (R285). -/
def eyeOk : EyeResult → Bool
  | .point _ => true
  | .scan l r u d => decide (l < 256) && decide (r < 256) && decide (u < 256) && decide (d < 256)

/-- A command is well formed. -/
def Instr.wf : Instr → Bool
  | .fabricAccess _ _ _ n _ _ => sizeOk n
  | .controlRangeAccept _ _ _ count _ => rangeOk count
  | .deviceTimeTick x => tickOk x
  | .ldx _ _ _ a b => dualOk a b
  | .svcWrite _ ws => svcOk ws
  | .iqDataReceive _ _ ws | .realTimeControlReceive _ _ ws | .beamWriteReceive _ _ ws | .mgmtReqReceive _ _ ws
  | .timeSyncReceive _ _ ws | .delayRequestReceive _ _ ws | .remoteRequestReceive _ _ ws | .delayResponseReceive _ _ ws
  | .unsupportedPacketReceive _ _ ws => packetOk ws
  | .burstRequest _ len | .rxRunRequest _ len => lenOk len
  | .eyeMeasureDone _ r => eyeOk r
  | _ => true

end Sys2Proof
end

