-- ==== Sys2Proof/Tests/Slice0.lean ====
section
/-!
SUPPORT. Sys2Proof/Tests/Slice0.lean: tests on fixed values, their results taken from the spec or worked out by hand from it, and for every
statement of Certificates/Slice0/Obligations.lean that has hypotheses a state and operands that meet them.
-/
open Sys2Proof Sys2Proof.Machine
set_option maxRecDepth 200000
set_option linter.unusedVariables false

namespace Sys2Proof.Tests

/-! ### States the tests start from -/

/-- The state a command leaves. -/
def after (c : Instr) (s : State) : State :=
  match exec c s with
  | .next t => t
  | _ => s

def mramPut : Request := { ini := 0, cls := 0, kind := 1, addr := 0x31000000, size := 4, data := 0, at_ := 0 }
def sramPut : Request := { ini := 2, cls := 0, kind := 1, addr := 0x24000000, size := 4, data := 0, at_ := 0 }
def aCapture : Capture :=
  { path := 0, set_ := 0, gen := 0, buf := 0, size := 0, start := 0, last := 0, yAt := 0, rem := 0, time := 0, key := 0, entry := 0,
    egen := 0, sel := 0, inst := 0, coefs := [], copy := none }
def someStats : CaptureStats := { exp := 0, nmse := 0, gain := 0, delay := 0, p := [], r := [] }
def aProbe : Probe := { el := 0, air := 0, reps := 0, rcv := [] }
/-- Engine 0 in a bundle whose slots all hold operations, with D0 = 5 and D1 = 7. -/
def adding : State :=
  State.reset.setEng 0 { open_ := true, ir := 0x3FFFFFFFFFFFFFFF, decl := List.range 58, regs := [(rD 0, 5), (rD 1, 7)] }

/-! ### Well-formed commands: one ill-formed term for each check, which refuses it -/

theorem test_wf_access_size : (Instr.fabricAccess .lanternM .read 0 0 0 0).wf = false := by decide
theorem test_wf_range_count : (Instr.controlRangeAccept 0 0 0 0 none).wf = false ∧
    (Instr.controlRangeAccept 0 0 0 1121 none).wf = false ∧ (Instr.controlRangeAccept 0 0 0 1120 none).wf = true := by decide
theorem test_wf_tick_level : (Instr.deviceTimeTick { adc := [(0, [(8, 0)])] }).wf = false := by decide
theorem test_wf_tick_pairs : (Instr.deviceTimeTick { adc := [(0, List.replicate 9 (0, 0))] }).wf = false := by decide
theorem test_wf_dual : (Instr.ldx 0 0 1 { p := 0, mode := .ind } { p := 3, mode := .ind }).wf = false := by decide
theorem test_wf_svc : (Instr.svcWrite 0 []).wf = false ∧ (Instr.svcWrite 0 (List.replicate 65 0)).wf = false := by decide
theorem test_wf_packet : (Instr.iqDataReceive 0 0 []).wf = false := by decide
theorem test_wf_tick_observed : (Instr.deviceTimeTick { obs := [(0, List.replicate 5 (0, 0))] }).wf = false ∧
    (Instr.deviceTimeTick { obs := [(0, [(32768, 0)])] }).wf = false ∧
    (Instr.deviceTimeTick { obs := [(0, [(32767, -32768)])] }).wf = true := by decide
theorem test_wf_length : (Instr.burstRequest 0 0).wf = false ∧ (Instr.rxRunRequest 0 0).wf = false := by decide
theorem test_wf_eye : (Instr.eyeMeasureDone 0 (.scan 256 0 0 0)).wf = false := by decide

/-! ### Words and steps -/

/-- The table gives no row any bits: no word spells a command, and the queue stays as it is. -/
theorem test_no_table_word : decodeTableWord 32 0 = none ∧ State.reset.withFetchWord 32 0 = State.reset := ⟨rfl, rfl⟩

/-- The commands are taken first in, first out: the first pulses a software line, the second waits. -/
theorem test_first_in_first_out : step { State.reset with pending := [.softwareLineSet 512, .refclkLoss] } =
    exec (.softwareLineSet 512) { State.reset with pending := [.refclkLoss] } := rfl

/-! ### Figures worked out in the spec -/

/-- 00_scope.md, example: the identification register of a production part reads 0x6480_1120. -/
theorem test_device_id : (State.reset.loadAt 0 0x40000000 4 0).2.1 = 0x64801120 := by decide +kernel

/-- 01_architecture.md, example: slot 3, symbol 5 of frame 7 of a timeline with MU = 1 and OFFSET = 1,000 begins at 35,232,616. -/
theorem test_locating_a_boundary : isSymBoundary 1 1000 35232616 = true ∧ symbolOf 1 1000 35232616 = 47 ∧
    frameOf 1000 0 35232616 = 7 ∧ symbolOf 1 1000 35232615 = 46 := by decide

/-- 02_radio_frontend.md, example: DUTY = 64 lets a tile transmit for 3,686,400 ticks in ten slices. -/
theorem test_duty_limit : (State.reset.setF F.FUSE_REG_DUTY_DUTY 64).dutyLimit = 3686400 := by decide

/-- 03_receive_chain.md, example: the group delays of path 21 add up to G_FIXED = 6,284. -/
theorem test_receive_alignment : (State.reset |>.setF F.RXP_CTRL_LEN_A 8 21 |>.setF F.RXP_CFIR_CTRL_GD (475 * 64 / 10) 21
    |>.setF F.RXP_SKEW_SKEW 16 21 |>.setF F.RXP_DDC_DEC 1 21 0).rxGFixed 21 0 = 6284 := by decide

/-- 04_transmit_chain.md, example: the latencies of path 21 add up to G_FIXED = 8,300. -/
theorem test_transmit_alignment : (State.reset |>.setF F.TXP_CTRL_LEN_A 8 21 |>.setF F.TXP_CFIR_CTRL_GD (475 * 64 / 10) 21
    |>.setF F.TXP_SKEW_SKEW 16 21 |>.setF F.TXP_DUC_CEN 1 21 0 |>.setF F.TXP_DUC_INT 1 21 0).txGFixed 21 = 8300 := by decide

/-- 04_transmit_chain.md, example: on path 21 with PAD = 404 the first sample reaches the predistortion input 98.25 ticks after
it enters stage D, and leaves the DAC 36.75 ticks later. -/
theorem test_transmit_steps : (State.reset |>.setF F.TXP_CTRL_LEN_A 8 21 |>.setF F.TXP_CFIR_CTRL_GD (475 * 64 / 10) 21
    |>.setF F.TXP_DUC_CEN 1 21 0 |>.setF F.TXP_DUC_INT 1 21 0 |>.setF F.TXP_ALIGN_STATUS_PAD 404 21).txDelay 21 4 = 98 * 64 + 16 ∧
    (State.reset |>.setF F.TXP_CTRL_LEN_A 8 21 |>.setF F.TXP_CFIR_CTRL_GD (475 * 64 / 10) 21
    |>.setF F.TXP_DUC_CEN 1 21 0 |>.setF F.TXP_DUC_INT 1 21 0 |>.setF F.TXP_ALIGN_STATUS_PAD 404 21).txDelay 21 8 = 135 * 64 := by
  decide

/-- R88: a coarse power of one tenth of full scale, −10 dB, has the code 40 of 0.25 dB steps, and full scale the code 0. -/
theorem test_power_code : dbCode 40 1 10 8 = 40 ∧ dbCode 40 1 1 8 = 0 := by decide +kernel

/-- R341, R344: a turn writes at most 256 bytes, in accesses that its funnel aligns. -/
theorem test_dma_turn : (withinBudget 256 (funnel 0x24000000 600 600)).map (·.2) = [64, 64, 64, 64] ∧
    (withinBudget 256 (funnel 0x24000001 600 600)).map (·.2) = [1, 2, 4, 8, 16, 32, 64, 64, 64] := by decide

/-- 06_predistortion.md, example: the blend of 0.98 and 1.04 gives 1.01, and the install of 1.10 over 1.04 with STEP = 8 gives
1.07, here in units of 0.0001. -/
theorem test_blend_and_install : blendOne 1 2 9800 10400 = 10100 ∧ installOne 8 10400 11000 = 10700 := by decide

/-- 08_flows_placement.md, example: 491.52 MS/s with m = 9 and OVH = 8 is charged 9,251 Mbit/s. -/
theorem test_lane_charge : (State.reset |>.setF F.FLW_CTRL_MANT 1 0 |>.setF F.PLC_CFG_OVH 8).chargeOf 0 = 9251 := by decide

/-- 09_trourn_link.md, example: 576 samples with m = 9 take B = 10,512 bits, and a symbol of 8,768 samples nine packets. -/
theorem test_iq_payload : payloadBits 9 576 = 10512 ∧ packetsOf 8768 = 9 := by decide

/-- 15_clocks_time.md, example: with the period of 1 s, the edge after 1,966,080,000 − 1 is expected at 4 × 491,520,000. -/
theorem test_expected_edge : ({ State.reset with clk := { since := 1966079999 } } |>.setF F.CLK_SYNC_PERIOD_PERIOD
    491520000).nextExpected = 1966080000 := by decide

/-- 18_faults_recovery.md, example: ENGINE_FAULT with the sequence number 0x0132 has the word 0xC025_0132. -/
theorem test_ledger_word : (({ State.reset with faults := { nextSeq := 0x132 } } : State).ledger 0x25 7
    3).faults.entries.map (fun e => e.word 0) = [0xC0250132] := by decide

/-- 07_mirror.md, example: of the neighbours of element 21, elements 12, 13, 14, 28, 29 and 30 are of other tiles. -/
theorem test_mirror_neighbours : [12, 13, 14, 20, 22, 28, 29, 30].filter (fun j => j / 4 != 21 / 4) = [12, 13, 14, 28, 29, 30] := by
  decide

/-! ### Single commands -/

/-- A pulse of a line makes it pending in the targets that enable it, and in no other (R353, R361). -/
theorem test_software_line : (after (.softwareLineSet 512) (State.reset.setF F.EVC_EN_EN 1 0 16)).evPend 0 512 = true ∧
    (after (.softwareLineSet 512) (State.reset.setF F.EVC_EN_EN 1 0 16)).evPend 1 512 = false := by decide

/-- A write to a class S field of an enabled timeline is recorded and changes nothing (R15). -/
theorem test_class_s : (after (.registerWrite .lanternM 0x40000204 5) (State.reset.setF F.SYS_TL_CFG_EN 1 0)).f
    F.SYS_TL_OFFSET_OFFSET 0 = 0 ∧
    (after (.registerWrite .lanternM 0x40000204 5) (State.reset.setF F.SYS_TL_CFG_EN 1 0)).faults.entries.map (fun e => e.code) =
      [1] := by decide +kernel

/-- ADD of 5 and 7: the register keeps its value until the bundle of the result's latency ends, and then holds 12 (R301). -/
theorem test_add : ((after (.addOp 0 2 0 1) adding).eng 0).d 2 = 0 ∧
    ((((after (.addOp 0 2 0 1) adding).eng 0).endBundle).get 0 (rD 2)) = 12 := by decide

/-- The seal is set by a write of SEAL = 1 and not cleared by a write of 0 (R454). -/
theorem test_seal : (after (.sealWrite 0x80000000) State.reset).f F.SYS_SEAL_SEAL = 1 ∧
    (after (.registerWrite .lanternM 0x40000010 0) (State.reset.setF F.SYS_SEAL_SEAL 1)).f F.SYS_SEAL_SEAL = 1 := by decide +kernel

/-- The digest of the three bytes abc, as the published standard gives it (R449). -/
theorem test_sha256 : sha256 [0x61, 0x62, 0x63] = 0xBA7816BF8F01CFEA414140DE5DAE2223B00361A396177A9CB410FF61F20015AD := by
  decide

/-! ### Witnesses of the hypotheses -/

/-- Witness for CommandsLeaveTheQueue. -/
theorem witness_CommandsLeaveTheQueue : ∃ (c : Instr) (s t : State), exec c s = .next t :=
  ⟨.refclkLoss, State.reset, _, rfl⟩

/-- Witness for EmptyQueueIdles. -/
theorem witness_EmptyQueueIdles : ∃ s : State, s.pending = [] := ⟨State.reset, rfl⟩

/-- Witness for StepKeepsInvariant: a step with a command to take. -/
theorem witness_StepKeepsInvariant : ∃ s t : State, s.inv = true ∧ step s = .next t :=
  ⟨{ State.reset with pending := [.softwareLineSet 512] }, _, by decide, rfl⟩

/-- Witness for OnlyStoringCommandsChangeMemory. -/
theorem witness_OnlyStoringCommandsChangeMemory :
    ∃ (c : Instr) (s t : State), mayStore c = false ∧ exec c s = .next t :=
  ⟨.softwareLineSet 512, State.reset, _, rfl, rfl⟩

/-- Witnesses for StoresStayInPlace, clause by clause, each with the address just below or just above the bytes stored. -/
theorem witness_StoresStayInPlace :
    (∃ (s t : State) (n : Fin 64) (ix : Fin 64) (w : Word) (b a : Nat), b = dpdBase + 0x90000 + n * 0x100 + 4 * ix ∧
      exec (.dpdDescriptorWrite n ix w) s = .next t ∧ ¬(b ≤ a ∧ a < b + 4)) ∧
    (∃ (s t : State) (x : Fin 262144) (w : Word) (b a : Nat), b = dpdBase + 4 * x ∧
      exec (.dpdSetWrite x w) s = .next t ∧ ¬(b ≤ a ∧ a < b + 4)) ∧
    (∃ (s t : State) (n : Fin 16) (b : BufStore) (bs : List BufStore) (a : Nat), (s.eng n).buf = b :: bs ∧
      b.window = false ∧ exec (.storeRetire n) s = .next t ∧ ¬(b.addr ≤ a ∧ a < b.addr + b.bytes.length)) ∧
    (∃ (s t : State) (r : Request) (a : Nat), s.mramNext true = some r ∧
      exec .mramWrite s = .next t ∧ ¬(r.addr ≤ a ∧ a < r.addr + r.size)) ∧
    (∃ (s t : State) (k : Fin 8) (p : Capture) (x : CaptureStats) (b a : Nat), (s.orxR k).ended = some (p, x) ∧
      b = resultAddr p.buf ∧ exec (.orxResultWrite k) s = .next t ∧ ¬(b ≤ a ∧ a < b + 0x4340)) ∧
    (∃ (s t : State) (b a : Nat), b = s.mirBuf + 0x40 ∧
      exec (.mirRecordsWrite ()) s = .next t ∧ ¬(b ≤ a ∧ a < b + 16 * 576)) ∧
    (∃ (s t : State) (p : Fin 38) (r : Request) (a : Nat), s.nextGrant p = some r ∧ 2 ≤ r.ini ∧
      (sram r.addr = true ∧ regionOf r.addr ≠ .dpd ∨ regionOf r.addr = .retention) ∧
      exec (.fabricGrant p) s = .next t ∧ ¬(r.addr ≤ a ∧ a < r.addr + r.size)) :=
  ⟨⟨State.reset, _, 1, 2, 7, _, dpdBase + 0x90000 + 0x107, rfl, rfl, by decide⟩,
   ⟨State.reset, _, 1, 7, _, dpdBase + 8, rfl, rfl, by decide⟩,
   ⟨State.reset.setEng 0 { buf := [{ addr := 0x10000000, bytes := [1], window := false }] }, _, 0, _, _, 0x10000001,
    rfl, rfl, rfl, by decide⟩,
   ⟨{ State.reset with fab := { mramQ := [mramPut] } }, _, mramPut, 0x31000004, by decide, rfl, by decide⟩,
   ⟨State.reset.setOrx 0 { ended := some (aCapture, someStats) }, _, 0, _, _, _, 0, rfl, rfl, rfl, by decide⟩,
   ⟨{ State.reset with mir := { probe := some aProbe } }, _, _, 0, rfl, rfl, by decide⟩,
   ⟨{ State.reset with fab := { waiting := [(0, [sramPut])] } }, _, 0, sramPut, 0x24000004, by decide, by decide, by decide,
    rfl, by decide⟩⟩

/-- Witness for SealStaysSet. -/
theorem witness_SealStaysSet : ∃ (c : Instr) (s t : State), resetsDevice c = false ∧ s.inv = true ∧
    s.f F.SYS_SEAL_SEAL = 1 ∧ exec c s = .next t :=
  ⟨.refclkLoss, State.reset.setF F.SYS_SEAL_SEAL 1, _, rfl, by decide, by decide, rfl⟩

/-- Witnesses for CoreCommandsNeedTheCore: asleep, and in reset. -/
theorem witness_CoreCommandsNeedTheCore :
    (∃ (c : Instr) (s : State), needsCore c = true ∧ (s.asleep = true ∨ s.inReset = true)) ∧
    (∃ s : State, s.inReset = true ∨ (s.asleep = true ∧ s.absentAt (0x40400000 : Word).toNat = true)) ∧
    (∃ s : State, s.asleep = true ∧ s.absentAt (0x40400000 : Word).toNat = true) :=
  ⟨⟨.synthLock 0, { State.reset with power := { st := .dusk } }, by decide, by decide⟩,
   ⟨{ State.reset with boot := { pin := true } }, by decide⟩,
   ⟨{ State.reset with power := { st := .dark } }, by decide, by decide⟩⟩

/-- Witness for StoppedEngineDoesNothing. -/
theorem witness_StoppedEngineDoesNothing : ∃ (c : Instr) (s : State) (n : Nat), opEngine c = some n ∧
    s.on F.SE_STATUS_FAULTED n = true :=
  ⟨.addOp 15 0 1 2, State.reset.setF F.SE_STATUS_FAULTED 1 15, 15, rfl, by decide⟩

/-- Witness for ComputingOperationsFrame. -/
theorem witness_ComputingOperationsFrame : ∃ (c : Instr) (s t : State) (n : Nat), computes c = true ∧ opEngine c = some n ∧
    exec c s = .next t :=
  ⟨.addOp 0 2 0 1, adding, _, 0, rfl, rfl, rfl⟩

/-- Witness for LaterIssuedResultStands: a result of latency 2 and a later one of latency 1. -/
theorem witness_LaterIssuedResultStands : ∃ (e : Engine) (xs ys : List Result) (y : Result),
    e.results = xs ++ y :: ys ∧ y.due = e.count ∧ y.reg < 58 ∧ y.reg ≠ rCC ∧ (∀ x ∈ xs, x.due ≤ e.count) ∧
    (∀ x ∈ ys, x.due ≤ e.count → x.set_ = y.set_ → x.reg ≠ y.reg) ∧ (∀ x ∈ xs ++ ys, x.set_ < 2 ∧ x.reg < 64) ∧
    y.set_ < 2 :=
  ⟨{ count := 5, results := [⟨5, 0, 3, 1, none, 0, 4⟩, ⟨5, 0, 3, 2, none, 0, 5⟩, ⟨6, 0, 3, 9, none, 0, 5⟩] },
   [⟨5, 0, 3, 1, none, 0, 4⟩], [⟨6, 0, 3, 9, none, 0, 5⟩], ⟨5, 0, 3, 2, none, 0, 5⟩, rfl, rfl, by decide, by decide,
   by decide, by decide, by decide, by decide⟩

/-- Witness for ReadClearsRcFields: TILE[0].COUNT. -/
theorem witness_ReadClearsRcFields : ∃ (s : State) (rd : Reader) (a : Word) (d : RegDesc) (i j k : Nat),
    s.reach a.toNat = true ∧ findReg a.toNat = some (d, i, j, k) ∧ hasRC a.toNat = true ∧
    s.held? (readerNum rd) a.toNat = none :=
  ⟨State.reset, .ini .lanternM, 0x40401040, _, _, _, _, by decide, rfl, by decide, by decide⟩

/-- Witness for EmptyAddressReadsZero. -/
theorem witness_EmptyAddressReadsZero : ∃ (s : State) (a : Word), s.reach a.toNat = true ∧ inSpan a.toNat = true ∧
    regionOf a.toNat = .reg ∧ (findReg a.toNat).isNone = true :=
  ⟨State.reset, 0x4000FFFC, by decide, by decide, by decide, by decide⟩

/-- Witnesses for ReservedBitsAreIgnored: EVC.SWSET written with and without a reserved bit, and a reserved bit of HKA.CTRL between two fields. -/
theorem witness_ReservedBitsAreIgnored :
    (∃ (d : RegDesc) (v w : Nat), v ≠ w ∧ ∀ x ∈ d.flds, bits v x.lo x.w = bits w x.lo x.w) ∧
    (∃ (s : State) (d : RegDesc) (i j k b : Nat), (∀ x ∈ d.flds, s.f x i j k < 2 ^ x.w) ∧
      (d.flds.Pairwise (fun x y => x.lo + x.w ≤ y.lo ∨ y.lo + y.w ≤ x.lo)) ∧
      (∀ x ∈ d.flds, b < x.lo ∨ x.lo + x.w ≤ b)) :=
  ⟨⟨descOf .EVC_SWSET, 512, 512 + 2 ^ 10, by decide, by decide⟩,
   ⟨State.reset, descOf .HKA_CTRL, 0, 0, 0, 21, by decide, by decide, by decide⟩⟩

/-- Witness for ClassSWriteIsDiscarded: SYS.TL_OFFSET[0] while the timeline runs. -/
theorem witness_ClassSWriteIsDiscarded : ∃ (s : State) (ini : Initiator) (a w : Word) (d : RegDesc) (i j k : Nat),
    s.reach a.toNat = true ∧ findReg a.toNat = some (d, i, j, k) ∧ s.radioWrite d.name i j k w.toNat = none ∧
    s.linkWrite d.name i j k w.toNat = none ∧ s.sysWrite (iniNum ini) d.name i j w.toNat = none ∧ d.flds ≠ [] ∧
    (∀ x ∈ d.flds, x.acc = .rw ∧ x.cls = .s) ∧ s.enabled (s.ownerOf d.name i j .s) = true :=
  ⟨State.reset.setF F.SYS_TL_CFG_EN 1 0, .lanternM, 0x40000204, 5, _, _, _, _, by decide, rfl, rfl, rfl, rfl,
   (by intro h; cases h), by decide, by decide⟩

/-- Witness for PlainWriteTakesEffect: the same register while the timeline does not run. -/
theorem witness_PlainWriteTakesEffect : ∃ (s : State) (ini : Initiator) (a w : Word) (d : RegDesc) (i j k : Nat),
    s.reach a.toNat = true ∧ findReg a.toNat = some (d, i, j, k) ∧ s.radioWrite d.name i j k w.toNat = none ∧
    s.linkWrite d.name i j k w.toNat = none ∧ s.sysWrite (iniNum ini) d.name i j w.toNat = none ∧
    (∀ x ∈ d.flds, x.acc = .rw) ∧
    (∀ x ∈ d.flds, (x.cls = .s ∨ x.cls = .b) → s.enabled (s.ownerOf d.name i j x.cls) = false) :=
  ⟨State.reset, .lanternM, 0x40000204, 5, _, _, _, _, by decide, rfl, rfl, rfl, rfl, by decide, by decide⟩

/-- Witness for LastShadowWriteWins. -/
theorem witness_LastShadowWriteWins : ∃ (s : State) (key v w margin : Nat) (o : Owner) (t u : State), s.inv = true ∧
    o ≠ .none ∧ t = (s.shadowSet key o v).shadowSet key o w ∧ u = { t with elapsed := t.elapsed + margin } :=
  ⟨State.reset, F.TXP_SKEW_SKEW.key 0 0 0, 1, 2, 4, .txp 0, _, _, by decide, by decide, rfl, rfl⟩

/-- Witness for DeniedAccessReachesNothing: an engine's read with every region disabled. -/
theorem witness_DeniedAccessReachesNothing : ∃ (s t : State) (i : Initiator) (k : AccKind) (a : Word) (n : Fin 65) (data : Nat)
    (ecc : Fin 3), s.awake = true ∧ s.permitted i k a.toNat n = false ∧ exec (.fabricAccess i k a n data ecc) s = .next t :=
  ⟨State.reset, _, .engine 3, .read, 0x20000000, 4, 0, 0, by decide, by decide, rfl⟩

/-- Witnesses for EqualOccurrencesMerge: REPEAT at its limit, and a ledger with one place left. -/
theorem witness_EqualOccurrencesMerge :
    (∃ (s : State) (code a b : Nat) (xs ys : List LedgerEntry) (e : LedgerEntry), s.faults.entries = xs ++ e :: ys ∧
      e.code = code ∧ e.argA = a % 2 ^ 32 ∧ e.argB = b % 2 ^ 32 ∧
      (∀ x ∈ xs, ¬(x.code = code ∧ x.argA = a % 2 ^ 32 ∧ x.argB = b % 2 ^ 32))) ∧
    (∃ (s : State) (code a b : Nat), (∀ x ∈ s.faults.entries, ¬(x.code = code ∧ x.argA = a % 2 ^ 32 ∧ x.argB = b % 2 ^ 32)) ∧
      s.faults.entries.length < 32) :=
  ⟨⟨{ State.reset with faults := { entries := [⟨0, 0, 2, 0, 0, 0, 0⟩, ⟨0, 63, 1, 1, 4, 5, 0⟩] } }, 1, 4, 5,
    [⟨0, 0, 2, 0, 0, 0, 0⟩], [], ⟨0, 63, 1, 1, 4, 5, 0⟩, rfl, rfl, by decide, by decide, by decide⟩,
   ⟨{ State.reset with faults := { entries := List.replicate 31 ⟨0, 0, 2, 0, 0, 0, 0⟩ } }, 1, 4, 5, by decide, by decide⟩⟩

/-- Witnesses for SoftwareLinePulses at the ends of the range and outside it. -/
theorem witness_SoftwareLinePulses : ∃ s : State, s.reach (regAddr .EVC_SWSET) = true ∧
    (512 = bits (512 : Word).toNat 0 10) ∧ (1022 = bits (1022 : Word).toNat 0 10) ∧ (1023 = bits (1023 : Word).toNat 0 10) :=
  ⟨State.reset, by decide, by decide, by decide, by decide⟩

/-- Witness for ZeroScaleOutlastsEachCause. -/
theorem witness_ZeroScaleOutlastsEachCause : ∃ c d : Fin 9, c ≠ d := ⟨0, 8, by decide⟩

/-- Witnesses for ClaimTakesTheLine: line 512 deliverable, and none. -/
theorem witness_ClaimTakesTheLine :
    (∃ (s : State) (l : Nat), s.reach (regAddr .EVC_CLAIM) = true ∧ s.bestLine (s.deliverable 0) = some l) ∧
    (∃ s : State, s.reach (regAddr .EVC_CLAIM) = true ∧ s.deliverable 0 = []) :=
  ⟨⟨State.reset |>.setF F.EVC_CTRL_GDIS 0 |>.setF F.EVC_EN_EN 1 0 16 |>.setF F.EVC_PEND_PEND 1 0 16 |>.setF F.EVC_PRIO_PRIO 1
    512, 512, by decide, by decide⟩, ⟨State.reset, by decide, by decide⟩⟩

/-- Witness for PinResetClearsTheDevice. -/
theorem witness_PinResetClearsTheDevice : ∃ s : State, s.boot.por = false := ⟨State.reset, rfl⟩

/-- Witness for ArmedCommitGuardsCorrections. -/
theorem witness_ArmedCommitGuardsCorrections : ∃ s : State, s.reach (regAddr .PRISM_CORR_PEND 1 63) = true ∧
    s.on F.PRISM_CORR_COMMIT_ARMED = true :=
  ⟨State.reset.setF F.PRISM_CORR_COMMIT_ARMED 1, by decide, by decide⟩

/-- Witness for InvalidateDiscardsWholeLines. -/
theorem witness_InvalidateDiscardsWholeLines : ∃ s : State, s.awake = true := ⟨State.reset, by decide⟩

/-- Witnesses for SynthesiserAndHopCommands, clause by clause. -/
theorem witness_SynthesiserAndHopCommands :
    (∃ (s : State) (k : Fin 4) (w : Word), s.reach (regAddr .SYS_TL_CFG k) ∧ s.tlOn k = false ∧ bit w.toNat 31 ∧
      (s.applyFields (descOf .SYS_TL_CFG).flds (fun lo => lo == 31) k 0 0 w.toNat (fun _ => .timeline k) (fun _ =>
      false)).2 = false) ∧
    (∃ (s : State) (m : Fin 4) (w : Word), s.reach (regAddr .RFC_LOS_FREQ m) ∧ s.enabled (.synth m) = false ∧ s.on
      F.RFC_LOS_CTRL_EN m = false ∧ (¬(bits w.toNat 0 24 < 3300000 ∨ 15400000 < bits w.toNat 0 24 ∨ s.loPermitted (bits
      w.toNat 0 24) = false))) ∧
    (∃ (s : State) (m : Fin 4) (w : Word), s.reach (regAddr .RFC_LOS_FREQ m) ∧ s.enabled (.synth m) = false ∧ s.on
      F.RFC_LOS_CTRL_EN m ∧ (¬(bits w.toNat 0 24 < 3300000 ∨ 15400000 < bits w.toNat 0 24 ∨ s.loPermitted (bits w.toNat 0
      24) = false))) ∧
    (∃ (s : State) (m : Fin 4) (w : Word), s.reach (regAddr .RFC_LOS_CTRL m) ∧ s.on F.RFC_LOS_CTRL_EN m = false ∧ s.f
      F.RFC_LOS_STATUS_FREQ_IN_EFFECT m ≠ 0) ∧
    (∃ (s : State) (m : Fin 4), s.awake ∧ (s.synth m).relock ∧ s.on F.RFC_LOS_STATUS_OSC_BUSY m = false ∧ s.on
      F.RFC_LOS_STATUS_ACTIVE m = false) ∧
    (∃ (s : State) (m : Fin 4), s.awake ∧ (s.synth m).relock ∧ s.on F.RFC_LOS_STATUS_OSC_BUSY m = false ∧ s.on
      F.RFC_LOS_STATUS_ACTIVE m) ∧
    (∃ (s : State) (g : Fin 2) (w : Word), s.reach (regAddr .RFC_LOP_CTRL g) ∧ ((List.range 8).any (fun i => s.f
      F.RFC_TILE_STATE_TILE (8 * g + i) != 0 && s.tileTl (8 * g + i) != s.f F.RFC_LOP_CTRL_TL g) = false) ∧ s.on
      F.RFC_LOP_STATUS_HOP_PENDING g = false) ∧
    (∃ (s : State) (g : Fin 2), s.awake ∧ s.hopReady g) :=
  ⟨⟨State.reset, 0, 0x80000000, by decide, by decide, by decide, by decide⟩,
   ⟨State.reset |>.setF F.RFC_LOS_CTRL_EN 0 0, 0, 3500000, by decide, by decide, by decide, by decide⟩,
   ⟨State.reset |>.setF F.RFC_LOS_CTRL_EN 1 0, 0, 3500000, by decide, by decide, by decide, by decide⟩,
   ⟨State.reset |>.setF F.RFC_LOS_CTRL_EN 0 0 |>.setF F.RFC_LOS_STATUS_FREQ_IN_EFFECT 1 0, 0, 0, by decide, by decide, by
     decide⟩,
   ⟨State.reset |>.setF F.RFC_LOS_STATUS_OSC_BUSY 0 0 |>.setF F.RFC_LOS_STATUS_ACTIVE 0 0 |>.setSynth 0 { relock := true },
     0, by decide, by decide, by decide, by decide⟩,
   ⟨State.reset |>.setF F.RFC_LOS_STATUS_OSC_BUSY 0 0 |>.setF F.RFC_LOS_STATUS_ACTIVE 1 0 |>.setSynth 0 { relock := true },
     0, by decide, by decide, by decide, by decide⟩,
   ⟨State.reset |>.setF F.RFC_LOP_STATUS_HOP_PENDING 0 0, 0, 0, by decide, by decide, by decide⟩,
   ⟨({ State.reset with elapsed := 2048 } : State) |>.setF F.RFC_LOP_STATUS_HOP_PENDING 1 0 |>.setF F.SYS_TL_CFG_EN 1 0
     |>.setF F.RFC_LOS_STATUS_LOCKED 1 1, 0, by decide, by decide⟩⟩

/-- Witnesses for TileCommandsComplete, clause by clause. -/
theorem witness_TileCommandsComplete :
    (∃ (s u v : State) (t : Fin 16) (w : Word), s.reach (regAddr .RFC_TILE_CTRL t) ∧ s.applyFields (descOf
      .RFC_TILE_CTRL).flds (fun lo => lo == 31) t 0 0 (w.toNat ||| 2 ^ 31) (fun c => s.ownerOf .RFC_TILE_CTRL t 0 c) (fun c
      => s.enabled (s.ownerOf .RFC_TILE_CTRL t 0 c)) = (u, false) ∧ u.tlOn (u.tileTl t) ∧ v = (if s.on F.RFC_TILE_CTRL_EN t
      then u.setF F.RFC_TILE_CTRL_EN 1 t else (u.setF F.RFC_TILE_CTRL_EN 1 t).setTile t
      { (u.setF F.RFC_TILE_CTRL_EN 1 t).tile t with parked := false }).tryLeaveOff t ∧ v.f F.RFC_TILE_CTRL_BG_EN t = 0) ∧
    (∃ (s : State) (t : Fin 16) (w : Word), s.reach (regAddr .RFC_TILE_CTRL t)) ∧
    (∃ (s : State) (t : Fin 16), s.awake ∧ (s.tile t).going = .idle ∧ s.offToIdle t ∧ s.f F.RFC_TILE_CTRL_BG_EN t = 0) ∧
    (∃ (s : State) (t : Fin 16), s.awake ∧ (s.tile t).going = .off ∧ s.txh t = 0 ∧ s.rxh t = 0) ∧
    (∃ (s : State) (t : Fin 16) (len : Nat), s.awake ∧ s.on F.RFC_TILE_CTRL_EN t ∧ s.tileState t ≠ 2 ∧ (s.tile t).burst =
      none ∧ s.onGrid t len) ∧
    (∃ (s : State) (t : Fin 16) (len : Nat), s.awake ∧ s.on F.RFC_TILE_CTRL_EN t ∧ s.tileState t ≠ 2 ∧ (s.tile t).run =
      none ∧ s.onGrid t len) ∧
    (∃ (s : State) (t : Fin 16), s.awake ∧ s.txh t = 1) ∧
    (∃ (s : State) (t : Fin 16), s.awake ∧ s.txh t = 3 ∧ (s.setF F.RFC_TILE_STATE_TXH 0 t).on F.RFC_TILE_CTRL_EN t) ∧
    (∃ (s : State) (t : Fin 16), s.awake ∧ s.txh t = 3 ∧ (s.setF F.RFC_TILE_STATE_TXH 0 t).on F.RFC_TILE_CTRL_EN t = false) ∧
    (∃ (s : State) (t : Fin 16), s.awake ∧ s.rxh t = 1 ∧ (s.tdd t = false ∨ (s.tile t).ended.all (fun e => decide (e + 689
      ≤ s.now)) = true)) ∧
    (∃ (s : State) (t : Fin 16) (level : Bool), s.awake ∧ s.gpioDue t .tr = level ∧ (s.tile t).tr.on = !level) ∧
    (∃ (s : State) (t : Fin 16) (level : Bool), s.awake ∧ s.gpioDue t .pa = level ∧ (s.tile t).pa.on = !level) ∧
    (∃ (s : State) (t : Fin 16) (level : Bool), s.awake ∧ s.gpioDue t .lna = level ∧ (s.tile t).lna.on = !level) :=
  ⟨⟨State.reset |>.setF F.SYS_TL_CFG_EN 1 0, _, _, 0, 0, by decide, (Prod.ext rfl (by decide)), by decide, rfl, by decide⟩,
   ⟨State.reset, 0, 0, by decide⟩,
   ⟨State.reset |>.setF F.RFC_TILE_CTRL_BG_EN 0 0 |>.setF F.RFC_TILE_CTRL_EN 1 0 |>.setF F.RFC_LOS_CTRL_EN 1 0 |>.setTile 0
     { going := .idle }, 0, by decide, by decide, by decide, by decide⟩,
   ⟨State.reset |>.setF F.RFC_TILE_STATE_TXH 0 0 |>.setF F.RFC_TILE_STATE_RXH 0 0 |>.setTile 0 { going := .off }, 0, by
     decide, by decide, by decide, by decide⟩,
   ⟨({ State.reset with time := 4913152 } : State) |>.setF F.RFC_TILE_CTRL_EN 1 0 |>.setF F.RFC_TILE_STATE_TILE 3 0 |>.setF
     F.SYS_TL_CFG_EN 1 0 |>.setTile 0 { burst := none }, 0, 4915200, by decide, by decide, by decide, by decide, by decide⟩,
   ⟨({ State.reset with time := 4913152 } : State) |>.setF F.RFC_TILE_CTRL_EN 1 0 |>.setF F.RFC_TILE_STATE_TILE 3 0 |>.setF
     F.SYS_TL_CFG_EN 1 0 |>.setTile 0 { run := none }, 0, 4915200, by decide, by decide, by decide, by decide, by decide⟩,
   ⟨State.reset |>.setF F.RFC_TILE_STATE_TXH 1 0, 0, by decide, by decide⟩,
   ⟨State.reset |>.setF F.RFC_TILE_STATE_TXH 3 0 |>.setF F.RFC_TILE_CTRL_EN 1 0, 0, by decide, by decide, by decide⟩,
   ⟨State.reset |>.setF F.RFC_TILE_STATE_TXH 3 0, 0, by decide, by decide, by decide⟩,
   ⟨State.reset |>.setF F.RFC_TILE_STATE_RXH 1 0, 0, by decide, by decide, by decide⟩,
   ⟨({ State.reset with elapsed := 16 } : State) |>.setTile 0
     { tr := { on := !true }, burst := some { first := 0, len := 35072 }, lna := { edge := 0 } }, 0, true, by decide, by
     decide, by decide⟩,
   ⟨({ State.reset with elapsed := 16 } : State) |>.setTile 0
     { pa := { on := !true }, burst := some { first := 0, len := 35072 }, tr := { on := true } }, 0, true, by decide, by
     decide, by decide⟩,
   ⟨State.reset |>.setTile 0 { lna := { on := !false } }, 0, false, by decide, by decide, by decide⟩⟩

/-- Witnesses for CalibrationDutyAndFuseCommands, clause by clause. -/
theorem witness_CalibrationDutyAndFuseCommands :
    (∃ (s : State) (t : Fin 16) (w : Word), s.reach (regAddr .RFC_TILE_CAL t) ∧ s.on F.RFC_TILE_CAL_FG_BUSY t = false) ∧
    (∃ (s : State) (t : Fin 16), s.awake ∧ s.f F.RFC_TILE_CAL_REQ t ≠ 0 ∧ s.tileState t = 1 ∧ s.on F.RFC_TILE_CTRL_EN t ∧
      (s.tile t).going = .none ∧ s.txh t = 0 ∧ s.rxh t = 0 ∧ (s.tile t).bg.running = false ∧ s.on F.RFC_TILE_CAL_FG_BUSY t
      = false) ∧
    (∃ (s : State) (t : Fin 16), s.awake ∧ s.tileState t = 2 ∧ s.f F.RFC_TILE_STATE_CAL_RUN t ≠ 0 ∧ s.calRan t (fgMicros
      (s.f F.RFC_TILE_STATE_CAL_RUN t))) ∧
    (∃ (s : State) (t : Fin 16), s.awake ∧ (s.tile t).bg.timer ∧ s.f F.RFC_TILE_CAL_BG_PERIOD t = 0 ∧ (s.tile t).bg.todo =
      0 ∧ s.tileState t ≠ 0) ∧
    (∃ (s : State) (t : Fin 16) (r : CalResult), s.awake ∧ (s.tile t).bg.running ∧ s.calRan t 2 ∧ (s.tile t).bg.step + 1 ≠
      bgSteps (lowKind (s.tile t).bg.todo) ∧ (s.tile t).bg.todo ≠ 0) ∧
    (∃ (s : State) (t : Fin 16), s.awake ∧ s.dutyLimit ≤ dutySum (s.tile t).slices ∧ s.on F.RFC_TILE_STATE_DUTY_GATE t =
      false) ∧
    (∃ (s : State) (t : Fin 16), s.awake ∧ s.now % msTicks = 0) ∧
    (∃ (s : State) (w : Word), s.reach (regAddr .FUSE_REG_PROG) ∧ s.on F.SYS_SEAL_SEAL = false ∧ s.on
      F.FUSE_REG_DUTY_CLOSED = false ∧ bits (w.toNat ||| 2 ^ 31) 0 10 ≤ 752 ∧ s.on F.FUSE_REG_PROG_BUSY = false) :=
  ⟨⟨State.reset |>.setF F.RFC_TILE_CAL_FG_BUSY 0 0, 0, 0, by decide, by decide⟩,
   ⟨State.reset |>.setF F.RFC_TILE_CAL_REQ 1 0 |>.setF F.RFC_TILE_STATE_TILE 1 0 |>.setF F.RFC_TILE_CTRL_EN 1 0 |>.setF
     F.RFC_TILE_STATE_TXH 0 0 |>.setF F.RFC_TILE_STATE_RXH 0 0 |>.setF F.RFC_TILE_CAL_FG_BUSY 0 0 |>.setF
     F.RFC_TILE_STATE_TILE 1 0 |>.setTile 0 { going := .none, bg := { running := false } }, 0, by decide, by decide, by
     decide, by decide, by decide, by decide, by decide, by decide, by decide⟩,
   ⟨({ State.reset with elapsed := 4915200 } : State) |>.setF F.RFC_TILE_STATE_TILE 2 0 |>.setF F.RFC_TILE_STATE_CAL_RUN 1
     0, 0, by decide, by decide, by decide, by decide⟩,
   ⟨State.reset |>.setF F.RFC_TILE_CAL_BG_PERIOD 0 0 |>.setF F.RFC_TILE_STATE_TILE 1 0 |>.setF F.RFC_TILE_STATE_TILE 1 0
     |>.setTile 0 { bg := { timer := true, todo := 0 } }, 0, by decide, by decide, by decide, by decide, by decide⟩,
   ⟨({ State.reset with elapsed := 4915200 } : State) |>.setTile 0 { bg := { running := true, todo := 1 } }, 0, .pass, by
     decide, by decide, by decide, by decide, by decide⟩,
   ⟨State.reset |>.setF F.RFC_TILE_STATE_DUTY_GATE 0 0 |>.setTile 0 { slices := [4915200] }, 0, by decide, by decide, by
     decide⟩,
   ⟨State.reset, 0, by decide, by decide⟩,
   ⟨State.reset |>.setF F.SYS_SEAL_SEAL 0 |>.setF F.FUSE_REG_DUTY_CLOSED 0 |>.setF F.FUSE_REG_PROG_BUSY 0, 0, by decide, by
     decide, by decide, by decide, by decide⟩⟩

/-- Witnesses for ReceivePathCommandsComplete, clause by clause. -/
theorem witness_ReceivePathCommandsComplete :
    (∃ (s u : State) (n : Fin 64) (w : Word), s.reach (regAddr .RXP_CTRL n) ∧ s.applyFields (descOf .RXP_CTRL).flds (fun lo
      => lo == 31) n 0 0 (w.toNat ||| 2 ^ 31) (fun c => s.ownerOf .RXP_CTRL n 0 c) (fun c => s.enabled (s.ownerOf .RXP_CTRL
      n 0 c)) = (u, false) ∧ u.rxMayEnable n ∧ s.on F.RXP_CTRL_EN n = false) ∧
    (∃ (s : State) (n : Fin 64) (b : Fin 2) (i : Fin 96) (w : Word), s.reach (regAddr .RXP_CFIR_COEF n b i) ∧ (¬(s.rxOn n
      && b.val == s.f F.RXP_CFIR_CTRL_ACTIVE n))) ∧
    (∃ (s : State) (n : Fin 64) (b : Fin 2) (i : Fin 96) (w : Word), s.reach (regAddr .TXP_CFIR_COEF n b i) ∧ (¬(s.txOn n
      && b.val == s.f F.TXP_CFIR_CTRL_ACTIVE n))) ∧
    (∃ (s u : State) (n : Fin 64), s.awake ∧ s.agcLive n ∧ (s.rxp n).free ∧ s.on F.RXP_PWR_COARSE_VALID n ∧ (s.rxp
      n).tickMax < s.f F.RXP_AGC_STATUS_T_HIGH n ∧ u = s.setAtt n (min 30 (s.f F.RFC_RX_ATT_IN_EFFECT (n / 4) (n % 4) + s.f
      F.RXP_AGC_CFG_ATTACK_STEP n))) ∧
    (∃ (s : State) (n : Fin 64), s.awake ∧ (s.rxp n).hold = some 0 ∧ s.rxHalfIsOn n) ∧
    (∃ (s u : State) (n : Fin 64), s.awake ∧ s.rxHalfIsOn n ∧ (s.rxp n).ovlQ ∧ u = (((s.setF F.RXP_SAT_ADC_OVL 1 n).bump
      F.RXP_SAT_COUNT_ADC_OVL_COUNT n).setRxp n
      { s.rxp n with zeroQ := s.elapsed + 4, ovlQ := false, runQ := 0 }).mirOverload n) ∧
    (∃ (s u : State) (n : Fin 64), s.awake ∧ s.rxHalfIsOn n ∧ (s.rxp n).ovlI ∧ u = (((s.setF F.RXP_SAT_ADC_OVL 1 n).bump
      F.RXP_SAT_COUNT_ADC_OVL_COUNT n).setRxp n
      { s.rxp n with zeroI := s.elapsed + 4, ovlI := false, runI := 0 }).mirOverload n) ∧
    (∃ (s : State) (n : Fin 64) (code : Nat), s.awake ∧ (s.rxp n).fineDone = some code ∧ s.rxHalfIsOn n ∧ s.rxOn n) ∧
    (∃ (s u : State) (n : Fin 64), s.awake ∧ s.rxOn n ∧ s.tlOn (s.f F.RFC_TILE_CTRL_TL (n / 4)) ∧ 1 ≤ s.now ∧ s.isAir (s.f
      F.RFC_TILE_CTRL_TL (n / 4)) (s.now - 1) ∧ s.landing (.rxp n) (regAddr .RXP_SKEW n) 4 = false ∧ u = (s.commitShadow
      (.rxp n) 4).setF F.RXP_CFIR_CTRL_ACTIVE ((s.commitShadow (.rxp n) 4).f F.RXP_CFIR_CTRL_BANK n) n ∧ (u.rxp n).satSym =
      false) :=
  ⟨⟨State.reset |>.setF F.RXP_CTRL_EN 0 0 |>.setF F.SYS_TL_CFG_EN 1 0, _, 0, 0, by decide, (Prod.ext rfl (by decide)), by
     decide, by decide⟩,
   ⟨State.reset, 0, 0, 0, 0, by decide, by decide⟩,
   ⟨State.reset, 0, 0, 0, 0, by decide, by decide⟩,
   ⟨State.reset |>.setF F.RXP_PWR_COARSE_VALID 1 0 |>.setF F.RXP_CTRL_EN 1 0 |>.setF F.RFC_TILE_STATE_RXH 2 0 |>.setF
     F.RXP_AGC_STATUS_T_HIGH 9 0 |>.setF F.RFC_RX_ATT_MAN 0 0 0 |>.setRxp 0 { tickMax := 0 }, _, 0, by decide, by decide,
     by decide, by decide, by decide, rfl⟩,
   ⟨State.reset |>.setF F.RFC_TILE_STATE_RXH 2 0 |>.setRxp 0 { hold := some 0 }, 0, by decide, by decide, by decide⟩,
   ⟨State.reset |>.setF F.RFC_TILE_STATE_RXH 2 0 |>.setRxp 0 { ovlQ := true }, _, 0, by decide, by decide, by decide, rfl⟩,
   ⟨State.reset |>.setF F.RFC_TILE_STATE_RXH 2 0 |>.setRxp 0 { ovlI := true }, _, 0, by decide, by decide, by decide, rfl⟩,
   ⟨State.reset |>.setF F.RFC_TILE_STATE_RXH 2 0 |>.setF F.RXP_CTRL_EN 1 0 |>.setRxp 0 { fineDone := some 0 }, 0, 0, by
     decide, by decide, by decide, by decide⟩,
   ⟨({ State.reset with time := 1 } : State) |>.setF F.RXP_CTRL_EN 1 0 |>.setF F.SYS_TL_CFG_EN 1 0, _, 0, by decide, by
     decide, by decide, by decide, by decide, by decide, rfl, by decide⟩⟩

/-- Witnesses for TransmitPathCommandsComplete, clause by clause. -/
theorem witness_TransmitPathCommandsComplete :
    (∃ (s u : State) (n : Fin 64) (w : Word), s.reach (regAddr .TXP_CTRL n) ∧ s.applyFields (descOf .TXP_CTRL).flds (fun lo
      => lo == 31) n 0 0 (w.toNat ||| 2 ^ 31) (fun c => s.ownerOf .TXP_CTRL n 0 c) (fun c => s.enabled (s.ownerOf .TXP_CTRL
      n 0 c)) = (u, false) ∧ u.txMayEnable n ∧ s.on F.TXP_CTRL_EN n = false) ∧
    (∃ (s u : State) (n : Fin 64) (w : Word), s.reach (regAddr .TXP_CTRL n) ∧ s.applyFields (descOf .TXP_CTRL).flds (fun lo
      => lo == 31) n 0 0 (w.toNat % 2 ^ 31) (fun c => s.ownerOf .TXP_CTRL n 0 c) (fun c => s.enabled (s.ownerOf .TXP_CTRL n
      0 c)) = (u, false)) ∧
    (∃ (s : State) (n : Fin 64), s.awake ∧ s.on F.TXP_ZS_STATUS_ZERO n = false ∧ (s.txp n).nsFound) ∧
    (∃ (s : State) (n : Fin 64), s.awake ∧ bit (s.f F.TXP_ZS_STATUS_CAUSE n) 6 ∧ (s.txp n).ovlEnd ≤ s.elapsed) ∧
    (∃ (s : State) (n : Fin 64) (g : Fin 10), s.awake) ∧
    (∃ (s u : State) (t : Fin 16), s.awake ∧ s.tlOn (s.tileTl t) ∧ s.isAir (s.tileTl t) s.now ∧ u = (((((tilePaths t).foldl
      State.zsEndDue s).commitShadow (.tile t) 4).dutyRelease t).burstEnd t).runEnd t) :=
  ⟨⟨State.reset |>.setF F.TXP_CTRL_EN 0 0 |>.setF F.SYS_TL_CFG_EN 1 0, _, 0, 0, by decide, (Prod.ext rfl (by decide)), by
     decide, by decide⟩,
   ⟨State.reset, _, 0, 0, by decide, (Prod.ext rfl (by decide))⟩,
   ⟨State.reset |>.setF F.TXP_ZS_STATUS_ZERO 0 0 |>.setTxp 0 { nsFound := true }, 0, by decide, by decide, by decide⟩,
   ⟨State.reset |>.setF F.TXP_ZS_STATUS_CAUSE 0x40 0, 0, by decide, by decide, by decide⟩,
   ⟨State.reset, 0, 0, by decide⟩,
   ⟨State.reset |>.setF F.SYS_TL_CFG_EN 1 0 |>.setF F.SYS_TL_CFG_EN 1 0, _, 0, by decide, by decide, by decide, rfl⟩⟩

/-- Witnesses for PrismCommandsComplete, clause by clause. -/
theorem witness_PrismCommandsComplete :
    (∃ (s : State) (f : Fin 512) (e : Nat), s.awake ∧ (s.layer f).load = some e ∧ (s.readEntry e).valid (s.layDir f)) ∧
    (∃ (s u : State) (f : Fin 512) (w : Word), s.reach (regAddr .PRISM_LAYER_CFG f) ∧ s.on F.PRISM_LAYER_CFG_LEN f = false
      ∧ s.applyFields (descOf .PRISM_LAYER_CFG).flds (fun lo => lo == 31) f 0 0 (w.toNat ||| 2 ^ 31) (fun c => s.ownerOf
      .PRISM_LAYER_CFG f 0 c) (fun c => s.enabled (s.ownerOf .PRISM_LAYER_CFG f 0 c)) = (u, false) ∧ u.prismFits (u.layDir
      f) (u.layCar f) f) ∧
    (∃ (s : State) (w : Word), s.reach (regAddr .PRISM_CORR_COMMIT) ∧ s.absent 16 = false ∧ s.on F.PRISM_CORR_COMMIT_ARMED
      = false ∧ s.on F.PRISM_CFG_EN) ∧
    (∃ (s : State) (w : Word), s.reach (regAddr .PRISM_CORR_COMMIT) ∧ s.absent 16 = false ∧ s.on F.PRISM_CORR_COMMIT_ARMED
      = false ∧ s.on F.PRISM_CFG_EN = false) ∧
    (∃ (s : State), s.awake ∧ s.on F.PRISM_CORR_COMMIT_ARMED ∧ s.prismOn ∧ s.tlOn (s.f F.PRISM_CFG_TL) ∧ s.isFrame (s.f
      F.PRISM_CFG_TL) (s.now + s.refAdvance) ∧ s.prism.armedAt + 2 + cutoffTicks ≤ s.elapsed) ∧
    (∃ (s : State) (d : Fin 2) (a : Fin 64) (w : Word), s.reach (regAddr .PRISM_CORR_PEND d a) ∧ s.on
      F.PRISM_CORR_COMMIT_ARMED = false) ∧
    (∃ (s u : State) (f : Fin 512), s.awake ∧ s.carRuns f ∧ s.layDir f = 1 ∧ s.isAir (s.layTl f) (s.layAir f s.now) ∧ u =
      (s.commitShadow (.car 1 (s.layCar f)) 2).landLen f 2 ∧ u.on F.PRISM_LAYER_CFG_LEN f ∧ (u.layer f).shd ≠ none) ∧
    (∃ (s u : State) (f : Fin 512), s.awake ∧ s.carRuns f ∧ s.layDir f = 0 ∧ s.isAir (s.layTl f) (s.layAir f s.now) ∧ u =
      (s.commitShadow (.car 0 (s.layCar f)) 2).landLen f 2 ∧ u.on F.PRISM_LAYER_CFG_LEN f ∧ u.marked 0 (s.layCar f)
      (s.layAir f s.now) = false) ∧
    (∃ (s : State) (f : Fin 512), s.awake ∧ s.carRuns f ∧ s.layDir f = 1 ∧ s.isAir (s.layTl f) (s.layAir f (s.now +
      cutoffTicks))) ∧
    (∃ (s : State) (f : Fin 512) (frame : Fin 1024) (sym : Fin 2048) (count : Fin 2048) (entry : Option (Fin 8192)),
      s.awake ∧ s.fState f ≠ 3 ∧ s.fState f ≠ 4 ∧ s.absent 16 = false ∧ s.nextCut f s.now < s.frameIdx (s.layTl f) frame
      s.now * symPerFrame (s.mu (s.layTl f)) + sym.val ∧ (s.layer f).queue.length < 8) ∧
    (∃ (s u : State) (w : Word), s.reach (regAddr .PRISM_CFG) ∧ bit w.toNat 31 ∧ s.applyFields (descOf .PRISM_CFG).flds
      (fun lo => lo == 31) 0 0 0 w.toNat (fun c => s.ownerOf .PRISM_CFG 0 0 c) (fun c => s.enabled (s.ownerOf .PRISM_CFG 0
      0 c)) = (u, false) ∧ s.on F.PRISM_CFG_EN = false ∧ u.allRun u.prismFollows ∧ (u.on F.PRISM_CFG_DUPLEX ||
      u.turnaroundOk)) :=
  ⟨⟨State.reset |>.setLayer 0 { load := some 0 } |>.writeBytes weightBase (toBytes 0x80000000 4), 0, 0, by decide, by
     decide, by decide⟩,
   ⟨State.reset |>.setF F.PRISM_LAYER_CFG_LEN 0 0, _, 0, 0, by decide, by decide, (Prod.ext rfl (by decide)), by decide⟩,
   ⟨State.reset |>.setF F.PRISM_CORR_COMMIT_ARMED 0 |>.setF F.PRISM_CFG_EN 1, 0, by decide, by decide, by decide, by
     decide⟩,
   ⟨State.reset |>.setF F.PRISM_CORR_COMMIT_ARMED 0 |>.setF F.PRISM_CFG_EN 0, 0, by decide, by decide, by decide, by
     decide⟩,
   ⟨({ State.reset with time := 4915104, elapsed := 986 } : State) |>.setF F.PRISM_CORR_COMMIT_ARMED 1 |>.setF
     F.PRISM_CFG_EN 1 |>.setF F.SYS_TL_CFG_EN 1 0 |>.setF F.SYS_TL_CFG_EN 1 0, by decide, by decide, by decide, by decide,
     by decide, by decide⟩,
   ⟨State.reset |>.setF F.PRISM_CORR_COMMIT_ARMED 0, 0, 0, 0, by decide, by decide⟩,
   ⟨State.reset |>.setF F.SYS_TL_CFG_EN 1 0 |>.setF F.PRISM_CFG_EN 1 |>.setF F.PRISM_LAYER_CFG_LEN 1 0 |>.setF
     F.PRISM_LAYER_CFG_DIR 1 0 |>.setF F.PRISM_CAR_CEN 1 1 0 |>.setLayer 0 { shd := some { entry := 0, bytes := [] } }, _,
     0, by decide, by decide, by decide, by decide, rfl, by decide, by decide⟩,
   ⟨({ State.reset with time := 4915104 } : State) |>.setF F.SYS_TL_CFG_EN 1 0 |>.setF F.PRISM_CFG_EN 1 |>.setF
     F.PRISM_LAYER_CFG_LEN 1 0 |>.setF F.PRISM_CAR_CEN 1 0 0, _, 0, by decide, by decide, by decide, by decide, rfl, by
     decide, by decide⟩,
   ⟨({ State.reset with time := 4914216 } : State) |>.setF F.SYS_TL_CFG_EN 1 0 |>.setF F.PRISM_CFG_EN 1 |>.setF
     F.PRISM_LAYER_CFG_LEN 1 0 |>.setF F.PRISM_LAYER_CFG_DIR 1 0 |>.setF F.PRISM_CAR_CEN 1 1 0, 0, by decide, by decide, by
     decide, by decide⟩,
   ⟨State.reset, 0, 0, 200, 0, none, by decide, by decide, by decide, by decide, by decide, by decide⟩,
   ⟨State.reset |>.setF F.PRISM_CFG_EN 0, _, 0x80000000, by decide, by decide, (Prod.ext rfl (by decide)), by decide, by
     decide, by decide⟩⟩

/-- Witnesses for DpdCommandsComplete, clause by clause. -/
theorem witness_DpdCommandsComplete :
    (∃ (s u : State) (n : Fin 64) (w : Word), s.reach (regAddr .TXP_DPD_UPDATE n) ∧ s.on F.TXP_DPD_UPDATE_PENDING n = false
      ∧ s.on F.TXP_DPD_UPDATE_TRIAL n = false ∧ bit (s.f F.TXP_DPD_STALE_FROZEN n) (bits (w.toNat ||| 2 ^ 31) 16 4) = false
      ∧ bit (s.rd32 (candAddr n)) 31 ∧ u = s.writeReg .TXP_DPD_UPDATE (w.toNat ||| 2 ^ 31) n) ∧
    (∃ (s : State) (n : Fin 64) (g : Staged), s.awake ∧ (s.dpdOf n).staged = some g ∧ g.done = false) ∧
    (∃ (s : State) (n : Fin 64) (g : Staged), s.awake ∧ (s.dpdOf n).staged = some g ∧ g.done ∧ g.at_ + 4 ≤ s.elapsed ∧
      s.boundaryMade n ∧ (s.dpdOf n).applied = false) ∧
    (∃ (s : State) (n : Fin 64), s.awake ∧ s.boundaryDue n ∧ s.isTrial n) ∧
    (∃ (s : State) (n : Fin 64), s.awake ∧ s.on F.TXP_DPD_UPDATE_TRIAL n ∧ frameCeil (s.off (s.f F.RFC_TILE_CTRL_TL (n /
      4))) ((s.dpdOf n).installAt + 1) + frameTicks ≤ s.now ∧ s.isTrial n = false) ∧
    (∃ (s : State) (n : Fin 64) (w : Word) (e : Fin 16), s.reach (regAddr .TXP_DPD_STALE n) ∧ (∀ j < 16, bit w.toNat (16 +
      j) = decide (j = e.val))) ∧
    (∃ (s u : State) (n : Fin 64), s.awake ∧ s.boundaryDue n ∧ s.f F.DPD_MON_CFG_FAIL_LIMIT ≤ s.failsAfter n ∧ s.on
      F.TXP_DPD_STATUS_BYPASSED n = false ∧ s.on F.TXP_DPD_UPDATE_TRIAL n = false ∧ u = ((s.setF F.TXP_DPD_STATUS_BYPASSED
      1 n).bump F.DPD_COUNT_UNSTABLE).ledger 0x13 n) ∧
    (∃ (s : State) (n : Fin 64) (w : Word), s.reach (regAddr .TXP_DPD_STATUS n) ∧ s.on F.TXP_DPD_STATUS_BYPASSED n) ∧
    (∃ (s : State) (n : Fin 64) (x : Fin 64) (w : Word), s.reach (dpdBase + 0x90000 + n * 0x100 + 4 * x) ∧ (∀ j < 4,
      s.dpdGuard (0x90000 + n * 0x100 + 4 * x + j) = false)) ∧
    (∃ (s : State) (a : Fin 262144) (w : Word), s.reach (dpdBase + 4 * a) ∧ (∀ j < 4, s.dpdGuard (4 * a + j) = false) ∧ 4 *
      a.val < 0xE0000) ∧
    (∃ (s u v : State) (n : Fin 64) (bad : Option (Fin 128)), s.awake ∧ s.atTxBoundary n ∧ s.landing (.txp n) (regAddr
      .TXP_SKEW n) 4 = false ∧ s.f F.ORX_STATUS_SEL (n / 8) ≠ n % 8 ∧ u = (s.txSymbolEnd n).commitShadow (.txp n) 4 ∧ v =
      u.setF F.TXP_CFIR_CTRL_ACTIVE (u.f F.TXP_CFIR_CTRL_BANK n) n) :=
  ⟨⟨State.reset |>.setF F.TXP_DPD_UPDATE_PENDING 0 0 |>.setF F.TXP_DPD_UPDATE_TRIAL 0 0 |>.writeBytes (candAddr 0) (toBytes
     0x80000000 4), _, 0, 0, by decide, by decide, by decide, by decide, by decide, rfl⟩,
   ⟨State.reset |>.setTxp 0 { dpd := { staged := some { bytes := [], set_ := 0 } } }, 0, { bytes := [], set_ := 0 }, by
     decide, by decide, by decide⟩,
   ⟨({ State.reset with elapsed := 4 } : State) |>.setF F.SYS_TL_CFG_EN 1 0 |>.setF F.TXP_CTRL_EN 1 0 |>.setTxp 0
     { dpd := { staged := some { bytes := [], set_ := 0, done := true } }, tagAt := some 4 }, 0,
     { bytes := [], set_ := 0, done := true }, by decide, by decide, by decide, by decide, by decide, by decide⟩,
   ⟨State.reset |>.setF F.SYS_TL_CFG_EN 1 0 |>.setF F.TXP_CTRL_EN 1 0 |>.setF F.TXP_DPD_UPDATE_TRIAL 1 0 |>.setTxp 0
     { dpd := { full := true, sumX := 1 } }, 0, by decide, by decide, by decide⟩,
   ⟨({ State.reset with time := 9830400 } : State) |>.setF F.TXP_DPD_UPDATE_TRIAL 1 0 |>.setF F.SYS_TL_CFG_EN 1 0, 0, by
     decide, by decide, by decide, by decide⟩,
   ⟨State.reset, 0, 0x10000, 0, by decide, by decide⟩,
   ⟨State.reset |>.setF F.TXP_DPD_STATUS_BYPASSED 0 0 |>.setF F.TXP_DPD_UPDATE_TRIAL 0 0 |>.setF F.SYS_TL_CFG_EN 1 0
     |>.setF F.TXP_CTRL_EN 1 0 |>.setTxp 0 { dpd := { fails := 9 } }, _, 0, by decide, by decide, by decide, by decide, by
     decide, rfl⟩,
   ⟨State.reset |>.setF F.TXP_DPD_STATUS_BYPASSED 1 0, 0, 0, by decide, by decide⟩,
   ⟨State.reset, 0, 0, 0, by decide, by decide⟩,
   ⟨State.reset, 0, 0, by decide, by decide, by decide⟩,
   ⟨State.reset |>.setF F.SYS_TL_CFG_EN 1 0 |>.setF F.TXP_CTRL_EN 1 0 |>.setF F.ORX_STATUS_SEL 1 0, _, _, 0, none, by
     decide, by decide, by decide, by decide, rfl, rfl⟩⟩

/-- Witnesses for ObservationCommandsComplete, clause by clause. -/
theorem witness_ObservationCommandsComplete :
    (∃ (s : State) (k : Fin 8) (n h : Nat), s.awake ∧ s.on F.ORX_CTRL_EN k ∧ (s.orxR k).cap = none ∧ s.orxReserved k =
      false ∧ s.orxPick k = some n ∧ s.freeBuf k = some h) ∧
    (∃ (s : State) (k : Fin 8), s.awake ∧ s.on F.ORX_CTRL_EN k ∧ (s.orxR k).cap = none ∧ s.orxReserved k = false ∧
      s.orxPick k ≠ none ∧ s.freeBuf k = none) ∧
    (∃ (s u : State) (k : Fin 8) (c : DiscardCause) (p : Capture), s.awake ∧ (s.orxR k).cap = some p ∧ s.discardDue p c ∧ u
      = ((s.bump (discardFld c) k).setF F.ORX_STATUS_BUSY 0 k).setF F.ORX_STATUS_COPY_OK 0 k) ∧
    (∃ (s u : State) (k : Fin 8) (p : Capture), s.awake ∧ (s.orxR k).cap = some p ∧ p.last ≤ s.elapsed ∧ (s.orxR k).ended =
      none ∧ (∀ c, s.discardDue p c = false) ∧ u = (s.setF F.ORX_STATUS_BUSY 0 k).setF F.ORX_STATUS_COPY_OK (b2n
      p.copy.isSome) k) ∧
    (∃ (s u v w : State) (k : Fin 8) (p : Capture) (st : CaptureStats), s.awake ∧ (s.orxR k).ended = some (p, st) ∧ u =
      ((s.writeWords (resultAddr p.buf) [2 ^ 31 + p.path * 2 ^ 24 + p.set_ * 2 ^ 16 + p.gen, p.time % 2 ^ 32, p.time / 2 ^
      32 % 2 ^ 32, p.size, st.exp.toNat, st.nmse.toNat, st.gain.toNat, st.delay.toNat]).writeWords (resultAddr p.buf +
      0x40) (pairWords (st.p.take 64))).writeWords (resultAddr p.buf + 0x240) (pairWords (st.r.take 2080)) ∧ v = (u.setB
      F.ORX_BUF_HELD (p.buf % 2) k).clrB F.TXP_DPD_STALE_STALE p.set_ p.path ∧ w = v.setPair p.path p.set_
      { v.pair p.path p.set_ with due := false, captured := true, last := s.elapsed }) ∧
    (∃ (s : State) (k : Fin 8) (w : Word), s.reach (regAddr .ORX_REQ k)) ∧
    (∃ (s : State) (k : Fin 8) (w : Word), s.reach (regAddr .ORX_BUF k)) ∧
    (∃ (s : State), s.awake ∧ s.now % (s.f F.DPD_CFG_REFRESH * msTicks) = 0) :=
  ⟨⟨({ State.reset with elapsed := 100000 } : State) |>.setF F.ORX_CTRL_EN 1 0 |>.setF F.SYS_TL_CFG_EN 1 0 |>.setF
     F.TXP_CTRL_EN 1 0 |>.setF F.ORX_REQ_PEND 1 0 |>.setOrx 0 { cap := none } |>.setTxp 0
     { dpd := { full := true }, tagAt := some 100000 } |>.setTile 0 { burst := some { first := 0, len := 1000000 } }, 0, 0,
     0, by decide, by decide, by decide, by decide, by decide, by decide⟩,
   ⟨({ State.reset with elapsed := 100000 } : State) |>.setF F.ORX_CTRL_EN 1 0 |>.setF F.SYS_TL_CFG_EN 1 0 |>.setF
     F.TXP_CTRL_EN 1 0 |>.setF F.ORX_REQ_PEND 1 0 |>.setF F.ORX_BUF_HELD 3 0 |>.setOrx 0 { cap := none } |>.setTxp 0
     { dpd := { full := true }, tagAt := some 100000 } |>.setTile 0 { burst := some { first := 0, len := 1000000 } }, 0, by
     decide, by decide, by decide, by decide, by decide, by decide⟩,
   ⟨State.reset |>.setOrx 0
     { cap := some { path := 0, set_ := 0, gen := 0, buf := 0, size := 0, start := 0, last := 0, yAt := 0, rem := 0, time := 0, key := 0, entry := 0, egen := 0, sel := 0, inst := 0, coefs := [], copy := none, clips := 17 } },
     _, 0, .clip,
     { path := 0, set_ := 0, gen := 0, buf := 0, size := 0, start := 0, last := 0, yAt := 0, rem := 0, time := 0, key := 0, entry := 0, egen := 0, sel := 0, inst := 0, coefs := [], copy := none, clips := 17 },
     by decide, by decide, by decide, rfl⟩,
   ⟨State.reset |>.setOrx 0
     { cap := some { path := 0, set_ := 0, gen := 0, buf := 0, size := 0, start := 0, last := 0, yAt := 0, rem := 0, time := 0, key := 0, entry := 0, egen := 0, sel := 0, inst := 0, coefs := [], copy := none }, ended := none },
     _, 0,
     { path := 0, set_ := 0, gen := 0, buf := 0, size := 0, start := 0, last := 0, yAt := 0, rem := 0, time := 0, key := 0, entry := 0, egen := 0, sel := 0, inst := 0, coefs := [], copy := none },
     by decide, by decide, by decide, by decide, (by intro c; cases c <;> decide), rfl⟩,
   ⟨State.reset |>.setOrx 0
     { ended := some ({ path := 0, set_ := 0, gen := 0, buf := 0, size := 0, start := 0, last := 0, yAt := 0, rem := 0, time := 0, key := 0, entry := 0, egen := 0, sel := 0, inst := 0, coefs := [], copy := none }, { exp := 0, nmse := 0, gain := 0, delay := 0, p := [], r := [] }) },
     _, _, _, 0,
     { path := 0, set_ := 0, gen := 0, buf := 0, size := 0, start := 0, last := 0, yAt := 0, rem := 0, time := 0, key := 0, entry := 0, egen := 0, sel := 0, inst := 0, coefs := [], copy := none },
     { exp := 0, nmse := 0, gain := 0, delay := 0, p := [], r := [] }, by decide, by decide, rfl, rfl, rfl⟩,
   ⟨State.reset, 0, 0, by decide⟩,
   ⟨State.reset, 0, 0, by decide⟩,
   ⟨State.reset, by decide, by decide⟩⟩

/-- Witnesses for MirrorCommandsComplete, clause by clause. -/
theorem witness_MirrorCommandsComplete :
    (∃ (s u : State) (w : Word), s.reach (regAddr .MIR_CFG) ∧ bit w.toNat 31 ∧ s.on F.MIR_CFG_EN = false ∧ s.applyFields
      (descOf .MIR_CFG).flds (fun lo => lo == 31) 0 0 0 w.toNat (fun c => s.ownerOf .MIR_CFG 0 0 c) (fun c => s.enabled
      (s.ownerOf .MIR_CFG 0 0 c)) = (u, false) ∧ s.tlOn s.mirTl ∧ s.mirClash = false) ∧
    (∃ (s u : State) (w : Word), s.reach (regAddr .MIR_ROUND) ∧ u = s.writeReg .MIR_ROUND (w.toNat ||| 2 ^ 31)) ∧
    (∃ (s u : State), s.awake ∧ s.on F.MIR_CFG_EN ∧ s.tlOn s.mirTl ∧ s.isFrame s.mirTl s.now ∧ s.prismOn ∧ s.mir.trigger ∧
      s.on F.MIR_ROUND_BUSY = false ∧ u = s.commitShadow .mir 4) ∧
    (∃ (s : State) (e : Nat), s.awake ∧ s.mir.plan.find? (fun p => p.2 == s.now + 2048) = some (e, s.now + 2048) ∧
      s.mirRuns ∧ s.mir.probe = none ∧ s.eligible e ∧ s.isAir s.mirTl (s.now + 2048) ∧ s.guardSym s.mirTl (s.now + 2048) ∧
      (s.orxR (e / 8)).cap = none) ∧
    (∃ (s u : State) (p : Probe) (lost : List Nat), s.awake ∧ s.mir.probe = some p ∧ p.closed = false ∧ p.air + p.reps *
      1024 ≤ s.now ∧ p.zs = false ∧ p.clips ≤ 16 ∧ s.on F.ORX_CTRL_EN (p.el / 8) ∧ lost = p.rcv.filter (fun j =>
      p.lost.contains j) ∧ u =
      { (s.bumpBy F.MIR_COUNT1_LOST lost.length) with mir := { s.mir with probe := some { p with closed := true, lost := lost, acc := [], vals := ((p.rcv ++ [64]).filter (fun j => !lost.contains j)).map (s.mirValue p) } } }) ∧
    (∃ (s u : State) (p : Probe), s.awake ∧ s.mir.probe = some p ∧ p.closed ∧ p.lost.contains 64 = false ∧ ((!p.rcv.isEmpty
      && p.rcv.all p.lost.contains) = false) ∧ u = p.vals.foldl (fun t v => t.mirRecord p v) s) ∧
    (∃ (s u : State), s.awake ∧ s.mirRuns ∧ s.tlOn s.mirTl ∧ s.mir.probe = none ∧ s.probeOrder 0 = [] ∧ ((List.range
      64).all (fun e => !s.eligible e || s.mir.done.contains e)) ∧ u = (s.mirHeader false false).mirOver false) ∧
    (∃ (s u : State) (w : Word), s.reach (regAddr .MIR_SOLVE) ∧ s.mir.ended = some (bits (w.toNat ||| 2 ^ 31) 0 16) ∧
      s.mir.aborted = false ∧ s.mir.spoiled = false ∧ s.on F.MIR_SOLVE_PENDING = false ∧ bit (w.toNat ||| 2 ^ 31) 30 ∧
      s.mir.endedBase = false ∧ u = s.writeReg .MIR_SOLVE (w.toNat ||| 2 ^ 31)) ∧
    (∃ (s u : State), s.awake ∧ s.mir.waiting ∧ s.on F.PRISM_CORR_COMMIT_ARMED = false ∧ s.absent 16 = false ∧ u =
      (s.putCorr s.mir.result).armCommit ∧ u.on F.PRISM_CORR_COMMIT_ARMED) :=
  ⟨⟨State.reset |>.setF F.MIR_CFG_EN 0 |>.setF F.SYS_TL_CFG_EN 1 0, _, 0x80000000, by decide, by decide, by decide,
     (Prod.ext rfl (by decide)), by decide, by decide⟩,
   ⟨State.reset, _, 0, by decide, rfl⟩,
   ⟨({ State.reset with mir := { trigger := true } } : State) |>.setF F.MIR_CFG_EN 1 |>.setF F.SYS_TL_CFG_EN 1 0 |>.setF
     F.PRISM_CFG_EN 1 |>.setF F.MIR_ROUND_BUSY 0, _, by decide, by decide, by decide, by decide, by decide, by decide, by
     decide, rfl⟩,
   ⟨({ State.reset with mir := { probe := none, plan := [(0, 4915200)] }, time := 4913152 } : State) |>.setF
     F.SYS_TL_CFG_EN 1 0 |>.setF F.PRISM_CAR_CEN 1 0 0 |>.setF F.MIR_GEOM_PRESENT 1 0 |>.setF F.MIR_GEOM_PRESENT 1 4
     |>.setF F.MIR_GEOM_X 1 4 |>.setF F.TXP_CTRL_EN 1 0 |>.setF F.TXP_DUC_CEN 1 0 0 |>.setF F.RXP_CTRL_EN 1 4 |>.setF
     F.DPD_CFG_MIR_SHARE 1 |>.setF F.RFC_LOS_STATUS_LOCKED 1 0 |>.setF F.FLW_STATUS_STATE 2 0 |>.setF F.MIR_ROUND_BUSY 1
     |>.setF F.PRISM_CFG_EN 1 |>.setOrx (0 / 8) { cap := none } |>.setTxp 0 { tagged := true }, 0, by decide, by decide, by
     decide, by decide, by decide, by decide, by decide, by decide⟩,
   ⟨({ State.reset with mir := { probe := some { el := 0, air := 0, reps := 0, rcv := [] } } } : State) |>.setF
     F.ORX_CTRL_EN 1 0, _, { el := 0, air := 0, reps := 0, rcv := [] }, _, by decide, by decide, by decide, by decide, by
     decide, by decide, by decide, rfl, rfl⟩,
   ⟨{ State.reset with mir := { probe := some { el := 0, air := 0, reps := 0, rcv := [1], closed := true } } }, _,
     { el := 0, air := 0, reps := 0, rcv := [1], closed := true }, by decide, by decide, by decide, by decide, by decide,
     rfl⟩,
   ⟨({ State.reset with mir := { probe := none } } : State) |>.setF F.SYS_TL_CFG_EN 1 0 |>.setF F.MIR_ROUND_BUSY 1 |>.setF
     F.PRISM_CFG_EN 1 |>.setF F.SYS_TL_CFG_EN 1 0, _, by decide, by decide, by decide, by decide, by decide, by decide,
     rfl⟩,
   ⟨({ State.reset with mir := { ended := some 0, aborted := false, spoiled := false, endedBase := false } } : State)
     |>.setF F.MIR_SOLVE_PENDING 0, _, 0x40000000, by decide, by decide, by decide, by decide, by decide, by decide, by
     decide, rfl⟩,
   ⟨({ State.reset with mir := { waiting := true } } : State) |>.setF F.PRISM_CORR_COMMIT_ARMED 0 |>.setF F.PRISM_CFG_EN 1,
     _, by decide, by decide, by decide, by decide, rfl, by decide⟩⟩

/-- Witnesses for FlowRequestsComplete, clause by clause. -/
theorem witness_FlowRequestsComplete :
    (∃ (s u : State) (f : Fin 512) (w : Word), s.reach (regAddr .FLW_CTRL f) ∧ u = s.writeReg .FLW_CTRL (2 ^ 30 + w.toNat %
      2 ^ 30) f ∧ (u.fState f = 0 ∨ u.fState f = 3)) ∧
    (∃ (s u v t : State) (f : Fin 512) (w : Word), s.reach (regAddr .FLW_CTRL f) ∧ u = s.writeReg .FLW_CTRL (2 * 2 ^ 30 +
      w.toNat % 2 ^ 30) f ∧ (u.fState f = 2 ∨ u.fState f = 3) ∧ v = (((u.cancelMove f).reqRec f 7).abandonAll f).layerStop
      f ∧ t = ((v.setFlow f { v.flow f with running := false, start := none, owed := false }).setF F.FLW_STATUS_STATE 4
      f).setF F.FLW_STATUS_CAUSE 0 f) ∧
    (∃ (s u : State) (f : Fin 512) (w : Word), s.reach (regAddr .FLW_CTRL f) ∧ u = s.writeReg .FLW_CTRL (3 * 2 ^ 30 +
      w.toNat % 2 ^ 30) f ∧ u.fState f = 2) ∧
    (∃ (s u : State) (f : Fin 512), s.awake ∧ s.fState f = 4 ∧ (s.flow f).inflight = [] ∧ u = (s.abandonRec
      f).dropResources f) ∧
    (∃ (s : State) (f : Fin 512) (a : Nat), s.awake ∧ (s.flow f).start = some a ∧ s.fState f = 2 ∧ (s.flow f).running =
      false ∧ s.flowBoundary f a ≤ s.now ∧ s.isIq f) ∧
    (∃ (s : State) (f : Fin 512) (a : Nat) (p : Place) (m : Move), s.awake ∧ (s.flow f).move = some m ∧ m.at_ = some a ∧ a
      ≤ s.now ∧ m.to_ = p) ∧
    (∃ (s : State) (f : Fin 512) (d : Nat) (ds : List Nat), s.awake ∧ (s.flow f).lates = d :: ds) ∧
    (∃ (s : State) (b : Fin 2) (k : Fin 4) (x : Fin 70) (w : Word), s.reach (regAddr .PLC_PATTERN b k x) ∧ (s.plcOn = false
      ∨ bits (s.f F.PLC_PAT_SEL_BANK) k 1 ≠ b)) :=
  ⟨⟨State.reset, _, 0, 0, by decide, rfl, by decide⟩,
   ⟨State.reset |>.setF F.FLW_STATUS_STATE 2 0, _, _, _, 0, 0, by decide, rfl, by decide, rfl, rfl⟩,
   ⟨State.reset |>.setF F.FLW_STATUS_STATE 2 0 |>.setF F.FLW_STATUS_STATE 2 0, _, 0, 0, by decide, rfl, by decide⟩,
   ⟨State.reset |>.setF F.FLW_STATUS_STATE 4 0 |>.setFlow 0 { inflight := [] }, _, 0, by decide, by decide, by decide, rfl⟩,
   ⟨State.reset |>.setF F.FLW_STATUS_STATE 2 0 |>.setF F.FLW_STATUS_STATE 2 0 |>.setFlow 0
     { start := some 0, running := false }, 0, 0, by decide, by decide, by decide, by decide, by decide, by decide⟩,
   ⟨State.reset |>.setFlow 0 { move := some { to_ := {}, reason := 0, at_ := some 0 } }, 0, 0, {},
     { to_ := {}, reason := 0, at_ := some 0 }, by decide, by decide, by decide, by decide, by decide⟩,
   ⟨State.reset |>.setFlow 0 { lates := 0 :: ([]) }, 0, 0, [], by decide, by decide⟩,
   ⟨State.reset, 0, 0, 0, 0, by decide, by decide⟩⟩

/-- Witnesses for PlacementCommandsComplete, clause by clause. -/
theorem witness_PlacementCommandsComplete :
    (∃ (s : State) (w : Word), s.reach (regAddr .PLC_EPOCH) ∧ s.plcOn ∧ s.on F.PLC_EPOCH_BUSY = false) ∧
    (∃ (s : State) (w : Word), s.reach (regAddr .PLC_EPOCH) ∧ s.plcOn ∧ s.on F.PLC_EPOCH_BUSY) ∧
    (∃ (s u v : State), s.awake ∧ s.plc.walk = .begun false ∧ u = State.shedAll true 513 ((s.byClass (s.flowsIn 2)).foldl
      (State.checkOne true) s) ∧ v = (List.range 8).foldl (State.shortfall true) ((u.flowsIn 1).foldl (State.admitOne true)
      u)) ∧
    (∃ (s t u v r m : State), s.awake ∧ s.plc.walk = .idle ∧ s.plcOn ∧ s.tlOn (s.f F.PLC_CFG_TL) ∧ s.isFrame (s.f
      F.PLC_CFG_TL) s.now ∧ t = (s.commitShadow .plc 4).setF F.PLC_EPOCH_BUSY 1 ∧ (s.commitShadow .plc 4).on
      F.PLC_EPOCH_BUSY = false ∧ u = State.shedAll false 513 ((t.byClass (t.flowsIn 2)).foldl (State.checkOne false) t) ∧ v
      = (u.flowsIn 1).foldl (State.admitOne false) u ∧ r = ((v.byClass (v.flowsIn 3)).filter (fun f => v.f
      F.FLW_STATUS_CAUSE f != 3)).foldl State.resumeOne v ∧ m = State.rebalance (r.f F.PLC_CFG_MAX_MOVES) r) ∧
    (∃ (s t u v : State) (fr : Bool), s.awake ∧ s.plc.walk = .decided fr ∧ t = (s.flowsIn 2).foldl State.setStart
      ((s.flowsIn 2).foldl State.setEffective s) ∧ u = t.plc.recs.foldl State.writeRecNow t ∧ v = (State.showLoads
      { u with plc := { u.plc with recs := [], walk := .idle } }).replan fr ∧ v.on F.PLC_EPOCH_RERUN = false) :=
  ⟨⟨State.reset |>.setF F.PLC_CFG_EN 1 |>.setF F.PLC_EPOCH_BUSY 0, 0, by decide, by decide, by decide⟩,
   ⟨State.reset |>.setF F.PLC_CFG_EN 1 |>.setF F.PLC_EPOCH_BUSY 1, 0, by decide, by decide, by decide⟩,
   ⟨{ State.reset with plc := { walk := .begun false } }, _, _, by decide, by decide, rfl, rfl⟩,
   ⟨({ State.reset with plc := { walk := .idle } } : State) |>.setF F.PLC_CFG_EN 1 |>.setF F.SYS_TL_CFG_EN 1 0, _, _, _, _,
     _, by decide, by decide, by decide, by decide, by decide, rfl, by decide, rfl, rfl, rfl, rfl⟩,
   ⟨{ State.reset with plc := { walk := .decided false } }, _, _, _, false, by decide, by decide, rfl, rfl, rfl, by decide⟩⟩

/-- Witnesses for LinkReceptionCompletes, clause by clause. -/
theorem witness_LinkReceptionCompletes :
    (∃ (s u : State) (l : Fin 16) (age : Nat) (ws : List Word) (f : Nat), s.awake ∧ inKind ws = .iq ∧ s.passes l ws ∧ u =
      s.seqSeen (l / 4) .iq ws ∧ u.linkFlow (l / 4) 0 (pktId .iq ws) = some f ∧ u.carries f (u.airOf (u.fTl f) (u.namedSym
      f (bits (ew ws 1) 22 10) (bits (ew ws 1) 11 11))) ∧ u.wrongPort f (l / 4) (u.airOf (u.fTl f) (u.namedSym f (bits (ew
      ws 1) 22 10) (bits (ew ws 1) 11 11))) = false ∧ u.winOpen f (u.namedSym f (bits (ew ws 1) 22 10) (bits (ew ws 1) 11
      11)) * 65536 ≤ u.firstByte (l / 4) age * 4 ∧ u.now ≤ u.winClose f (u.namedSym f (bits (ew ws 1) 22 10) (bits (ew ws
      1) 11 11)) ∧ u.bpHeld 1 f = false) ∧
    (∃ (s u : State) (l : Fin 16) (age : Nat) (ws : List Word) (f : Nat), s.awake ∧ inKind ws = .rtc ∧ s.passes l ws ∧ u =
      s.seqSeen (l / 4) .rtc ws ∧ u.linkFlow (l / 4) 2 (pktId .rtc ws) = some f ∧ u.carries f (u.airOf (u.fTl f)
      (u.namedSym f (bits (ew ws 2) 22 10) (bits (ew ws 2) 11 11))) ∧ u.wrongPort f (l / 4) (u.airOf (u.fTl f) (u.namedSym
      f (bits (ew ws 2) 22 10) (bits (ew ws 2) 11 11))) = false) ∧
    (∃ (s u : State) (l : Fin 16) (age : Nat) (ws : List Word) (f : Nat), s.awake ∧ inKind ws = .beamWrite ∧ s.passes l ws
      ∧ u = s.seqSeen (l / 4) .beamWrite ws ∧ u.linkFlow (l / 4) 2 (pktId .beamWrite ws) = some f ∧ u.carries f u.now ∧
      u.wrongPort f (l / 4) u.now = false ∧ (ws.drop 4).dropLast.flatMap netBytes ≠ [] ∧ u.permitted (.link (Fin.ofNat 4 (l
      / 4))) .write (nw ws 0) ((ws.drop 4).dropLast.flatMap netBytes).length ∧ u.absent 16 = false) ∧
    (∃ (s u v : State) (l : Fin 16) (age : Nat) (ws : List Word) (f h : Nat), s.awake ∧ inKind ws = .mgmtReq ∧ s.passes l
      ws ∧ u = s.seqSeen (l / 4) .mgmtReq ws ∧ u.linkFlow (l / 4) 3 (pktId .mgmtReq ws) = some f ∧ u.carries f u.now ∧
      u.wrongPort f (l / 4) u.now = false ∧ h = u.f F.LNK_MGMT_RING_HEAD (l / 4) ∧ (h + 1) % 16 ≠ u.f F.LNK_MGMT_RING_TAIL
      (l / 4) ∧ v = (u.messageIn f).writeWords (0x20000000 + u.f F.LNK_MGMT_RING_BASE (l / 4) / 16384 * 16384 + h * 512)
      ((ws.drop 3).dropLast.map (·.toNat))) ∧
    (∃ (s u : State) (l : Fin 16) (age : Nat) (ws : List Word), s.awake ∧ inKind ws = .timeSync ∧ s.passes l ws ∧ u =
      s.seqSeen (l / 4) .timeSync ws ∧ u.f F.LNK_CFG_TIME_ROLE (l / 4) = 2 ∧ l.val % 4 = u.lowLane (l / 4)) ∧
    (∃ (s u : State) (l : Fin 16) (age : Nat) (ws : List Word), s.awake ∧ inKind ws = .delayReq ∧ s.passes l ws ∧ u =
      s.seqSeen (l / 4) .delayReq ws) ∧
    (∃ (s u : State) (l : Fin 16) (age : Nat) (ws : List Word), s.awake ∧ inKind ws = .remoteReq ∧ s.passes l ws ∧ u =
      s.seqSeen (l / 4) .remoteReq ws ∧ u.portOpen (l / 4)) ∧
    (∃ (s u : State) (l : Fin 16) (age : Nat) (ws : List Word) (t3 : Nat) (t1 t2 : Int), s.awake ∧ inKind ws = .delayRsp ∧
      s.passes l ws ∧ u = s.seqSeen (l / 4) .delayRsp ws ∧ (u.port (l / 4)).dep = some t3 ∧ (u.port (l / 4)).sync = some
      (t1, t2) ∧ bits (ew ws 0) 24 8 = u.f F.LNK_DM_CTRL_MEAS_ID (l / 4) ∧ (u.elapsed - (u.port (l / 4)).depAt) * 25 ≤ us25
      100 ∧ u.f F.LNK_CFG_TIME_ROLE (l / 4) = 2 ∧ l.val % 4 = u.lowLane (l / 4)) ∧
    (∃ (s : State) (l : Fin 16) (age : Nat) (ws : List Word), s.awake ∧ inKind ws = .unsupported ∧ s.on F.LNK_CFG_EN (l /
      4) ∧ s.ready? l ∧ 3 ≤ ws.length ∧ lengthOk ws ∧ pw ws (ws.length - 1) = lineCrc ws.dropLast) :=
  ⟨⟨({ State.reset with time := 49172700 } : State) |>.setF F.LNK_CFG_EN 1 0 |>.setF F.LANE_STATE_READY 1 0 0 |>.setF
     F.FLW_STATUS_STATE 2 0 |>.setF F.SYS_TL_CFG_MU 3 0 |>.setF F.PRISM_CAR_RATE 2 0 0 |>.setFlow 0 { start := some 0 }, _,
     0, 0, ([0x40000000, 0x100000B8, 0x80, 0x2802980, 0x4000048] ++ List.replicate 43 0 ++ [0xBE14DA28]), 0, by decide, by
     decide, by decide, rfl, by decide, by decide, by decide, by decide, by decide, by decide⟩,
   ⟨State.reset |>.setF F.LNK_CFG_EN 1 0 |>.setF F.LANE_STATE_READY 1 0 0 |>.setF F.FLW_STATUS_STATE 2 0 |>.setF
     F.FLW_CTRL_TYPE 2 0 |>.setFlow 0 { start := some 0 }, _, 0, 0, [0x40000000, 0x10020010, 0x80, 0x1000000, 0, 0,
     0x3DF16D44], 0, by decide, by decide, by decide, rfl, by decide, by decide, by decide⟩,
   ⟨State.reset |>.setF F.LNK_CFG_EN 1 0 |>.setF F.LANE_STATE_READY 1 0 0 |>.setF F.FLW_STATUS_STATE 2 0 |>.setF
     F.FLW_CTRL_TYPE 2 0 |>.setF F.FAB_FW_BASE_EN 1 19 0 |>.setF F.FAB_FW_BASE_R 1 19 0 |>.setF F.FAB_FW_BASE_W 1 19 0
     |>.setF F.FAB_FW_LIMIT_LIMIT 0xFFFFF 19 0 |>.setFlow 0 { start := some 0 }, _, 0, 0, [0x50000000, 0x6000008, 0,
     0x24000000, 0, 0xAE45469B], 0, by decide, by decide, by decide, rfl, by decide, by decide, by decide, by decide, by
     decide, by decide⟩,
   ⟨State.reset |>.setF F.LNK_CFG_EN 1 0 |>.setF F.LANE_STATE_READY 1 0 0 |>.setF F.FLW_STATUS_STATE 2 0 |>.setF
     F.FLW_CTRL_TYPE 3 0 |>.setFlow 0 { start := some 0 }, _, _, 0, 0, [0x50000000, 0x4000008, 0, 0, 0, 0x54D90F54], 0, _,
     by decide, by decide, by decide, rfl, by decide, by decide, by decide, rfl, by decide, rfl⟩,
   ⟨State.reset |>.setF F.LNK_CFG_EN 1 0 |>.setF F.LANE_STATE_READY 1 0 0 |>.setF F.LNK_CFG_TIME_ROLE 2 0, _, 0, 0,
     [0x50000000, 0x1000010, 0, 0, 0, 0, 0, 0x3C9196B2], by decide, by decide, by decide, rfl, by decide, rfl⟩,
   ⟨State.reset |>.setF F.LNK_CFG_EN 1 0 |>.setF F.LANE_STATE_READY 1 0 0, _, 0, 0, [0x40000000, 0x10050014, 0, 0, 0, 0, 0,
     0x50561284], by decide, by decide, by decide, rfl⟩,
   ⟨State.reset |>.setF F.LNK_CFG_EN 1 0 |>.setF F.LANE_STATE_READY 1 0 0, _, 0, 0, [0x40000000, 0x10050014, 0x30000, 0, 0,
     0, 0, 0xF300942D], by decide, by decide, by decide, rfl, by decide⟩,
   ⟨State.reset |>.setF F.LNK_CFG_EN 1 0 |>.setF F.LANE_STATE_READY 1 0 0 |>.setF F.LNK_CFG_TIME_ROLE 2 0 |>.setPort 0
     { dep := some 0, sync := some (0, 0) }, _, 0, 0, [0x40000000, 0x10050014, 0x20000, 0, 0, 0, 0, 0x24E21475], 0, 0, 0,
     by decide, by decide, by decide, rfl, by decide, by decide, rfl, by decide, by decide, rfl⟩,
   ⟨State.reset |>.setF F.LNK_CFG_EN 1 (0 / 4) |>.setF F.LNK_CFG_EN 1 0 |>.setF F.LANE_STATE_READY 1 0 0, 0, 0, [0, 4, 0,
     0x8E5560AF], by decide, by decide, by decide, by decide, by decide, by decide, by decide⟩⟩

/-- Witnesses for LinkTransmissionCompletes, clause by clause. -/
theorem witness_LinkTransmissionCompletes :
    (∃ (s : State) (l : Fin 16) (x : Nat) (m : OutPkt), s.awake ∧ s.portOpen (l / 4) ∧ s.ready? l ∧ s.txLpi l = false ∧
      (s.lane l).cur = none ∧ (s.lane l).wake = none ∧ s.pick l = some x ∧ (s.port (l / 4)).outq[x]? = some m ∧ s.bpHeld 0
      (l / 4) = false) ∧
    (∃ (s u v : State) (f : Fin 512) (idx n l : Nat) (q : List (Nat × Nat)) (xs : List (Int × Int)), s.awake ∧ (s.flow
      f).rxIn = (idx, n) :: q ∧ s.rxMay f idx n (s.flow f).rxPkt ∧ s.deal f (s.airOf (s.fTl f) idx) = (some l, u) ∧ (s.flow
      f).rxPkt + 1 < packetsOf (s.symSamples f idx) ∧ xs = (List.range (min 1024 (s.symSamples f idx - 1024 * (s.flow
      f).rxPkt))).map (fun y => s.sampleAt (s.bufAddr f idx (1024 * (s.flow f).rxPkt + y))) ∧ v = u.enqueue (l / 4)
      { kind := .iq, id := s.f F.FLW_CTRL_LINK_ID f, flow := some f.val, idx := idx, air := s.airOf (s.fTl f) idx, lane := some l, parts := packetsOf (s.symSamples f idx), dead := (s.flow f).rxBad, body := iqBody (s.idxFrame (s.fTl f) idx) (s.idxSym (s.fTl f) idx) (s.f F.FLW_CTRL_MANT f) (1024 * (s.flow f).rxPkt) (s.timeLo (l / 4) (s.airOf (s.fTl f) idx + 1024 * (s.flow f).rxPkt * s.fRatio f)) false xs }) ∧
    (∃ (s u : State) (p : Fin 4) (w : Word) (f : Nat), s.reach (regAddr .LNK_CAP_POST p) ∧ u = s.writeReg .LNK_CAP_POST
      (w.toNat ||| 2 ^ 31) p ∧ u.f F.LNK_CAP_POST_FID p = f ∧ u.fState f = 2 ∧ u.fType f = 4 ∧ u.carries f u.now ∧ (u.flow
      f).capBusy = false ∧ u.flowLanes f u.now ≠ []) ∧
    (∃ (s u : State) (p : Fin 4) (w : Word), s.reach (regAddr .LNK_MGMT_POST p) ∧ u = s.writeReg .LNK_MGMT_POST (w.toNat
      ||| 2 ^ 31) p ∧ u.on F.LNK_MGMT_POST_BUSY p = false ∧ u.portOpen p) ∧
    (∃ (s : State) (p : Fin 4) (w : Word), s.reach (regAddr .LNK_DM_CTRL p) ∧ s.portOpen p) ∧
    (∃ (s : State) (p : Fin 4), s.awake ∧ s.portOpen p ∧ s.f F.LNK_CFG_TIME_ROLE p = 1 ∧ (s.port p).syncAt + s.f
      F.LNK_CFG_SYNC_INT p * msTicks ≤ s.elapsed) ∧
    (∃ (s u v w : State) (f : Fin 512) (m : Move) (e : Nat), s.awake ∧ (s.flow f).move = some m ∧ m.at_ = some e ∧ m.sent <
      3 ∧ m.due ≤ s.elapsed ∧ u = s.setFlow f
      { s.flow f with move := some { m with sent := m.sent + 1, due := s.elapsed + usTicks 10 } } ∧ v = (if u.portOpen
      (s.place f).port then u.enqueue (s.place f).port { kind := .notice, body := u.noticeBody f m e } else u) ∧ w = (if
      v.portOpen m.to_.port then v.enqueue m.to_.port { kind := .notice, body := v.noticeBody f m e } else v)) ∧
    (∃ (s : State) (p : Fin 4) (t3 : Nat), s.awake ∧ (s.port p).dep = some t3 ∧ us25 100 < (s.elapsed - (s.port p).depAt) *
      25) ∧
    (∃ (s : State) (p : Fin 4), s.power.st ≠ .dusk ∧ s.power.st ≠ .dark ∧ s.power.entry < 2 ∧ (s.port p).evTimer ∧ (s.port
      p).evStart ≤ s.el25 ∧ s.on F.EVC_CTRL_GDIS = false) :=
  ⟨⟨State.reset |>.setF F.LNK_CFG_EN 1 0 |>.setF F.LANE_STATE_READY 1 0 0 |>.setLane 0 { cur := none, wake := none }
     |>.setPort 0 { outq := [{ kind := .mgmt }] }, 0, 0, { kind := .mgmt }, by decide, by decide, by decide, by decide, by
     decide, by decide, by decide, by decide, by decide⟩,
   ⟨State.reset |>.setF F.LNK_CFG_EN 1 0 |>.setF F.LANE_STATE_READY 1 0 0 |>.setF F.FLW_STATUS_STATE 2 0 |>.setF
     F.FLW_CTRL_TYPE 1 0 |>.setF F.FLW_PLACE_LANES 1 0 |>.setF F.SYS_TL_CFG_MU 3 0 |>.setFlow 0 { rxIn := [(0, 2192)] }, _,
     _, 0, 0, 2192, _, [], _, by decide, by decide, by decide, rfl, by decide, rfl, rfl⟩,
   ⟨State.reset |>.setF F.FLW_STATUS_STATE 2 0 |>.setF F.LNK_CFG_EN 1 0 |>.setF F.LANE_STATE_READY 1 0 0 |>.setF
     F.FLW_STATUS_STATE 2 0 |>.setF F.FLW_CTRL_TYPE 4 0 |>.setF F.FLW_PLACE_LANES 1 0 |>.setFlow 0 { start := some 0 }, _,
     0, 0, 0, by decide, rfl, by decide, by decide, by decide, by decide, by decide, by decide⟩,
   ⟨State.reset |>.setF F.LNK_CFG_EN 1 0 |>.setF F.LANE_STATE_READY 1 0 0, _, 0, 0, by decide, rfl, by decide, by decide⟩,
   ⟨State.reset |>.setF F.LNK_CFG_EN 1 0 |>.setF F.LANE_STATE_READY 1 0 0, 0, 0, by decide, by decide⟩,
   ⟨({ State.reset with elapsed := 4915200000 } : State) |>.setF F.LNK_CFG_EN 1 0 |>.setF F.LANE_STATE_READY 1 0 0 |>.setF
     F.LNK_CFG_TIME_ROLE 1 0, 0, by decide, by decide, by decide, by decide⟩,
   ⟨State.reset |>.setF F.LNK_CFG_EN 1 0 |>.setF F.LANE_STATE_READY 1 0 0 |>.setFlow 0
     { move := some { to_ := {}, reason := 0, at_ := some 0, sent := 0 } }, _, _, _, 0,
     { to_ := {}, reason := 0, at_ := some 0, sent := 0 }, 0, by decide, by decide, by decide, by decide, by decide, rfl,
     rfl, rfl⟩,
   ⟨({ State.reset with elapsed := 1000000 } : State) |>.setPort 0 { dep := some 0 }, 0, 0, by decide, by decide, by
     decide⟩,
   ⟨State.reset |>.setF F.EVC_CTRL_GDIS 0 |>.setPort 0 { evTimer := true }, 0, by decide, by decide, by decide, by decide,
     by decide, by decide⟩⟩

/-- Witnesses for LaneBringUpCompletes, clause by clause. -/
theorem witness_LaneBringUpCompletes :
    (∃ (s u : State) (p : Fin 4) (w : Word), s.reach (regAddr .LNK_CFG p) ∧ u = s.writeReg .LNK_CFG (w.toNat ||| 2 ^ 31) p
      ∧ s.on F.LNK_CFG_EN p = false ∧ u.on F.LNK_CFG_EN p) ∧
    (∃ (s u : State) (p : Fin 4) (w : Word), s.reach (regAddr .LNK_CFG p) ∧ u = s.writeReg .LNK_CFG (w.toNat % 2 ^ 31) p ∧
      s.on F.LNK_CFG_EN p ∧ u.on F.LNK_CFG_EN p = false) ∧
    (∃ (s : State) (l : Fin 16), s.awake ∧ s.inRx l 1) ∧
    (∃ (s : State) (l : Fin 16), s.awake ∧ s.inRx l 2) ∧
    (∃ (s : State) (l : Fin 16), s.awake ∧ s.inRx l 3) ∧
    (∃ (s : State) (l : Fin 16) (inv : Bool), s.awake ∧ s.inRx l 4) ∧
    (∃ (s : State) (l : Fin 16) (x : Fin 4096) (v y : Nat), s.awake ∧ (s.lane l).stage = 6 ∧ s.overLimit 6 (s.lane l).at_ =
      false ∧ v = (if s.otherDeskew l then x.val else 0) ∧ (s.lane l).skew = some y ∧ v ≤ y + 1 ∧ y ≤ v + 1 ∧ max v y ≤
      s.skewLimit (l / 4)) ∧
    (∃ (s : State) (l : Fin 16) (k x y : Fin 4), s.awake ∧ s.inRx l 5) ∧
    (∃ (s : State) (l : Fin 16), s.awake ∧ s.inStage l 7) ∧
    (∃ (s : State) (l : Fin 16), s.awake ∧ 6 ≤ (s.lane l).stage ∧ (s.lane l).stage ≤ 8 ∧ s.overLimit (s.lane l).stage
      (s.lane l).at_) ∧
    (∃ (s : State) (l : Fin 16) (t : Nat), s.awake ∧ (s.lane l).hold = some t ∧ t ≤ s.el25) ∧
    (∃ (s u : State) (l : Fin 16), s.awake ∧ s.inStage l 8 ∧ s.readySent l ∧ u = ((s.setLane l
      { s.lane l with stage := 9, at_ := s.elapsed, errs := [], skpAt := s.lineNow l, fails := 0, failRec := false, idle := s.elapsed }).showStage
      l).setReady l true ∧ ((u.port (l / 4)).evDue = false ∨ u.on F.EVC_CTRL_GDIS)) ∧
    (∃ (s : State) (l : Fin 16) (c : DownCause), s.awake ∧ s.rxLpi l = false ∧ s.ready? l ∧ s.causeHolds l c) ∧
    (∃ (s : State) (l : Fin 16) (w : Word), s.reach (regAddr .LANE_CTRL (l / 4) (l % 4))) ∧
    (∃ (s : State) (l : Fin 16) (j : Fin 9) (w : Word), s.reach (regAddr .LANE_DFE_TAP (l / 4) (l % 4) j) ∧ s.on
      F.LANE_CTRL_DFE_FRZ (l / 4) (l % 4)) ∧
    (∃ (s : State) (l : Fin 16), s.awake ∧ s.on F.LNK_CFG_EN (l / 4) ∧ l % 4 < s.width (l / 4)) :=
  ⟨⟨State.reset |>.setF F.LNK_CFG_EN 0 0, _, 0, 0, by decide, rfl, by decide, by decide⟩,
   ⟨State.reset |>.setF F.LNK_CFG_EN 1 0, _, 0, 0, by decide, rfl, by decide, by decide⟩,
   ⟨State.reset |>.setLane 0 { rxStage := 1 }, 0, by decide, by decide⟩,
   ⟨State.reset |>.setLane 0 { rxStage := 2 }, 0, by decide, by decide⟩,
   ⟨State.reset |>.setLane 0 { rxStage := 3 }, 0, by decide, by decide⟩,
   ⟨State.reset |>.setLane 0 { rxStage := 4 }, 0, false, by decide, by decide⟩,
   ⟨State.reset |>.setLane 0 { stage := 6, skew := some 1 }, 0, 0, _, 1, by decide, by decide, by decide, rfl, by decide,
     by decide, by decide, by decide⟩,
   ⟨State.reset |>.setLane 0 { rxStage := 5 }, 0, 0, 0, 0, by decide, by decide⟩,
   ⟨State.reset |>.setLane 0 { stage := 7 }, 0, by decide, by decide⟩,
   ⟨({ State.reset with elapsed := 4915200000 } : State) |>.setLane 0 { stage := 6 }, 0, by decide, by decide, by decide,
     by decide⟩,
   ⟨State.reset |>.setLane 0 { hold := some 0 }, 0, 0, by decide, by decide, by decide⟩,
   ⟨({ State.reset with elapsed := 40 } : State) |>.setLane 0 { stage := 8 }, _, 0, by decide, by decide, by decide, rfl,
     (by decide)⟩,
   ⟨State.reset |>.setF F.LNK_CFG_EN 1 0 |>.setF F.LANE_STATE_READY 1 0 0, 0, .signal, by decide, by decide, by decide, by
     decide⟩,
   ⟨State.reset, 0, 0, by decide⟩,
   ⟨State.reset |>.setF F.LANE_CTRL_DFE_FRZ 1 (0 / 4) (0 % 4), 0, 0, 0, by decide, by decide⟩,
   ⟨State.reset |>.setF F.LNK_CFG_EN 1 (0 / 4), 0, by decide, by decide, by decide⟩⟩

/-- Witnesses for LaneTestAndIdleCommandsComplete, clause by clause. -/
theorem witness_LaneTestAndIdleCommandsComplete :
    (∃ (s u : State) (l : Fin 16) (w : Word), s.reach (regAddr .LANE_PRBS_CTRL (l / 4) (l % 4)) ∧ s.on F.LNK_CFG_EN (l / 4)
      = false ∧ u = s.writeReg .LANE_PRBS_CTRL w.toNat (l / 4) (l % 4) ∧ s.on F.LANE_PRBS_CTRL_CHK (l / 4) (l % 4) = false
      ∧ u.on F.LANE_PRBS_CTRL_CHK (l / 4) (l % 4) ∧ s.stageOf l ≠ 10) ∧
    (∃ (s : State) (l : Fin 16), s.awake ∧ s.stageOf l = 10 ∧ s.on F.LANE_PRBS_CTRL_CHK (l / 4) (l % 4)) ∧
    (∃ (s : State) (l : Fin 16), s.awake ∧ s.on F.LANE_PRBS_CTRL_LOCK (l / 4) (l % 4) ∧ s.prbsLost l) ∧
    (∃ (s u : State) (l : Fin 16) (w : Word), s.reach (regAddr .LANE_INJECT (l / 4) (l % 4)) ∧ u = s.writeReg .LANE_INJECT
      (w.toNat ||| 2 ^ 31) (l / 4) (l % 4) ∧ u.f F.LANE_INJECT_RATE_LOG2 (l / 4) (l % 4) = s.f F.LANE_INJECT_RATE_LOG2 (l /
      4) (l % 4) ∧ u.sendsBits l) ∧
    (∃ (s : State) (l : Fin 16), s.awake ∧ s.f F.LANE_INJECT_RATE_LOG2 (l / 4) (l % 4) ≠ 0 ∧ 2 ^ s.f
      F.LANE_INJECT_RATE_LOG2 (l / 4) (l % 4) * 49152 ≤ (s.lane l).injBits) ∧
    (∃ (s u : State) (l : Fin 16) (w : Word), s.reach (regAddr .LANE_EYE_CTRL (l / 4) (l % 4)) ∧ s.on F.LANE_EYE_CTRL_BUSY
      (l / 4) (l % 4) = false ∧ s.ready? l ∧ s.rxLpi l = false ∧ u = s.writeReg .LANE_EYE_CTRL (w.toNat ||| 2 ^ 31) (l / 4)
      (l % 4)) ∧
    (∃ (s : State) (l : Fin 16) (n : Word), s.awake ∧ s.on F.LANE_EYE_CTRL_BUSY (l / 4) (l % 4) ∧ (s.lane l).eyeScan =
      false ∧ s.eyeDwelt l (.point n)) ∧
    (∃ (s : State) (l : Fin 16), s.awake ∧ s.ready? l ∧ s.txLpi l = false ∧ (s.lane l).cur = none ∧ (s.lane l).wake = none
      ∧ s.queuedFor l = false ∧ s.on F.LNK_LANE_CFG_LPI_EN (l / 4) ∧ s.sendsOn l = false ∧ us25 (s.f
      F.LNK_LANE_CFG_LPI_DELAY (l / 4)) ≤ (s.elapsed - (s.lane l).idle) * 25) ∧
    (∃ (s : State) (l : Fin 16), s.awake ∧ s.ready? l) ∧
    (∃ (s : State) (l : Fin 16), s.awake ∧ s.txLpi l ∧ s.queuedFor l) ∧
    (∃ (s : State) (l : Fin 16) (t : Nat), s.awake ∧ (s.lane l).wake = some t ∧ t + us25 10 ≤ s.el25) ∧
    (∃ (s : State) (l : Fin 16), s.awake ∧ s.ready? l ∧ s.rxLpi l) :=
  ⟨⟨State.reset |>.setF F.LNK_CFG_EN 0 (0 / 4) |>.setF F.LANE_PRBS_CTRL_CHK 0 (0 / 4) (0 % 4), _, 0, 0x40000000, by decide,
     by decide, rfl, by decide, by decide, by decide⟩,
   ⟨State.reset |>.setF F.LANE_PRBS_CTRL_CHK 1 (0 / 4) (0 % 4), 0, by decide, by decide, by decide⟩,
   ⟨State.reset |>.setF F.LANE_PRBS_CTRL_LOCK 1 (0 / 4) (0 % 4) |>.setLane 0 { prbsRecent := [(0, 64)] }, 0, by decide, by
     decide, by decide⟩,
   ⟨State.reset |>.setF F.LNK_CFG_EN 1 0 |>.setF F.LANE_STATE_READY 1 0 0, _, 0, 0, by decide, rfl, by decide, by decide⟩,
   ⟨State.reset |>.setF F.LANE_INJECT_RATE_LOG2 1 (0 / 4) (0 % 4) |>.setLane 0 { injBits := 98304 }, 0, by decide, by
     decide, by decide⟩,
   ⟨State.reset |>.setF F.LANE_EYE_CTRL_BUSY 0 (0 / 4) (0 % 4) |>.setF F.LNK_CFG_EN 1 0 |>.setF F.LANE_STATE_READY 1 0 0,
     _, 0, 0, by decide, by decide, by decide, by decide, rfl⟩,
   ⟨({ State.reset with elapsed := 4915200 } : State) |>.setF F.LANE_EYE_CTRL_BUSY 1 (0 / 4) (0 % 4) |>.setLane 0
     { eyeScan := false, eyeDwell := 10 }, 0, 0, by decide, by decide, by decide, by decide⟩,
   ⟨({ State.reset with elapsed := 4915200000 } : State) |>.setF F.LNK_LANE_CFG_LPI_EN 1 (0 / 4) |>.setF F.LNK_CFG_EN 1 0
     |>.setF F.LANE_STATE_READY 1 0 0 |>.setLane 0 { cur := none, wake := none }, 0, by decide, by decide, by decide, by
     decide, by decide, by decide, by decide, by decide, by decide⟩,
   ⟨State.reset |>.setF F.LNK_CFG_EN 1 0 |>.setF F.LANE_STATE_READY 1 0 0, 0, by decide, by decide⟩,
   ⟨State.reset |>.setF F.LANE_STATE_TX_LPI 1 0 0 |>.setF F.LANE_STATE_READY 1 0 0 |>.setPort 0
     { outq := [{ kind := .mgmt, lane := some 0 }] }, 0, by decide, by decide, by decide⟩,
   ⟨({ State.reset with elapsed := 1000000 } : State) |>.setLane 0 { wake := some 0 }, 0, 0, by decide, by decide, by
     decide⟩,
   ⟨State.reset |>.setF F.LNK_CFG_EN 1 0 |>.setF F.LANE_STATE_READY 1 0 0 |>.setF F.LANE_STATE_RX_LPI 1 0 0, 0, by decide,
     by decide, by decide⟩⟩

/-- Witnesses for EngineMultiplySlotCompletes, clause by clause. -/
theorem witness_EngineMultiplySlotCompletes :
    (∃ (s u : State) (e : Engine) (n : Fin 16) (sl : Fin 2) (t : MulTerm) (v : Option MulTerm), s.mayOp n (.mac sl)
      (macDests t v) ∧ u = s.used n (.mac sl) ∧ e = u.eng n) ∧
    (∃ (s u : State) (e : Engine) (n : Fin 16) (k : Fin 2) (x y : Fin 8), s.mayOp n .pair (pairDests k) ∧ u = s.used n
      .pair ∧ e = u.eng n) ∧
    (∃ (s u : State) (e : Engine) (n : Fin 16) (sl : Fin 2) (k : Fin 4), s.mayOp n (.mac sl) [rA k] ∧ u = s.used n (.mac
      sl) ∧ e = u.eng n) ∧
    (∃ (s u : State) (e : Engine) (n : Fin 16) (sl : Fin 2) (k : Fin 4) (j : Fin 16), s.mayOp n (.mac sl) [rA k] ∧ u =
      s.used n (.mac sl) ∧ e = u.eng n) ∧
    (∃ (s u : State) (e : Engine) (n : Fin 16) (sl : Fin 2) (k j : Fin 4), s.mayOp n (.mac sl) [rA k] ∧ u = s.used n (.mac
      sl) ∧ e = u.eng n) ∧
    (∃ (s u : State) (e : Engine) (n : Fin 16) (sl : Fin 2) (k : Fin 4) (sh : BitVec 6), s.mayOp n (.mac sl) [rA k] ∧ u =
      s.used n (.mac sl) ∧ e = u.eng n ∧ 0 ≤ sh.toInt ∧ overW 56 (e.a k * 2 ^ sh.toInt.toNat) = false) ∧
    (∃ (s u : State) (e : Engine) (n : Fin 16) (sl : Fin 2) (k : Fin 4) (sh : BitVec 6), s.mayOp n (.mac sl) [rA k] ∧ u =
      s.used n (.mac sl) ∧ e = u.eng n ∧ 0 ≤ sh.toInt ∧ overW 56 (e.a k * 2 ^ sh.toInt.toNat)) ∧
    (∃ (s u : State) (e : Engine) (n : Fin 16) (sl : Fin 2) (k : Fin 4) (sh : BitVec 6) (m x : Int), s.mayOp n (.mac sl)
      [rA k] ∧ u = s.used n (.mac sl) ∧ e = u.eng n ∧ ¬ 0 ≤ sh.toInt ∧ m = ((2 ^ (-sh.toInt).toNat : Nat) : Int) ∧ x = (if
      e.a k % m = 0 then 0 else ((Config.choice 0x53 u.free % 2 : Nat) : Int))) :=
  ⟨⟨State.reset |>.setEng 0 { open_ := true, ir := 0x3FFFFFFFFFFFFFFF, decl := List.range 58 }, _, _, 0, 0,
     { acc := 0, x := 0, y := 0 }, none, by decide, rfl, rfl⟩,
   ⟨State.reset |>.setEng 0 { open_ := true, ir := 0x4000000100000000, decl := List.range 58 }, _, _, 0, 0, 0, 0, by
     decide, rfl, rfl⟩,
   ⟨State.reset |>.setEng 0 { open_ := true, ir := 0x3FFFFFFFFFFFFFFF, decl := List.range 58 }, _, _, 0, 0, 0, by decide,
     rfl, rfl⟩,
   ⟨State.reset |>.setEng 0 { open_ := true, ir := 0x3FFFFFFFFFFFFFFF, decl := List.range 58 }, _, _, 0, 0, 0, 0, by
     decide, rfl, rfl⟩,
   ⟨State.reset |>.setEng 0 { open_ := true, ir := 0x3FFFFFFFFFFFFFFF, decl := List.range 58 }, _, _, 0, 0, 0, 0, by
     decide, rfl, rfl⟩,
   ⟨State.reset |>.setEng 0 { open_ := true, ir := 0x3FFFFFFFFFFFFFFF, decl := List.range 58 }, _, _, 0, 0, 0, 0, by
     decide, rfl, rfl, by decide, by decide⟩,
   ⟨State.reset |>.setEng 0 { open_ := true, ir := 0x3FFFFFFFFFFFFFFF, decl := List.range 58, regs := [(rA 0, 2 ^ 40)] },
     _, _, 0, 0, 0, 31, by decide, rfl, rfl, by decide, by decide⟩,
   ⟨State.reset |>.setEng 0 { open_ := true, ir := 0x3FFFFFFFFFFFFFFF, decl := List.range 58 }, _, _, 0, 0, 0, (-1), _, _,
     by decide, rfl, rfl, by decide, rfl, rfl⟩⟩

/-- Witnesses for EngineControlArithmeticCompletes, clause by clause. -/
theorem witness_EngineControlArithmeticCompletes :
    (∃ (s u : State) (e : Engine) (n : Fin 16) (j : Fin 16) (k : Fin 4), s.mayOp n .ctl [rD j] ∧ u = s.used n .ctl ∧ e =
      u.eng n) ∧
    (∃ (s u : State) (e : Engine) (n : Fin 16) (j a b : Fin 16), s.mayOp n .ctl [rD j] ∧ u = s.used n .ctl ∧ e = u.eng n) ∧
    (∃ (s u : State) (e : Engine) (n : Fin 16) (a b : Fin 16), s.mayOp n .ctl [] ∧ u = s.used n .ctl ∧ e = u.eng n) ∧
    (∃ (s u : State) (e : Engine) (n : Fin 16) (j a : Fin 16) (k : EVal), s.mayOp n .ctl [rD j] ∧ u = s.used n .ctl ∧ e =
      u.eng n ∧ e.val k < 24) ∧
    (∃ (s u : State) (e : Engine) (n : Fin 16) (j a : Fin 16) (k : EVal), s.mayOp n .ctl [rD j] ∧ u = s.used n .ctl ∧ e =
      u.eng n ∧ ¬ e.val k < 24) ∧
    (∃ (s u : State) (e : Engine) (n : Fin 16) (j a : Fin 16), s.mayOp n .ctl [rD j] ∧ u = s.used n .ctl ∧ e = u.eng n) ∧
    (∃ (s u : State) (e : Engine) (n : Fin 16) (j : Fin 16) (v : BitVec 24), s.mayOp n .long [rD j] ∧ u = s.used n .long ∧
      e = u.eng n) ∧
    (∃ (s u : State) (e : Engine) (n : Fin 16) (k : Fin 8) (v : EVal), s.mayOp n .ctl [rP k] ∧ u = s.used n .ctl ∧ e =
      u.eng n) ∧
    (∃ (s u : State) (e : Engine) (n : Fin 16) (k : Fin 8) (v : EVal), s.mayOp n .ctl [rB k] ∧ u = s.used n .ctl ∧ e =
      u.eng n) ∧
    (∃ (s u : State) (e : Engine) (n : Fin 16) (k : Fin 8) (v : EVal), s.mayOp n .ctl [rL k] ∧ u = s.used n .ctl ∧ e =
      u.eng n) ∧
    (∃ (s u : State) (e : Engine) (n : Fin 16) (k : Fin 8) (v : EVal), s.mayOp n .ctl [rM k] ∧ u = s.used n .ctl ∧ e =
      u.eng n) ∧
    (∃ (s u : State) (e : Engine) (n : Fin 16) (v : EVal), s.mayOp n .ctl [rCC] ∧ u = s.used n .ctl ∧ e = u.eng n) ∧
    (∃ (s u : State) (e : Engine) (n : Fin 16) (w : Fin 2) (v : EVal), s.mayOp n .ctl [rWB w] ∧ u = s.used n .ctl ∧ e =
      u.eng n) :=
  ⟨⟨State.reset |>.setEng 0 { open_ := true, ir := 0x3FFFFFFFFFFFFFFF, decl := List.range 58 }, _, _, 0, 0, 0, by decide,
     rfl, rfl⟩,
   ⟨State.reset |>.setEng 0 { open_ := true, ir := 0x3FFFFFFFFFFFFFFF, decl := List.range 58 }, _, _, 0, 0, 0, 0, by
     decide, rfl, rfl⟩,
   ⟨State.reset |>.setEng 0 { open_ := true, ir := 0x3FFFFFFFFFFFFFFF, decl := List.range 58 }, _, _, 0, 0, 0, by decide,
     rfl, rfl⟩,
   ⟨State.reset |>.setEng 0 { open_ := true, ir := 0x3FFFFFFFFFFFFFFF, decl := List.range 58 }, _, _, 0, 0, 0, (.imm 0), by
     decide, rfl, rfl, by decide⟩,
   ⟨State.reset |>.setEng 0 { open_ := true, ir := 0x3FFFFFFFFFFFFFFF, decl := List.range 58 }, _, _, 0, 0, 0, (.imm 24),
     by decide, rfl, rfl, by decide⟩,
   ⟨State.reset |>.setEng 0 { open_ := true, ir := 0x3FFFFFFFFFFFFFFF, decl := List.range 58 }, _, _, 0, 0, 0, by decide,
     rfl, rfl⟩,
   ⟨State.reset |>.setEng 0 { open_ := true, ir := 0x80000000FFFFFFFF, decl := List.range 58 }, _, _, 0, 0, 0, by decide,
     rfl, rfl⟩,
   ⟨State.reset |>.setEng 0 { open_ := true, ir := 0x3FFFFFFFFFFFFFFF, decl := List.range 58 }, _, _, 0, 0, (.imm 0), by
     decide, rfl, rfl⟩,
   ⟨State.reset |>.setEng 0 { open_ := true, ir := 0x3FFFFFFFFFFFFFFF, decl := List.range 58 }, _, _, 0, 0, (.imm 0), by
     decide, rfl, rfl⟩,
   ⟨State.reset |>.setEng 0 { open_ := true, ir := 0x3FFFFFFFFFFFFFFF, decl := List.range 58 }, _, _, 0, 0, (.imm 0), by
     decide, rfl, rfl⟩,
   ⟨State.reset |>.setEng 0 { open_ := true, ir := 0x3FFFFFFFFFFFFFFF, decl := List.range 58 }, _, _, 0, 0, (.imm 0), by
     decide, rfl, rfl⟩,
   ⟨State.reset |>.setEng 0 { open_ := true, ir := 0x3FFFFFFFFFFFFFFF, decl := List.range 58 }, _, _, 0, (.imm 0), by
     decide, rfl, rfl⟩,
   ⟨State.reset |>.setEng 0 { open_ := true, ir := 0x3FFFFFFFFFFFFFFF, decl := List.range 58 }, _, _, 0, 0, (.imm 0), by
     decide, rfl, rfl⟩⟩

/-- Witnesses for EngineControlFlowCompletes, clause by clause. -/
theorem witness_EngineControlFlowCompletes :
    (∃ (s u : State) (e : Engine) (n : Fin 16) (t : Fin 65536), s.mayOp n .long [] ∧ bit (s.eng n).slots 4 ∧ u = s.used n
      .long ∧ e = u.eng n) ∧
    (∃ (s u : State) (e : Engine) (n : Fin 16) (c : Cond) (want : Bool) (t : Fin 65536), s.mayOp n .long [] ∧ bit (s.eng
      n).slots 4 ∧ u = s.used n .long ∧ e = u.eng n) ∧
    (∃ (s u : State) (e : Engine) (n : Fin 16) (t : Fin 65536), s.mayOp n .long [rRA] ∧ bit (s.eng n).slots 4 ∧ u = s.used
      n .long ∧ e = u.eng n) ∧
    (∃ (s u : State) (e : Engine) (n : Fin 16), s.mayOp n .long [] ∧ bit (s.eng n).slots 4 ∧ u = s.used n .long ∧ e = u.eng
      n) ∧
    (∃ (s u : State) (e : Engine) (n : Fin 16) (k : Nat), k = b2n (bit (s.eng n).ir 24) ∧ s.mayOp n .long [rLC k] ∧ u =
      s.used n .long ∧ e = u.eng n ∧ k = b2n (bit e.ir 24) ∧ e.myLoops.any (fun l => l.lc == k) = false) ∧
    (∃ (s u : State) (e g : Engine) (n : Fin 16), s.mayOp n .ctl [] ∧ u = s.used n .ctl ∧ e = u.eng n ∧ e.set_ ≠ 0 ∧ g =
      e.flush (fun x => x.set_ == 1)) ∧
    (∃ (s : State) (n : Fin 16), s.mayOp n .ctl []) ∧
    (∃ (s u t : State) (n j : Fin 16), s.mayOp n .ctl [rD j] ∧ u = s.used n .ctl ∧ t = u.claim (1 + n)) ∧
    (∃ (s u : State) (n j : Fin 16), s.mayOp n .ctl [] ∧ u = s.used n .ctl) ∧
    (∃ (s u : State) (e : Engine) (n : Fin 16), s.mayOp n .ctl [] ∧ u = s.used n .ctl ∧ e = u.eng n) ∧
    (∃ (s u : State) (e : Engine) (n : Fin 16) (step : Fin 256), s.mayOp n .ctl [] ∧ u = s.used n .ctl ∧ e = u.eng n ∧
      (e.set_ != 0) = false) ∧
    (∃ (s u : State) (e : Engine) (n : Fin 16), s.mayOp n .ctl [] ∧ u = s.used n .ctl ∧ e = u.eng n ∧ (e.set_ != 0) =
      false) :=
  ⟨⟨State.reset |>.setEng 0 { open_ := true, ir := 0x80000000FFFFFFFF, decl := List.range 58, slots := 16 }, _, _, 0, 0, by
     decide, by decide, rfl, rfl⟩,
   ⟨State.reset |>.setEng 0 { open_ := true, ir := 0x80000000FFFFFFFF, decl := List.range 58, slots := 16 }, _, _, 0,
     .zero, false, 0, by decide, by decide, rfl, rfl⟩,
   ⟨State.reset |>.setEng 0 { open_ := true, ir := 0x80000000FFFFFFFF, decl := List.range 58, slots := 16 }, _, _, 0, 0, by
     decide, by decide, rfl, rfl⟩,
   ⟨State.reset |>.setEng 0 { open_ := true, ir := 0x80000000FFFFFFFF, decl := List.range 58, slots := 16 }, _, _, 0, by
     decide, by decide, rfl, rfl⟩,
   ⟨State.reset |>.setEng 0 { open_ := true, ir := 0x80000000FFFFFFFF, decl := List.range 58 }, _, _, 0, _, rfl, by decide,
     rfl, rfl, rfl, by decide⟩,
   ⟨State.reset |>.setEng 0 { open_ := true, ir := 0x3FFFFFFFFFFFFFFF, decl := List.range 58, set_ := 1 }, _, _, _, 0, by
     decide, rfl, rfl, by decide, rfl⟩,
   ⟨State.reset |>.setEng 0 { open_ := true, ir := 0x3FFFFFFFFFFFFFFF, decl := List.range 58 }, 0, by decide⟩,
   ⟨State.reset |>.setEng 0 { open_ := true, ir := 0x3FFFFFFFFFFFFFFF, decl := List.range 58 }, _, _, 0, 0, by decide, rfl,
     rfl⟩,
   ⟨State.reset |>.setEng 0 { open_ := true, ir := 0x3FFFFFFFFFFFFFFF, decl := List.range 58 }, _, 0, 0, by decide, rfl⟩,
   ⟨State.reset |>.setEng 0 { open_ := true, ir := 0x3FFFFFFFFFFFFFFF, decl := List.range 58 }, _, _, 0, by decide, rfl,
     rfl⟩,
   ⟨State.reset |>.setEng 0 { open_ := true, ir := 0x3FFFFFFFFFFFFFFF, decl := List.range 58 }, _, _, 0, 0, by decide, rfl,
     rfl, by decide⟩,
   ⟨State.reset |>.setEng 0 { open_ := true, ir := 0x3FFFFFFFFFFFFFFF, decl := List.range 58 }, _, _, 0, by decide, rfl,
     rfl, by decide⟩⟩

/-- Witnesses for EngineMemorySlotCompletes, clause by clause. -/
theorem witness_EngineMemorySlotCompletes :
    (∃ (s u v : State) (e : Engine) (n : Fin 16) (j : Fin 16) (a : Addr) (x : Nat × Option Nat) (y : LoadPart), s.mayOp n
      .ls ([rD j] ++ addrDest a) ∧ u = (s.used n .ls) ∧ e = u.eng n ∧ x = e.address a 4 ∧ v = u.setEng n (e.upd a x.2) ∧ y
      = { addr := e.fabricAddr n x.1, size := 4, form := 0, regs := [rD j] } ∧ x.1 % 4 = 0 ∧ windowed x.1 = false) ∧
    (∃ (s u v : State) (e : Engine) (n : Fin 16) (j : Fin 16) (a : Addr) (x : Nat × Option Nat) (y : LoadPart), s.mayOp n
      .ls ([rD j] ++ addrDest a) ∧ u = (s.used n .ls) ∧ e = u.eng n ∧ x = e.address a 4 ∧ v = u.setEng n (e.upd a x.2) ∧ y
      = { addr := e.fabricAddr n x.1, size := 4, form := 0, regs := [rD j] } ∧ x.1 % 4 = 0 ∧ windowed x.1 = true) ∧
    (∃ (s u v : State) (e : Engine) (n : Fin 16) (j : Fin 16) (a : Addr) (x : Nat × Option Nat) (y : LoadPart), s.mayOp n
      .ls ([rD j] ++ addrDest a) ∧ u = (s.used n .ls) ∧ e = u.eng n ∧ x = e.address a 2 ∧ v = u.setEng n (e.upd a x.2) ∧ y
      = { addr := e.fabricAddr n x.1, size := 2, form := 1, regs := [rD j] } ∧ x.1 % 2 = 0 ∧ windowed x.1 = false) ∧
    (∃ (s u v : State) (e : Engine) (n : Fin 16) (j : Fin 16) (a : Addr) (x : Nat × Option Nat) (y : LoadPart), s.mayOp n
      .ls ([rD j] ++ addrDest a) ∧ u = (s.used n .ls) ∧ e = u.eng n ∧ x = e.address a 2 ∧ v = u.setEng n (e.upd a x.2) ∧ y
      = { addr := e.fabricAddr n x.1, size := 2, form := 1, regs := [rD j] } ∧ x.1 % 2 = 0 ∧ windowed x.1 = true) ∧
    (∃ (s u v : State) (e : Engine) (n : Fin 16) (k : Fin 8) (a : Addr) (x : Nat × Option Nat) (y : LoadPart), s.mayOp n
      .ls ((dPair k) ++ addrDest a) ∧ u = (s.used n .ls) ∧ e = u.eng n ∧ x = e.address a 8 ∧ v = u.setEng n (e.upd a x.2) ∧
      y = { addr := e.fabricAddr n x.1, size := 8, form := 0, regs := (dPair k) } ∧ x.1 % 8 = 0 ∧ windowed x.1 = false) ∧
    (∃ (s u v : State) (e : Engine) (n : Fin 16) (k : Fin 8) (a : Addr) (x : Nat × Option Nat) (y : LoadPart), s.mayOp n
      .ls ((dPair k) ++ addrDest a) ∧ u = (s.used n .ls) ∧ e = u.eng n ∧ x = e.address a 8 ∧ v = u.setEng n (e.upd a x.2) ∧
      y = { addr := e.fabricAddr n x.1, size := 8, form := 0, regs := (dPair k) } ∧ x.1 % 8 = 0 ∧ windowed x.1 = true) ∧
    (∃ (s u v : State) (e : Engine) (n : Fin 16) (k : Fin 8) (a : Addr) (x : Nat × Option Nat) (y : LoadPart), s.mayOp n
      .ls ((dPair k) ++ addrDest a) ∧ u = (s.used n .ls) ∧ e = u.eng n ∧ x = e.address a 6 ∧ v = u.setEng n (e.upd a x.2) ∧
      y = { addr := e.fabricAddr n x.1, size := 6, form := 2, regs := (dPair k) } ∧ x.1 % 2 = 0 ∧ windowed x.1 = false) ∧
    (∃ (s u v : State) (e : Engine) (n : Fin 16) (k : Fin 8) (a : Addr) (x : Nat × Option Nat) (y : LoadPart), s.mayOp n
      .ls ((dPair k) ++ addrDest a) ∧ u = (s.used n .ls) ∧ e = u.eng n ∧ x = e.address a 6 ∧ v = u.setEng n (e.upd a x.2) ∧
      y = { addr := e.fabricAddr n x.1, size := 6, form := 2, regs := (dPair k) } ∧ x.1 % 2 = 0 ∧ windowed x.1 = true) ∧
    (∃ (s u v : State) (e : Engine) (n : Fin 16) (k : Fin 8) (a : Addr) (x : Nat × Option Nat) (y : LoadPart), s.mayOp n
      .ls ([rP k] ++ addrDest a) ∧ u = (s.used n .ls) ∧ e = u.eng n ∧ x = e.address a 4 ∧ v = u.setEng n (e.upd a x.2) ∧ y
      = { addr := e.fabricAddr n x.1, size := 4, form := 3, regs := [rP k] } ∧ x.1 % 1 = 0 ∧ windowed x.1 = false) ∧
    (∃ (s u v : State) (e : Engine) (n : Fin 16) (k : Fin 8) (a : Addr) (x : Nat × Option Nat) (y : LoadPart), s.mayOp n
      .ls ([rP k] ++ addrDest a) ∧ u = (s.used n .ls) ∧ e = u.eng n ∧ x = e.address a 4 ∧ v = u.setEng n (e.upd a x.2) ∧ y
      = { addr := e.fabricAddr n x.1, size := 4, form := 3, regs := [rP k] } ∧ x.1 % 1 = 0 ∧ windowed x.1 = true) ∧
    (∃ (s u v : State) (e : Engine) (n : Fin 16) (k l : Fin 8) (a b : Addr) (x y : Nat × Option Nat) (p q : LoadPart),
      s.mayOp n .ls (dPair k ++ dPair l ++ addrDest a ++ addrDest b) ∧ u = (s.used n .ls) ∧ e = u.eng n ∧ x = e.address a 8
      ∧ y = e.address b 8 ∧ v = u.setEng n ((e.upd a x.2).upd b y.2) ∧ p =
      { addr := e.fabricAddr n x.1, size := 8, form := 0, regs := dPair k } ∧ q =
      { addr := e.fabricAddr n y.1, size := 8, form := 0, regs := dPair l } ∧ x.1 % 8 = 0 ∧ y.1 % 8 = 0 ∧ windowed x.1 =
      false ∧ windowed y.1 = false) ∧
    (∃ (s u v : State) (e : Engine) (n : Fin 16) (k l : Fin 8) (a b : Addr) (x y : Nat × Option Nat) (p q : LoadPart),
      s.mayOp n .ls (dPair k ++ dPair l ++ addrDest a ++ addrDest b) ∧ u = (s.used n .ls) ∧ e = u.eng n ∧ x = e.address a 8
      ∧ y = e.address b 8 ∧ v = u.setEng n ((e.upd a x.2).upd b y.2) ∧ p =
      { addr := e.fabricAddr n x.1, size := 8, form := 0, regs := dPair k } ∧ q =
      { addr := e.fabricAddr n y.1, size := 8, form := 0, regs := dPair l } ∧ x.1 % 8 = 0 ∧ y.1 % 8 = 0 ∧ windowed x.1 =
      true ∧ windowed y.1 = true) ∧
    (∃ (s u v t : State) (e : Engine) (n : Fin 16) (k l : Fin 8) (a b : Addr) (x y : Nat × Option Nat) (p q : LoadPart),
      s.mayOp n .ls (dPair k ++ dPair l ++ addrDest a ++ addrDest b) ∧ u = (s.used n .ls) ∧ e = u.eng n ∧ x = e.address a 8
      ∧ y = e.address b 8 ∧ v = u.setEng n ((e.upd a x.2).upd b y.2) ∧ p =
      { addr := e.fabricAddr n x.1, size := 8, form := 0, regs := dPair k } ∧ q =
      { addr := e.fabricAddr n y.1, size := 8, form := 0, regs := dPair l } ∧ x.1 % 8 = 0 ∧ y.1 % 8 = 0 ∧ windowed x.1 =
      true ∧ windowed y.1 = false ∧ t = v.loadLocal n q) ∧
    (∃ (s u v t : State) (e : Engine) (n : Fin 16) (k l : Fin 8) (a b : Addr) (x y : Nat × Option Nat) (p q : LoadPart),
      s.mayOp n .ls (dPair k ++ dPair l ++ addrDest a ++ addrDest b) ∧ u = (s.used n .ls) ∧ e = u.eng n ∧ x = e.address a 8
      ∧ y = e.address b 8 ∧ v = u.setEng n ((e.upd a x.2).upd b y.2) ∧ p =
      { addr := e.fabricAddr n x.1, size := 8, form := 0, regs := dPair k } ∧ q =
      { addr := e.fabricAddr n y.1, size := 8, form := 0, regs := dPair l } ∧ x.1 % 8 = 0 ∧ y.1 % 8 = 0 ∧ windowed x.1 =
      false ∧ windowed y.1 = true ∧ t = v.loadLocal n p) ∧
    (∃ (s u : State) (e g : Engine) (n : Fin 16) (j : Fin 16) (a : Addr) (x : Nat × Option Nat) (bs d : List Byte), s.mayOp
      n .ls (addrDest a) ∧ u = (s.used n .ls) ∧ e = u.eng n ∧ x = e.address a 4 ∧ x.1 % 4 = 0 ∧ bs = toBytes (e.container
      j) 4 ∧ d = (if windowed x.1 then bs else bs.take (0x80000 - x.1)) ∧ g = (e.upd a x.2).pushStore
      { addr := e.fabricAddr n x.1, bytes := d, window := windowed x.1 }) ∧
    (∃ (s u : State) (e g : Engine) (n : Fin 16) (j : Fin 16) (a : Addr) (x : Nat × Option Nat) (bs d : List Byte), s.mayOp
      n .ls (addrDest a) ∧ u = (s.used n .ls) ∧ e = u.eng n ∧ x = e.address a 2 ∧ x.1 % 2 = 0 ∧ bs = toBytes (trunc 16
      (satW 16 (e.half j))) 2 ∧ d = (if windowed x.1 then bs else bs.take (0x80000 - x.1)) ∧ g = (e.upd a x.2).pushStore
      { addr := e.fabricAddr n x.1, bytes := d, window := windowed x.1 }) ∧
    (∃ (s u : State) (e g : Engine) (n : Fin 16) (k : Fin 8) (a : Addr) (x : Nat × Option Nat) (bs d : List Byte), s.mayOp
      n .ls (addrDest a) ∧ u = (s.used n .ls) ∧ e = u.eng n ∧ x = e.address a 8 ∧ x.1 % 8 = 0 ∧ bs = toBytes (e.container
      (2 * k)) 4 ++ toBytes (e.container (2 * k + 1)) 4 ∧ d = (if windowed x.1 then bs else bs.take (0x80000 - x.1)) ∧ g =
      (e.upd a x.2).pushStore { addr := e.fabricAddr n x.1, bytes := d, window := windowed x.1 }) ∧
    (∃ (s u : State) (e g : Engine) (n : Fin 16) (k : Fin 8) (a : Addr) (x : Nat × Option Nat) (bs d : List Byte), s.mayOp
      n .ls (addrDest a) ∧ u = (s.used n .ls) ∧ e = u.eng n ∧ x = e.address a 6 ∧ x.1 % 2 = 0 ∧ bs = toBytes (e.r (rD (2 *
      k))) 3 ++ toBytes (e.r (rD (2 * k + 1))) 3 ∧ d = (if windowed x.1 then bs else bs.take (0x80000 - x.1)) ∧ g = (e.upd
      a x.2).pushStore { addr := e.fabricAddr n x.1, bytes := d, window := windowed x.1 }) ∧
    (∃ (s u : State) (e g : Engine) (n : Fin 16) (k : Fin 4) (a : Addr) (x : Nat × Option Nat) (bs d : List Byte), s.mayOp
      n .ls (addrDest a) ∧ u = (s.used n .ls) ∧ e = u.eng n ∧ x = e.address a 4 ∧ x.1 % 4 = 0 ∧ bs = toBytes (trunc 32
      (satW 24 (e.scaled k))) 4 ∧ d = (if windowed x.1 then bs else bs.take (0x80000 - x.1)) ∧ g = (e.upd a x.2).pushStore
      { addr := e.fabricAddr n x.1, bytes := d, window := windowed x.1 }) :=
  ⟨⟨State.reset |>.setEng 0 { open_ := true, ir := 0x3FFFFFFFFFFFFFFF, decl := List.range 58 }, _, _, _, 0, 0,
     { p := 0, mode := .postM }, _, _, by decide, rfl, rfl, rfl, rfl, rfl, by decide, by decide⟩,
   ⟨State.reset |>.setEng 0 { open_ := true, ir := 0x3FFFFFFFFFFFFFFF, decl := List.range 58, regs := [(rP 0, 0x80000)] },
     _, _, _, 0, 0, { p := 0, mode := .postM }, _, _, by decide, rfl, rfl, rfl, rfl, rfl, by decide, by decide⟩,
   ⟨State.reset |>.setEng 0 { open_ := true, ir := 0x3FFFFFFFFFFFFFFF, decl := List.range 58 }, _, _, _, 0, 0,
     { p := 0, mode := .postM }, _, _, by decide, rfl, rfl, rfl, rfl, rfl, by decide, by decide⟩,
   ⟨State.reset |>.setEng 0 { open_ := true, ir := 0x3FFFFFFFFFFFFFFF, decl := List.range 58, regs := [(rP 0, 0x80000)] },
     _, _, _, 0, 0, { p := 0, mode := .postM }, _, _, by decide, rfl, rfl, rfl, rfl, rfl, by decide, by decide⟩,
   ⟨State.reset |>.setEng 0 { open_ := true, ir := 0x3FFFFFFFFFFFFFFF, decl := List.range 58 }, _, _, _, 0, 0,
     { p := 0, mode := .postM }, _, _, by decide, rfl, rfl, rfl, rfl, rfl, by decide, by decide⟩,
   ⟨State.reset |>.setEng 0 { open_ := true, ir := 0x3FFFFFFFFFFFFFFF, decl := List.range 58, regs := [(rP 0, 0x80000)] },
     _, _, _, 0, 0, { p := 0, mode := .postM }, _, _, by decide, rfl, rfl, rfl, rfl, rfl, by decide, by decide⟩,
   ⟨State.reset |>.setEng 0 { open_ := true, ir := 0x3FFFFFFFFFFFFFFF, decl := List.range 58 }, _, _, _, 0, 0,
     { p := 0, mode := .postM }, _, _, by decide, rfl, rfl, rfl, rfl, rfl, by decide, by decide⟩,
   ⟨State.reset |>.setEng 0 { open_ := true, ir := 0x3FFFFFFFFFFFFFFF, decl := List.range 58, regs := [(rP 0, 0x80000)] },
     _, _, _, 0, 0, { p := 0, mode := .postM }, _, _, by decide, rfl, rfl, rfl, rfl, rfl, by decide, by decide⟩,
   ⟨State.reset |>.setEng 0 { open_ := true, ir := 0x3FFFFFFFFFFFFFFF, decl := List.range 58 }, _, _, _, 0, 0,
     { p := 0, mode := .postM }, _, _, by decide, rfl, rfl, rfl, rfl, rfl, by decide, by decide⟩,
   ⟨State.reset |>.setEng 0 { open_ := true, ir := 0x3FFFFFFFFFFFFFFF, decl := List.range 58, regs := [(rP 0, 0x80000)] },
     _, _, _, 0, 0, { p := 0, mode := .postM }, _, _, by decide, rfl, rfl, rfl, rfl, rfl, by decide, by decide⟩,
   ⟨State.reset |>.setEng 0 { open_ := true, ir := 0x3FFFFFFFFFFFFFFF, decl := List.range 58 }, _, _, _, 0, 0, 0,
     { p := 0, mode := .postM }, { p := 4, mode := .ind }, _, _, _, _, by decide, rfl, rfl, rfl, rfl, rfl, rfl, rfl, by
     decide, by decide, by decide, by decide⟩,
   ⟨State.reset |>.setEng 0
     { open_ := true, ir := 0x3FFFFFFFFFFFFFFF, decl := List.range 58, regs := [(rP 0, 0x80000), (rP 4, 0x80000)] }, _, _,
     _, 0, 0, 0, { p := 0, mode := .postM }, { p := 4, mode := .ind }, _, _, _, _, by decide, rfl, rfl, rfl, rfl, rfl, rfl,
     rfl, by decide, by decide, by decide, by decide⟩,
   ⟨State.reset |>.setEng 0 { open_ := true, ir := 0x3FFFFFFFFFFFFFFF, decl := List.range 58, regs := [(rP 0, 0x80000)] },
     _, _, _, _, 0, 0, 0, { p := 0, mode := .postM }, { p := 4, mode := .ind }, _, _, _, _, by decide, rfl, rfl, rfl, rfl,
     rfl, rfl, rfl, by decide, by decide, by decide, by decide, rfl⟩,
   ⟨State.reset |>.setEng 0 { open_ := true, ir := 0x3FFFFFFFFFFFFFFF, decl := List.range 58, regs := [(rP 4, 0x80000)] },
     _, _, _, _, 0, 0, 0, { p := 0, mode := .postM }, { p := 4, mode := .ind }, _, _, _, _, by decide, rfl, rfl, rfl, rfl,
     rfl, rfl, rfl, by decide, by decide, by decide, by decide, rfl⟩,
   ⟨State.reset |>.setEng 0 { open_ := true, ir := 0x3FFFFFFFFFFFFFFF, decl := List.range 58 }, _, _, _, 0, 0,
     { p := 0, mode := .postM }, _, _, _, by decide, rfl, rfl, rfl, by decide, rfl, rfl, rfl⟩,
   ⟨State.reset |>.setEng 0 { open_ := true, ir := 0x3FFFFFFFFFFFFFFF, decl := List.range 58 }, _, _, _, 0, 0,
     { p := 0, mode := .postM }, _, _, _, by decide, rfl, rfl, rfl, by decide, rfl, rfl, rfl⟩,
   ⟨State.reset |>.setEng 0 { open_ := true, ir := 0x3FFFFFFFFFFFFFFF, decl := List.range 58 }, _, _, _, 0, 0,
     { p := 0, mode := .postM }, _, _, _, by decide, rfl, rfl, rfl, by decide, rfl, rfl, rfl⟩,
   ⟨State.reset |>.setEng 0 { open_ := true, ir := 0x3FFFFFFFFFFFFFFF, decl := List.range 58 }, _, _, _, 0, 0,
     { p := 0, mode := .postM }, _, _, _, by decide, rfl, rfl, rfl, by decide, rfl, rfl, rfl⟩,
   ⟨State.reset |>.setEng 0 { open_ := true, ir := 0x3FFFFFFFFFFFFFFF, decl := List.range 58 }, _, _, _, 0, 0,
     { p := 0, mode := .postM }, _, _, _, by decide, rfl, rfl, rfl, by decide, rfl, rfl, rfl⟩⟩

/-- Witnesses for EngineJobEventsComplete, clause by clause. -/
theorem witness_EngineJobEventsComplete :
    (∃ (s t : State) (n : Fin 16) (w : Word), s.reach (regAddr .SE_POST n) ∧ t = s.writeReg .SE_POST (w.toNat ||| 2 ^ 31) n
      ∧ t.on F.SE_POST_FULL n = false ∧ s.absent n = false ∧ t.absent n = false ∧ t.on F.SE_STATUS_FAULTED n = false ∧
      (t.eng n).queue.length < 16) ∧
    (∃ (s t : State) (f : Fin 512) (m : Nat) (p : Place) (j : Job), s.awake ∧ (s.usesEngine f && s.fState f == 2) ∧ s.isIq
      f ∧ s.nextDue f = some m ∧ p = s.placeAt f (s.airOf (s.fTl f) m) ∧ j = .flow f m (s.idxFrame (s.fTl f) m) (s.idxSym
      (s.fTl f) m) (s.f F.FLW_DEMAND_KERNEL f) ∧ t = s.setJob f m 2 ∧ t.absent p.eng = false ∧ t.on F.SE_STATUS_FAULTED
      p.eng = false ∧ (t.eng p.eng).queue.length < 16) ∧
    (∃ (s t : State) (f : Fin 512) (k m : Nat) (p : Place) (j : Job), s.awake ∧ (s.usesEngine f && s.fState f == 2) ∧
      s.isIq f = false ∧ k = s.f F.PLC_CFG_TL ∧ m = s.symIdx k s.now ∧ (s.tlOn k && s.isAir k s.now && (s.flow f).running
      && s.jobOf f m == 0) ∧ p = s.placeAt f s.now ∧ j = .flow f m (s.idxFrame k m) (s.idxSym k m) (s.f F.FLW_DEMAND_KERNEL
      f) ∧ t = s.setFlow f { s.flow f with jobs := [(m, 2)] } ∧ t.absent p.eng = false ∧ t.on F.SE_STATUS_FAULTED p.eng =
      false ∧ (t.eng p.eng).queue.length < 16) ∧
    (∃ (s : State) (e : Engine) (n : Fin 16) (j : Job) (js : List Job), s.awake ∧ e = s.eng n ∧ e.queue = j :: js ∧
      s.engIdle n ∧ s.jobHeld j = false) ∧
    (∃ (s t : State) (n : Fin 16) (w : Word), s.reach (regAddr .SE_CTRL n) ∧ t = s.writeReg .SE_CTRL (w.toNat ||| 2 ^ 29) n
      ∧ (t.eng n).job.isSome ∧ t.on F.SE_STATUS_FAULTED n = false) ∧
    (∃ (s t : State) (n : Fin 16) (w : Word), s.reach (regAddr .SE_STATUS n) ∧ s.on F.SE_STATUS_FAULTED n ∧ t = s.writeReg
      .SE_STATUS (w.toNat ||| 2 ^ 29) n) ∧
    (∃ (s : State) (n : Fin 16) (f idx frame sym k : Nat), s.awake ∧ (s.eng n).job = some (.flow f idx frame sym k) ∧ s.f
      F.SE_JOB_CFG_WDOG n * max (s.f F.FLW_DEMAND_LOAD f) 1 * 1024 < (s.eng n).ran ∧ s.on F.SE_STATUS_FAULTED n = false) ∧
    (∃ (s : State) (n : Fin 16), s.awake ∧ ((s.eng n).open_ && s.engGoes n)) ∧
    (∃ (s t u : State) (e : Engine) (n : Fin 16) (b c : BundleInfo) (ir : Nat), s.awake ∧ t = s.bundleEnd n ∧ e = t.eng n ∧
      (t.engGoes n && !e.open_ && (e.job.isSome || e.set_ == 1) && !t.eventDue n) ∧ ir = (if b.fetchBad then 0 else
      t.fetchBundle n e.pc) ∧ c = factsOf b ir ∧ u = (if c.fetchBad then (t.bumpBy F.FLT_ECC_COUNT_CORRECTED
      c.corrected).sramBad (seBase n + 8 * e.pc) else t.bumpBy F.FLT_ECC_COUNT_CORRECTED c.corrected) ∧ e.illegal e.pc c =
      false) ∧
    (∃ (s t : State) (n : Fin 16), s.awake ∧ t = s.bundleEnd n ∧ t.eventDue n) ∧
    (∃ (s : State) (n : Fin 16), s.awake ∧ ((s.eng n).buf.isEmpty && (s.eng n).errs.isEmpty && (s.eng n).stall == .none &&
      !s.absent n && !s.on F.SE_STATUS_FAULTED n) ∧ (s.eng n).sync = .fence) ∧
    (∃ (s : State) (n : Fin 16) (step : Nat), s.awake ∧ ((s.eng n).buf.isEmpty && (s.eng n).errs.isEmpty && (s.eng n).stall
      == .none && !s.absent n && !s.on F.SE_STATUS_FAULTED n) ∧ (s.eng n).sync = .ckpt step) ∧
    (∃ (s : State) (n : Fin 16), s.awake ∧ ((s.eng n).buf.isEmpty && (s.eng n).errs.isEmpty && (s.eng n).stall == .none &&
      !s.absent n && !s.on F.SE_STATUS_FAULTED n) ∧ (s.eng n).sync = .jobend) ∧
    (∃ (s : State) (n : Fin 16), s.awake ∧ ((s.eng n).buf.isEmpty && (s.eng n).errs.isEmpty && (s.eng n).stall == .none &&
      !s.absent n && !s.on F.SE_STATUS_FAULTED n) ∧ (s.eng n).sync = .abort) ∧
    (∃ (s : State) (n : Fin 16) (ecc : Fin 3) (xs : List LoadPart), s.awake ∧ (s.eng n).stall = .load xs ∧ ((s.absent n ||
      s.on F.SE_STATUS_FAULTED n || (s.eng n).buf.any (fun b => b.window) || decide (s.coreCycles (s.elapsed - (s.eng
      n).stallAt) < 40 * coreUnit)) = false)) ∧
    (∃ (s : State) (n : Fin 16) (b : BufStore) (bs : List BufStore), s.awake ∧ (s.eng n).buf = b :: bs ∧ ((s.absent n ||
      (toDoorbell b && !(s.eng n).errs.isEmpty)) = false) ∧ b.window = false) ∧
    (∃ (s t u : State) (n : Fin 16) (b : BufStore) (bs : List BufStore) (v c y : Nat), s.awake ∧ (s.eng n).buf = b :: bs ∧
      ((s.absent n || (toDoorbell b && !(s.eng n).errs.isEmpty)) = false) ∧ b.window ∧ v = leBytes (fun i => b.bytes.getD i
      0) 0 b.bytes.length ∧ t = (s.setEng n (s.eng n).popStore).staleStore n b ∧ t.access (.engine n) (2 + n) .write b.addr
      b.bytes.length v 0 = (c, y, u)) ∧
    (∃ (s : State) (n : Fin 16) (a : Nat) (as : List Nat), s.awake ∧ (s.eng n).errs = a :: as ∧ s.on F.SE_STATUS_FAULTED n
      = false) :=
  ⟨⟨State.reset, _, 0, 0, by decide, rfl, by decide, by decide, by decide, by decide, by decide⟩,
   ⟨State.reset |>.setF F.FLW_DEMAND_KERNEL 1 0 |>.setF F.FLW_STATUS_STATE 2 0 |>.setFlow 0 { jobs := [(0, 1)] }, _, 0, 0,
     _, _, by decide, by decide, by decide, by decide, rfl, rfl, rfl, by decide, by decide, by decide⟩,
   ⟨State.reset |>.setF F.SYS_TL_CFG_EN 1 0 |>.setF F.FLW_DEMAND_KERNEL 1 0 |>.setF F.FLW_STATUS_STATE 2 0 |>.setF
     F.SYS_TL_CFG_EN 1 0 |>.setF F.FLW_CTRL_TYPE 2 0 |>.setFlow 0 { running := true }, _, 0, _, _, _, _, by decide, by
     decide, by decide, rfl, rfl, by decide, rfl, rfl, rfl, by decide, by decide, by decide⟩,
   ⟨State.reset |>.setF F.SE_CTRL_EN 1 0 |>.setEng 0 { queue := [(.host 0 0)] }, _, 0, (.host 0 0), [], by decide, rfl, by
     decide, by decide, by decide⟩,
   ⟨State.reset |>.setEng 0 { job := some (.host 0 0) }, _, 0, 0, by decide, rfl, by decide, by decide⟩,
   ⟨State.reset |>.setF F.SE_STATUS_FAULTED 1 0, _, 0, 0, by decide, by decide, rfl⟩,
   ⟨State.reset |>.setF F.SE_STATUS_FAULTED 0 0 |>.setEng 0 { job := some (.flow 0 0 0 0 0), ran := 100000000 }, 0, 0, 0,
     0, 0, 0, by decide, by decide, by decide, by decide⟩,
   ⟨State.reset |>.setEng 0 { open_ := true }, 0, by decide, by decide⟩,
   ⟨State.reset |>.setEng 0 { job := some (.host 0 0) }, _, _, _, 0, {}, _, _, by decide, rfl, rfl, by decide, rfl, rfl,
     rfl, by decide⟩,
   ⟨State.reset |>.setF F.SE_CTRL_IEN 1 0 |>.setF F.EVC_TGT_STATUS_PRESENTED 1 1, _, 0, by decide, rfl, by decide⟩,
   ⟨State.reset |>.setEng 0 { sync := .fence }, 0, by decide, by decide, by decide⟩,
   ⟨State.reset |>.setEng 0 { sync := .ckpt 0 }, 0, 0, by decide, by decide, by decide⟩,
   ⟨State.reset |>.setEng 0 { sync := .jobend }, 0, by decide, by decide, by decide⟩,
   ⟨State.reset |>.setEng 0 { sync := .abort }, 0, by decide, by decide, by decide⟩,
   ⟨({ State.reset with elapsed := 4915200 } : State) |>.setEng 0 { stall := .load ([]) }, 0, 0, [], by decide, by decide,
     by decide⟩,
   ⟨State.reset |>.setEng 0 { buf := [{ addr := 0x10000000, bytes := [], window := false }] }, 0,
     { addr := 0x10000000, bytes := [], window := false }, [], by decide, by decide, by decide, by decide⟩,
   ⟨State.reset |>.setF F.FAB_FW_BASE_EN 1 2 0 |>.setF F.FAB_FW_BASE_R 1 2 0 |>.setF F.FAB_FW_BASE_W 1 2 0 |>.setF
     F.FAB_FW_LIMIT_LIMIT 0xFFFFF 2 0 |>.setEng 0 { buf := [{ addr := 0x20000000, bytes := [1], window := true }] }, _, _,
     0, { addr := 0x20000000, bytes := [1], window := true }, [], _, _, _, by decide, by decide, by decide, by decide, rfl,
     rfl, rfl⟩,
   ⟨State.reset |>.setF F.SE_STATUS_FAULTED 0 0 |>.setEng 0 { errs := 0 :: ([]) }, 0, 0, [], by decide, by decide, by
     decide⟩⟩

/-- Witnesses for CacheAndFenceCommandsComplete, clause by clause. -/
theorem witness_CacheAndFenceCommandsComplete :
    (∃ (s : State) (a : Word) (n : Fin 1048576), s.awake) ∧
    (∃ (s u : State) (a : Word) (n : Fin 1048576), s.awake ∧ u = (s.lcSet a.toNat).cleanIf (inRange a.toNat n)) ∧
    (∃ (s : State), s.awake) ∧
    (∃ (s u : State), s.awake ∧ u = s.cleanIf (fun _ => true)) ∧
    (∃ (s : State), s.awake ∧ s.lanternBusy = false) :=
  ⟨⟨State.reset, 0, 0, by decide⟩,
   ⟨State.reset, _, 0, 0, by decide, rfl⟩,
   ⟨State.reset, by decide⟩,
   ⟨State.reset, _, by decide, rfl⟩,
   ⟨State.reset, by decide, by decide⟩⟩

/-- Witnesses for FabricCommandsComplete, clause by clause. -/
theorem witness_FabricCommandsComplete :
    (∃ (s : State) (n : Initiator) (k : AccKind) (a : Word) (len : Fin 65) (x : Nat) (e : Fin 3) (p : Nat), s.awake ∧
      s.permitted n k a.toNat len ∧ s.absentAt (nativeAddr a.toNat) = false ∧ cached (iniNum n) (kindNum k) (nativeAddr
      a.toNat) = false ∧ p = pointOf (nativeAddr a.toNat)) ∧
    (∃ (s : State) (n : Initiator) (k : AccKind) (a : Fin 1048576) (x : Word) (p : Nat), s.awake ∧ s.permitted n k
      (0x3F000000 + a) 4 ∧ s.absentAt (nativeAddr (0x3F000000 + a)) = false ∧ cached (iniNum n) (kindNum k) (nativeAddr
      (0x3F000000 + a)) = false ∧ p = pointOf (nativeAddr (0x3F000000 + a))) ∧
    (∃ (s : State) (p : Fin 38) (r : Request), s.awake ∧ s.nextGrant p = some r ∧ SMap.get 0 s.fab.delayed p = 0 ∧
      s.delayFor p r.cls = (false, 0, s.ptb.gen)) ∧
    (∃ (s t : State) (e : Fin 3) (r : Request) (code v : Nat), s.awake ∧ s.mramNext false = some r ∧ (s.mramDone r).memRead
      r.addr r.size e = (code, v, t)) ∧
    (∃ (s : State) (r : Request), s.awake ∧ s.mramNext true = some r ∧ s.pageWorn r.addr = false) ∧
    (∃ (s u : State) (p q : Nat), s.awake ∧ s.fab.mramMove = some (p, q) ∧ u = (s.setF F.FAB_MRAM_STATUS_BUSY 0).bump
      F.FAB_MRAM_MOVES_MOVES) :=
  ⟨⟨State.reset, .lanternM, .read, 0x24000000, 4, 0, 0, _, by decide, by decide, by decide, by decide, rfl⟩,
   ⟨State.reset, .lanternM, .read, 0, 0, _, by decide, by decide, by decide, by decide, rfl⟩,
   ⟨{ State.reset with fab := { waiting := [(0, [{ ini := 0, cls := 0, kind := 0, addr := 0x24000000, size := 4, data := 0, at_ := 0 }])] } },
     0, { ini := 0, cls := 0, kind := 0, addr := 0x24000000, size := 4, data := 0, at_ := 0 }, by decide, by decide, by
     decide, by decide⟩,
   ⟨{ State.reset with fab := { mramQ := [{ ini := 0, cls := 0, kind := 0, addr := 0x31000000, size := 4, data := 0, at_ := 0 }] } },
     _, 0, { ini := 0, cls := 0, kind := 0, addr := 0x31000000, size := 4, data := 0, at_ := 0 }, _, _, by decide, by
     decide, rfl⟩,
   ⟨{ State.reset with fab := { mramQ := [{ ini := 0, cls := 0, kind := 1, addr := 0x31000000, size := 4, data := 0, at_ := 0 }] } },
     { ini := 0, cls := 0, kind := 1, addr := 0x31000000, size := 4, data := 0, at_ := 0 }, by decide, by decide, by
     decide⟩,
   ⟨{ State.reset with fab := { mramMove := some (0, 0) } }, _, 0, 0, by decide, by decide, rfl⟩⟩

/-- Witnesses for DmaCommandsComplete, clause by clause. -/
theorem witness_DmaCommandsComplete :
    (∃ (s : State) (c : Fin 32) (w : Word), s.reach (regAddr .DMA_CH_DOORBELL c) ∧ (s.dmaC c).queue.length < 4) ∧
    (∃ (s : State) (c : Fin 32) (w : Word), s.reach (regAddr .DMA_CH_CTRL c) ∧ bit (w.toNat ||| 2 ^ 31) 30 = false ∧ s.f
      F.DMA_CH_STATUS_STOP_CAUSE c = 0 ∧ (s.dmaC c).desc = none) ∧
    (∃ (s : State) (c : Fin 32) (w : Word), s.reach (regAddr .DMA_CH_CTRL c) ∧ bit (w.toNat ||| 2 ^ 31) 30 = false ∧ s.f
      F.DMA_CH_STATUS_STOP_CAUSE c = 0 ∧ (s.dmaC c).desc ≠ none) ∧
    (∃ (s u : State) (c : Fin 32) (w : Word) (d : Nat), s.reach (regAddr .DMA_CH_CTRL c) ∧ bit (w.toNat ||| 2 ^ 30) 31 =
      false ∧ (s.f F.DMA_CH_STATUS_STOP_CAUSE c = 1 ∨ s.f F.DMA_CH_STATUS_STOP_CAUSE c = 3) ∧ d = s.f F.DMA_CH_DESC_ADDR c
      ∧ u = s.setDma c { s.dmaC c with next := if d = 0 then none else some d }) ∧
    (∃ (s u : State) (c : Fin 32) (bad : Bool) (a code err : Nat) (ws : List Nat), s.awake ∧ s.dmaNext c = some a ∧
      s.dmaReady c ∧ s.dmaWords c a (if bad then 2 else 0) 7 = (code, ws, u) ∧ err = (if code ≠ 0 then dmaCode code else if
      dInvalid ws then 3 else if dNarrow ws then 4 else 0)) ∧
    (∃ (s t u v : State) (c : Fin 32) (ws : List Nat), s.awake ∧ (s.dmaC c).desc = some ws ∧ t = State.dmaFinish c none
      (s.dmaTurns c) s ∧ (t.dmaC c).err = 0 ∧ t.dmaW7 c ws (t.dmaC c).written = (0, v) ∧ u = (if bit (dW ws 0) 29 then
      (v.bump F.DMA_CH_COUNT_DESCRIPTORS c).pulse (416 + c) else v.bump F.DMA_CH_COUNT_DESCRIPTORS c)) ∧
    (∃ (s t : State) (c : Fin 32) (bad : Option Nat) (ws : List Nat), s.awake ∧ (s.dmaC c).desc = some ws ∧ t =
      State.dmaFinish c bad (s.dmaTurns c) s ∧ (t.dmaC c).err ≠ 0) :=
  ⟨⟨State.reset, 0, 0, by decide, by decide⟩,
   ⟨State.reset |>.setF F.DMA_CH_STATUS_STOP_CAUSE 0 0 |>.setDma 0 { desc := none }, 0, 0, by decide, by decide, by decide,
     by decide⟩,
   ⟨State.reset |>.setF F.DMA_CH_STATUS_STOP_CAUSE 0 0 |>.setDma 0 { desc := some [] }, 0, 0, by decide, by decide, by
     decide, by decide⟩,
   ⟨State.reset |>.setF F.DMA_CH_STATUS_STOP_CAUSE 1 0, _, 0, 0, _, by decide, by decide, by decide, rfl, rfl⟩,
   ⟨State.reset |>.setF F.DMA_CFG_EN 1 |>.setF F.FAB_FW_BASE_EN 1 18 0 |>.setF F.FAB_FW_BASE_R 1 18 0 |>.setF
     F.FAB_FW_BASE_W 1 18 0 |>.setF F.FAB_FW_LIMIT_LIMIT 0xFFFFF 18 0 |>.setDma 0 { queue := [0x24000000] }, _, 0, false,
     0x24000000, _, _, _, by decide, by decide, by decide, rfl, rfl⟩,
   ⟨State.reset |>.setF F.FAB_FW_BASE_EN 1 18 0 |>.setF F.FAB_FW_BASE_R 1 18 0 |>.setF F.FAB_FW_BASE_W 1 18 0 |>.setF
     F.FAB_FW_LIMIT_LIMIT 0xFFFFF 18 0 |>.setDma 0 { desc := some [0x8E600000, 0, 0x24000000, 4, 0, 0, 0, 0] }, _, _, _, 0,
     [0x8E600000, 0, 0x24000000, 4, 0, 0, 0, 0], by decide, by decide, rfl, by decide, rfl, rfl⟩,
   ⟨State.reset |>.setDma 0 { desc := some [0x8E600000, 0, 0x24000000, 4, 0, 0, 0, 0] }, _, 0, none, [0x8E600000, 0,
     0x24000000, 4, 0, 0, 0, 0], by decide, by decide, rfl, by decide⟩⟩

/-- Witnesses for EventCommandsComplete, clause by clause. -/
theorem witness_EventCommandsComplete :
    (∃ (s : State) (l : Fin 1024), s.awake ∧ pulseLine l) ∧
    (∃ (s : State) (l : Fin 1024), s.awake ∧ levelLine l) ∧
    (∃ (s u : State) (t : Fin 23) (wd : Fin 32) (w : Word), s.reach (regAddr .EVC_EN t wd) ∧ u = s.writeReg .EVC_EN (if
      wd.val = 31 then w.toNat % 2 ^ 31 else w.toNat) t wd ∧ (∀ b < 32, bit (u.f F.EVC_EN_EN t wd) b → bit (s.f F.EVC_EN_EN
      t wd) b = false → u.asserted (32 * wd + b) = false)) ∧
    (∃ (s : State) (l : Nat), s.reach (regAddr .EVC_CLAIM) ∧ s.bestLine (s.deliverable 0) = some l) ∧
    (∃ (s : State) (w : Word) (l : Nat), s.reach (regAddr .EVC_COMPLETE) ∧ bits w.toNat 0 10 = l ∧ s.evSvc 0 l ∧ (s.setSvc
      0 l false).asserted l = false) ∧
    (∃ (s : State) (w : Word) (l : Nat), s.reach (regAddr .EVC_COMPLETE) ∧ bits w.toNat 0 10 = l ∧ s.evSvc 0 l ∧ (s.setSvc
      0 l false).asserted l) ∧
    (∃ (s : State) (w : Word), s.reach (regAddr .EVC_CTRL)) ∧
    (∃ (s : State) (w : Word) (l : Nat), s.reach (regAddr .EVC_SWSET) ∧ bits w.toNat 0 10 = l ∧ 512 ≤ l ∧ l ≤ 1022) ∧
    (∃ (s : State) (w : Word) (l : Nat), s.reach (regAddr .EVC_ALERT_CLR) ∧ bits w.toNat 0 10 = l ∧ (s.clrB F.EVC_PEND_PEND
      (l % 32) 22 (l / 32)).asserted l = false) :=
  ⟨⟨State.reset, 512, by decide, by decide⟩,
   ⟨State.reset, 0, by decide, by decide⟩,
   ⟨State.reset, _, 0, 0, 0, by decide, rfl, by decide⟩,
   ⟨State.reset |>.setF F.EVC_CTRL_GDIS 0 |>.setF F.EVC_EN_EN 1 0 16 |>.setF F.EVC_PEND_PEND 1 0 16 |>.setF F.EVC_PRIO_PRIO
     1 512, 512, by decide, by decide⟩,
   ⟨{ State.reset with evc := { inSvc := [(0, true)] } }, 0, 0, by decide, by decide, by decide, by decide⟩,
   ⟨{ State.reset with evc := { inSvc := [(0, true)], asserted := [(0, true)] } }, 0, 0, by decide, by decide, by decide,
     by decide⟩,
   ⟨State.reset, 0, by decide⟩,
   ⟨State.reset, 512, 512, by decide, by decide, by decide, by decide⟩,
   ⟨State.reset, 0, 0, by decide, by decide, by decide⟩⟩

/-- Witnesses for HousekeepingCommandsComplete, clause by clause. -/
theorem witness_HousekeepingCommandsComplete :
    (∃ (s : State) (k : Fin 2) (w : Word) (u : State), s.reach (regAddr .HKA_CTRL k) ∧ s.on F.HKA_CTRL_EN k = false ∧ bit
      (forceBits w.toNat (2 ^ 31)) 30 = false ∧ bit (forceBits w.toNat (2 ^ 31)) 29 = false ∧ bit (forceBits w.toNat (2 ^
      31)) 28 = false ∧ u = s.writeReg .HKA_CTRL (forceBits w.toNat (2 ^ 31)) k) ∧
    (∃ (s u : State) (k : Fin 2) (w : Word), s.reach (regAddr .HKA_CTRL k) ∧ bit w.toNat 31 ∧ bit w.toNat 30 = false ∧ bit
      w.toNat 29 = false ∧ s.on F.HKA_CTRL_EN k ∧ u = s.writeReg .HKA_CTRL (forceBits w.toNat (2 ^ 28)) k ∧ u.f
      F.HKA_CTRL_TRIG k = 0 ∧ u.hkOn k ∧ (u.hkC k).pass = false ∧ (u.hkC k).regWait = false) ∧
    (∃ (s u : State) (k : Fin 2) (w : Word), s.reach (regAddr .HKA_CTRL k) ∧ bit w.toNat 31 ∧ bit w.toNat 30 = false ∧ bit
      w.toNat 28 = false ∧ s.on F.HKA_CTRL_EN k ∧ u = s.writeReg .HKA_CTRL (forceBits w.toNat (2 ^ 29)) k ∧ u.on
      F.HKA_INJ_ITRIG k = false ∧ u.hkOn k ∧ (u.hkC k).occ = false ∧ u.f F.HKA_INJ_ICH k ≠ 31) ∧
    (∃ (s u : State) (k : Fin 2) (w : Word), s.reach (regAddr .HKA_CTRL k) ∧ bit w.toNat 31 ∧ bit w.toNat 29 = false ∧ bit
      w.toNat 28 = false ∧ s.on F.HKA_CTRL_EN k ∧ u = s.writeReg .HKA_CTRL (forceBits w.toNat (2 ^ 30)) k ∧ u.hkOn k ∧
      (u.hkC k).cal = false) ∧
    (∃ (s : State) (k : Fin 2) (t : Nat), s.awake ∧ s.hkOn k ∧ s.f F.HKA_CTRL_TRIG k = 1 ∧ (s.hkC k).timer = some t ∧ t ≤
      s.el25) ∧
    (∃ (s : State) (k : Fin 2) (t : Nat) (ts : List Nat), s.awake ∧ s.hkOn k ∧ s.f F.HKA_CTRL_TRIG k = 2 ∧ (s.hkC
      k).regDelay = t :: ts ∧ t ≤ s.el25) ∧
    (∃ (s : State) (k : Fin 2) (t : Nat) (ts : List Nat), s.awake ∧ s.hkOn k ∧ (s.hkC k).injDelay = t :: ts ∧ t ≤ s.el25) ∧
    (∃ (s u v : State) (k : Fin 2) (c d : Fin 4096) (o : Bool), s.awake ∧ (s.hkC k).conv ∧ (s.hkC k).due ≤ s.el25 ∧ s.hkOn
      k ∧ o = s.owOpen k (s.hkC k).cfg c d ∧ u = (((s.setF F.HKA_RESULT_VALID 1 k (s.hkC k).entry).setF F.HKA_RESULT_OPEN
      (b2n o) k (s.hkC k).entry).setF F.HKA_RESULT_PASS ((s.f F.HKA_STATUS_PASSES k + passBase) % 256) k (s.hkC
      k).entry).setF F.HKA_RESULT_CODE (owCode (s.hkC k).cfg c d) k (s.hkC k).entry ∧ v = u.owReport k (s.hkC k).cfg o ∧
      (s.hkC k).entry < s.f F.HKA_CTRL_LEN k) ∧
    (∃ (s u v : State) (k : Fin 2) (c d : Fin 4096) (o : Bool), s.awake ∧ (s.hkC k).conv ∧ (s.hkC k).due ≤ s.el25 ∧ s.hkOn
      k ∧ o = s.owOpen k (s.hkC k).cfg c d ∧ u = (((s.setF F.HKA_RESULT_VALID 1 k (s.hkC k).entry).setF F.HKA_RESULT_OPEN
      (b2n o) k (s.hkC k).entry).setF F.HKA_RESULT_PASS ((s.f F.HKA_STATUS_PASSES k + passBase) % 256) k (s.hkC
      k).entry).setF F.HKA_RESULT_CODE (owCode (s.hkC k).cfg c d) k (s.hkC k).entry ∧ v = u.owReport k (s.hkC k).cfg o ∧
      ¬(s.hkC k).entry < s.f F.HKA_CTRL_LEN k) ∧
    (∃ (s : State) (k : Fin 2) (c d x : Fin 4096) (o : Bool), s.awake ∧ (s.hkC k).inj ∧ (s.hkC k).due ≤ s.el25 ∧ s.hkOn k ∧
      (s.hkC k).xchk = false ∧ o = s.owOpen k (s.hkC k).injCfg c d) ∧
    (∃ (s : State) (c d x : Fin 4096), s.awake ∧ (s.hkC 0).inj ∧ (s.hkC 0).due ≤ s.el25 ∧ s.hkOn 0 ∧ (s.hkC 0).xchk) ∧
    (∃ (s : State) (k : Fin 2) (t : Nat), s.awake ∧ (s.hkC k).calTimer = some t ∧ t ≤ s.el25 ∧ s.f F.HKA_CAL_PERIOD_MS k ≠
      0 ∧ s.hkOn k) ∧
    (∃ (s : State) (k : Fin 2), s.awake ∧ (s.hkC k).cal ∧ (s.hkC k).due ≤ s.el25) ∧
    (∃ (s : State) (n : Fin 8) (v : Bool), s.awake ∧ (s.pwmG n).run ∧ v = decide (s.pwmCount n < (s.pwmG n).duty) ∧ v ≠
      (s.pwmG n).level ∧ s.absent 20 = false) ∧
    (∃ (s : State) (n : Fin 8), s.awake ∧ (s.pwmG n).run ∧ (s.pwmG n).period < s.pwmCount n ∧ s.absent 20 = false ∧ s.on
      F.PWM_CTRL_EN n) ∧
    (∃ (s : State) (n : Fin 8), s.awake ∧ (s.pwmG n).run ∧ (s.pwmG n).period < s.pwmCount n ∧ s.absent 20 = false ∧ s.on
      F.PWM_CTRL_EN n = false) :=
  ⟨⟨State.reset |>.setF F.HKA_CTRL_EN 0 0, 0, 0, _, by decide, by decide, by decide, by decide, by decide, rfl⟩,
   ⟨State.reset |>.setF F.HKA_CTRL_EN 1 0, _, 0, 0x80000000, by decide, by decide, by decide, by decide, by decide, rfl, by
     decide, by decide, by decide, by decide⟩,
   ⟨State.reset |>.setF F.HKA_CTRL_EN 1 0, _, 0, 0x80000000, by decide, by decide, by decide, by decide, by decide, rfl, by
     decide, by decide, by decide, by decide⟩,
   ⟨State.reset |>.setF F.HKA_CTRL_EN 1 0, _, 0, 0x80000000, by decide, by decide, by decide, by decide, by decide, rfl, by
     decide, by decide⟩,
   ⟨State.reset |>.setF F.HKA_CTRL_EN 1 0 |>.setF F.HKA_CTRL_TRIG 1 0 |>.setHk 0 { timer := some 0 }, 0, 0, by decide, by
     decide, by decide, by decide, by decide⟩,
   ⟨State.reset |>.setF F.HKA_CTRL_EN 1 0 |>.setF F.HKA_CTRL_TRIG 2 0 |>.setHk 0 { regDelay := 0 :: ([]) }, 0, 0, [], by
     decide, by decide, by decide, by decide, by decide⟩,
   ⟨State.reset |>.setF F.HKA_CTRL_EN 1 0 |>.setHk 0 { injDelay := 0 :: ([]) }, 0, 0, [], by decide, by decide, by decide,
     by decide⟩,
   ⟨State.reset |>.setF F.HKA_CTRL_EN 1 0 |>.setF F.HKA_CTRL_LEN 1 0 |>.setHk 0 { conv := true }, _, _, 0, 0, 0, _, by
     decide, by decide, by decide, by decide, rfl, rfl, rfl, by decide⟩,
   ⟨State.reset |>.setF F.HKA_CTRL_EN 1 0 |>.setHk 0 { conv := true }, _, _, 0, 0, 0, _, by decide, by decide, by decide,
     by decide, rfl, rfl, rfl, by decide⟩,
   ⟨State.reset |>.setF F.HKA_CTRL_EN 1 0 |>.setHk 0 { inj := true, xchk := false }, 0, 0, 0, 0, _, by decide, by decide,
     by decide, by decide, by decide, rfl⟩,
   ⟨State.reset |>.setF F.HKA_CTRL_EN 1 0 |>.setHk 0 { inj := true, xchk := true }, 0, 0, 0, by decide, by decide, by
     decide, by decide, by decide⟩,
   ⟨State.reset |>.setF F.HKA_CAL_PERIOD_MS 1 0 |>.setF F.HKA_CTRL_EN 1 0 |>.setHk 0 { calTimer := some 0 }, 0, 0, by
     decide, by decide, by decide, by decide, by decide⟩,
   ⟨State.reset |>.setHk 0 { cal := true }, 0, by decide, by decide, by decide⟩,
   ⟨State.reset |>.setPwm 0 { run := true, duty := 1 }, 0, true, by decide, by decide, by decide, by decide, by decide⟩,
   ⟨({ State.reset with elapsed := 4915200000 } : State) |>.setF F.PWM_CTRL_EN 1 0 |>.setPwm 0 { run := true }, 0, by
     decide, by decide, by decide, by decide, by decide⟩,
   ⟨({ State.reset with elapsed := 4915200000 } : State) |>.setF F.PWM_CTRL_EN 0 0 |>.setPwm 0 { run := true }, 0, by
     decide, by decide, by decide, by decide, by decide⟩⟩

/-- Witnesses for ClockCommandsComplete, clause by clause. -/
theorem witness_ClockCommandsComplete :
    (∃ (s : State) (w : Word), s.reach (regAddr .CLK_CFG)) ∧
    (∃ (s : State), s.awake ∧ s.on F.CLK_CFG_PLL_EN) ∧
    (∃ (s : State) (p : Fin 4), s.awake ∧ s.on F.CLK_CFG_PLL_EN) ∧
    (∃ (s : State) (m : Fin 4), s.awake ∧ s.on F.RFC_LOS_CTRL_EN m ∧ s.f F.RFC_LOS_STATUS_FREQ_IN_EFFECT m ≠ 0 ∧ (s.synth
      m).relock = false) ∧
    (∃ (s : State), s.awake) ∧
    (∃ (s : State) (p : Fin 4), s.awake) ∧
    (∃ (s : State) (m : Fin 4), s.awake) ∧
    (∃ (s : State) (r : Bool) (x : Fin 64), s.asleep = false ∧ (s.edgeCapture x).power.entry < 2 ∧ r ≠ s.on
      F.CLK_SYNC_CFG_EDGE ∧ s.f F.CLK_SYNC_CFG_MODE = 1 ∧ s.clk.oneShot = false) ∧
    (∃ (s : State) (r : Bool) (x : Fin 64), s.asleep = false ∧ r ≠ s.on F.CLK_SYNC_CFG_EDGE ∧ s.f F.CLK_SYNC_CFG_MODE = 1 ∧
      s.clk.oneShot ∧ ((s.edgeCapture x).edgeLoad x).power.entry < 2) ∧
    (∃ (s : State) (t : Nat), s.awake ∧ s.f F.CLK_SYNC_CFG_MODE = 2 ∧ s.f F.CLK_SYNC_PHASE_PHASE < s.f
      F.CLK_SYNC_PERIOD_PERIOD ∧ t = s.nextExpected ∧ t + s.f F.CLK_SYNC_CFG_WIN < s.now) ∧
    (∃ (s : State), s.awake ∧ s.stepDue ∧ s.clk.target < 0) ∧
    (∃ (s : State), s.awake ∧ s.stepDue ∧ ¬s.clk.target < 0) ∧
    (∃ (s : State), s.awake ∧ (s.f F.CLK_DISC_STATUS_STATE = 1 ∨ s.f F.CLK_DISC_STATUS_STATE = 2) ∧ s.clk.lastMeas + s.f
      F.CLK_DISC_LIMITS_HOLD_MS * msTicks ≤ s.elapsed) ∧
    (∃ (s u : State) (w : Word), s.reach (regAddr .CLK_CLKOUT_CFG) ∧ u = s.writeReg .CLK_CLKOUT_CFG w.toNat ∧ u.clk.outSrc
      = 0) :=
  ⟨⟨State.reset, 0, by decide⟩,
   ⟨State.reset |>.setF F.CLK_CFG_PLL_EN 1, by decide, by decide⟩,
   ⟨State.reset |>.setF F.CLK_CFG_PLL_EN 1, 0, by decide, by decide⟩,
   ⟨State.reset |>.setF F.RFC_LOS_CTRL_EN 1 0 |>.setF F.RFC_LOS_STATUS_FREQ_IN_EFFECT 1 0 |>.setSynth 0
     { relock := false }, 0, by decide, by decide, by decide, by decide⟩,
   ⟨State.reset, by decide⟩,
   ⟨State.reset, 0, by decide⟩,
   ⟨State.reset, 0, by decide⟩,
   ⟨({ State.reset with clk := { oneShot := false } } : State) |>.setF F.CLK_SYNC_CFG_MODE 1, true, 0, by decide, by
     decide, by decide, by decide, by decide⟩,
   ⟨({ State.reset with clk := { oneShot := true } } : State) |>.setF F.CLK_SYNC_CFG_MODE 1, true, 0, by decide, by decide,
     by decide, by decide, by decide⟩,
   ⟨({ State.reset with time := 49152000000 } : State) |>.setF F.CLK_SYNC_CFG_MODE 2 |>.setF F.CLK_SYNC_PERIOD_PERIOD
     4915200, _, by decide, by decide, by decide, rfl, by decide⟩,
   ⟨{ State.reset with clk := { target := -1 } }, by decide, by decide, by decide⟩,
   ⟨{ State.reset with clk := { target := 1 } }, by decide, by decide, by decide⟩,
   ⟨({ State.reset with elapsed := 49152000000 } : State) |>.setF F.CLK_DISC_STATUS_STATE 1, by decide, by decide, by
     decide⟩,
   ⟨State.reset, _, 0, by decide, rfl, by decide⟩⟩

/-- Witnesses for SupplyAndWakeCommandsComplete, clause by clause. -/
theorem witness_SupplyAndWakeCommandsComplete :
    (∃ (s u v : State) (w : Word), s.reach (regAddr .PWR_PERF) ∧ u = s.writeReg .PWR_PERF w.toNat ∧ u.power.entry < 2 ∧
      u.asleep = false ∧ u.on F.PWR_PERF_BUSY = false ∧ u.avsSettled ∧ u.f F.PWR_PERF_REQ ≠ u.f F.PWR_PERF_IN_EFFECT ∧ v =
      (if u.f F.PWR_PERF_IN_EFFECT < u.f F.PWR_PERF_REQ then ((u.setF F.PWR_PERF_BUSY 1).unsettle).switchClocks (u.f
      F.PWR_PERF_REQ) else (u.setF F.PWR_PERF_BUSY 1).unsettle) ∧ v.avsDriven = false) ∧
    (∃ (s u : State) (l : Nat), s.awake ∧ s.power.levelTo = some l ∧ u = (if s.f F.PWR_PERF_IN_EFFECT = l then s else
      s.switchClocks l)) ∧
    (∃ (s : State) (l : Nat), s.awake ∧ s.power.levelTo = some l ∧ us25 4000 ≤ (s.elapsed - s.power.avsAt) * 25) ∧
    (∃ (s : State) (r : Fin 16), s.awake ∧ s.on F.PWR_AVS_CFG_EN) ∧
    (∃ (s t u : State) (m : Fin 64), s.awake ∧ s.on F.PWR_AVS_CFG_LOOP_EN ∧ s.on F.PWR_PERF_BUSY = false ∧ s.power.loopWait
      = false ∧ s.loopDue ∧ t = { s with power := { s.power with loopAt := s.elapsed } } ∧ m.val < s.f
      F.PWR_AVS_LOOP_TARGET ∧ (t.setF F.PWR_AVS_STATUS_MARGIN m).trimStep 1 = some u) ∧
    (∃ (s t : State) (m : Fin 64), s.awake ∧ s.on F.PWR_AVS_CFG_LOOP_EN ∧ s.on F.PWR_PERF_BUSY = false ∧ s.power.loopWait =
      false ∧ s.loopDue ∧ t = { s with power := { s.power with loopAt := s.elapsed } } ∧ ¬m.val < s.f F.PWR_AVS_LOOP_TARGET
      ∧ ¬s.f F.PWR_AVS_LOOP_TARGET + s.f F.PWR_AVS_LOOP_HYST < m.val) ∧
    (∃ (s : State) (n : Fin 6), bit (s.f F.PWR_WAKE_EN_EN) n ∧ s.clk.xtal ∧ s.asleep ∧ s.power.entry < 2 ∧ actsIn n (if
      s.power.st = .dusk then 2 else 3) ∧ s.power.waking = false) ∧
    (∃ (s : State) (n : Fin 6), bit (s.f F.PWR_WAKE_EN_EN) n ∧ s.clk.xtal ∧ 2 ≤ s.power.entry ∧ actsIn n s.power.entry) ∧
    (∃ (s : State), s.f F.PWR_TIMER_COUNT = s.f F.PWR_TIMER_CMP_CMP ∧ s.power.matched = false ∧ s.clk.xtal ∧ s.asleep =
      false) ∧
    (∃ (s u : State) (t : Fin 17), s.modOver t ∧ s.asleep = false ∧ t.val ≠ 0 ∧ u = ((s.setModT t { met := true }).setF
      F.EVC_TGT_STATUS_TIMER_RUN 0 t).setF F.EVC_TGT_STATUS_SLOW 0 t) ∧
    (∃ (s : State) (l : Fin 16), s.ready? l ∧ s.rxLpi l) :=
  ⟨⟨State.reset, _, _, 1, by decide, rfl, by decide, by decide, by decide, by decide, by decide, rfl, by decide⟩,
   ⟨{ State.reset with power := { levelTo := some 0 } }, _, 0, by decide, by decide, rfl⟩,
   ⟨{ State.reset with power := { levelTo := some 0 }, elapsed := 4915200000 }, 0, by decide, by decide, by decide⟩,
   ⟨State.reset |>.setF F.PWR_AVS_CFG_EN 1, 0, by decide, by decide⟩,
   ⟨({ State.reset with power := { loopWait := false }, elapsed := 4915200 } : State) |>.setF F.PWR_AVS_CFG_LOOP_EN 1
     |>.setF F.PWR_PERF_BUSY 0 |>.setF F.PWR_AVS_LOOP_TARGET 9 |>.setF F.PWR_AVS_STATUS_VOLT_MV 700, _, _, 0, by decide, by
     decide, by decide, by decide, by decide, rfl, by decide, rfl⟩,
   ⟨({ State.reset with power := { loopWait := false }, elapsed := 4915200 } : State) |>.setF F.PWR_AVS_CFG_LOOP_EN 1
     |>.setF F.PWR_PERF_BUSY 0 |>.setF F.PWR_AVS_LOOP_TARGET 63, _, 63, by decide, by decide, by decide, by decide, by
     decide, rfl, by decide, by decide⟩,
   ⟨({ State.reset with clk := { xtal := true }, power := { waking := false, st := .dusk } } : State) |>.setF
     F.PWR_WAKE_EN_EN 1, 0, by decide, by decide, by decide, by decide, by decide, by decide⟩,
   ⟨({ State.reset with clk := { xtal := true }, power := { entry := 2 } } : State) |>.setF F.PWR_WAKE_EN_EN 1, 0, by
     decide, by decide, by decide, by decide⟩,
   ⟨({ State.reset with power := { matched := false }, clk := { xtal := true } } : State) |>.setF F.PWR_TIMER_CMP_CMP 0, by
     decide, by decide, by decide, by decide⟩,
   ⟨State.reset |>.setF F.EVC_TGT_STATUS_TIMER_RUN 1 1, _, 1, by decide, by decide, by decide, rfl⟩,
   ⟨State.reset |>.setF F.LNK_CFG_EN 1 0 |>.setF F.LANE_STATE_READY 1 0 0 |>.setF F.LANE_STATE_RX_LPI 1 0 0, 0, by decide,
     by decide⟩⟩

/-- Witnesses for PowerEntryAndWakeCommandsComplete, clause by clause. -/
theorem witness_PowerEntryAndWakeCommandsComplete :
    (∃ (s : State) (w : Word), s.reach (regAddr .PWR_MODE) ∧ (bits w.toNat 0 2 ≠ 2 ∨ Nat.land (s.f F.PWR_WAKE_EN_EN)
      duskSources ≠ 0) ∧ (bits w.toNat 0 2 ≠ 3 ∨ Nat.land (s.f F.PWR_WAKE_EN_EN) darkSources ≠ 0)) ∧
    (∃ (s u : State), s.awake ∧ s.power.entry = 0 ∧ s.power.st = .bright ∧ s.boot.lanternHeld = false ∧ (s.f
      F.PWR_MODE_MODE = 2 ∨ s.f F.PWR_MODE_MODE = 3) ∧ u =
      { s with power := { s.power with entry := s.f F.PWR_MODE_MODE, passed := 0, at_ := s.elapsed, wfi := true } } ∧
      u.firstChecks (s.f F.PWR_MODE_MODE) = none) ∧
    (∃ (s : State), s.awake ∧ s.power.entry = 0 ∧ s.power.st = .bright ∧ s.boot.lanternHeld = false ∧ s.f F.PWR_MODE_MODE =
      0 ∧ s.on F.EVC_TGT_STATUS_PRESENTED 0 = false) ∧
    (∃ (s u : State) (c : Nat), s.awake ∧ u = s.entryPoll ∧ u.dmaBusy = some c ∧ 2 ≤ u.power.entry ∧ u.power.passed = 5 ∧
      us25 50 ≤ u.checkAge) ∧
    (∃ (s u : State) (p : Nat), s.awake ∧ u = s.entryPoll ∧ (List.range 4).find? u.portBusy = some p ∧ 2 ≤ u.power.entry ∧
      u.power.passed = 6 ∧ us25 20 ≤ u.checkAge) ∧
    (∃ (s u : State) (b : Fin 256), s.awake ∧ u = s.entryPoll ∧ 2 ≤ u.power.entry ∧ u.power.passed = 7 ∧ cyc25 256
      (u.blockClk b) ≤ u.checkAge) ∧
    (∃ (s u : State), s.awake ∧ u = s.entryPoll ∧ 2 ≤ u.power.entry ∧ u.power.passed = 7 ∧ u.fab.waiting = [] ∧ u.fab.mramQ
      = []) ∧
    (∃ (s : State) (b : Fin 65536), s.asleep ∧ s.power.waking ∧ s.clk.xtal ∧ s.power.latchAt < s.aoPeriod) ∧
    (∃ (s : State) (x : Fin 8), s.asleep ∧ s.power.waking ∧ s.clk.xtal ∧ s.power.latchAt < s.aoPeriod ∧ s.power.attempt < 3
      ∧ s.stepExceeded x) ∧
    (∃ (s : State) (w : Word), s.reach (regAddr .PWR_WAKE_STATUS) ∧ (bit (w.toNat ||| 2 ^ 30) 31 = false ∨ s.on
      F.PWR_WAKE_STATUS_WAKE_FAIL_SEEN = false)) ∧
    (∃ (s u : State) (w : Word), s.reach (regAddr .PWR_WAKE_STATUS) ∧ s.on F.PWR_WAKE_STATUS_WAKE_FAIL_SEEN ∧ bit (w.toNat
      ||| 2 ^ 31) 30 = false ∧ u = s.setF F.PWR_WAKE_STATUS_BANK_FAIL (s.f F.PWR_WAKE_STATUS_BANK_FAIL - Nat.land (s.f
      F.PWR_WAKE_STATUS_BANK_FAIL) (bits (w.toNat ||| 2 ^ 31) 0 16))) :=
  ⟨⟨State.reset, 0, by decide, by decide, by decide⟩,
   ⟨({ State.reset with power := { entry := 0, st := .bright }, boot := { lanternHeld := false } } : State) |>.setF
     F.PWR_MODE_MODE 2, _, by decide, by decide, by decide, by decide, by decide, rfl, by decide⟩,
   ⟨({ State.reset with power := { entry := 0, st := .bright }, boot := { lanternHeld := false } } : State) |>.setF
     F.PWR_MODE_MODE 0 |>.setF F.EVC_TGT_STATUS_PRESENTED 0 0, by decide, by decide, by decide, by decide, by decide, by
     decide⟩,
   ⟨({ State.reset with power := { entry := 2, passed := 5 }, elapsed := 4915200 } : State) |>.setDma 0
     { desc := some [] }, _, 0, by decide, rfl, by decide, by decide, by decide, by decide⟩,
   ⟨({ State.reset with power := { entry := 2, passed := 6 }, elapsed := 4915200 } : State) |>.setF F.LNK_CFG_EN 1 0
     |>.setF F.LANE_STATE_READY 1 0 0 |>.setF F.LANE_STATE_READY 1 0 1 |>.setF F.LANE_STATE_READY 1 0 2 |>.setF
     F.LANE_STATE_READY 1 0 3, _, 0, by decide, rfl, by decide, by decide, by decide, by decide⟩,
   ⟨{ State.reset with power := { entry := 2, passed := 7 }, elapsed := 4915200 }, _, 0, by decide, rfl, by decide, by
     decide, by decide⟩,
   ⟨{ State.reset with power := { entry := 2, passed := 7 } }, _, by decide, rfl, by decide, by decide, by decide, by
     decide⟩,
   ⟨{ State.reset with power := { waking := true, st := .dusk }, clk := { xtal := true }, elapsed := 4915200 }, 0, by
     decide, by decide, by decide, Nat.div_pos (Nat.le_add_right_of_le (by decide)) (by decide)⟩,
   ⟨{ State.reset with power := { waking := true, st := .dusk }, clk := { xtal := true }, elapsed := 49152000 }, 3, by
     decide, by decide, by decide, Nat.div_pos (Nat.le_add_right_of_le (by decide)) (by decide), by decide, by decide⟩,
   ⟨State.reset, 0, by decide, by decide⟩,
   ⟨State.reset |>.setF F.PWR_WAKE_STATUS_WAKE_FAIL_SEEN 1, _, 0, by decide, by decide, by decide, rfl⟩⟩

/-- Witnesses for BootAndSealCommandsComplete, clause by clause. -/
theorem witness_BootAndSealCommandsComplete :
    (∃ (s u v : State) (found : Bool) (half : FlashPart) (a b : FlashImage) (t r : Tried), s.inReset = false ∧ s.asleep =
      false ∧ s.romRuns ∧ s.boot.lanternHeld = false ∧ u = s.noteWakeFail.setF F.SYS_BOOT_STATUS_BOOT_SEL 0 ∧ t =
      u.tryImage a (FlashPart.half half) found ∧ v = (t.s.failNote false t).undo u ∧ r = v.tryImage b (FlashPart.half half)
      true) ∧
    (∃ (s u : State) (found : Bool) (half : FlashPart) (a b : FlashImage), s.inReset = false ∧ s.asleep = false ∧ s.romRuns
      ∧ s.boot.lanternHeld = false ∧ u = s.noteWakeFail.setF F.SYS_BOOT_STATUS_BOOT_SEL 3) ∧
    (∃ (s t : State) (x : FlashImage) (c : Nat) (r : BootRun), s.held ∧ s.asleep = false ∧ s.inReset = false ∧
      s.boot.lanternHeld = false ∧ s.f F.SYS_BOOT_STATUS_STATE = 1 ∧ t = (if x.imageLate then s else s.stage x) ∧ c =
      s.reloadCode x ∧ r = (if c = 0 then BootRun.sections { s := t, polls := x.polls } x true else { s := t, code := c })) ∧
    (∃ (s : State) (w : Word), s.reach (regAddr .SYS_SEAL)) ∧
    (∃ (s : State) (t : Nat), s.awake ∧ s.boot.sealAt = some t ∧ t ≤ s.elapsed) :=
  ⟨⟨{ State.reset with boot := { lanternHeld := false } }, _, _, false, { sfdp := true, density := 0x1FFFFFFF },
     { words := [] }, { words := [] }, _, _, by decide, by decide, by decide, by decide, rfl, rfl, rfl, rfl⟩,
   ⟨{ State.reset with boot := { lanternHeld := false } }, _, false, { sfdp := true, density := 0x1FFFFFFF },
     { words := [] }, { words := [] }, by decide, by decide, by decide, by decide, rfl⟩,
   ⟨({ State.reset with boot := { lanternHeld := false } } : State) |>.setF F.SYS_BOOT_STATUS_STATE 1 |>.setF
     F.PWR_WAKE_STATUS_HOLD 1, _, { words := [] }, _, _, by decide, by decide, by decide, by decide, by decide, rfl, rfl,
     rfl⟩,
   ⟨State.reset, 0, by decide⟩,
   ⟨{ State.reset with boot := { sealAt := some 0 } }, 0, by decide, by decide, by decide⟩⟩

/-- Witnesses for FaultAndResetCommandsComplete, clause by clause. -/
theorem witness_FaultAndResetCommandsComplete :
    (∃ (s u : State) (w : Word), s.reach (regAddr .FUSE_KEY_PROG) ∧ s.keyFuseOk (bits (w.toNat ||| 2 ^ 31) 0 10) ∧ u =
      ((s.writeReg .FUSE_KEY_PROG (w.toNat ||| 2 ^ 31)).setF F.FUSE_KEY_PROG_ERR 0).setF F.FUSE_KEY_PROG_BUSY 1) ∧
    (∃ (s : State), s.on F.FUSE_KEY_PROG_BUSY) ∧
    (∃ (s : State), s.on F.FUSE_REG_PROG_BUSY) ∧
    (∃ (s : State) (w : Word) (x : LedgerEntry), s.reach (regAddr .FLT_ACK) ∧ x ∈ s.faults.entries ∧ x.seq = bits w.toNat 0
      16) ∧
    (∃ (s : State) (w : Word), s.reach (regAddr .FLT_MBOX_DOOR) ∧ 512 ≤ s.f F.FLT_MBOX_CFG_LINE ∧ s.f F.FLT_MBOX_CFG_LINE ≤
      1022) ∧
    (∃ (s u : State) (w : Word), s.reach (regAddr .PTB_CTRL) ∧ bits (w.toNat ||| 2 ^ 31) 16 8 = 0x3C ∧ s.on F.PTB_CTRL_EN =
      false ∧ u = ((s.setF F.PTB_CTRL_EN 1).setF F.FLT_STATUS_PTB_ON 1).ledger 0x36 (w.toNat ||| 2 ^ 31)) ∧
    (∃ (s : State) (w : Word), s.reach (regAddr .PTB_CTRL)) ∧
    (∃ (s : State) (b : Fin 4), s.awake ∧ s.bpOn b ∧ s.bpPeriod b ∧ s.f F.PTB_BP_HOLD b ≠ 0 ∧ SMap.get 0 s.ptb.holds b = 0) ∧
    (∃ (s u : State) (b : Fin 4), s.awake ∧ s.bpOver b ∧ u =
      { s with ptb := { s.ptb with holds := SMap.set 0 s.ptb.holds b 0 } }) ∧
    (∃ (s u v : State) (w : Word) (n : Initiator) (d : Nat), s.reach (regAddr .FLT_DOM_RESET) ∧ u = s.writeReg
      .FLT_DOM_RESET (w.toNat ||| 2 ^ 31) ∧ d = u.f F.FLT_DOM_RESET_DOMAIN ∧ u.power.entry < 2 ∧ d ≤ 20 ∧ u.absent d =
      false ∧ v = ((u.setB F.FLT_DOM_STATUS_ABSENT d).setF F.FLT_DOM_RESET_BUSY 1).ledger 0x35 d (iniNum n)) ∧
    (∃ (s u : State) (d : Fin 21), s.awake ∧ s.absent d ∧ u = (s.clrB F.FLT_DOM_STATUS_ABSENT d).setF F.FLT_DOM_RESET_BUSY
      (b2n ((s.clrB F.FLT_DOM_STATUS_ABSENT d).f F.FLT_DOM_STATUS_ABSENT != 0)) ∧ d.val ≠ 16 ∧ d.val ≠ 20) ∧
    (∃ (s u : State), s.awake ∧ s.absent 16 ∧ u = (s.clrB F.FLT_DOM_STATUS_ABSENT 16).setF F.FLT_DOM_RESET_BUSY (b2n
      ((s.clrB F.FLT_DOM_STATUS_ABSENT 16).f F.FLT_DOM_STATUS_ABSENT != 0))) ∧
    (∃ (s : State), s.boot.por = false) ∧
    (∃ (s : State) (w : Word), s.reach (regAddr .SYS_RESET_CTRL) ∧ bits w.toNat 24 8 = 0xA5 ∧ bit w.toNat 0 ∧
      s.boot.resetAt = none) :=
  ⟨⟨State.reset, _, 0, by decide, by decide, rfl⟩,
   ⟨State.reset |>.setF F.FUSE_KEY_PROG_BUSY 1, by decide⟩,
   ⟨State.reset |>.setF F.FUSE_REG_PROG_BUSY 1, by decide⟩,
   ⟨{ State.reset with faults := { entries := [{ sev := 0, rep := 0, code := 1, seq := 0, argA := 0, argB := 0, time := 0 }] } },
     0, { sev := 0, rep := 0, code := 1, seq := 0, argA := 0, argB := 0, time := 0 }, by decide, by decide, by decide⟩,
   ⟨State.reset |>.setF F.FLT_MBOX_CFG_LINE 512, 0, by decide, by decide, by decide⟩,
   ⟨State.reset |>.setF F.PTB_CTRL_EN 0, _, 0x3C0000, by decide, by decide, by decide, rfl⟩,
   ⟨State.reset, 0, by decide⟩,
   ⟨State.reset |>.setF F.PTB_BP_HOLD 1 0 |>.setF F.PTB_CTRL_EN 1 |>.setF F.PTB_BP_ON 1 0, 0, by decide, by decide, by
     decide, by decide, by decide⟩,
   ⟨{ State.reset with ptb := { holds := [(0, 1024)] }, elapsed := 4915200 }, _, 0, by decide, by decide, rfl⟩,
   ⟨State.reset, _, _, 0, .lanternM, _, by decide, rfl, rfl, by decide, by decide, by decide, rfl⟩,
   ⟨State.reset |>.setF F.FLT_DOM_STATUS_ABSENT 1, _, 0, by decide, by decide, rfl, by decide, by decide⟩,
   ⟨State.reset |>.setF F.FLT_DOM_STATUS_ABSENT 0x10000, _, by decide, by decide, rfl⟩,
   ⟨{ State.reset with boot := { por := false } }, by decide⟩,
   ⟨{ State.reset with boot := { resetAt := none } }, 0xA5000001, by decide, by decide, by decide, by decide⟩⟩

/-- Witnesses for ServiceAndRegisterCommandsComplete, clause by clause. -/
theorem witness_ServiceAndRegisterCommandsComplete :
    (∃ (s : State) (a : Word) (n : Fin 64), s.svc.op = none ∧ s.inReset = false) ∧
    (∃ (s : State), s.svc.op = none ∧ s.inReset = false) ∧
    (∃ (s : State) (a : Word) (ws : List Word), s.svc.op = none ∧ s.inReset = false ∧ ws ≠ []) ∧
    (∃ (s : State), s.inReset = false) ∧
    (∃ (s t : State) (e : Fin 3) (o : SvcOp) (code v : Nat), s.inReset = false ∧ s.svc.op = some o ∧ s.access .svc 23 (if
      o.write then .write else .read) o.addr 4 (o.data.headD 0) e = (code, v, t)) ∧
    (∃ (s t : State) (wr : Bool) (a w : Word) (e : Fin 3) (code v : Nat), s.inReset = false ∧ s.access .jtag 24 (if wr then
      .write else .read) a.toNat 4 w.toNat e = (code, v, t)) ∧
    (∃ (s : State), (s.f F.SYS_BOOT_STATUS_STATE = 2 ∨ s.f F.SYS_BOOT_STATUS_STATE = 3)) ∧
    (∃ (s : State) (n : Initiator) (a w : Word), s.reach a.toNat) ∧
    (∃ (s : State) (r : Reader) (a : Word), s.reach a.toNat ∧ hasRC a.toNat) ∧
    (∃ (s : State) (r : Reader) (a : Word), s.reach a.toNat ∧ (findReg a.toNat).any (fun x => lowWord x.1.name)) ∧
    (∃ (s : State) (r : Reader) (h : Holding), s.holding (readerNum r) = some h ∧ us25 1 ≤ (s.elapsed - h.at_) * 25) ∧
    (∃ (s : State) (n : Initiator) (w : Word), s.reach (regAddr .FAB_PROXY) ∧ proxyOk n .write (regAddr .FAB_PROXY)) ∧
    (∃ (s u : State) (x : TickIn), u = (s.core (s.samplesTick x)).advance) :=
  ⟨⟨{ State.reset with svc := { op := none } }, 0, 0, by decide, by decide⟩,
   ⟨{ State.reset with svc := { op := none } }, by decide, by decide⟩,
   ⟨{ State.reset with svc := { op := none } }, 0, [1], by decide, by decide, by decide⟩,
   ⟨State.reset, by decide⟩,
   ⟨{ State.reset with svc := { op := some { write := false, addr := 0x24000000, left := 0, data := [] } } }, _, 0,
     { write := false, addr := 0x24000000, left := 0, data := [] }, _, _, by decide, by decide, rfl⟩,
   ⟨State.reset, _, false, 0, 0, 0, _, _, by decide, rfl⟩,
   ⟨State.reset |>.setF F.SYS_BOOT_STATUS_STATE 2, by decide⟩,
   ⟨State.reset, .lanternM, 0, 0, by decide⟩,
   ⟨State.reset, (.ini .lanternM), 0x40401040, by decide, by decide⟩,
   ⟨State.reset, (.ini .lanternM), 0x40010070, by decide, by decide⟩,
   ⟨{ State.reset with fab := { hold := [(0, { addr := 0, val := 0, at_ := 0 })] }, elapsed := 4915200 }, (.ini .lanternM),
     { addr := 0, val := 0, at_ := 0 }, by decide, by decide⟩,
   ⟨State.reset, .lanternM, 0, by decide, by decide⟩,
   ⟨State.reset, _, {}, rfl⟩⟩

end Sys2Proof.Tests
end

/-! ## Reads and writes of register addresses (R11, R14) -/

namespace Sys2Proof.Machine

/-! ### An address that holds no register -/

/-- R14 for reads. -/
theorem State.regRead_of_findReg_none {a : Nat} (h : findReg a = none) (s : State) (rd : Nat) : s.regRead rd a = (0, s) := by
  rw [State.regRead, h]

/-- R14 for writes. -/
theorem State.regWrite_of_findReg_none {a : Nat} (h : findReg a = none) (s : State) (ini v : Nat) : s.regWrite ini a v = s := by
  rw [State.regWrite, h]

/-- A fabric read in a register block is a register read. -/
theorem State.loadAt_of_reg {a : Nat} (h : regionOf a = .reg) (s : State) (rd n ecc : Nat) :
    s.loadAt rd a n ecc = (0, (s.regRead rd a).1, (s.regRead rd a).2) := by
  rw [State.loadAt, h]

/-- REGISTER_WRITE that reaches its register has the effect of the write. -/
theorem exec_registerWrite_of_reach {s : State} {a : Word} (h : s.reach a.toNat = true) (ini : Initiator) (w : Word) :
    exec (.registerWrite ini a w) s = .next (s.regWrite (iniNum ini) a.toNat w.toNat) :=
  State.regCmd_reach h _

/-! ### What a read of a register does -/

/-- READ_CLEAR that reaches a register with RC fields reads it and answers its reader. -/
theorem exec_readClear_of_reach {s : State} {a : Word} (h : s.reach a.toNat = true) (hrc : hasRC a.toNat = true) (rd : Reader) :
    exec (.readClear rd a) s =
      .next ((s.regRead (readerNum rd) a.toNat).2.answer (readerNum rd) 0 (s.regRead (readerNum rd) a.toNat).1) := by
  obtain ⟨hreset, hthere⟩ := reach_iff.mp h
  show s.readCmd (readerNum rd) a.toNat (hasRC a.toNat) = _
  simp [State.readCmd, hreset, hthere, hrc]

/-- A read of a register other than EVC.CLAIM ends with the clearing of its RC fields, unless the reader's holding register
answers it. -/
theorem State.regRead_state_eq_clearRC {s : State} {rd a : Nat} {d : RegDesc} {i j k : Nat} (hd : findReg a = some (d, i, j, k))
    (hheld : s.held? rd a = none) (hclaim : d.name ≠ .EVC_CLAIM) :
    (s.regRead rd a).2 = ((s.settle d.name i j).latchHigh rd a d i j k).clearRC d i j k := by
  simp [State.regRead, hd, hheld, hclaim]

@[simp] theorem State.answer_f (s : State) (ini code data : Nat) (x : Fld) (i j k : Nat) :
    (s.answer ini code data).f x i j k = s.f x i j k := rfl

/-! ### Clearing the RC fields of a register -/

/-- Two fields begin at different bits of their words. -/
def Fld.apart (x y : Fld) : Prop := x.lo % 32 ≠ y.lo % 32

/-- The RC fields are cleared one after the other. -/
theorem State.clearRC_cons (s : State) (n : RName) (b : Nat) (ds : List (Nat × Nat)) (x : Fld) (xs : List Fld) (i j k : Nat) :
    s.clearRC ⟨n, b, ds, x :: xs⟩ i j k =
      (if x.acc = .rc then s.setF x 0 i j k else s).clearRC ⟨n, b, ds, xs⟩ i j k := rfl

/-- A field that begins at none of the bits where the register's fields begin is left alone. -/
theorem State.f_clearRC_of_apart {y : Fld} {d : RegDesc} (h : ∀ x ∈ d.flds, y.apart x) (s : State) (i j k : Nat) :
    (s.clearRC d i j k).f y i j k = s.f y i j k := by
  obtain ⟨n, b, ds, xs⟩ := d
  induction xs generalizing s with
  | nil => rfl
  | cons x xs ih =>
    rw [State.clearRC_cons, ih _ (fun z hz => h z (List.mem_cons_of_mem _ hz))]
    split
    · exact State.f_setF_lo s x y 0 i j k i j k (h x List.mem_cons_self)
    · rfl

/-- Where a register's fields begin at different bits, each of its RC fields reads 0 once they are cleared: no later clear
touches it. -/
theorem State.f_clearRC_rc {d : RegDesc} (hd : d.flds.Pairwise Fld.apart) {x : Fld} (hx : x ∈ d.flds) (hrc : x.acc = .rc)
    (s : State) (i j k : Nat) : (s.clearRC d i j k).f x i j k = 0 := by
  obtain ⟨n, b, ds, xs⟩ := d
  induction xs generalizing s with
  | nil => cases hx
  | cons y ys ih =>
    obtain ⟨hy, hys⟩ := List.pairwise_cons.mp hd
    rw [State.clearRC_cons]
    rcases List.mem_cons.mp hx with rfl | hx
    · rw [if_pos hrc, State.f_clearRC_of_apart hy, State.f_setF_self, Nat.zero_mod]
    · exact ih _ hys hx

/-! ### The register maps -/

/-- What a property of every listed register map says of the register at an address. -/
theorem of_findReg {p : RegDesc → Prop} (hp : ∀ b ∈ regBlocks, ∀ d ∈ b.2.2, p d) {a : Nat} {r : RegDesc × Nat × Nat × Nat}
    (h : findReg a = some r) : p r.1 := by
  unfold findReg at h
  split at h
  · next b hb => exact hp b (List.mem_of_find?_eq_some hb) r.1 (findIn_mem h)
  · cases h

/-- No two fields of a register begin at the same bit. -/
theorem regBlocks_flds_apart : ∀ b ∈ regBlocks, ∀ d ∈ b.2.2, d.flds.Pairwise Fld.apart := by
  unfold Fld.apart
  decide +kernel

/-- EVC.CLAIM, whose read claims an event line after the clearing (R357), has no RC field. -/
theorem regBlocks_rc_ne_claim : ∀ b ∈ regBlocks, ∀ d ∈ b.2.2, ∀ x ∈ d.flds, x.acc = .rc → d.name ≠ .EVC_CLAIM := by
  decide +kernel

theorem findReg_flds_apart {a : Nat} {d : RegDesc} {i j k : Nat} (h : findReg a = some (d, i, j, k)) :
    d.flds.Pairwise Fld.apart := of_findReg regBlocks_flds_apart h

theorem findReg_rc_ne_claim {a : Nat} {d : RegDesc} {i j k : Nat} (h : findReg a = some (d, i, j, k)) :
    ∀ x ∈ d.flds, x.acc = .rc → d.name ≠ .EVC_CLAIM := of_findReg regBlocks_rc_ne_claim h

/-! ### The statements -/

/-- Settles O45: the read ends with the clearing of the register's RC fields, which begin at different bits, and the answer to
the reader touches no field. -/
theorem readClearsRcFields : Obligations.ReadClearsRcFields := by
  intro s rd a d i j k hreach hd hrc hheld
  refine ⟨_, exec_readClear_of_reach hreach hrc rd, fun x hx hacc => ?_⟩
  have hclaim : d.name ≠ .EVC_CLAIM := findReg_rc_ne_claim hd x hx hacc
  rw [State.answer_f, State.regRead_state_eq_clearRC hd hheld hclaim]
  exact State.f_clearRC_rc (findReg_flds_apart hd) hx hacc _ i j k

/-- Settles O46: with no register at the address, the register read and the register write below the fabric do nothing. -/
theorem emptyAddressReadsZero : Obligations.EmptyAddressReadsZero := by
  intro s ini rd n ecc a w hreach _ hregion hnone
  constructor
  · rw [State.loadAt_of_reg hregion, State.regRead_of_findReg_none hnone]
  · rw [exec_registerWrite_of_reach hreach, State.regWrite_of_findReg_none hnone]

end Sys2Proof.Machine

/-! ## Zero scale of a TX path (R120 to R122) -/

namespace Sys2Proof.Machine

/-! ### Setting and clearing one bit -/

theorem bit_setBit_self (v i : Nat) : bit (setBit v i) i = true := by
  unfold setBit
  split
  · assumption
  · next h =>
    rw [bit_testBit] at h ⊢
    rw [Nat.add_comm, Nat.testBit_two_pow_add_eq]
    simpa using h

/-- Subtracting a bit that is set borrows from no other. -/
theorem testBit_sub_two_pow_of_ne {v d c : Nat} (hd : v.testBit d = true) (hcd : c ≠ d) : (v - 2 ^ d).testBit c = v.testBit c := by
  rcases Nat.lt_or_gt_of_ne hcd with hlt | hgt
  · rw [← Nat.testBit_two_pow_add_gt hlt, Nat.add_sub_of_le (Nat.ge_two_pow_of_testBit hd)]
  · obtain ⟨m, rfl⟩ : ∃ m, c = m + (d + 1) := ⟨c - (d + 1), by omega⟩
    have hodd : v / 2 ^ d % 2 = 1 := by simpa [Nat.testBit_eq_decide_div_mod_eq] using hd
    have hquot : (v - 2 ^ d) / 2 ^ d = v / 2 ^ d - 1 := by simpa using Nat.sub_mul_div v (2 ^ d) 1
    have hhalf {w : Nat} (hw : w % 2 = 1) : (w - 1) / 2 = w / 2 := by omega
    rw [Nat.testBit_add, Nat.testBit_add v, pow_succ, ← Nat.div_div_eq_div_mul, ← Nat.div_div_eq_div_mul, hquot, hhalf hodd]

theorem bit_clrBit_of_ne {c d : Nat} (hcd : c ≠ d) (v : Nat) : bit (clrBit v d) c = bit v c := by
  unfold clrBit
  split
  · next h => rw [bit_testBit] at h ⊢; rw [bit_testBit, testBit_sub_two_pow_of_ne h hcd]
  · rfl

theorem bit_mod_two_pow {v c w : Nat} (hc : c < w) : bit (v % 2 ^ w) c = bit v c := by
  rw [bit_testBit, bit_testBit, Nat.testBit_mod_two_pow, decide_eq_true hc, Bool.true_and]

theorem ne_zero_of_bit {v c : Nat} (h : bit v c = true) : v ≠ 0 := by
  rintro rfl
  simp [bit] at h

/-! ### What the begin and the end of a cause do to ZS_STATUS -/

/-- The causes begin at bit 0 of ZS_STATUS and ZERO is its bit 31: a write of ZERO leaves the causes. -/
theorem State.cause_setF_zero (s : State) (v n : Nat) :
    (s.setF F.TXP_ZS_STATUS_ZERO v n).f F.TXP_ZS_STATUS_CAUSE n = s.f F.TXP_ZS_STATUS_CAUSE n :=
  State.f_setF_lo s _ _ v n 0 0 n 0 0 (by decide)

theorem State.cause_zsHold (s : State) (c n : Nat) :
    (s.zsHold c n).f F.TXP_ZS_STATUS_CAUSE n = setBit (s.f F.TXP_ZS_STATUS_CAUSE n) c % 2 ^ 9 := by
  rw [State.zsHold, State.cause_setF_zero, State.setB_eq, State.f_setF_self]; rfl

theorem State.cause_zsEnd (s : State) (d n : Nat) :
    (s.zsEnd d n).f F.TXP_ZS_STATUS_CAUSE n = clrBit (s.f F.TXP_ZS_STATUS_CAUSE n) d % 2 ^ 9 := by
  rw [State.zsEnd, State.cause_setF_zero, State.clrB_eq, State.f_setF_self]; rfl

/-- A cause that begins holds its path whatever went before. -/
theorem State.zeroHeld_zsHold (s : State) (c n : Nat) : (s.zsHold c n).zeroHeld n = true := by
  rw [State.zeroHeld, State.on, State.zsHold, State.f_setF_self]; rfl

/-- R122: the end of a cause leaves zero scale exactly where a cause remains. -/
theorem State.zeroHeld_zsEnd (s : State) (d n : Nat) : (s.zsEnd d n).zeroHeld n = (s.zsEnd d n).on F.TXP_ZS_STATUS_CAUSE n := by
  have hzero (b : Bool) (t : State) : (t.setF F.TXP_ZS_STATUS_ZERO (b2n b) n).on F.TXP_ZS_STATUS_ZERO n = b := by
    rw [State.on, State.f_setF_self]
    cases b <;> rfl
  rw [State.zeroHeld, State.zsEnd, hzero, State.on, State.cause_setF_zero]

/-- The end of another cause leaves the bit of the cause that has begun. -/
theorem State.cause_bit_zsEnd_zsHold {c d : Nat} (hc : c < 9) (hcd : c ≠ d) (s : State) (n : Nat) :
    bit (((s.zsHold c n).zsEnd d n).f F.TXP_ZS_STATUS_CAUSE n) c = true := by
  rw [State.cause_zsEnd, bit_mod_two_pow hc, bit_clrBit_of_ne hcd, State.cause_zsHold, bit_mod_two_pow hc, bit_setBit_self]

/-! ### The statement -/

/-- Settles O54: ZERO follows CAUSE at every end, and the bit of the cause that begins survives the end of the other. -/
theorem zeroScaleOutlastsEachCause : Obligations.ZeroScaleOutlastsEachCause := by
  refine ⟨fun s n c d hcd => ⟨?_, State.zeroHeld_zsHold (s.zsEnd d n) c n⟩, fun s n d => State.zeroHeld_zsEnd s d n⟩
  have hbit := State.cause_bit_zsEnd_zsHold c.isLt (Fin.val_ne_of_ne hcd) s n
  rw [State.zeroHeld_zsEnd, State.on, bne_iff_ne]
  exact ne_zero_of_bit hbit

end Sys2Proof.Machine

/-! ## Prism corrections while a commit is armed (R144) -/

namespace Sys2Proof.Machine

/-- A write of CORR_PEND while a commit is armed is discarded and recorded with the register's address. -/
theorem State.corrPendWrite_of_armed {s : State} (h : s.on F.PRISM_CORR_COMMIT_ARMED = true) (d n v : Nat) :
    s.corrPendWrite d n v = s.ledger 0x01 (regAddr .PRISM_CORR_PEND d n) :=
  if_pos h

/-- CORR_PEND_WRITE that reaches the Prism has the effect of the firmware write. -/
theorem exec_corrPendWrite_of_reach {s : State} {d : Fin 2} {n : Fin 64} (h : s.reach (regAddr .PRISM_CORR_PEND d n) = true)
    (w : Word) : exec (.corrPendWrite d n w) s = .next (s.corrPendWrite d n w.toNat) :=
  State.regCmd_reach h _

/-- Settles O59: the write reaches the Prism, and there the armed commit discards it. -/
theorem armedCommitGuardsCorrections : Obligations.ArmedCommitGuardsCorrections := by
  intro s d n w hreach harmed
  rw [exec_corrPendWrite_of_reach hreach, State.corrPendWrite_of_armed harmed]

end Sys2Proof.Machine

/-! ## Results for one register at the end of a bundle (R303) -/

namespace Sys2Proof.Machine

/-! ### What a result writes -/

/-- Two registers of R292, named by set and number, that differ have different keys in the register file. -/
theorem Engine.get_put_of_ne (e : Engine) {i r i' r' : Nat} (v : Nat) (hr : r < 128) (hr' : r' < 128)
    (h : i = i' → r ≠ r') : (e.put i r v).get i' r' = e.get i' r' :=
  Engine.get_put_ne e (by omega)

/-- A register other than CC shows the value of the result that names it and is left alone by any other result: the sticky
  flag and the fields of CC stand in CC (R293). -/
theorem Engine.get_write (e : Engine) {x : Result} {i r : Nat} (hx : x.reg < 64) (hr : r < 58) (hcc : r ≠ rCC) :
    (e.write x).get i r = if x.set_ = i ∧ x.reg = r then x.val % 2 ^ regWidth r else e.get i r := by
  have hput : ∀ (e : Engine) (v : Nat), (e.put x.set_ rCC v).get i r = e.get i r := fun e v =>
    e.get_put_of_ne v (by decide) (by omega) fun _ => hcc.symm
  have hsticky : (e.write x).get i r = (e.write { x with sat := none }).get i r := by
    cases hsat : x.sat <;> simp [Engine.write, hsat, hput]
  rw [hsticky]
  by_cases hsame : x.set_ = i ∧ x.reg = r
  · obtain ⟨rfl, rfl⟩ := hsame
    have hfield : x.reg ≠ rMode ∧ x.reg ≠ rFlags ∧ x.reg ≠ rNone := by unfold rMode rFlags rNone; omega
    simp [Engine.write, hfield, Engine.get_put_self]
  · have hother := e.get_put_of_ne x.val (i := x.set_) (i' := i) (r := x.reg) (r' := r) (by omega) (by omega)
      fun hi hreg => hsame ⟨hi, hreg⟩
    rw [if_neg hsame]
    unfold Engine.write
    split_ifs <;> simp [hput, hother]

/-- Results for other registers leave a register as it is. -/
theorem Engine.get_foldl_write_of_ne {i r : Nat} (hr : r < 58) (hcc : r ≠ rCC) (l : List Result)
    (hl : ∀ x ∈ l, x.reg < 64 ∧ (x.set_ = i → x.reg ≠ r)) (e : Engine) : (l.foldl Engine.write e).get i r = e.get i r := by
  induction l generalizing e with
  | nil => rfl
  | cons x l ih =>
    obtain ⟨⟨hx, hne⟩, hl⟩ := List.forall_mem_cons.1 hl
    rw [List.foldl_cons, ih hl, Engine.get_write e hx hr hcc, if_neg fun h => hne h.1 h.2]

/-- Of results written one after another, a register holds that of the last one that names it. -/
theorem Engine.get_foldl_write_append (e : Engine) (as bs : List Result) {y : Result} (hy : y.reg < 58) (hcc : y.reg ≠ rCC)
    (hbs : ∀ x ∈ bs, x.reg < 64 ∧ (x.set_ = y.set_ → x.reg ≠ y.reg)) :
    ((as ++ y :: bs).foldl Engine.write e).get y.set_ y.reg = y.val % 2 ^ regWidth y.reg := by
  rw [List.foldl_append, List.foldl_cons, Engine.get_foldl_write_of_ne hy hcc bs hbs,
    Engine.get_write _ (by omega) hy hcc, if_pos ⟨rfl, rfl⟩]

/-! ### The order in which results are written -/

/-- Results given in order of issue, in the order in which they are written: by bundle, and by issue within a bundle. -/
def dueOrder (rs : List Result) : List Result := rs.foldl (fun l x => insertDue x l) []

/-- The results under way that are due by the bundle in hand, in order of issue. -/
def Engine.dueResults (e : Engine) : List Result := e.results.filter fun x => decide (x.due ≤ e.count)

/-- The registers at the end of a bundle are those after writing the results due by it in `dueOrder`. -/
theorem Engine.get_endBundle (e : Engine) (i r : Nat) :
    e.endBundle.get i r = ((dueOrder e.dueResults).foldl Engine.write e).get i r := rfl

/-- `insertDue` is the library's insertion into an ordered list. -/
theorem insertDue_eq_orderedInsert (x : Result) (l : List Result) :
    insertDue x l = l.orderedInsert (fun a b => a.due < b.due) x := by
  induction l with
  | nil => rfl
  | cons y l ih => rw [insertDue, List.orderedInsert_cons, ih]

theorem mem_insertDue {x z : Result} {l : List Result} : z ∈ insertDue x l ↔ z = x ∨ z ∈ l := by
  rw [insertDue_eq_orderedInsert, List.mem_orderedInsert]

/-- A result that falls due no earlier than those present goes after them all. -/
theorem insertDue_eq_append {x : Result} {l : List Result} (h : ∀ z ∈ l, z.due ≤ x.due) : insertDue x l = l ++ [x] := by
  induction l with
  | nil => rfl
  | cons y l ih =>
    obtain ⟨hy, hl⟩ := List.forall_mem_cons.1 h
    rw [insertDue, if_neg (by omega), ih hl, List.cons_append]

/-- Behind a result already placed, an insertion adds at most the result inserted. -/
theorem exists_insertDue_append (x y : Result) (as bs : List Result) :
    ∃ as' bs', insertDue x (as ++ y :: bs) = as' ++ y :: bs' ∧ bs' ⊆ x :: bs := by
  induction as with
  | nil =>
    by_cases h : x.due < y.due
    · exact ⟨[x], bs, if_pos h, List.subset_cons_self x bs⟩
    · exact ⟨[], insertDue x bs, if_neg h, fun z hz => List.mem_cons.2 (mem_insertDue.1 hz)⟩
  | cons a as ih =>
    by_cases h : x.due < a.due
    · exact ⟨x :: a :: as, bs, if_pos h, List.subset_cons_self x bs⟩
    · obtain ⟨as', bs', heq, hsub⟩ := ih
      exact ⟨a :: as', bs', (if_neg h).trans (congrArg (a :: ·) heq), hsub⟩

theorem exists_foldl_insertDue_append (y : Result) (ys as bs : List Result) :
    ∃ as' bs', ys.foldl (fun l x => insertDue x l) (as ++ y :: bs) = as' ++ y :: bs' ∧ bs' ⊆ ys ++ bs := by
  induction ys generalizing as bs with
  | nil => exact ⟨as, bs, rfl, List.Subset.refl bs⟩
  | cons x ys ih =>
    obtain ⟨as₁, bs₁, hins, hsub₁⟩ := exists_insertDue_append x y as bs
    obtain ⟨as', bs', hfold, hsub⟩ := ih as₁ bs₁
    refine ⟨as', bs', by rw [List.foldl_cons, hins, hfold], fun z hz => ?_⟩
    have hz' : z ∈ ys ∨ z = x ∨ z ∈ bs := (List.mem_append.1 (hsub hz)).imp_right fun h => List.mem_cons.1 (hsub₁ h)
    simp only [List.cons_append, List.mem_cons, List.mem_append]
    tauto

theorem mem_foldl_insertDue {z : Result} (xs l : List Result) :
    z ∈ xs.foldl (fun l x => insertDue x l) l ↔ z ∈ xs ∨ z ∈ l := by
  induction xs generalizing l with
  | nil => simp
  | cons x xs ih => rw [List.foldl_cons, ih, mem_insertDue, List.mem_cons, or_left_comm, or_assoc]

theorem mem_dueOrder {z : Result} {rs : List Result} : z ∈ dueOrder rs ↔ z ∈ rs := by
  simp [dueOrder, mem_foldl_insertDue]

/-- Only results issued after `y` are written after it, where none issued before it falls due later. -/
theorem exists_dueOrder_append {xs : List Result} {y : Result} (hxs : ∀ x ∈ xs, x.due ≤ y.due) (ys : List Result) :
    ∃ as bs, dueOrder (xs ++ y :: ys) = as ++ y :: bs ∧ bs ⊆ ys := by
  obtain ⟨as, bs, hfold, hsub⟩ := exists_foldl_insertDue_append y ys (dueOrder xs) []
  refine ⟨as, bs, ?_, by rwa [List.append_nil] at hsub⟩
  have hy : insertDue y (dueOrder xs) = dueOrder xs ++ [y] := insertDue_eq_append fun z hz => hxs z (mem_dueOrder.1 hz)
  calc dueOrder (xs ++ y :: ys)
      = ys.foldl (fun l x => insertDue x l) (insertDue y (dueOrder xs)) := List.foldl_append ..
    _ = as ++ y :: bs := by rw [hy, hfold]

/-! ### The statement -/

/-- The register holds `y`'s value at the end of the bundle, whatever else is under way and falls due later: what is written
  after `y` is of results issued after it. -/
theorem Engine.get_endBundle_of_last (e : Engine) {xs ys : List Result} {y : Result} (hres : e.results = xs ++ y :: ys)
    (hdue : y.due = e.count) (hy : y.reg < 58) (hcc : y.reg ≠ rCC)
    (hys : ∀ x ∈ ys, x.due ≤ e.count → x.reg < 64 ∧ (x.set_ = y.set_ → x.reg ≠ y.reg)) :
    e.endBundle.get y.set_ y.reg = y.val % 2 ^ regWidth y.reg := by
  have hfilter : e.dueResults = xs.filter (·.due ≤ e.count) ++ y :: ys.filter (·.due ≤ e.count) := by
    simp [Engine.dueResults, hres, hdue]
  have hxs : ∀ x ∈ xs.filter (·.due ≤ e.count), x.due ≤ y.due := by simp [hdue]
  obtain ⟨as, bs, horder, hsub⟩ := exists_dueOrder_append hxs (ys.filter (·.due ≤ e.count))
  rw [Engine.get_endBundle, hfilter, horder]
  refine Engine.get_foldl_write_append e as bs hy hcc fun x hx => ?_
  obtain ⟨hmem, hlate⟩ := List.mem_filter.1 (hsub hx)
  exact hys x hmem (of_decide_eq_true hlate)

/-- Settles O44: the end of the bundle writes results by due bundle and then by issue, so `y`'s is the last for its register. -/
theorem laterIssuedResultStands : Obligations.LaterIssuedResultStands := by
  intro e xs ys y hres hdue hreg hcc _ hys hbound _
  refine e.get_endBundle_of_last hres hdue hreg hcc fun x hx hlate => ⟨?_, hys x hx hlate⟩
  exact (hbound x (List.mem_append_right xs hx)).2

end Sys2Proof.Machine

/-! ## What every command keeps (O1 to O7, O9) -/

namespace Sys2Proof.Machine

/-- Every command answers a next state, leaves the queue alone and keeps the invariant; only commands that `mayStore` names
change memory, and only those that `resetsDevice` names unset the seal. -/
theorem exec_keeps (c : Instr) (s : State) :
    Nexts (exec c s) (Keeps (fun _ => mayStore c) (!resetsDevice c) s) :=
  match c with
  | .registerWrite ini a w => execRegisterWrite_keeps (.refl s) ini a w
  | .readClear rd a => execReadClear_keeps (.refl s) rd a
  | .lowWordRead rd a => execLowWordRead_keeps (.refl s) rd a
  | .holdingRegisterExpire rd => execHoldingRegisterExpire_keeps (.refl s) rd
  | .compatWindowAccess ini k w data => execCompatWindowAccess_keeps (.refl s) ini k w data
  | .deviceTimeTick x => execDeviceTimeTick_keeps (.refl s) x
  | .timelineEnableWrite k w => execTimelineEnableWrite_keeps (.refl s) k w
  | .taggedSampleStage n g => execTaggedSampleStage_keeps (.refl s) n g
  | .tileBoundary t => execTileBoundary_keeps (.refl s) t
  | .txPathBoundary n bad => execTxPathBoundary_keeps (.refl s) n bad
  | .rxPathBoundary n => execRxPathBoundary_keeps (.refl s) n
  | .prismTxBoundary f => execPrismTxBoundary_keeps (.refl s) f
  | .prismRxBoundary f => execPrismRxBoundary_keeps (.refl s) f
  | .preloadComplete f bad => execPreloadComplete_keeps (.refl s) f bad
  | .preloadCutoff f => execPreloadCutoff_keeps (.refl s) f
  | .loFrequencyWrite m w => execLoFrequencyWrite_keeps (.refl s) m w
  | .synthEnableWrite m w => execSynthEnableWrite_keeps (.refl s) m w
  | .synthLock m => execSynthLock_keeps (.refl s) m
  | .hopArm g w => execHopArm_keeps (.refl s) g w
  | .hopLand g => execHopLand_keeps (.refl s) g
  | .tileEnable t w => execTileEnable_keeps (.refl s) t w
  | .tileDisable t w => execTileDisable_keeps (.refl s) t w
  | .tileIdleReached t => execTileIdleReached_keeps (.refl s) t
  | .tileOffReached t => execTileOffReached_keeps (.refl s) t
  | .burstRequest t len => execBurstRequest_keeps (.refl s) t len
  | .rxRunRequest t len => execRxRunRequest_keeps (.refl s) t len
  | .txHalfOn t => execTxHalfOn_keeps (.refl s) t
  | .txHalfOff t => execTxHalfOff_keeps (.refl s) t
  | .rxHalfOn t => execRxHalfOn_keeps (.refl s) t
  | .gpioEdge t fn level => execGpioEdge_keeps (.refl s) t fn level
  | .calRequest t w => execCalRequest_keeps (.refl s) t w
  | .calStart t => execCalStart_keeps (.refl s) t
  | .calEnd t r => execCalEnd_keeps (.refl s) t r
  | .bgPassTimer t => execBgPassTimer_keeps (.refl s) t
  | .bgCalStep t r => execBgCalStep_keeps (.refl s) t r
  | .dutyLimit t => execDutyLimit_keeps (.refl s) t
  | .dutySliceEnd t => execDutySliceEnd_keeps (.refl s) t
  | .fuseProgram w => execFuseProgram_keeps (.refl s) w
  | .fuseProgramDone key => execFuseProgramDone_keeps (.refl s) key
  | .adcOverload n q => execAdcOverload_keeps (.refl s) n q
  | .agcAttack n => execAgcAttack_keeps (.refl s) n
  | .agcHoldEnd n => execAgcHoldEnd_keeps (.refl s) n
  | .finePowerWindow n => execFinePowerWindow_keeps (.refl s) n
  | .cfirCoefWrite tx n b ix w => execCfirCoefWrite_keeps (.refl s) tx n b ix w
  | .rxPathEnable n w => execRxPathEnable_keeps (.refl s) n w
  | .txPathEnable n w => execTxPathEnable_keeps (.refl s) n w
  | .txPathDisable n w => execTxPathDisable_keeps (.refl s) n w
  | .nsOverload n => execNsOverload_keeps (.refl s) n
  | .nsOverloadEnd n => execNsOverloadEnd_keeps (.refl s) n
  | .fabricAccess ini k a n data ecc => execFabricAccess_keeps (.refl s) ini k a n data ecc
  | .fabricGrant p => execFabricGrant_keeps (.refl s) p
  | .controlRangeAccept f frame sym count entry => execControlRangeAccept_keeps (.refl s) f frame sym count entry
  | .corrCommitArm w => execCorrCommitArm_keeps (.refl s) w
  | .corrCommitLand => execCorrCommitLand_keeps (.refl s)
  | .corrPendWrite d a w => execCorrPendWrite_keeps (.refl s) d a w
  | .prismEnableWrite w => execPrismEnableWrite_keeps (.refl s) w
  | .layerEnableWrite f w => execLayerEnableWrite_keeps (.refl s) f w
  | .dpdGo n w => execDpdGo_keeps (.refl s) n w
  | .dpdStagingDone n => execDpdStagingDone_keeps (.refl s) n
  | .dpdInstall n bad => execDpdInstall_keeps (.refl s) n bad
  | .dpdTrialVerdict n => execDpdTrialVerdict_keeps (.refl s) n
  | .dpdTrialLapse n => execDpdTrialLapse_keeps (.refl s) n
  | .dpdUnfreeze n w => execDpdUnfreeze_keeps (.refl s) n w
  | .dpdBypass n => execDpdBypass_keeps (.refl s) n
  | .dpdBypassEndRequest n w => execDpdBypassEndRequest_keeps (.refl s) n w
  | .dpdDescriptorWrite n ix w => execDpdDescriptorWrite_keeps (.refl s) n ix w
  | .dpdSetWrite a w => execDpdSetWrite_keeps (.refl s) a w
  | .dpdRefreshEnd => execDpdRefreshEnd_keeps (.refl s)
  | .orxCaptureStart k => execOrxCaptureStart_keeps (.refl s) k
  | .orxCaptureDiscard k c => execOrxCaptureDiscard_keeps (.refl s) k c
  | .orxCaptureEnd k st => execOrxCaptureEnd_keeps (.refl s) k st
  | .orxResultWrite k => execOrxResultWrite_keeps (.refl s) k
  | .orxRequest k w => execOrxRequest_keeps (.refl s) k w
  | .orxBufferRelease k w => execOrxBufferRelease_keeps (.refl s) k w
  | .mirEnableWrite w => execMirEnableWrite_keeps (.refl s) w
  | .mirStartWrite w => execMirStartWrite_keeps (.refl s) w
  | .mirRoundStart => execMirRoundStart_keeps (.refl s)
  | .mirProbe => execMirProbe_keeps (.refl s)
  | .mirCaptureWindowEnd ovl clip => execMirCaptureWindowEnd_keeps (.refl s) ovl clip
  | .mirRecordsWrite vs => execMirRecordsWrite_keeps (.refl s) vs
  | .mirRoundEnd => execMirRoundEnd_keeps (.refl s)
  | .mirSolveGo w => execMirSolveGo_keeps (.refl s) w
  | .mirCommitArm => execMirCommitArm_keeps (.refl s)
  | .admitRequest f w => execAdmitRequest_keeps (.refl s) f w
  | .releaseRequest f w => execReleaseRequest_keeps (.refl s) f w
  | .suspendRequest f w => execSuspendRequest_keeps (.refl s) f w
  | .epochGo w => execEpochGo_keeps (.refl s) w
  | .frameEpoch => execFrameEpoch_keeps (.refl s)
  | .eventEpoch => execEventEpoch_keeps (.refl s)
  | .epochWalkEnd => execEpochWalkEnd_keeps (.refl s)
  | .flowStart f => execFlowStart_keeps (.refl s) f
  | .moveEffective f => execMoveEffective_keeps (.refl s) f
  | .flowReleaseDone f => execFlowReleaseDone_keeps (.refl s) f
  | .flowLatency f => execFlowLatency_keeps (.refl s) f
  | .patternWrite b k ix w => execPatternWrite_keeps (.refl s) b k ix w
  | .iqDataReceive l age ws => execIqDataReceive_keeps (.refl s) l age ws
  | .realTimeControlReceive l age ws => execRealTimeControlReceive_keeps (.refl s) l age ws
  | .beamWriteReceive l age ws => execBeamWriteReceive_keeps (.refl s) l age ws
  | .mgmtReqReceive l age ws => execMgmtReqReceive_keeps (.refl s) l age ws
  | .timeSyncReceive l age ws => execTimeSyncReceive_keeps (.refl s) l age ws
  | .delayRequestReceive l age ws => execDelayRequestReceive_keeps (.refl s) l age ws
  | .remoteRequestReceive l age ws => execRemoteRequestReceive_keeps (.refl s) l age ws
  | .delayResponseReceive l age ws => execDelayResponseReceive_keeps (.refl s) l age ws
  | .unsupportedPacketReceive l age ws => execUnsupportedPacketReceive_keeps (.refl s) l age ws
  | .mgmtPost p w => execMgmtPost_keeps (.refl s) p w
  | .capturePost p w => execCapturePost_keeps (.refl s) p w
  | .delayMeasureGo p w => execDelayMeasureGo_keeps (.refl s) p w
  | .timeSyncTimer p => execTimeSyncTimer_keeps (.refl s) p
  | .placementNoticeSend f => execPlacementNoticeSend_keeps (.refl s) f
  | .eventModTimer p => execEventModTimer_keeps (.refl s) p
  | .rxIqPacketSend f bad => execRxIqPacketSend_keeps (.refl s) f bad
  | .packetTransmit l => execPacketTransmit_keeps (.refl s) l
  | .portEnable p w => execPortEnable_keeps (.refl s) p w
  | .portDisable p w => execPortDisable_keeps (.refl s) p w
  | .laneStageEnd l x => execLaneStageEnd_keeps (.refl s) l x
  | .laneTrainFail l rx => execLaneTrainFail_keeps (.refl s) l rx
  | .laneIdleHoldEnd l => execLaneIdleHoldEnd_keeps (.refl s) l
  | .laneReady l => execLaneReady_keeps (.refl s) l
  | .laneDown l c => execLaneDown_keeps (.refl s) l c
  | .laneRetrain l w => execLaneRetrain_keeps (.refl s) l w
  | .equaliserFreezeWrite l w => execEqualiserFreezeWrite_keeps (.refl s) l w
  | .dfeTapWrite l j w => execDfeTapWrite_keeps (.refl s) l j w
  | .prbsCtrlWrite l w => execPrbsCtrlWrite_keeps (.refl s) l w
  | .prbsLock l => execPrbsLock_keeps (.refl s) l
  | .prbsLockLoss l => execPrbsLockLoss_keeps (.refl s) l
  | .injectOne l w => execInjectOne_keeps (.refl s) l w
  | .injectRate l => execInjectRate_keeps (.refl s) l
  | .eyeMeasureGo l w => execEyeMeasureGo_keeps (.refl s) l w
  | .eyeMeasureDone l r => execEyeMeasureDone_keeps (.refl s) l r
  | .lpiEntry l => execLpiEntry_keeps (.refl s) l
  | .lpiReceive l => execLpiReceive_keeps (.refl s) l
  | .lpiWake l => execLpiWake_keeps (.refl s) l
  | .lpiWakeDone l => execLpiWakeDone_keeps (.refl s) l
  | .laneWakeFail l => execLaneWakeFail_keeps (.refl s) l
  | .bundleIssue n b => execBundleIssue_keeps (.refl s) n b
  | .resultWriteback n => execResultWriteback_keeps (.refl s) n
  | .mpy n sl t u => execMpy_keeps (.refl s) n sl t u
  | .mac n sl t u => execMac_keeps (.refl s) n sl t u
  | .msu n sl t u => execMsu_keeps (.refl s) n sl t u
  | .cmpy n k x y => execCmpy_keeps (.refl s) n k x y
  | .cmac n k x y => execCmac_keeps (.refl s) n k x y
  | .cmacj n k x y => execCmacj_keeps (.refl s) n k x y
  | .clra n sl k => execClra_keeps (.refl s) n sl k
  | .movda n sl k j => execMovda_keeps (.refl s) n sl k j
  | .adda n sl k j => execAdda_keeps (.refl s) n sl k j
  | .suba n sl k j => execSuba_keeps (.refl s) n sl k j
  | .nega n sl k => execNega_keeps (.refl s) n sl k
  | .sha n sl k sh => execSha_keeps (.refl s) n sl k sh
  | .ld n j a => execLd_keeps (.refl s) n j a
  | .ldh n j a => execLdh_keeps (.refl s) n j a
  | .ld2 n k a => execLd2_keeps (.refl s) n k a
  | .ldk n k a => execLdk_keeps (.refl s) n k a
  | .ldx n k l a b => execLdx_keeps (.refl s) n k l a b
  | .ldp n k a => execLdp_keeps (.refl s) n k a
  | .windowLoadData n ecc => execWindowLoadData_keeps (.refl s) n ecc
  | .st n j a => execSt_keeps (.refl s) n j a
  | .sth n j a => execSth_keeps (.refl s) n j a
  | .st2 n k a => execSt2_keeps (.refl s) n k a
  | .stk n k a => execStk_keeps (.refl s) n k a
  | .sta n k a => execSta_keeps (.refl s) n k a
  | .movOp n j a => execMovOp_keeps (.refl s) n j a
  | .addOp n j a b => execAddOp_keeps (.refl s) n j a b
  | .subOp n j a b => execSubOp_keeps (.refl s) n j a b
  | .adds n j a b => execAdds_keeps (.refl s) n j a b
  | .andOp n j a b => execAndOp_keeps (.refl s) n j a b
  | .orOp n j a b => execOrOp_keeps (.refl s) n j a b
  | .xorOp n j a b => execXorOp_keeps (.refl s) n j a b
  | .shl n j a k => execShl_keeps (.refl s) n j a k
  | .shr n j a k => execShr_keeps (.refl s) n j a k
  | .cmp n a b => execCmp_keeps (.refl s) n a b
  | .normOp n j k => execNormOp_keeps (.refl s) n j k
  | .movi n j v => execMovi_keeps (.refl s) n j v
  | .mva n j k => execMva_keeps (.refl s) n j k
  | .movp n k v => execMovp_keeps (.refl s) n k v
  | .setb n k v => execSetb_keeps (.refl s) n k v
  | .setl n k v => execSetl_keeps (.refl s) n k v
  | .setm n k v => execSetm_keeps (.refl s) n k v
  | .setcc n v => execSetcc_keeps (.refl s) n v
  | .setwin n w v => execSetwin_keeps (.refl s) n w v
  | .br n t => execBr_keeps (.refl s) n t
  | .brcc n c want t => execBrcc_keeps (.refl s) n c want t
  | .call n t => execCall_keeps (.refl s) n t
  | .retOp n => execRetOp_keeps (.refl s) n
  | .loopOp n => execLoopOp_keeps (.refl s) n
  | .fence n => execFence_keeps (.refl s) n
  | .ckpt n step => execCkpt_keeps (.refl s) n step
  | .jobend n => execJobend_keeps (.refl s) n
  | .sig n => execSig_keeps (.refl s) n
  | .claimOp n j => execClaimOp_keeps (.refl s) n j
  | .complete n j => execComplete_keeps (.refl s) n j
  | .reti n => execReti_keeps (.refl s) n
  | .storeRetire n => execStoreRetire_keeps (.refl s) n
  | .drainComplete n => execDrainComplete_keeps (.refl s) n
  | .engineEventEntry n => execEngineEventEntry_keeps (.refl s) n
  | .flowJobDue f => execFlowJobDue_keeps (.refl s) f
  | .hostJobPost n w => execHostJobPost_keeps (.refl s) n w
  | .jobStart n => execJobStart_keeps (.refl s) n
  | .jobWatchdog n => execJobWatchdog_keeps (.refl s) n
  | .engineAbort n w => execEngineAbort_keeps (.refl s) n w
  | .storeErrorResponse n => execStoreErrorResponse_keeps (.refl s) n
  | .engineRestart n w => execEngineRestart_keeps (.refl s) n w
  | .lanternFence => execLanternFence_keeps (.refl s)
  | .dclean a n => execDclean_keeps (.refl s) a n
  | .dinv a n => execDinv_keeps (.refl s) a n
  | .dflush a n => execDflush_keeps (.refl s) a n
  | .dcleanAll => execDcleanAll_keeps (.refl s)
  | .dflushAll => execDflushAll_keeps (.refl s)
  | .icinvAll => execIcinvAll_keeps (.refl s)
  | .proxyWrite ini w => execProxyWrite_keeps (.refl s) ini w
  | .mramRead ecc => execMramRead_keeps (.refl s) ecc
  | .mramWrite => execMramWrite_keeps (.refl s)
  | .mramPageMove => execMramPageMove_keeps (.refl s)
  | .dmaDoorbell c w => execDmaDoorbell_keeps (.refl s) c w
  | .dmaDescriptorStart c bad => execDmaDescriptorStart_keeps (.refl s) c bad
  | .dmaDescriptorEnd c => execDmaDescriptorEnd_keeps (.refl s) c
  | .dmaError c bad => execDmaError_keeps (.refl s) c bad
  | .dmaStop c w => execDmaStop_keeps (.refl s) c w
  | .dmaResume c w => execDmaResume_keeps (.refl s) c w
  | .dmaQuiesceTimeout => execDmaQuiesceTimeout_keeps (.refl s)
  | .eventPulse l => execEventPulse_keeps (.refl s) l
  | .eventLevelAssert l => execEventLevelAssert_keeps (.refl s) l
  | .eventLevelDeassert l => execEventLevelDeassert_keeps (.refl s) l
  | .eventEnableWrite t wd w => execEventEnableWrite_keeps (.refl s) t wd w
  | .moderationTimerExpiry t => execModerationTimerExpiry_keeps (.refl s) t
  | .eventClaim => execEventClaim_keeps (.refl s)
  | .eventComplete w => execEventComplete_keeps (.refl s) w
  | .gdisWrite w => execGdisWrite_keeps (.refl s) w
  | .softwareLineSet w => execSoftwareLineSet_keeps (.refl s) w
  | .alertClear w => execAlertClear_keeps (.refl s) w
  | .hkEnable k w => execHkEnable_keeps (.refl s) k w
  | .seqGo k w => execSeqGo_keeps (.refl s) k w
  | .hkTriggerTimer k => execHkTriggerTimer_keeps (.refl s) k
  | .injGo k w => execInjGo_keeps (.refl s) k w
  | .hkInjTriggerTimer k => execHkInjTriggerTimer_keeps (.refl s) k
  | .conversionComplete k c1 c2 => execConversionComplete_keeps (.refl s) k c1 c2
  | .injectedComplete k c1 c2 other => execInjectedComplete_keeps (.refl s) k c1 c2 other
  | .calGo k w => execCalGo_keeps (.refl s) k w
  | .hkCalTimer k => execHkCalTimer_keeps (.refl s) k
  | .hkCalEnd k ok => execHkCalEnd_keeps (.refl s) k ok
  | .pwmEdge n => execPwmEdge_keeps (.refl s) n
  | .pwmPeriodEnd n => execPwmPeriodEnd_keeps (.refl s) n
  | .pllStart w => execPllStart_keeps (.refl s) w
  | .pllLock u => execPllLock_keeps (.refl s) u
  | .syncEdge rising frac => execSyncEdge_keeps (.refl s) rising frac
  | .syncMissed => execSyncMissed_keeps (.refl s)
  | .slewStep => execSlewStep_keeps (.refl s)
  | .holdover => execHoldover_keeps (.refl s)
  | .clkoutCfgWrite w => execClkoutCfgWrite_keeps (.refl s) w
  | .powerModeWrite w => execPowerModeWrite_keeps (.refl s) w
  | .wfi => execWfi_keeps (.refl s)
  | .powerSwitchesOpen => execPowerSwitchesOpen_keeps (.refl s)
  | .wakeEvent src => execWakeEvent_keeps (.refl s) src
  | .wakeComplete bad => execWakeComplete_keeps (.refl s) bad
  | .wakeStepTimeout step => execWakeStepTimeout_keeps (.refl s) step
  | .holdRelease w => execHoldRelease_keeps (.refl s) w
  | .wakeFailAck w => execWakeFailAck_keeps (.refl s) w
  | .pwrTimerMatch => execPwrTimerMatch_keeps (.refl s)
  | .perfLevelRequest w => execPerfLevelRequest_keeps (.refl s) w
  | .avsTargetReached => execAvsTargetReached_keeps (.refl s)
  | .avsTimeout => execAvsTimeout_keeps (.refl s)
  | .avsBusError rail => execAvsBusError_keeps (.refl s) rail
  | .avsLoopInterval m => execAvsLoopInterval_keeps (.refl s) m
  | .powerOnReset release => execPowerOnReset_keeps (.refl s) release
  | .pinReset release => execPinReset_keeps (.refl s) release
  | .softwareReset w => execSoftwareReset_keeps (.refl s) w
  | .bootSequence sel found half a b => execBootSequence_keeps (.refl s) sel found half a b
  | .sealWrite w => execSealWrite_keeps (.refl s) w
  | .sealForced => execSealForced_keeps (.refl s)
  | .reload x => execReload_keeps (.refl s) x
  | .keyFuseProgram w => execKeyFuseProgram_keeps (.refl s) w
  | .ledgerAck w => execLedgerAck_keeps (.refl s) w
  | .domainReset w ini => execDomainReset_keeps (.refl s) w ini
  | .domainResetDone d => execDomainResetDone_keeps (.refl s) d
  | .readReq a n => execReadReq_keeps (.refl s) a n
  | .readData => execReadData_keeps (.refl s)
  | .svcWrite a ws => execSvcWrite_keeps (.refl s) a ws
  | .svcStatus => execSvcStatus_keeps (.refl s)
  | .svcBadCommand => execSvcBadCommand_keeps (.refl s)
  | .svcWordDone ecc => execSvcWordDone_keeps (.refl s) ecc
  | .jtagAccess wr a w ecc => execJtagAccess_keeps (.refl s) wr a w ecc
  | .extest => execExtest_keeps (.refl s)
  | .clamp => execClamp_keeps (.refl s)
  | .mailboxDoor w => execMailboxDoor_keeps (.refl s) w
  | .ptbEnable w => execPtbEnable_keeps (.refl s) w
  | .ptbDisable w => execPtbDisable_keeps (.refl s) w
  | .bpHoldStart b => execBpHoldStart_keeps (.refl s) b
  | .bpHoldEnd b => execBpHoldEnd_keeps (.refl s) b
  | .rxLpiExit l => execRxLpiExit_keeps (.refl s) l
  | .linkIdleTimeout => execLinkIdleTimeout_keeps (.refl s)
  | .busIdleTimeout b => execBusIdleTimeout_keeps (.refl s) b
  | .delayResponseTimeout p => execDelayResponseTimeout_keeps (.refl s) p
  | .characterError l => execCharacterError_keeps (.refl s) l
  | .pllLockLoss u => execPllLockLoss_keeps (.refl s) u
  | .refclkLoss => execRefclkLoss_keeps (.refl s)
  | .crystalStop => execCrystalStop_keeps (.refl s)

theorem Keeps.of_exec {c : Instr} {s t : State} (h : exec c s = .next t) :
    Keeps (fun _ => mayStore c) (!resetsDevice c) s t := by
  obtain ⟨u, hu, hk⟩ := exec_keeps c s
  obtain rfl : u = t := by rw [h] at hu; cases hu; rfl
  exact hk

/-- A step with a command at the front of the queue runs it on the state with the rest of the queue. -/
theorem step_of_pending_cons {s : State} {c : Instr} {rest : List Instr} (h : s.pending = c :: rest) :
    step s = exec c { s with pending := rest } := by
  rw [step, h]

theorem step_of_pending_nil {s : State} (h : s.pending = []) : step s = .next s := by
  rw [step, h]

/-- The seal's stored difference is the value of the field: its reset value is 0. -/
theorem State.f_seal (s : State) : s.f F.SYS_SEAL_SEAL = SMap.get 0 s.regs sealKey :=
  Nat.xor_zero _

/-- Settles O1: the queue of the state given has the command at its front. -/
theorem stepRunsFrontCommand : Obligations.StepRunsFrontCommand :=
  fun _ _ _ => step_of_pending_cons rfl

/-- Settles O2. -/
theorem emptyQueueIdles : Obligations.EmptyQueueIdles :=
  fun _ h => step_of_pending_nil h

/-- Settles O3: an empty queue idles, and every command answers a next state. -/
theorem everyStepGoesOn : Obligations.EveryStepGoesOn := by
  intro s
  cases h : s.pending with
  | nil => exact ⟨s, step_of_pending_nil h⟩
  | cons c rest =>
    obtain ⟨t, ht, -⟩ := exec_keeps c { s with pending := rest }
    exact ⟨t, (step_of_pending_cons h).trans ht⟩

/-- Settles O4. -/
theorem commandsLeaveTheQueue : Obligations.CommandsLeaveTheQueue :=
  fun _ _ _ h => (Keeps.of_exec h).queue

/-- Settles O5: every part of the invariant is a check of an empty store or an empty ledger. -/
theorem resetMeetsInvariant : Obligations.ResetMeetsInvariant := by
  show State.reset.inv = true
  decide

/-- Settles O6: taking a command off the queue touches nothing that the invariant speaks of, and the command keeps it. -/
theorem stepKeepsInvariant : Obligations.StepKeepsInvariant := by
  intro s t hinv hstep
  cases h : s.pending with
  | nil =>
    rw [step_of_pending_nil h] at hstep
    cases hstep
    exact hinv
  | cons c rest =>
    rw [step_of_pending_cons h] at hstep
    exact (Keeps.of_exec hstep).inv hinv

/-- Settles O7: outside `mayStore` no address may change. -/
theorem onlyStoringCommandsChangeMemory : Obligations.OnlyStoringCommandsChangeMemory :=
  fun _ _ _ hstore h a => (Keeps.of_exec h).mem a hstore

/-- Settles O9: outside `resetsDevice` every command leaves a set seal set, in every state that meets the invariant. -/
theorem sealStaysSet : Obligations.SealStaysSet := by
  intro c s t hreset hinv hseal h
  rw [State.f_seal] at hseal ⊢
  exact (Keeps.of_exec h).sealed (by rw [hreset]; rfl) hinv hseal

end Sys2Proof.Machine

/-! ## When a command has no effect, and what an operation that computes leaves alone (O10 to O12) -/

namespace Sys2Proof.Machine

/-! ### The two forms of a command of the core domain -/

/-- An operation of a slot of engine `n` goes through `State.op`, which may hold it back; a branch that the bundle's decoding has
not announced does nothing. -/
theorem exec_of_opEngine {c : Instr} {n : Nat} (h : opEngine c = some n) (s : State) :
    (∃ x ds act, exec c s = .next (s.op n x ds act)) ∨ exec c s = .next s := by
  have branch (m : Nat) (ds : List Nat) (f : Engine → Engine) :
      (∃ x ds' act, Host.Outcome.next (s.branchOp m ds f) = (.next (s.op m x ds' act) : Out)) ∨
        (.next (s.branchOp m ds f) : Out) = .next s := by
    unfold State.branchOp
    split
    · exact .inl ⟨_, _, _, rfl⟩
    · exact .inr rfl
  cases c
  case br | brcc | call | retOp => cases h; exact branch _ _ _
  all_goals first
    | (cases h; done)
    | (cases h; exact .inl ⟨_, _, _, rfl⟩)

/-- Every command of the core domain is an operation of an engine or an event that `State.core` guards. -/
theorem exec_of_needsCore {c : Instr} (h : needsCore c = true) (s : State) :
    (∃ n, opEngine c = some n) ∨ ∃ t, exec c s = .next (s.core t) := by
  cases c
  all_goals first
    | (cases h; done)
    | exact .inl ⟨_, rfl⟩
    | exact .inr ⟨_, rfl⟩

/-! ### No effect without the core domain, and none in a stopped engine -/

theorem exec_needsCore_of_no_core {c : Instr} {s : State} (hc : needsCore c = true) (h : s.asleep = true ∨ s.inReset = true) :
    exec c s = .next s := by
  rcases exec_of_needsCore hc s with ⟨n, hn⟩ | ⟨t, ht⟩
  · rcases exec_of_opEngine hn s with ⟨x, ds, act, ht⟩ | ht
    · rw [ht, State.op_nocore h]
    · exact ht
  · rw [ht, State.core_none h]

/-- Settles O10: events of the core domain and engine operations are held back, and a register write finds its target held in
reset or absent. -/
theorem coreCommandsNeedTheCore : Obligations.CoreCommandsNeedTheCore := by
  refine ⟨fun c s hc h => exec_needsCore_of_no_core hc h, fun ini a w s h => ?_⟩
  show s.regCmd a.toNat _ = _
  rcases h with hreset | ⟨hsleep, habsent⟩
  · rw [State.regCmd, if_pos hreset]
  · rw [State.regCmd, if_pos habsent, if_pos hsleep, ite_self]

/-- Settles O11: an operation's guard asks that its engine is not stopped. -/
theorem stoppedEngineDoesNothing : Obligations.StoppedEngineDoesNothing := by
  intro c s n hc hfault
  rcases exec_of_opEngine hc s with ⟨x, ds, act, ht⟩ | ht
  · rw [ht, State.op_stopped hfault]
  · exact ht

/-! ### Operations that compute -/

/-- The keys of the four status fields that show an engine's record. -/
def statusKey (n k : Nat) : Prop :=
  k = F.SE_STATUS_BUSY.key n 0 0 ∨ k = F.SE_STATUS_IN_HANDLER.key n 0 0 ∨ k = F.SE_STATUS_QDEPTH.key n 0 0 ∨
    k = F.SE_POST_FULL.key n 0 0

/-- `t` differs from `s` in at most the record of engine `n` but for its register file, its status fields and the count of free
values. -/
structure OnlyResults (n : Nat) (s t : State) : Prop where
  regs : (t.eng n).regs = (s.eng n).regs
  others : ∀ m, m ≠ n → t.eng m = s.eng m
  fields : ∀ k, ¬statusKey n k → SMap.get 0 t.regs k = SMap.get 0 s.regs k
  rest : { t with engines := s.engines, regs := s.regs, free := s.free } = s

theorem OnlyResults.refl (n : Nat) (s : State) : OnlyResults n s s := ⟨rfl, fun _ _ => rfl, fun _ _ => rfl, rfl⟩

/-- Keeping a record with the same register file. -/
theorem OnlyResults.setEng {n : Nat} {s t : State} (h : OnlyResults n s t) {e : Engine} (he : e.regs = (t.eng n).regs) :
    OnlyResults n s (t.setEng n e) where
  regs := by rw [State.eng_setEng_self, he, h.regs]
  others m hm := by rw [State.eng_setEng_ne t e hm, h.others m hm]
  fields k hk := by
    simp only [statusKey, not_or] at hk
    obtain ⟨hbusy, hset, hdepth, hfull⟩ := hk
    show SMap.get 0 (SMap.set 0 (SMap.set 0 (SMap.set 0 (SMap.set 0 t.regs _ _) _ _) _ _) _ _) k = _
    rw [SMap.get_set_ne _ _ _ hfull, SMap.get_set_ne _ _ _ hdepth, SMap.get_set_ne _ _ _ hset, SMap.get_set_ne _ _ _ hbusy,
      h.fields k (by simp [statusKey, *])]
  rest := h.rest

theorem OnlyResults.free {n : Nat} {s t : State} (h : OnlyResults n s t) (v : Nat) : OnlyResults n s { t with free := v } :=
  ⟨h.regs, h.others, h.fields, h.rest⟩

theorem OnlyResults.op {n : Nat} {s : State} (x : Slot) (ds : List Nat) {act : State → State}
    (hact : ∀ t, OnlyResults n s t → OnlyResults n s (act t)) : OnlyResults n s (s.op n x ds act) := by
  unfold State.op
  split
  · exact hact _ ((OnlyResults.refl n s).setEng rfl)
  · exact .refl n s

theorem OnlyResults.opE {n : Nat} {s : State} (x : Slot) (ds : List Nat) {f : Engine → Engine} (hf : ∀ e, (f e).regs = e.regs) :
    OnlyResults n s (s.opE n x ds f) :=
  .op x ds fun t ht => ht.setEng (hf (t.eng n))

/-! A result that is queued writes no register. -/

@[simp] theorem Engine.result_regs (e : Engine) (reg val lat : Nat) (sat : Option Nat) (mac : Nat) :
    (e.result reg val lat sat mac).regs = e.regs := rfl
@[simp] theorem Engine.accResult_regs (e : Engine) (k : Nat) (x : Int) (lat mac : Nat) : (e.accResult k x lat mac).regs = e.regs := rfl
@[simp] theorem Engine.dResult_regs (e : Engine) (j : Nat) (x : Int) : (e.dResult j x).regs = e.regs := rfl
@[simp] theorem Engine.subFlags_regs (e : Engine) (a b : Nat) : (e.subFlags a b).regs = e.regs := rfl
@[simp] theorem Engine.add_regs (e : Engine) (j a b : Nat) (sat : Bool) : (e.add j a b sat).regs = e.regs := rfl
@[simp] theorem Engine.complexMac_regs (e : Engine) (keep conj : Bool) (k x y : Nat) : (e.complexMac keep conj k x y).regs = e.regs := rfl

@[simp] theorem Engine.realMac_regs (e : Engine) (keep : Bool) (sign : Int) (t : MulTerm) (u : Option MulTerm) :
    (e.realMac keep sign t u).regs = e.regs := by
  cases u with
  | none => rfl
  | some v => simp only [Engine.realMac]; split <;> rfl

@[simp] theorem Engine.logic_regs (e : Engine) (op j v : Nat) : (e.logic op j v).regs = e.regs := by
  unfold Engine.logic
  split <;> rfl

/-- A shift of an accumulator takes a free value and queues its result. -/
theorem OnlyResults.sha {n : Nat} {s t : State} (h : OnlyResults n s t) (k : Nat) (sh : Int) : OnlyResults n s (t.sha n k sh) := by
  unfold State.sha
  dsimp only
  split_ifs <;> exact (h.free _).setEng rfl

/-- Each operation that computes queues results only. -/
theorem OnlyResults.of_computes {c : Instr} {n : Nat} {s t : State} (hc : computes c = true) (hn : opEngine c = some n)
    (h : exec c s = .next t) : OnlyResults n s t := by
  have queues {x : Slot} {ds : List Nat} {f : Engine → Engine} (hf : ∀ e, (f e).regs = e.regs)
      (h : (.next (s.opE n x ds f) : Out) = .next t) : OnlyResults n s t := by
    cases h; exact .opE x ds hf
  cases c
  case sha => cases hn; cases h; exact .op _ _ fun t ht => ht.sha _ _
  all_goals first
    | (cases hc; done)
    | (cases hn; exact queues (fun e => by simp) h)

/-- Settles O12. -/
theorem computingOperationsFrame : Obligations.ComputingOperationsFrame := by
  intro c s t n hc hn h
  obtain ⟨hregs, hothers, hfields, hrest⟩ := OnlyResults.of_computes hc hn h
  exact ⟨hregs, hothers, fun k h1 h2 h3 h4 => hfields k (by simp [statusKey, *]), hrest⟩

end Sys2Proof.Machine

/-! ## Register writes field by field (O47 to O49) -/

namespace Sys2Proof.Machine

/-! ### Where the register maps place a field -/

/-- The offset that indices give, by the counts and strides of a register. -/
def dimsOffset : List (Nat × Nat) → List Nat → Nat
  | d :: ds, i :: ix => i * d.2 + dimsOffset ds ix
  | _, _ => 0

theorem dimsOffset_of_dimsAt {ds : List (Nat × Nat)} {off : Nat} {ix : List Nat} (h : dimsAt ds off = some ix) :
    ix.length = ds.length ∧ dimsOffset ds ix = off := by
  induction ds generalizing off ix with
  | nil =>
    unfold dimsAt at h
    split at h
    · next h0 => cases h; exact ⟨rfl, h0.symm⟩
    · cases h
  | cons d ds ih =>
    obtain ⟨n, st⟩ := d
    simp only [dimsAt] at h
    split at h
    · obtain ⟨jx, hjx, rfl⟩ := Option.map_eq_some_iff.mp h
      obtain ⟨hlen, hoff⟩ := ih hjx
      refine ⟨congrArg (· + 1) hlen, ?_⟩
      rw [dimsOffset, hoff, Nat.mul_comm, Nat.div_add_mod]
    · cases h

/-- A field stands in the word of its register, index by index. -/
def Fld.inReg (x : Fld) (d : RegDesc) : Prop :=
  x.base = d.base ∧ x.s0 = (d.dims.getD 0 (0, 0)).2 ∧ x.s1 = (d.dims.getD 1 (0, 0)).2 ∧ x.s2 = (d.dims.getD 2 (0, 0)).2 ∧ x.lo < 32

theorem regBlocks_dims_le : ∀ b ∈ regBlocks, ∀ d ∈ b.2.2, d.dims.length ≤ 3 := by decide +kernel

theorem regBlocks_flds_inReg : ∀ b ∈ regBlocks, ∀ d ∈ b.2.2, ∀ x ∈ d.flds, x.inReg d := by
  unfold Fld.inReg
  decide +kernel

theorem findIn_eq_some {ds : List RegDesc} {a : Nat} {r : RegDesc × Nat × Nat × Nat} (h : findIn ds a = some r) :
    r.1.base ≤ a ∧ ∃ ix, dimsAt r.1.dims (a - r.1.base) = some ix ∧ r.2 = (ix.getD 0 0, ix.getD 1 0, ix.getD 2 0) := by
  induction ds with
  | nil => cases h
  | cons d ds ih =>
    unfold findIn at h
    split at h
    · next hle =>
      split at h
      · next ix hix => cases h; exact ⟨hle, ix, hix, rfl⟩
      · exact ih h
    · exact ih h

/-- The register found at an address stands there at its indices. -/
theorem addr_of_findReg {a : Nat} {d : RegDesc} {i j k : Nat} (h : findReg a = some (d, i, j, k)) : d.addr i j k = a := by
  have hdims : d.dims.length ≤ 3 := of_findReg regBlocks_dims_le h
  unfold findReg at h
  split at h
  · obtain ⟨hle, ix, hix, hidx⟩ := findIn_eq_some h
    obtain ⟨hlen, hoff⟩ := dimsOffset_of_dimsAt hix
    simp only [Prod.mk.injEq] at hidx hle hix hlen hoff
    obtain ⟨rfl, rfl, rfl⟩ := hidx
    unfold RegDesc.addr
    match hds : d.dims, ix, hdims, hlen, hoff with
    | [], [], _, _, hoff => simp [dimsOffset] at hoff ⊢; omega
    | [_], [_], _, _, hoff => simp [dimsOffset] at hoff ⊢; omega
    | [_, _], [_, _], _, _, hoff => simp [dimsOffset] at hoff ⊢; omega
    | [_, _, _], [_, _, _], _, _, hoff => simp [dimsOffset] at hoff ⊢; omega
  · cases h

/-- A field of the register found at an address is kept under that address. -/
theorem key_of_findReg {a : Nat} {d : RegDesc} {i j k : Nat} (h : findReg a = some (d, i, j, k)) {x : Fld} (hx : x ∈ d.flds) :
    x.key i j k / 32 = a := by
  obtain ⟨hbase, h0, h1, h2, hlo⟩ := of_findReg regBlocks_flds_inReg h x hx
  have haddr : x.addr i j k = a := by
    rw [← addr_of_findReg h, Fld.addr, RegDesc.addr, hbase, h0, h1, h2]
  rw [Fld.key, haddr]
  omega

/-! ### Reserved bits (R13) -/

theorem State.applyField_congr {x : Fld} {v w : Nat} (h : bits v x.lo x.w = bits w x.lo x.w) (s : State) (i j k : Nat) (o : Owner)
    (en : Bool) : s.applyField x i j k v o en = s.applyField x i j k w o en := by
  simp only [State.applyField, h]

/-- A register write takes of the word only what stands in a field. -/
theorem State.writePlain_congr {d : RegDesc} {v w : Nat} (h : ∀ x ∈ d.flds, bits v x.lo x.w = bits w x.lo x.w) (s : State)
    (i j k : Nat) : s.writePlain d i j k v = s.writePlain d i j k w := by
  have hfields : ∀ own en, s.applyFields d.flds (fun _ => false) i j k v own en =
      s.applyFields d.flds (fun _ => false) i j k w own en := fun own en =>
    List.foldl_ext _ _ _ fun acc x hx => by simp only [State.applyField_congr (h x hx)]
  simp only [State.writePlain, State.writeSkip, hfields]

/-- A value added in bits that are clear leaves the bits outside them. -/
theorem testBit_add_shifted {v f lo w c : Nat} (hf : f < 2 ^ w) (hv : ∀ b, lo ≤ b → b < lo + w → v.testBit b = false)
    (hc : c < lo ∨ lo + w ≤ c) : (v + f * 2 ^ lo).testBit c = v.testBit c := by
  rw [Nat.testBit_eq_decide_div_mod_eq, Nat.testBit_eq_decide_div_mod_eq]
  rcases hc with hc | hc
  · obtain ⟨e, rfl⟩ : ∃ e, lo = c + 1 + e := ⟨lo - (c + 1), by omega⟩
    have hsplit : f * 2 ^ (c + 1 + e) = 2 ^ c * (2 * (f * 2 ^ e)) := by ring
    rw [hsplit, Nat.add_mul_div_left _ _ (by positivity), Nat.add_mul_mod_self_left]
  · have hmid : v / 2 ^ lo % 2 ^ w = 0 := Nat.eq_of_testBit_eq fun b => by
      rw [Nat.testBit_mod_two_pow, Nat.testBit_div_two_pow, Nat.zero_testBit]
      by_cases hb : b < w
      · rw [hv (b + lo) (by omega) (by omega), Bool.and_false]
      · rw [decide_eq_false hb, Bool.false_and]
    have hquot : (v + f * 2 ^ lo) / 2 ^ (lo + w) = v / 2 ^ (lo + w) := by
      rw [pow_add, ← Nat.div_div_eq_div_mul, ← Nat.div_div_eq_div_mul, Nat.add_mul_div_right _ _ (by positivity)]
      have h0 := Nat.div_add_mod (v / 2 ^ lo) (2 ^ w)
      rw [hmid, Nat.add_zero] at h0
      rw [← h0, Nat.mul_add_div (by positivity), Nat.mul_div_cancel_left _ (by positivity), Nat.div_eq_of_lt hf, Nat.add_zero]
    obtain ⟨e, rfl⟩ : ∃ e, c = lo + w + e := ⟨c - (lo + w), by omega⟩
    rw [pow_add, ← Nat.div_div_eq_div_mul, ← Nat.div_div_eq_div_mul, hquot]

/-- Fields that lie apart put nothing into a bit outside them all. -/
theorem testBit_foldl_fields {f : Fld → Nat} {b : Nat} (fs : List Fld) {v : Nat} (hf : ∀ x ∈ fs, f x < 2 ^ x.w)
    (hapart : fs.Pairwise fun x y => x.lo + x.w ≤ y.lo ∨ y.lo + y.w ≤ x.lo) (hb : ∀ x ∈ fs, b < x.lo ∨ x.lo + x.w ≤ b)
    (hv : ∀ x ∈ fs, ∀ c, x.lo ≤ c → c < x.lo + x.w → v.testBit c = false) (h : v.testBit b = false) :
    (fs.foldl (fun v x => if x.acc = .wo then v else v + f x * 2 ^ x.lo) v).testBit b = false := by
  induction fs generalizing v with
  | nil => exact h
  | cons x xs ih =>
    simp only [List.forall_mem_cons, List.pairwise_cons] at hf hapart hb hv
    rw [List.foldl_cons]
    have hadd {c : Nat} (hc : c < x.lo ∨ x.lo + x.w ≤ c) :
        (if x.acc = .wo then v else v + f x * 2 ^ x.lo).testBit c = v.testBit c := by
      split
      · rfl
      · exact testBit_add_shifted hf.1 hv.1 hc
    refine ih hf.2 hapart.2 hb.2 (fun y hy c hlo hhi => ?_) ((hadd hb.1).trans h)
    have hxy := hapart.1 y hy
    rw [hadd (by omega), hv.2 y hy c hlo hhi]

/-- Settles O47: a write takes only the fields' bits of the word, and the word a read shows is a sum of fields that lie apart. -/
theorem reservedBitsAreIgnored : Obligations.ReservedBitsAreIgnored := by
  refine ⟨fun s d i j k v w h => s.writePlain_congr h i j k, fun s d i j k b hval hapart hb => ?_⟩
  rw [bit_testBit]
  exact testBit_foldl_fields d.flds hval hapart hb (fun _ _ _ _ _ => Nat.zero_testBit _) (Nat.zero_testBit _)

/-! ### Writes without an effect of their own (R15, R510) -/

/-- A register that no block treats on its own is written by the field rules. -/
theorem State.regWrite_eq_writePlain {s : State} {a : Nat} {d : RegDesc} {i j k : Nat} (h : findReg a = some (d, i, j, k))
    {ini v : Nat} (hradio : s.radioWrite d.name i j k v = none) (hlink : s.linkWrite d.name i j k v = none)
    (hsys : s.sysWrite ini d.name i j v = none) : s.regWrite ini a v = s.writePlain d i j k v := by
  rw [State.regWrite, h]
  simp [hradio, hlink, hsys]

/-- Class S fields of an enabled owner stay as they are, and any of them counts as discarded (R15). -/
theorem State.applyFields_class_s {fs : List Fld} (hs : ∀ x ∈ fs, x.acc = .rw ∧ x.cls = .s) (s : State) (i j k v : Nat)
    (own : ChClass → Owner) {en : ChClass → Bool} (hen : en .s = true) :
    s.applyFields fs (fun _ => false) i j k v own en = (s, !fs.isEmpty) := by
  have field {x : Fld} (hx : x.acc = .rw ∧ x.cls = .s) (t : State) : t.applyField x i j k v (own x.cls) (en x.cls) = (t, true) := by
    obtain ⟨hacc, hcls⟩ := hx
    simp [State.applyField, hacc, hcls, hen]
  have fold (l : List Fld) (hl : ∀ x ∈ l, x.acc = .rw ∧ x.cls = .s) (b : Bool) :
      l.foldl (fun acc x => ((acc.1.applyField x i j k v (own x.cls) (en x.cls)).1,
        acc.2 || (acc.1.applyField x i j k v (own x.cls) (en x.cls)).2)) (s, b) = (s, b || !l.isEmpty) := by
    induction l generalizing b with
    | nil => simp
    | cons x xs ih =>
      obtain ⟨hx, hxs⟩ := List.forall_mem_cons.mp hl
      rw [List.foldl_cons]
      simp only [field hx, Bool.or_true, ih hxs]
      simp
  simpa [State.applyFields] using fold fs hs false

/-- Settles O48: no field takes its value and each counts as discarded, which is recorded once. -/
theorem classSWriteIsDiscarded : Obligations.ClassSWriteIsDiscarded := by
  intro s ini a w d i j k hreach hd hradio hlink hsys hne hs hen
  rw [exec_registerWrite_of_reach hreach, State.regWrite_eq_writePlain hd hradio hlink hsys, State.writePlain, State.writeSkip]
  rw [State.applyFields_class_s hs s i j k w.toNat _ (en := fun c => s.enabled (s.ownerOf d.name i j c)) hen]
  simp [hne, State.discarded, addr_of_findReg hd]

/-- The value a field takes of a written word (R510). -/
def Fld.taken (x : Fld) (v : Nat) : Nat := x.norm (bits v x.lo x.w)

/-- Every field of a list takes its value of a written word. -/
def State.putFields (s : State) (fs : List Fld) (i j k v : Nat) : State := fs.foldl (fun t x => t.setF x (x.taken v) i j k) s

/-- RW fields whose owner does not hold them back take their values, and nothing is discarded. -/
theorem State.applyFields_rw {fs : List Fld} (hrw : ∀ x ∈ fs, x.acc = .rw) (s : State) (i j k v : Nat) (own : ChClass → Owner)
    {en : ChClass → Bool} (hen : ∀ x ∈ fs, (x.cls = .s ∨ x.cls = .b) → en x.cls = false) :
    s.applyFields fs (fun _ => false) i j k v own en = (s.putFields fs i j k v, false) := by
  have field {x : Fld} (hacc : x.acc = .rw) (hoff : (x.cls = .s ∨ x.cls = .b) → en x.cls = false) (t : State) :
      t.applyField x i j k v (own x.cls) (en x.cls) = (t.setF x (x.taken v) i j k, false) := by
    unfold State.applyField
    rw [hacc]
    cases hcls : x.cls
    case s => simp [← hcls, hoff (.inl hcls), Fld.taken]
    case b => simp [← hcls, hoff (.inr hcls), Fld.taken]
    all_goals rfl
  unfold State.applyFields State.putFields
  induction fs generalizing s with
  | nil => rfl
  | cons x xs ih =>
    rw [List.forall_mem_cons] at hrw hen
    simpa [field hrw.1 hen.1] using ih hrw.2 (s.setF x (x.taken v) i j k) hen.2

theorem State.putFields_rest (s : State) (fs : List Fld) (i j k v : Nat) :
    { s.putFields fs i j k v with regs := s.regs } = s := by
  unfold State.putFields
  induction fs generalizing s with
  | nil => rfl
  | cons x xs ih => exact congrArg (fun t : State => { t with regs := s.regs }) (ih (s.setF x (x.taken v) i j k))

theorem State.putFields_regs_of_ne {fs : List Fld} {i j k q : Nat} (h : ∀ x ∈ fs, q ≠ x.key i j k) (s : State) (v : Nat) :
    SMap.get 0 (s.putFields fs i j k v).regs q = SMap.get 0 s.regs q := by
  unfold State.putFields
  induction fs generalizing s with
  | nil => rfl
  | cons x xs ih =>
    obtain ⟨hx, hxs⟩ := List.forall_mem_cons.mp h
    exact (ih hxs _).trans (SMap.get_set_ne _ _ _ hx)

/-- Fields that begin at different bits keep what they took. -/
theorem State.f_putFields {fs : List Fld} (hapart : fs.Pairwise Fld.apart) {x : Fld} (hx : x ∈ fs) (s : State) (i j k v : Nat) :
    (s.putFields fs i j k v).f x i j k = x.taken v % 2 ^ x.w := by
  induction fs generalizing s with
  | nil => cases hx
  | cons y ys ih =>
    obtain ⟨hy, hys⟩ := List.pairwise_cons.mp hapart
    rcases List.mem_cons.mp hx with rfl | hx
    · have hlater : (State.putFields (s.setF x (x.taken v) i j k) ys i j k v).f x i j k = (s.setF x (x.taken v) i j k).f x i j k := by
        simp only [State.f]
        rw [State.putFields_regs_of_ne fun z hz => Fld.key_ne_of_lo z x i j k i j k (hy z hz)]
      exact hlater.trans (State.f_setF_self ..)
    · exact ih hys hx _

/-- Settles O49: the write puts every field's part of the word into the field, one after the other. -/
theorem plainWriteTakesEffect : Obligations.PlainWriteTakesEffect := by
  intro s ini a w d i j k hreach hd hradio hlink hsys hrw hoff
  refine ⟨s.putFields d.flds i j k w.toNat, ?_, fun x hx => ?_, fun q hq => ?_, s.putFields_rest ..⟩
  · rw [exec_registerWrite_of_reach hreach, State.regWrite_eq_writePlain hd hradio hlink hsys, State.writePlain, State.writeSkip]
    rw [State.applyFields_rw hrw s i j k w.toNat _ (en := fun c => s.enabled (s.ownerOf d.name i j c)) hoff]
    rfl
  · exact State.f_putFields (findReg_flds_apart hd) hx s i j k w.toNat
  · exact State.putFields_regs_of_ne (fun x hx hkey => hq (by rw [hkey, key_of_findReg hd hx])) s w.toNat

end Sys2Proof.Machine

/-! ## Event lines, the ledger and denials (O51, O52, O53, O55) -/

namespace Sys2Proof.Machine

/-! ### What the event lines leave alone -/

/-- Event lines change neither the fabric nor the ledger. -/
structure EventsOnly (s t : State) : Prop where
  fab : t.fab = s.fab
  faults : t.faults = s.faults

theorem EventsOnly.refl (s : State) : EventsOnly s s := ⟨rfl, rfl⟩

theorem EventsOnly.trans {s t u : State} (h : EventsOnly s t) (h' : EventsOnly t u) : EventsOnly s u :=
  ⟨h'.fab.trans h.fab, h'.faults.trans h.faults⟩

theorem EventsOnly.ite {s t u : State} {c : Prop} [Decidable c] (ht : EventsOnly s t) (hu : EventsOnly s u) :
    EventsOnly s (if c then t else u) := by
  split <;> assumption

theorem EventsOnly.foldl {α : Type} {s : State} {f : State → α → State} (hf : ∀ t a, EventsOnly t (f t a)) (l : List α) :
    EventsOnly s (l.foldl f s) := by
  induction l generalizing s with
  | nil => exact .refl s
  | cons a l ih => exact (hf s a).trans ih

theorem State.setF_eventsOnly (s : State) (x : Fld) (v i j k : Nat) : EventsOnly s (s.setF x v i j k) := ⟨rfl, rfl⟩

theorem State.bump_eventsOnly (s : State) (x : Fld) (i j k : Nat) : EventsOnly s (s.bump x i j k) :=
  s.setF_eventsOnly x _ i j k

theorem State.setPort_eventsOnly (s : State) (p : Nat) (q : LinkPort) : EventsOnly s (s.setPort p q) := ⟨rfl, rfl⟩

theorem State.wakeDim_eventsOnly (s : State) : EventsOnly s s.wakeDim := by
  unfold State.wakeDim
  exact .ite ⟨rfl, rfl⟩ (.ite ⟨rfl, rfl⟩ (.refl s))

theorem State.startMod_eventsOnly (s : State) (t : Nat) : EventsOnly s (s.startMod t) := ⟨rfl, rfl⟩

theorem State.evalTarget_eventsOnly (s : State) (t : Nat) : EventsOnly s (s.evalTarget t) := by
  unfold State.evalTarget
  refine .ite ⟨rfl, rfl⟩ (.ite (.ite ⟨rfl, rfl⟩ ?_) (.ite (.ite ?_ ⟨rfl, rfl⟩) (.ite (.refl s) (s.startMod_eventsOnly t))))
  · exact (s.setF_eventsOnly F.EVC_TGT_STATUS_PRESENTED 0 t 0 0).trans (State.startMod_eventsOnly _ t)
  · refine .trans ?_ (State.wakeDim_eventsOnly _)
    exact ⟨rfl, rfl⟩

theorem State.clrPends_eventsOnly (s : State) (t : Nat) (ls : List Nat) : EventsOnly s (s.clrPends t ls) :=
  .foldl (fun u l => u.setF_eventsOnly F.EVC_PEND_PEND _ t (l / 32) 0) ls

theorem State.sendEvents_eventsOnly (s : State) (p n : Nat) : EventsOnly s (s.sendEvents p n) := by
  induction n generalizing s with
  | zero => exact .refl s
  | succ n ih =>
    unfold State.sendEvents
    refine .ite (.refl s) (.ite (s.setPort_eventsOnly p _) (.trans (.trans (.trans ?_ (State.clrPends_eventsOnly _ _ _))
      (State.setPort_eventsOnly _ p _)) (ih _)))
    exact .trans (.ite (s.bump_eventsOnly _ p 0 0) (.refl s)) (State.setPort_eventsOnly _ p _)

theorem State.linkAct_eventsOnly (s : State) (p : Nat) : EventsOnly s (s.linkAct p) := by
  unfold State.linkAct
  exact .ite (.refl s) (.ite (s.sendEvents_eventsOnly p 32) (.ite (.refl s) ⟨rfl, rfl⟩))

theorem State.linkLine_eventsOnly (s : State) (p l : Nat) : EventsOnly s (s.linkLine p l) :=
  (s.setPort_eventsOnly p _).trans (State.linkAct_eventsOnly _ p)

theorem State.copyCorr_eventsOnly (s : State) : EventsOnly s s.copyCorr := by
  have copied (t : State) (d : Nat) (l : List Nat) : EventsOnly t (l.foldl (fun t a =>
      (t.setF F.PRISM_CORR_ACT_I (t.f F.PRISM_CORR_PEND_I d a) d a).setF F.PRISM_CORR_ACT_Q (t.f F.PRISM_CORR_PEND_Q d a) d a) t) :=
    .foldl (fun t a => (t.setF_eventsOnly F.PRISM_CORR_ACT_I _ d a 0).trans (State.setF_eventsOnly _ F.PRISM_CORR_ACT_Q _ d a 0)) l
  unfold State.copyCorr
  exact ((EventsOnly.foldl (fun t d => copied t d _) _).trans (State.bump_eventsOnly _ F.PRISM_CORR_COMMIT_COMMITS 0 0 0)).trans
    (State.setF_eventsOnly _ F.PRISM_CORR_COMMIT_ARMED 0 0 0 0)

theorem State.armCommit_eventsOnly (s : State) : EventsOnly s s.armCommit := by
  unfold State.armCommit
  exact .ite (.refl s) (.ite (.refl s) (.ite ⟨rfl, rfl⟩ s.copyCorr_eventsOnly))

theorem State.prismLine_eventsOnly (s : State) (l : Nat) : EventsOnly s (s.prismLine l) := by
  unfold State.prismLine
  exact .ite (.refl s) (s.armCommit_eventsOnly.trans ⟨rfl, rfl⟩)

theorem State.actOn_eventsOnly (s : State) (t l : Nat) : EventsOnly s (s.actOn t l) := by
  unfold State.actOn
  exact .ite (s.evalTarget_eventsOnly t) (.ite (s.linkLine_eventsOnly _ l) (.ite (s.prismLine_eventsOnly l) (.refl s)))

theorem State.levelTo_eventsOnly (s : State) (l t : Nat) : EventsOnly s (State.levelTo l s t) := by
  unfold State.levelTo
  exact .ite ((s.setF_eventsOnly F.EVC_PEND_PEND _ t (l / 32) 0).trans (State.actOn_eventsOnly _ t l)) (.refl s)

theorem State.followLine_eventsOnly (s : State) (l : Nat) (c : Bool) : EventsOnly s (s.followLine l c) := by
  unfold State.followLine State.assertLine
  refine .ite (.ite (.refl s) (.trans ?_ (.foldl (fun t a => t.levelTo_eventsOnly l a) _))) ⟨rfl, rfl⟩
  exact ⟨rfl, rfl⟩

theorem State.ledgerLines_eventsOnly (s : State) : EventsOnly s s.ledgerLines :=
  .foldl (fun t v => t.followLine_eventsOnly v _) _

/-! ### The ledger (R462, R464) -/

theorem State.ledger_faults (s : State) (code a b : Nat) : (s.ledger code a b).faults = (s.recordEntry code a b).faults :=
  (State.ledgerLines_eventsOnly _).faults

/-- Entries before the one that equals an occurrence stay before it; that one counts the occurrence. -/
theorem mergeEntry_append {code a b : Nat} {xs ys : List LedgerEntry} {e : LedgerEntry} (he : e.code = code ∧ e.argA = a ∧ e.argB = b)
    (hxs : ∀ x ∈ xs, ¬(x.code = code ∧ x.argA = a ∧ x.argB = b)) :
    mergeEntry code a b (xs ++ e :: ys) = some (xs ++ { e with rep := min 63 (e.rep + 1) } :: ys) := by
  induction xs with
  | nil => exact if_pos he
  | cons x xs ih =>
    obtain ⟨hx, hxs⟩ := List.forall_mem_cons.mp hxs
    rw [List.cons_append, mergeEntry, if_neg hx, ih hxs]
    rfl

theorem mergeEntry_eq_none {code a b : Nat} {es : List LedgerEntry} (h : ∀ x ∈ es, ¬(x.code = code ∧ x.argA = a ∧ x.argB = b)) :
    mergeEntry code a b es = none := by
  induction es with
  | nil => rfl
  | cons e es ih =>
    obtain ⟨he, hes⟩ := List.forall_mem_cons.mp h
    rw [mergeEntry, if_neg he, ih hes]
    rfl

/-- An occurrence that merges with no entry, the first new one of its tick, joins a ledger with room at its end. -/
theorem State.recordEntry_of_new {s : State} {code a b : Nat}
    (h : ∀ x ∈ s.faults.entries, ¬(x.code = code ∧ x.argA = a % 2 ^ 32 ∧ x.argB = b % 2 ^ 32)) (hroom : s.faults.entries.length < 32)
    (hfresh : s.faults.freshAt ≠ s.elapsed) :
    (s.recordEntry code a b).faults.entries = s.faults.entries ++ [s.newEntry code a b] ∧
      (s.recordEntry code a b).faults.nextSeq = (s.faults.nextSeq + 1) % 65536 := by
  have hmates : s.cycleMates = 0 := if_neg hfresh
  have hmates : s.cycleMates = 0 := if_neg hfresh
  rw [State.recordEntry, mergeEntry_eq_none h]
  simp [hmates, insertEntry, State.putEntry, State.dropLatest, hroom, State.appendEntry,
    State.newEntry]

/-- Settles O52: an occurrence finds the first entry it equals, or joins at the end; the lines of the ledger touch no entry. -/
theorem equalOccurrencesMerge : Obligations.EqualOccurrencesMerge := by
  refine ⟨fun s code a b xs ys e hes hc ha hb hxs => ?_, fun s code a b h hroom hfresh => ?_⟩
  · have hmerge := mergeEntry_append (ys := ys) ⟨hc, ha, hb⟩ hxs
    rw [State.ledger_faults, State.recordEntry, hes, hmerge]
    exact ⟨rfl, rfl⟩
  · rw [State.ledger_faults]
    exact State.recordEntry_of_new h hroom hfresh

/-! ### Denials (R329) -/

theorem State.putEntry_fab (s : State) (x : LedgerEntry) : (s.putEntry x).fab = s.fab := by
  unfold State.putEntry
  split
  · rfl
  · dsimp only
    split <;> rfl

theorem State.foldl_putEntry_fab (l : List LedgerEntry) (s : State) : (l.foldl State.putEntry s).fab = s.fab := by
  induction l generalizing s with
  | nil => rfl
  | cons x l ih => exact (ih _).trans (s.putEntry_fab x)

@[simp] theorem State.ledger_fab (s : State) (code a b : Nat) : (s.ledger code a b).fab = s.fab := by
  refine (State.ledgerLines_eventsOnly _).fab.trans ?_
  unfold State.recordEntry
  split
  · rfl
  · exact State.foldl_putEntry_fab _ _

theorem State.deny_fab (s : State) (i : Initiator) (k : AccKind) (a : Nat) : (s.deny i k a).fab = s.fab := by
  simp [State.deny]

theorem State.deny_mem (s : State) (i : Initiator) (k : AccKind) (a b : Nat) : (s.deny i k a).readByte b = s.readByte b :=
  (State.deny_keeps (may := fun _ => false) (kp := false) (.refl s) i k a).mem b rfl

/-- A denied access is answered, and nothing else is done for it. -/
theorem State.fabricAccess_of_denied {s : State} {i : Initiator} {k : AccKind} {a n : Nat} (h : s.permitted i k a n = false)
    (data ecc : Nat) : s.fabricAccess i k a n data ecc = (s.deny i k a).answer (iniNum i) 1 0 := by
  simp [State.fabricAccess, h]

theorem State.answer_readByte (s : State) (n c d b : Nat) : (s.answer n c d).readByte b = s.readByte b := rfl

theorem State.answer_waiting (s : State) (n c d : Nat) : (s.answer n c d).fab.waiting = s.fab.waiting := rfl

theorem State.answer_rsp (s : State) (n c d : Nat) : SMap.get {} (s.answer n c d).fab.rsp n = { code := c, data := d } := by
  simp [State.answer]

/-- Settles O51. -/
theorem deniedAccessReachesNothing : Obligations.DeniedAccessReachesNothing := by
  intro s t i k a n data ecc hawake hdenied h
  have hexec : exec (.fabricAccess i k a n data ecc) s = .next ((s.deny i k a.toNat).answer (iniNum i) 1 0) :=
    congrArg Host.Outcome.next ((State.core_awake hawake _).trans (State.fabricAccess_of_denied hdenied data ecc))
  obtain rfl := Host.Outcome.next.inj (hexec.symm.trans h)
  refine ⟨fun b => ?_, ?_, ?_⟩
  · rw [State.answer_readByte, State.deny_mem]
  · rw [State.answer_waiting, State.deny_fab]
  · rw [State.answer_rsp]

/-! ### Software lines (R361) -/

/-- SOFTWARE_LINE_SET that reaches the concentrator has the effect of the write. -/
theorem exec_softwareLineSet_of_reach {s : State} (h : s.reach (regAddr .EVC_SWSET) = true) (w : Word) :
    exec (.softwareLineSet w) s = .next (s.swSet (bits w.toNat 0 10)) :=
  State.regCmd_reach h _

/-- Settles O53. -/
theorem softwareLinePulses : Obligations.SoftwareLinePulses := by
  rintro s w i hreach rfl
  rw [exec_softwareLineSet_of_reach hreach]
  exact ⟨fun h => congrArg _ (if_pos h), fun h => congrArg _ (if_neg h)⟩

/-! ### Claims (R357) -/

theorem bit_clrBit_self (v i : Nat) : bit (clrBit v i) i = false := by
  unfold clrBit
  split
  · next h =>
    rw [bit_testBit] at h ⊢
    have hle := Nat.ge_two_pow_of_testBit h
    rw [← Nat.sub_add_cancel hle, Nat.add_comm, Nat.testBit_two_pow_add_eq] at h
    simpa using h
  · next h => simpa using h

/-- A field of the concentrator, or of a register after it, that begins at bit 0 is none of those that presentation changes. -/
theorem State.f_evalTarget (s : State) (t : Nat) {y : Fld} (hlo : y.lo = 0) {i j k : Nat} (hkey : 0x40030000 * 32 ≤ y.key i j k) :
    (s.evalTarget t).f y i j k = s.f y i j k := by
  have status (u : State) {x : Fld} (hx : x.lo % 32 ≠ 0) (v m : Nat) : (u.setF x v m).f y i j k = u.f y i j k :=
    State.f_setF_lo u x y v m 0 0 i j k (by omega)
  have power (u : State) {x : Fld} (hx : x.key 0 0 0 < 0x40030000 * 32) (v : Nat) : (u.setF x v).f y i j k = u.f y i j k :=
    State.f_setF_ne u x y v 0 0 0 i j k (by omega)
  have hpres : F.EVC_TGT_STATUS_PRESENTED.lo % 32 ≠ 0 := by decide
  have hrun : F.EVC_TGT_STATUS_TIMER_RUN.lo % 32 ≠ 0 := by decide
  have hslow : F.EVC_TGT_STATUS_SLOW.lo % 32 ≠ 0 := by decide
  have hfrom : F.PWR_WAKE_STATUS_FROM.key 0 0 0 < 0x40030000 * 32 := by decide
  have hsrc : F.PWR_WAKE_STATUS_SOURCES.key 0 0 0 < 0x40030000 * 32 := by decide
  have hlast : F.PWR_LAST_WAKE_SOURCE.key 0 0 0 < 0x40030000 * 32 := by decide
  have hmod (u : State) (m : Nat) (v : ModTimer) : (u.setModT m v).f y i j k = u.f y i j k := rfl
  have hpower (u : State) (v : Power) : { u with power := v }.f y i j k = u.f y i j k := rfl
  have hwake (u : State) : u.wakeDim.f y i j k = u.f y i j k := by
    unfold State.wakeDim
    split_ifs
    · rw [power _ hlast, power _ hsrc, power _ hfrom, hpower]
    · rfl
    · rfl
  have hstart (u : State) : (u.startMod t).f y i j k = u.f y i j k := by
    simp only [State.startMod, status _ hslow, status _ hrun, hmod]
  simp only [State.evalTarget]
  split_ifs <;> simp only [hwake, hstart, hmod, status _ hpres, status _ hrun, status _ hslow]

theorem State.evSvc_evalTarget (s : State) (t u l : Nat) : (s.evalTarget t).evSvc u l = s.evSvc u l := by
  have hwake (v : State) : v.wakeDim.evc = v.evc := by
    unfold State.wakeDim
    split_ifs <;> rfl
  have hsvc : (s.evalTarget t).evc.inSvc = s.evc.inSvc := by
    simp only [State.evalTarget]
    split_ifs <;> simp [hwake, State.startMod, State.setModT]
  rw [State.evSvc, hsvc, State.evSvc]

/-- A claim with a deliverable line: the line is pending no more and in service, LAST_CLAIM shows it, and presentation follows. -/
theorem State.claim_of_best {s : State} {t l : Nat} (h : s.bestLine (s.deliverable t) = some l) :
    s.claim t = (((s.clrB F.EVC_PEND_PEND (l % 32) t (l / 32)).setSvc t l true).setF F.EVC_TGT_STATUS_LAST_CLAIM l t).evalTarget t := by
  rw [State.claim, h]

theorem pendKey_ge (t w : Nat) : 0x40030000 * 32 ≤ F.EVC_PEND_PEND.key t w 0 := by
  simp only [Fld.key, Fld.addr, F.EVC_PEND_PEND]; omega

theorem lastClaimKey_ge (t : Nat) : 0x40030000 * 32 ≤ F.EVC_TGT_STATUS_LAST_CLAIM.key t 0 0 := by
  simp only [Fld.key, Fld.addr, F.EVC_TGT_STATUS_LAST_CLAIM]; omega

/-- LAST_CLAIM of the Lantern target lies below every pending bit. -/
theorem pendKey_ne_lastClaim (w : Nat) : F.EVC_PEND_PEND.key 0 w 0 ≠ F.EVC_TGT_STATUS_LAST_CLAIM.key 0 0 0 := by
  simp only [Fld.key, Fld.addr, F.EVC_PEND_PEND, F.EVC_TGT_STATUS_LAST_CLAIM]; omega

/-- EVENT_CLAIM that reaches the concentrator claims for Lantern and answers it. -/
theorem exec_eventClaim_of_reach {s : State} (h : s.reach (regAddr .EVC_CLAIM) = true) :
    exec .eventClaim s = .next ((s.claim 0).answer 0 0 (s.claimLine 0)) :=
  State.regCmd_reach h _

/-- Settles O55. -/
theorem claimTakesTheLine : Obligations.ClaimTakesTheLine := by
  constructor
  · intro s l hreach hbest
    have hline : s.claimLine 0 = l := by rw [State.claimLine, hbest]; rfl
    rw [exec_eventClaim_of_reach hreach, hline, State.claim_of_best hbest]
    refine ⟨_, rfl, ?_, ?_, ?_, SMap.get_set_self ..⟩
    · rw [State.evPend, State.answer_f, State.f_evalTarget _ 0 rfl (pendKey_ge 0 _),
        State.f_setF_ne _ _ _ _ _ _ _ _ _ _ (pendKey_ne_lastClaim _)]
      show bit ((s.setF F.EVC_PEND_PEND _ 0 (l / 32)).f F.EVC_PEND_PEND 0 (l / 32)) _ = false
      rw [State.f_setF_self]
      exact (bit_mod_two_pow (Nat.mod_lt l (by decide))).trans (bit_clrBit_self _ _)
    · refine (State.evSvc_evalTarget _ 0 0 l).trans ?_
      simp [State.evSvc, State.setSvc]
    · rw [State.answer_f, State.f_evalTarget _ 0 rfl (lastClaimKey_ge 0), State.f_setF_self]
      rfl
  · intro s hreach hnone
    have hline : s.claimLine 0 = 1023 := by rw [State.claimLine, hnone]; rfl
    rw [exec_eventClaim_of_reach hreach, hline]
    exact ⟨_, rfl, by simp [State.answer]⟩

end Sys2Proof.Machine

/-! ## Resets, losses and stores, and the bytes they leave alone (O8, O56, O57, O60, O58) -/

namespace Sys2Proof.Machine

/-! ### Values taken out of a map -/

theorem SMap.get_drop_of_dropped {α : Type} (d : α) (p : Nat → Bool) (m : SMap α) {k : Nat} (h : p k = true) :
    SMap.get d (SMap.drop p m) k = d := by
  unfold SMap.drop
  induction m with
  | nil => rfl
  | cons e m ih =>
    rw [List.filter_cons]
    split
    · next he =>
      have hne : k ≠ e.1 := fun hek => by simp [← hek, h] at he
      simp only [SMap.get, ih]
      simp [hne]
    · exact ih

/-! ### The loss of REFCLK (R401, R405) -/

/-- Undefined contents never stand in a register of the always-on domain. -/
theorem get_undefinedRegs_of_keepsAo (m : SMap Nat) (es : List (Nat × Nat)) {k : Nat} (h : keepsAo k = true) :
    SMap.get 0 (undefinedRegs m es) k = SMap.get 0 m k := by
  induction es with
  | nil => rfl
  | cons e es ih =>
    obtain ⟨q, v⟩ := e
    unfold undefinedRegs
    generalize fldOfKey q = o
    cases o with
    | none => exact ih
    | some x =>
      dsimp only
      split
      · exact ih
      · next hq =>
        have hne : k ≠ q := fun hkq => hq (hkq ▸ h)
        rw [SMap.get_set_ne _ _ _ hne, ih]

theorem State.f_refclkLoss (s : State) {x : Fld} {i j k : Nat} (h : alwaysOn (x.key i j k / 32) = true) :
    s.refclkLoss.f x i j k = s.f x i j k := by
  have hdrop : (!keepsAo (x.key i j k)) = false := by rw [keepsAo, h]; rfl
  have hget : SMap.get 0 s.undefine.regs (x.key i j k) = SMap.get 0 s.regs (x.key i j k) := by
    unfold State.undefine
    rw [get_undefinedRegs_of_keepsAo _ _ h, SMap.get_drop _ _ _ _ hdrop]
  exact congrArg (· ^^^ x.reset i j) hget

/-- Settles O56. -/
theorem refclkLossSparesAlwaysOn : Obligations.RefclkLossSparesAlwaysOn :=
  fun s => ⟨s.refclkLoss, rfl, fun _ => rfl, fun _ _ _ _ h => s.f_refclkLoss h⟩

/-! ### RESET_N (R439, R440) -/

theorem State.f_cleared_kept (s : State) {x : Fld} {i j k : Nat} (h : keptField false (x.key i j k) = true) :
    (s.cleared false).f x i j k = s.f x i j k := by
  have hget := SMap.get_drop 0 (fun q => !keptField false q) s.regs (x.key i j k) (by simp [h])
  exact congrArg (· ^^^ x.reset i j) hget

theorem State.f_cleared_of_lost (s : State) {x : Fld} {i j k : Nat} (h : keptField false (x.key i j k) = false) :
    (s.cleared false).f x i j k = x.reset i j := by
  have hget := SMap.get_drop_of_dropped 0 (fun q => !keptField false q) s.regs (k := x.key i j k) (by simp [h])
  exact (congrArg (· ^^^ x.reset i j) hget).trans (Nat.zero_xor _)

theorem State.readByte_cleared_kept (s : State) {a : Nat} (h : keptByte false a = true) :
    (s.cleared false).readByte a = s.readByte a :=
  SMap.get_drop 0 (fun b => !keptByte false b) s.mem a (by simp [h])

/-- The cause of the start is no field that a reset keeps. -/
theorem keptField_cause : keptField false (F.SYS_BOOT_STATUS_CAUSE.key 0 0 0) = false := by decide +kernel

/-- RESET_N held low resets the whole device and records the cause. -/
theorem State.pinReset_of_running {s : State} (h : s.boot.por = false) :
    s.pinReset false = { s.wholeReset 2 false with boot := { (s.wholeReset 2 false).boot with pin := true } } := by
  simp [State.pinReset, h]

/-- Settles O57. -/
theorem pinResetClearsTheDevice : Obligations.PinResetClearsTheDevice := by
  intro s hpor
  refine ⟨_, congrArg Host.Outcome.next (State.pinReset_of_running hpor), rfl, rfl, fun x i j k hlost hcause => ?_, fun x i j k hkept => ?_, ?_,
    fun a ha => s.readByte_cleared_kept ha⟩
  · exact (State.f_setF_ne _ _ x 2 0 0 0 i j k hcause).trans (s.f_cleared_of_lost hlost)
  · have hne : x.key i j k ≠ F.SYS_BOOT_STATUS_CAUSE.key 0 0 0 := fun h => by
      rw [h, keptField_cause] at hkept
      cases hkept
    exact (State.f_setF_ne _ _ x 2 0 0 0 i j k hne).trans (s.f_cleared_kept hkept)
  · exact State.f_setF_self (s.cleared false) F.SYS_BOOT_STATUS_CAUSE 2 0 0 0

/-- Settles O58: the field store keeps differences to the reset values, and it is empty. -/
theorem resetValues : Obligations.ResetValues :=
  ⟨rfl, rfl, fun x i j _ => Nat.zero_xor (x.reset i j), fun _ => rfl⟩

/-! ### Cache lines in a range (R332, R333) -/

/-- A line overlaps a range exactly when it shares a byte with it. -/
theorem inRange_iff (a n k : Nat) : inRange a n k = true ↔ ∃ b, a ≤ b ∧ b < a + n ∧ k = b / 32 := by
  simp only [inRange, Bool.and_eq_true, decide_eq_true_eq]
  constructor
  · rintro ⟨⟨hn, hlo⟩, hhi⟩
    exact ⟨max a (k * 32), by omega, by omega, by omega⟩
  · rintro ⟨b, hab, hbn, rfl⟩
    omega

/-- Settles O60. -/
theorem invalidateDiscardsWholeLines : Obligations.InvalidateDiscardsWholeLines := by
  intro s a n hawake
  refine ⟨(s.lcSet a.toNat).invIf (inRange a.toNat n), congrArg _ (State.core_awake hawake _), fun k b hab hbn hk => ?_,
    fun k hk => ?_, fun _ => rfl⟩
  · rw [State.dline_invIf, if_pos ((inRange_iff ..).mpr ⟨b, hab, hbn, hk⟩)]
  · rw [State.dline_invIf, if_neg fun hin => ?_]
    · rfl
    · obtain ⟨b, hab, hbn, hkb⟩ := (inRange_iff ..).mp hin
      exact hk b hab hbn hkb

/-! ### Where a store writes -/

/-- The `n` bytes from `b`. -/
def inBytes (b n a : Nat) : Bool := decide (b ≤ a ∧ a < b + n)

theorem inBytes_of {b n a : Nat} (h1 : b ≤ a) (h2 : a < b + n) : inBytes b n a = true := decide_eq_true ⟨h1, h2⟩

/-- What changes no byte but the `n` bytes from `b`, answered by a command, leaves every other byte as it was. -/
theorem Nexts.readByte_eq {s t : State} {o : Out} {b n a : Nat} (h : Nexts o (Keeps (inBytes b n) false s)) (ht : o = .next t)
    (ha : ¬(b ≤ a ∧ a < b + n)) : t.readByte a = s.readByte a := by
  obtain ⟨u, rfl, hu⟩ := h
  cases ht
  exact hu.mem a (decide_eq_false ha)

section
variable {may : Nat → Bool} {kp : Bool} {s₀ s : State}

/-- A write of bytes into DPD memory stores no byte but its own (R155, R157). -/
theorem State.dpdMemWrite_within (h : Keeps may kp s₀ s) (o : Nat) (bs : List Byte)
    (hq : ∀ x, dpdBase + o ≤ x → x < dpdBase + o + bs.length → may x = true) : Keeps may kp s₀ (s.dpdMemWrite o bs) := by
  unfold State.dpdMemWrite
  refine .ite (State.discarded_keeps h _) (.foldlMem _ _ (fun t e he ht => .ite ht (State.writeByte_within ht _ _ ?_)) h)
  have hlt := List.snd_lt_of_mem_zipIdx he
  exact hq _ (by omega) (by omega)

/-- The store of a request writes its own bytes in SRAM outside the predistorters and in the retention SRAM. -/
theorem State.storeAt_within (h : Keeps may kp s₀ s) {ini a n data : Nat}
    (ha : sram a = true ∧ regionOf a ≠ .dpd ∨ regionOf a = .retention) (hq : ∀ x, a ≤ x → x < a + n → may x = true) :
    Keeps may kp s₀ (s.storeAt ini a n data) := by
  have hplain : s.storeAt ini a n data = s.writeLE a n data := by
    unfold State.storeAt
    unfold sram at ha
    cases hr : regionOf a <;> simp [hr] at ha ⊢
  rw [hplain]
  exact State.writeLE_within h a n data hq

/-- The MRAM controller writes the bytes of the request it serves. -/
theorem State.mramStore_within (h : Keeps may kp s₀ s) (a n data : Nat) (hq : ∀ x, a ≤ x → x < a + n → may x = true) :
    Keeps may kp s₀ (s.mramStore a n data) :=
  (State.writeLE_within h a n data hq).rest rfl rfl rfl rfl rfl

theorem State.mramWrite_within (h : Keeps may kp s₀ s) {r : Request} (hr : s.mramNext true = some r)
    (hq : ∀ x, r.addr ≤ x → x < r.addr + r.size → may x = true) : Keeps may kp s₀ s.mramWrite := by
  simp only [State.mramWrite, hr]
  exact .ite (State.moveBegin_keeps h _) (State.answer_keeps (State.mramStore_within (State.mramDone_keeps h r) _ _ _ hq) ..)

/-- The write buffer retires a local store into its own bytes. -/
theorem State.storeRetire_within (h : Keeps may kp s₀ s) {n : Fin 16} {b : BufStore} {bs : List BufStore}
    (hbuf : (s.eng n).buf = b :: bs) (hlocal : b.window = false)
    (hq : ∀ x, b.addr ≤ x → x < b.addr + b.bytes.length → may x = true) : Keeps may kp s₀ (s.storeRetire n) := by
  simp only [State.storeRetire, hbuf, hlocal]
  exact .ite h (State.writeBytes_within (State.staleStore_keeps (State.setEng_keeps h _ _) _ _) _ _ hq)

/-- What a point grants, of an initiator without a cache, reaches SRAM and the retention SRAM in its own bytes. -/
theorem State.serve_within (h : Keeps may kp s₀ s) {r : Request} (hini : 2 ≤ r.ini)
    (ha : sram r.addr = true ∧ regionOf r.addr ≠ .dpd ∨ regionOf r.addr = .retention)
    (hq : ∀ x, r.addr ≤ x → x < r.addr + r.size → may x = true) : Keeps may kp s₀ (s.serve r) := by
  have hmram : regionOf r.addr ≠ .mram := by
    intro hr
    rcases ha with ⟨hs, -⟩ | hret
    · simp [sram, hr] at hs
    · simp [hr] at hret
  have hcached : cached r.ini r.kind r.addr = false := by simp [cached]; omega
  simp only [State.serve, if_neg hmram, hcached, Bool.false_eq_true, if_false]
  refine .ite (State.answer_keeps (State.bump_keeps h _ _ _ _ (by with_unfolding_all rfl)) ..) (.ite (.ite (State.answer_keeps h ..) ?_) ?_)
  · exact State.answer_keeps (State.storeAt_within h ha hq) ..
  · exact State.answer_keeps (State.loadAt_keeps h ..) ..

theorem State.grantReq_within (h : Keeps may kp s₀ s) (p : Nat) {r : Request} (hini : 2 ≤ r.ini)
    (ha : sram r.addr = true ∧ regionOf r.addr ≠ .dpd ∨ regionOf r.addr = .retention)
    (hq : ∀ x, r.addr ≤ x → x < r.addr + r.size → may x = true) : Keeps may kp s₀ (s.grantReq p r) := by
  unfold State.grantReq
  refine State.serve_within ?_ hini ha hq
  apply Keeps.mk
  refine State.setWaiting_keeps ?_ ..
  exact .ite (State.bump_keeps h _ _ _ _ (by split <;> with_unfolding_all rfl)) h

theorem State.fabricGrant_within (h : Keeps may kp s₀ s) {p : Nat} {r : Request} (hr : s.nextGrant p = some r) (hini : 2 ≤ r.ini)
    (ha : sram r.addr = true ∧ regionOf r.addr ≠ .dpd ∨ regionOf r.addr = .retention)
    (hq : ∀ x, r.addr ≤ x → x < r.addr + r.size → may x = true) : Keeps may kp s₀ (s.fabricGrant p) := by
  have counted {t : State} (ht : Keeps may kp s₀ t) (c : Prop) [Decidable c] :
      Keeps may kp s₀ (if c then t.bump F.PTB_COUNT_DELAYED else t) :=
    .ite (State.bump_keeps ht _ _ _ _ (by with_unfolding_all rfl)) ht
  have drawn := counted (t := { s with ptb := { s.ptb with gen := (s.delayFor p r.cls).2.2 } }) (h.rest rfl rfl rfl rfl rfl)
    ((s.delayFor p r.cls).1 = true)
  simp only [State.fabricGrant, hr]
  exact .ite (.ite h (State.grantReq_within h p hini ha hq))
    (.ite (State.grantReq_within drawn p hini ha hq) (drawn.rest rfl rfl rfl rfl rfl))

theorem length_pairWords (l : List (Word × Word)) : (pairWords l).length = 2 * l.length := by
  induction l with
  | nil => rfl
  | cons e l ih => simp only [pairWords, List.flatMap_cons, List.length_append, List.length_cons, List.length_nil] at ih ⊢; omega

/-- The correlator writes inside its result buffer (R169). -/
theorem State.orxResultWrite_within (h : Keeps may kp s₀ s) {k : Nat} {p : Capture} {x : CaptureStats}
    (hend : (s.orxR k).ended = some (p, x)) (hq : ∀ a, resultAddr p.buf ≤ a → a < resultAddr p.buf + 0x4340 → may a = true) :
    Keeps may kp s₀ (s.orxResultWrite k) := by
  have hp : (x.p.take 64).length ≤ 64 := List.length_take_le ..
  have hr : (x.r.take 2080).length ≤ 2080 := List.length_take_le ..
  simp only [State.orxResultWrite, hend]
  refine State.pulse_keeps (State.setOrx_keeps (State.setPair_keeps (State.clrB_keeps (State.setB_keeps ?_ _ _ _ _ _
    (by with_unfolding_all rfl)) _ _ _ _ _ (by with_unfolding_all rfl)) ..) ..) _
  refine State.writeWords_within (State.writeWords_within (State.writeWords_within h _ _ ?_) _ _ ?_) _ _ ?_
  · exact fun a h1 h2 => hq a h1 (by simp only [List.length_cons, List.length_nil] at h2; omega)
  · exact fun a h1 h2 => hq a (by omega) (by rw [length_pairWords] at h2; omega)
  · exact fun a h1 h2 => hq a (by omega) (by rw [length_pairWords] at h2; omega)

end

/-- The buffer of a round is named by registers. -/
theorem State.mirBuf_congr {s t : State} (h : t.regs = s.regs) : t.mirBuf = s.mirBuf := by
  simp only [State.mirBuf, State.f, h]

theorem State.mirRecord_regs (s : State) (p : Probe) (v : MirValue) : (s.mirRecord p v).regs = s.regs := by
  unfold State.mirRecord
  dsimp only
  split
  · simp only [State.writeWords_regs]
  · rfl

section
variable {may : Nat → Bool} {kp : Bool} {s₀ s : State}

/-- A record stands inside the records of its round's buffer (R191). -/
theorem State.mirRecord_within (h : Keeps may kp s₀ s) (p : Probe) (v : MirValue)
    (hq : ∀ a, s.mirBuf + 0x40 ≤ a → a < s.mirBuf + 0x40 + 16 * 576 → may a = true) : Keeps may kp s₀ (s.mirRecord p v) := by
  unfold State.mirRecord
  dsimp only
  split
  · next hroom =>
    have hlen : s.mir.have_.length < 576 := by simp only [Bool.and_eq_true, decide_eq_true_eq] at hroom; exact hroom.2
    apply Keeps.mk
    refine State.writeWords_within h _ _ fun a h1 h2 => hq a (by omega) ?_
    simp only [List.length_cons, List.length_nil] at h2
    omega
  · exact h

theorem State.mirRecords_within (h : Keeps may kp s₀ s)
    (hq : ∀ a, s.mirBuf + 0x40 ≤ a → a < s.mirBuf + 0x40 + 16 * 576 → may a = true) : Keeps may kp s₀ s.mirRecords := by
  have recorded (p : Probe) (vs : List MirValue) : Keeps may kp s₀ (vs.foldl (fun s v => s.mirRecord p v) s) := by
    suffices hboth : Keeps may kp s₀ (vs.foldl (fun s v => s.mirRecord p v) s) ∧
        (vs.foldl (fun s v => s.mirRecord p v) s).regs = s.regs from hboth.1
    induction vs using List.reverseRecOn with
    | nil => exact ⟨h, rfl⟩
    | append_singleton vs v ih =>
      obtain ⟨hkeeps, hregs⟩ := ih
      rw [List.foldl_append]
      refine ⟨State.mirRecord_within hkeeps p v ?_, (State.mirRecord_regs _ p v).trans hregs⟩
      rwa [State.mirBuf_congr hregs]
  unfold State.mirRecords
  split
  · exact h
  · refine .ite ?_ h
    apply Keeps.mk
    exact recorded _ _

end

/-- Settles O8: each storing command keeps every byte but those of its store. -/
theorem storesStayInPlace : Obligations.StoresStayInPlace := by
  refine ⟨?dpdDescriptor, ?dpdSet, ?retire, ?mram, ?result, ?records, ?grant⟩
  case dpdDescriptor =>
    rintro s t n ix w b a rfl
    exact Nexts.readByte_eq (State.regCmd_keeps (.refl s) _ (State.dpdMemWrite_within (.refl s) _ _
      fun x h1 h2 => inBytes_of (by omega) (by simpa [wordBytes, Nat.add_assoc] using h2)))
  case dpdSet =>
    rintro s t x w b a rfl
    exact Nexts.readByte_eq (State.regCmd_keeps (.refl s) _ (State.dpdMemWrite_within (.refl s) _ _ fun _ => inBytes_of))
  case retire =>
    intro s t n b bs a hbuf hlocal
    exact Nexts.readByte_eq (.of (State.core_keeps (.refl s) (State.storeRetire_within (.refl s) hbuf hlocal fun _ => inBytes_of)))
  case mram =>
    intro s t r a hr
    exact Nexts.readByte_eq (.of (State.core_keeps (.refl s) (State.mramWrite_within (.refl s) hr fun _ => inBytes_of)))
  case result =>
    rintro s t k p x b a hend rfl
    exact Nexts.readByte_eq (.of (State.core_keeps (.refl s) (State.orxResultWrite_within (.refl s) hend fun _ => inBytes_of)))
  case records =>
    rintro s t b a rfl
    exact Nexts.readByte_eq (.of (State.core_keeps (.refl s) (State.mirRecords_within (.refl s) fun _ => inBytes_of)))
  case grant =>
    intro s t p r a hr hini ha
    exact Nexts.readByte_eq (.of (State.core_keeps (.refl s) (State.fabricGrant_within (.refl s) hr hini ha fun _ => inBytes_of)))

end Sys2Proof.Machine

/-! ## What a command answers: the form of the proofs about single commands -/

namespace Sys2Proof.Machine

/-- A command on a register that can be reached answers what its effect is. -/
theorem regCmd_eq {s t u : State} {a : Nat} (h : s.reach a = true) (ht : t = u) : s.regCmd a t = .next u :=
  ht ▸ State.regCmd_reach h t

/-- An event of the core domain answers what its effect is. -/
theorem core_eq {s t u : State} (h : s.awake = true) (ht : t = u) : (.next (s.core t) : Out) = .next u :=
  congrArg Host.Outcome.next ((State.core_awake h t).trans ht)

end Sys2Proof.Machine

/-! ## Commands of the radio front end (O13, O14, O15) -/

namespace Sys2Proof.Machine

/-- A hop is armed where no tile conflicts and none is pending. -/
theorem State.hopArm_of_free {s : State} {g v : Nat} (hgo : bit v 31 = true)
    (hfree : (List.range 8).any (fun i => s.f F.RFC_TILE_STATE_TILE (8 * g + i) != 0 &&
      s.tileTl (8 * g + i) != s.f F.RFC_LOP_CTRL_TL g) = false) (hnone : s.on F.RFC_LOP_STATUS_HOP_PENDING g = false) :
    (s.hopArm g v).f F.RFC_LOP_STATUS_HOP_PENDING g = 1 ∧ SMap.get 0 (s.hopArm g v).radio.hopArmed g = s.elapsed := by
  rw [State.hopArm]
  simp only [hgo, hfree, hnone, Bool.not_false, Bool.and_self, if_true]
  exact ⟨State.f_setF_self _ F.RFC_LOP_STATUS_HOP_PENDING 1 g 0 0, SMap.get_set_self ..⟩

/-- Settles O13, command by command. -/
theorem synthesiserAndHopCommands : Obligations.SynthesiserAndHopCommands := by
  refine ⟨?timelineEnableWrite, ?loFrequencyWrite, ?loFrequencyWrite2, ?synthEnableWrite, ?synthLock, ?synthLock2, ?hopArm,
    ?hopLand⟩
  case timelineEnableWrite =>
    intro s k w hreach htlOn hcond happlyFields
    exact regCmd_eq hreach (by simp [State.tlCfgWrite, htlOn, hcond, happlyFields])
  case loFrequencyWrite =>
    intro s m w hreach henabled hen hloPermitted
    exact regCmd_eq hreach (by simp [State.loFrequencyWrite, henabled, hen, hloPermitted])
  case loFrequencyWrite2 =>
    intro s m w hreach henabled hen hloPermitted
    exact regCmd_eq hreach (by simp [State.loFrequencyWrite, henabled, hen, hloPermitted])
  case synthEnableWrite =>
    intro s m w hreach hen heffect
    exact regCmd_eq hreach (by simp [State.synthEnableWrite, hen, heffect, bit_or31, -Nat.reducePow, -Nat.reducePow])
  case synthLock =>
    intro s m hawake hrelock hbusy hactive
    exact core_eq hawake (by simp [State.synthLock, hrelock, hbusy, hactive])
  case synthLock2 =>
    intro s m hawake hrelock hbusy hactive
    exact core_eq hawake (by simp [State.synthLock, hrelock, hbusy, hactive])
  case hopArm =>
    intro s g w hreach hfree hnone
    exact ⟨_, State.regCmd_reach hreach _, State.hopArm_of_free (bit_or31 _) hfree hnone⟩
  case hopLand =>
    intro s g hawake hhopReady
    exact core_eq hawake (by simp [State.hopLand, hhopReady])

/-- The requests that a tile holds or is carrying out. -/
def Tile.requests (x : Tile) : Option Burst × Option Burst × Option RxRun := (x.burst, x.nextBurst, x.nextRun)

theorem State.tile_setF (s : State) (x : Fld) (v i j k t : Nat) : (s.setF x v i j k).tile t = s.tile t := rfl

@[simp] theorem State.tile_zsHoldTile (s : State) (c t u : Nat) : (s.zsHoldTile c t).tile u = s.tile u := by
  unfold State.zsHoldTile
  induction tilePaths t generalizing s with
  | nil => rfl
  | cons n ns ih => exact (ih _).trans rfl

theorem State.rxOff_requests (s : State) (t : Nat) : ((s.rxOff t).tile t).requests = (s.tile t).requests := by
  have cleared (ns : List Nat) (u : State) :
      (ns.foldl (fun s n => (s.setF F.RXP_PWR_COARSE_VALID 0 n).setF F.RXP_PWR_FINE_VALID 0 n) u).tile t = u.tile t := by
    induction ns generalizing u with
    | nil => rfl
    | cons n ns ih => exact (ih _).trans rfl
  rw [State.rxOff, cleared]
  split
  · rw [State.tile_setTile_self]; rfl
  · rfl

theorem State.bgCut_requests (s : State) (t : Nat) : ((s.bgCut t).tile t).requests = (s.tile t).requests := by
  unfold State.bgCut
  dsimp only
  split
  · rw [State.tile_setF, State.tile_setTile_self]; rfl
  · rfl

theorem State.tryLeaveOff_requests (s : State) (t : Nat) : ((s.tryLeaveOff t).tile t).requests = (s.tile t).requests := by
  have left (x : Tile) (hx : x.requests = (s.tile t).requests) : ((s.setTile t x).tile t).requests = (s.tile t).requests := by
    rw [State.tile_setTile_self, hx]
  unfold State.tryLeaveOff
  dsimp only
  split_ifs
  · rfl
  · rfl
  · exact left _ rfl
  · exact left _ rfl
  · rfl

theorem State.tryGoOff_requests (s : State) (t : Nat) : ((s.tryGoOff t).tile t).requests = (s.tile t).requests := by
  unfold State.tryGoOff
  split
  · rw [State.tile_setTile_self, ← State.bgCut_requests s t]; rfl
  · rfl

/-- A disable cuts the burst on the air and drops the requests that wait (R512). -/
theorem State.tileDisable_requests (s : State) (t v : Nat) : ((s.tileDisable t v).tile t).requests =
    ((((s.writeReg .RFC_TILE_CTRL v t).flushShadow (.tile t)).tile t).burst.map (fun b => { b with cut := true }), none, none) := by
  unfold State.tileDisable
  dsimp only
  rw [State.tryGoOff_requests, State.tryLeaveOff_requests, State.bgCut_requests]
  generalize (s.writeReg .RFC_TILE_CTRL v t).flushShadow (.tile t) = u
  have held (w : State) (c : Prop) [Decidable c] :
      ((if c then (w.setF F.RFC_TILE_STATE_TXH 3 t).zsHoldTile 1 t else w).tile t) = w.tile t := by
    split <;> simp [State.tile_setF]
  have calmed (w : State) (c : Prop) [Decidable c] :
      ((if c then (((w.setF F.RFC_TILE_CAL_FG_BUSY 0 t).setF F.RFC_TILE_STATE_CAL_FG 0 t).setF F.RFC_TILE_STATE_CAL_RUN 0 t).setF
        F.RFC_TILE_STATE_TILE 1 t else w).tile t) = w.tile t := by
    split <;> simp [State.tile_setF]
  rw [calmed, State.rxOff_requests, held, State.tile_setTile_self]
  rfl

/-- Settles O14, command by command. -/
theorem tileCommandsComplete : Obligations.TileCommandsComplete := by
  refine ⟨?tileEnable, ?tileDisable, ?tileIdleReached, ?tileOffReached, ?burstRequest, ?rxRunRequest, ?txHalfOn, ?txHalfOff,
    ?txHalfOff2, ?rxHalfOn, ?gpioEdge, ?gpioEdge2, ?gpioEdge3⟩
  case tileEnable =>
    rintro s u v t w hreach happly htlOn rfl hen
    exact regCmd_eq hreach (by simp [State.tileEnable, happly, htlOn, hen, -Nat.reducePow])
  case tileDisable =>
    intro s t w hreach
    refine ⟨_, State.regCmd_reach hreach _, ?_⟩
    have hreq := s.tileDisable_requests t (w.toNat % 2 ^ 31)
    simp only [Tile.requests, Prod.mk.injEq] at hreq
    obtain ⟨hburst, hnextBurst, hnextRun⟩ := hreq
    refine ⟨hnextBurst, hnextRun, fun b hb => ?_⟩
    obtain ⟨c, -, rfl⟩ := Option.map_eq_some_iff.mp (hburst.symm.trans hb)
    rfl
  case tileIdleReached =>
    intro s t hawake hgoing hoffToIdle hen
    exact core_eq hawake (by simp [State.tileIdleReached, hgoing, hoffToIdle, hen])
  case tileOffReached =>
    intro s t hawake hgoing htxh hrxh
    exact core_eq hawake (by simp [State.tileOffReached, hgoing, htxh, hrxh])
  case burstRequest =>
    intro s t len hawake hen htileState hburst honGrid
    exact core_eq hawake (by simp [State.burstRequest, hen, htileState, hburst, honGrid])
  case rxRunRequest =>
    intro s t len hawake hen htileState hrun honGrid
    exact core_eq hawake (by simp [State.rxRunRequest, hen, htileState, hrun, honGrid])
  case txHalfOn =>
    intro s t hawake htxh
    exact core_eq hawake (by simp [State.txHalfOn, htxh])
  case txHalfOff =>
    intro s t hawake htxh hon
    exact core_eq hawake (by simp [State.txHalfOff, htxh, hon])
  case txHalfOff2 =>
    intro s t hawake htxh hon
    exact core_eq hawake (by simp [State.txHalfOff, htxh, hon])
  case rxHalfOn =>
    intro s t hawake hrxh htdd
    exact core_eq hawake (by simp [State.rxHalfOn, hrxh, htdd])
  case gpioEdge =>
    intro s t level hawake hgpioDue hon
    exact core_eq hawake (by simp [State.gpioEdge, hgpioDue, hon, State.gpioSet, Tile.fn])
  case gpioEdge2 =>
    intro s t level hawake hgpioDue hon
    exact core_eq hawake (by simp [State.gpioEdge, hgpioDue, hon, State.gpioSet, Tile.fn])
  case gpioEdge3 =>
    intro s t level hawake hgpioDue hon
    exact core_eq hawake (by simp [State.gpioEdge, hgpioDue, hon, State.gpioSet, Tile.fn])

/-- The programming of a regulatory fuse that nothing forbids begins (R74). -/
theorem State.fuseProgram_of_open {s : State} {v : Nat} (hgo : bit v 31 = true) (hseal : s.on F.SYS_SEAL_SEAL = false)
    (hopen : s.on F.FUSE_REG_DUTY_CLOSED = false) (hbit : bits v 0 10 ≤ 752) (hidle : s.on F.FUSE_REG_PROG_BUSY = false) :
    (s.fuseProgram v).f F.FUSE_REG_PROG_BUSY = 1 ∧ (s.fuseProgram v).f F.FUSE_REG_PROG_ERR = 0 ∧
      (s.fuseProgram v).radio.fuseBit = bits v 0 10 := by
  have hlow : ¬752 < bits v 0 10 := by omega
  simp only [State.fuseProgram, hgo, hseal, hopen, hidle, hlow, decide_false, Bool.or_self, Bool.true_eq_false, Bool.false_eq_true,
    if_false]
  refine ⟨State.f_setF_self _ F.FUSE_REG_PROG_BUSY 1 0 0 0, ?_, trivial⟩
  exact (State.f_setF_lo _ F.FUSE_REG_PROG_BUSY F.FUSE_REG_PROG_ERR 1 0 0 0 0 0 0 (by decide)).trans
    (State.f_setF_self _ F.FUSE_REG_PROG_ERR 0 0 0 0)

/-- Settles O15, command by command. -/
theorem calibrationDutyAndFuseCommands : Obligations.CalibrationDutyAndFuseCommands := by
  refine ⟨?calRequest, ?calStart, ?calEnd, ?calEnd2, ?bgPassTimer, ?bgCalStep, ?dutyLimit, ?dutySliceEnd, ?fuseProgram⟩
  case calRequest =>
    intro s t w hreach hbusy
    exact regCmd_eq hreach (by simp [State.calRequest, hbusy])
  case calStart =>
    intro s t hawake hreq htileState hen hgoing htxh hrxh hrunning hbusy
    exact core_eq hawake (by simp [State.calStart, hreq, htileState, hen, hgoing, htxh, hrxh, hrunning, hbusy])
  case calEnd =>
    intro s t hawake htileState hrun hcalRan
    exact core_eq hawake (by simp [State.calEnd, htileState, hrun, hcalRan])
  case calEnd2 =>
    intro s t hawake htileState hrun hran
    refine core_eq hawake ?_
    rw [State.calEnd, if_pos ⟨htileState, hrun, hran⟩]
    rfl
  case bgPassTimer =>
    intro s t hawake htimer hperiod htodo htileState
    exact core_eq hawake (by simp [State.bgPassTimer, htimer, hperiod, htodo, htileState])
  case bgCalStep =>
    intro s t r hawake hrunning hcalRan hstep htodo
    exact core_eq hawake (by cases r <;> simp [State.bgCalStep, hrunning, hcalRan, hstep, htodo])
  case dutyLimit =>
    intro s t hawake hdutyLimit hgate
    exact core_eq hawake (by simp [State.dutyReached, hdutyLimit, hgate])
  case dutySliceEnd =>
    intro s t hawake hnow
    exact core_eq hawake (by simp [State.dutySliceEnd, hnow])
  case fuseProgram =>
    intro s w hreach hseal hopen hbit hidle
    exact ⟨_, State.regCmd_reach hreach _, State.fuseProgram_of_open (bit_or31 _) hseal hopen hbit hidle⟩

end Sys2Proof.Machine

/-! ## Commands of the receive and transmit paths (O16, O17) -/

namespace Sys2Proof.Machine

/-- Settles O16, command by command. -/
theorem receivePathCommandsComplete : Obligations.ReceivePathCommandsComplete := by
  refine ⟨?rxPathEnable, ?cfirCoefWrite, ?cfirCoefWrite2, ?agcAttack, ?agcHoldEnd, ?adcOverload, ?adcOverload2, ?finePowerWindow,
    ?rxPathBoundary⟩
  case rxPathEnable =>
    intro s u n w hreach happly hrxMayEnable hen
    exact regCmd_eq hreach (by simp [State.rxCtrlWrite, happly, hrxMayEnable, hen, bit_or31, -Nat.reducePow])
  case cfirCoefWrite =>
    intro s n b i w hreach hactive
    exact regCmd_eq hreach (by simp [State.cfirWrite, hactive])
  case cfirCoefWrite2 =>
    intro s n b i w hreach hactive
    exact regCmd_eq hreach (by simp [State.cfirWrite, hactive])
  case agcAttack =>
    rintro s u n hawake hlive hfree hvalid hhigh rfl
    refine core_eq hawake ?_
    rw [State.agcAttack, if_pos (by simp [hlive, hfree, hvalid, hhigh])]
    rfl
  case agcHoldEnd =>
    intro s n hawake hhold hrxHalfIsOn
    exact core_eq hawake (by simp [State.agcHoldEnd, hhold, hrxHalfIsOn])
  case adcOverload =>
    rintro s u n hawake hrxHalfIsOn hovlQ rfl
    exact core_eq hawake (by simp [State.adcOverload, hrxHalfIsOn, hovlQ])
  case adcOverload2 =>
    rintro s u n hawake hrxHalfIsOn hovlI rfl
    exact core_eq hawake (by simp [State.adcOverload, hrxHalfIsOn, hovlI])
  case finePowerWindow =>
    intro s n code hawake hfineDone hrxHalfIsOn hrxOn
    exact core_eq hawake (by simp [State.fineWindow, hfineDone, hrxHalfIsOn, hrxOn])
  case rxPathBoundary =>
    intro s u n hawake hrxOn htl hnow hair hskew hu hsat
    refine core_eq hawake ?_
    rw [State.rxPathBoundary, if_pos (by simp [hrxOn, htl, hnow, hair])]
    simp only [hskew, Bool.false_eq_true, if_false, ← hu, hsat]

/-- A noise shaper's overload holds the path at zero scale for four ticks (R116, R121). -/
theorem State.nsOverload_of_found {s : State} {n : Nat} (hfree : s.on F.TXP_ZS_STATUS_ZERO n = false)
    (hfound : (s.txp n).nsFound = true) : ∃ u : State, s.nsOverload n = u.ledger 0x0A n ∧ (u.txp n).ovlEnd = s.elapsed + 4 ∧
      (u.txp n).dpd.ovl = true := by
  refine ⟨_, if_neg (by simp [hfree, hfound]), ?_, ?_⟩ <;> rw [State.txp_setTxp_self]

/-- Settles O17, command by command. -/
theorem transmitPathCommandsComplete : Obligations.TransmitPathCommandsComplete := by
  refine ⟨?txPathEnable, ?txPathDisable, ?nsOverload, ?nsOverloadEnd, ?taggedSampleStage, ?tileBoundary⟩
  case txPathEnable =>
    intro s u n w hreach happly htxMayEnable hen
    exact regCmd_eq hreach (by simp [State.txCtrlWrite, happly, htxMayEnable, hen, bit_or31, -Nat.reducePow])
  case txPathDisable =>
    intro s u n w hreach happly
    exact regCmd_eq hreach (by simp [State.txCtrlWrite, happly, bit_mod31, -Nat.reducePow])
  case nsOverload =>
    intro s n hawake hfree hfound
    obtain ⟨u, hu, hend, hovl⟩ := State.nsOverload_of_found hfree hfound
    exact ⟨u, core_eq hawake hu, hend, hovl⟩
  case nsOverloadEnd =>
    intro s n hawake hcause hovlEnd
    exact core_eq hawake (by simp [State.nsOverloadEnd, hcause, hovlEnd])
  case taggedSampleStage =>
    intro s n g hawake
    exact core_eq hawake (by simp [State.taggedStage])
  case tileBoundary =>
    rintro s u t hawake htlOn hisAir rfl
    exact core_eq hawake (by simp [State.tileBoundary, htlOn, hisAir])

end Sys2Proof.Machine

/-! ## Commands of the Prism and of the predistorters (O18, O19) -/

namespace Sys2Proof.Machine

/-- A range that begins after the next cut-off waits in its layer's queue and loses nothing (R136). -/
theorem State.rangeAccept_of_ahead {s : State} {marked : Nat → Bool} {f frame sym count : Nat} {entry : Option Nat}
    (hhere : s.absent 16 = false)
    (hahead : s.nextCut f s.now < s.frameIdx (s.layTl f) frame s.now * symPerFrame (s.mu (s.layTl f)) + sym)
    (hroom : (s.layer f).queue.length < 8) :
    s.rangeAccept marked f frame sym count entry = s.setLayer f { s.layer f with queue := (s.layer f).queue ++
      [⟨s.frameIdx (s.layTl f) frame s.now * symPerFrame (s.mu (s.layTl f)) + sym, count, entry⟩] } := by
  unfold State.rangeAccept
  dsimp only
  generalize s.frameIdx (s.layTl f) frame s.now * symPerFrame (s.mu (s.layTl f)) + sym = first at hahead ⊢
  generalize s.nextCut f s.now = nxt at hahead ⊢
  have hpast : ¬first + count ≤ nxt := by omega
  have hfull : ¬8 ≤ (s.layer f).queue.length := by omega
  have hnow : ¬first ≤ nxt := by omega
  have hmax : max first nxt = first := by omega
  have hnoneLate : ((List.range count).filter fun i => decide (first + i < nxt) && s.symMarked marked (first + i)) = [] := by
    refine List.filter_eq_nil_iff.mpr fun i _ => ?_
    have hi : ¬first + i < nxt := by omega
    simp [hi]
  simp only [hhere, Bool.false_eq_true, if_false, hpast, hfull, hnoneLate, hmax, hnow, List.length_nil, if_true, false_and,
    Nat.add_sub_cancel_left]

/-- At the boundary of an unmarked transmit symbol the layer's banks swap to zero (R134). -/
theorem State.prismTxBoundary_of_unmarked {s u : State} {f : Nat} (hruns : s.carRuns f = true) (hdir : s.layDir f = 0)
    (hair : s.isAir (s.layTl f) (s.layAir f s.now) = true) (hu : u = (s.commitShadow (.car 0 (s.layCar f)) 2).landLen f 2)
    (hlen : u.on F.PRISM_LAYER_CFG_LEN f = true) (hmark : u.marked 0 (s.layCar f) (s.layAir f s.now) = false) :
    ∃ v : State, s.prismTxBoundary f = v.preloadBegin f (s.symIdx (s.layTl f) (s.layAir f s.now) + 1) ∧
      v.prism = (u.swapBanks f true).prism := by
  rw [State.prismTxBoundary, if_pos (by simp [hruns, hdir, hair])]
  simp only [← hu, hlen, hmark, Bool.not_true, Bool.false_eq_true, if_false, Bool.false_and, Bool.not_false, Bool.true_or]
  exact ⟨_, rfl, rfl⟩

/-- Settles O18, command by command. -/
theorem prismCommandsComplete : Obligations.PrismCommandsComplete := by
  refine ⟨?preloadComplete, ?layerEnableWrite, ?corrCommitArm, ?corrCommitArm2, ?corrCommitLand, ?corrPendWrite,
    ?prismRxBoundary, ?prismTxBoundary, ?preloadCutoff, ?controlRangeAccept, ?prismEnableWrite⟩
  case preloadComplete =>
    intro s f e hawake hload hvalid
    exact core_eq hawake (by simp [State.preloadComplete, hload, hvalid])
  case layerEnableWrite =>
    intro s u f w hreach hlen happly hprismFits
    exact regCmd_eq hreach (by simp [State.layerEnableWrite, hlen, happly, hprismFits, bit_or31, -Nat.reducePow])
  case corrCommitArm =>
    intro s w hreach habsent harmed hen
    exact regCmd_eq hreach (by simp [State.corrCommitArm, habsent, harmed, hen, State.armCommit, bit_or31, -Nat.reducePow])
  case corrCommitArm2 =>
    intro s w hreach habsent harmed hen
    exact regCmd_eq hreach (by simp [State.corrCommitArm, habsent, harmed, hen, State.armCommit, bit_or31, -Nat.reducePow])
  case corrCommitLand =>
    intro s hawake harmed hprismOn htlOn hisFrame hprism
    exact core_eq hawake (by simp [State.corrCommitLand, harmed, hprismOn, htlOn, hisFrame, hprism])
  case corrPendWrite =>
    intro s d a w hreach harmed
    exact regCmd_eq hreach (by simp [State.corrPendWrite, harmed])
  case prismRxBoundary =>
    intro s u f hawake hruns hdir hair hu hlen hshd
    refine core_eq hawake ?_
    have hbeam : (u.layer f).shd.isNone = false := by simpa [Option.isSome_iff_ne_none] using hshd
    rw [State.prismRxBoundary, if_pos (by simp [hruns, hdir, hair])]
    simp only [← hu, hlen, hbeam, Bool.not_true, Bool.false_eq_true, if_false, Bool.and_false, Bool.or_false]
  case prismTxBoundary =>
    intro s u f hawake hruns hdir hair hu hlen hmark
    obtain ⟨v, hv, hprism⟩ := State.prismTxBoundary_of_unmarked hruns hdir hair hu hlen hmark
    exact ⟨v, core_eq hawake hv, hprism⟩
  case preloadCutoff =>
    intro s f hawake hcarRuns hlayDir hisAir
    exact core_eq hawake (by simp [State.preloadCutoff, hcarRuns, hlayDir, hisAir])
  case controlRangeAccept =>
    intro s f frame sym count entry hawake hreleased hsuspended hhere hahead hroom
    refine core_eq hawake ?_
    rw [State.controlRange, if_neg (by simp [hreleased, hsuspended]), State.rangeAccept_of_ahead hhere hahead hroom]
  case prismEnableWrite =>
    intro s u w hreach hcond happly hen hallRun hduplex
    exact regCmd_eq hreach (by simp [State.prismEnableWrite, hcond, happly, hallRun, hduplex])

/-- Of 16 indices only one satisfies a predicate that picks it. -/
theorem idxWhere_single (e : Fin 16) {p : Nat → Bool} (h : ∀ j < 16, p j = decide (j = e.val)) : idxWhere 16 p = [e.val] := by
  have hpick : ∀ e : Fin 16, (List.range 16).filter (fun j => decide (j = e.val)) = [e.val] := by decide
  rw [← hpick e]
  exact List.filter_congr fun j hj => h j (List.mem_range.mp hj)

/-- Settles O19, command by command. -/
theorem dpdCommandsComplete : Obligations.DpdCommandsComplete := by
  refine ⟨?dpdGo, ?dpdStagingDone, ?dpdInstall, ?dpdTrialVerdict, ?dpdTrialLapse, ?dpdUnfreeze, ?dpdBypass, ?dpdBypassEndRequest,
    ?dpdDescriptorWrite, ?dpdSetWrite, ?txPathBoundary⟩
  case dpdGo =>
    rintro s u n w hreach hpending htrial hfrozen hrd32 rfl
    exact regCmd_eq hreach (by simp [State.dpdGo, hpending, htrial, hfrozen, hrd32, bit_or31, -Nat.reducePow])
  case dpdStagingDone =>
    intro s n g hawake hstaged hdone
    exact core_eq hawake (by simp [State.dpdStagingDone, hstaged, hdone])
  case dpdInstall =>
    intro s n g hawake hstaged hdone hat_ hboundaryMade happlied
    exact core_eq hawake (by simp [State.dpdInstall, hstaged, hdone, hat_, hboundaryMade, happlied])
  case dpdTrialVerdict =>
    intro s n hawake hboundaryDue hisTrial
    exact core_eq hawake (by simp [State.dpdTrialVerdict, hboundaryDue, hisTrial])
  case dpdTrialLapse =>
    intro s n hawake htrial htl hisTrial
    exact core_eq hawake (by simp [State.dpdTrialLapse, htrial, htl, hisTrial])
  case dpdUnfreeze =>
    intro s n w e hreach hone
    exact regCmd_eq hreach (by rw [State.dpdUnfreeze, idxWhere_single e hone]; rfl)
  case dpdBypass =>
    rintro s u n hawake hboundaryDue hlimit hbypassed htrial rfl
    exact core_eq hawake (by simp [State.dpdBypass, hboundaryDue, hlimit, hbypassed, htrial])
  case dpdBypassEndRequest =>
    intro s n w hreach hbypassed
    exact regCmd_eq hreach (by simp [State.dpdBypassEndRequest, hbypassed, bit_or31, -Nat.reducePow])
  case dpdDescriptorWrite =>
    intro s n x w hreach hopen
    exact regCmd_eq hreach (State.dpdMemWrite_open s _ w.toNat hopen (by omega))
  case dpdSetWrite =>
    intro s a w hreach hopen hlow
    exact regCmd_eq hreach (State.dpdMemWrite_open s _ w.toNat hopen (by omega))
  case txPathBoundary =>
    intro s u v n bad hawake hair hskew hsel hu hv
    have hother : 8 * (n.val / 8) + s.f F.ORX_STATUS_SEL (n / 8) ≠ n := by omega
    refine core_eq hawake ?_
    rw [State.txPathBoundary, if_pos hair]
    simp only [hskew, hother, Bool.false_eq_true, if_false, ← hu, ← hv]

end Sys2Proof.Machine

/-! ## Commands of the observation receivers and of the Mirror (O20, O21) -/

namespace Sys2Proof.Machine

/-- A capture begins on the path picked, into the free buffer (R166, R168). -/
theorem State.orxCaptureStart_of_pick {s : State} {k n h : Nat} (hen : s.on F.ORX_CTRL_EN k = true) (hidle : (s.orxR k).cap = none)
    (hown : s.orxReserved k = false) (hpick : s.orxPick k = some n) (hbuf : s.freeBuf k = some h) :
    (s.orxCaptureStart k).f F.ORX_STATUS_BUSY k = 1 ∧ (s.orxCaptureStart k).f F.ORX_STATUS_PATH k = n % 64 ∧
      (s.orxCaptureStart k).mem = s.mem ∧ ((s.orxCaptureStart k).orxR k).cap = some (s.newCapture k n h) := by
  have kept (u : State) (c : Prop) [Decidable c] {x : Fld} (hx : x.lo % 32 ≠ 30) :
      (if c then u.setF F.ORX_REQ_PEND 0 k else u).f x k = u.f x k := by
    split
    · exact State.f_setF_lo u F.ORX_REQ_PEND x 0 k 0 0 k 0 0 hx
    · rfl
  have hother {x y : Fld} (u : State) (v : Nat) (hxy : y.lo % 32 ≠ x.lo % 32) : (u.setF x v k).f y k = u.f y k :=
    State.f_setF_lo u x y v k 0 0 k 0 0 hxy
  have hstored (u : State) (r : Orx) (x : Fld) : (u.setOrx k r).f x k = u.f x k := rfl
  rw [State.orxCaptureStart, if_pos (by simp [hen, hidle, hown])]
  simp only [hpick, hbuf]
  refine ⟨?_, ?_, ?_, ?_⟩
  · rw [hstored, kept _ _ (by decide), hother _ _ (by decide), hother _ _ (by decide)]
    exact State.f_setF_self s F.ORX_STATUS_BUSY 1 k 0 0
  · rw [hstored, kept _ _ (by decide), hother _ _ (by decide)]
    exact State.f_setF_self _ F.ORX_STATUS_PATH n k 0 0
  · split <;> rfl
  · rw [State.orxR_setOrx_self]

/-- Settles O20, command by command. -/
theorem observationCommandsComplete : Obligations.ObservationCommandsComplete := by
  refine ⟨?orxCaptureStart, ?orxCaptureStart2, ?orxCaptureDiscard, ?orxCaptureEnd, ?orxResultWrite, ?orxRequest,
    ?orxBufferRelease, ?dpdRefreshEnd⟩
  case orxCaptureStart =>
    intro s k n h hawake hen hidle hown hpick hbuf
    refine ⟨_, core_eq hawake rfl, ?_⟩
    obtain ⟨hbusy, hpath, hmem, hcap⟩ := State.orxCaptureStart_of_pick hen hidle hown hpick hbuf
    refine ⟨hbusy, hpath, hmem, _, hcap, rfl, rfl, rfl, rfl, rfl, ?_, ?_⟩ <;> simp only [State.newCapture] <;> omega
  case orxCaptureStart2 =>
    intro s k hawake hen hidle hown hpick hnobuf
    obtain ⟨n, hn⟩ := Option.ne_none_iff_exists'.mp hpick
    exact core_eq hawake (by simp [State.orxCaptureStart, hen, hidle, hown, hn, hnobuf])
  case orxCaptureDiscard =>
    rintro s u k c p hawake hcap hdiscardDue rfl
    exact core_eq hawake (by simp [State.orxDiscard, hcap, hdiscardDue])
  case orxCaptureEnd =>
    rintro s u k p hawake hcap hlast hended hdiscardDue rfl
    exact core_eq hawake (by simp [State.orxCaptureEnd, hcap, hlast, hended, hdiscardDue])
  case orxResultWrite =>
    rintro s u v w k p st hawake hended rfl rfl rfl
    exact core_eq hawake (by simp [State.orxResultWrite, hended, -Nat.reducePow])
  case orxRequest =>
    intro s k w hreach
    exact regCmd_eq hreach (by simp [State.orxRequest, bit_or31, -Nat.reducePow])
  case orxBufferRelease =>
    intro s k w hreach
    exact regCmd_eq hreach (by simp [State.writeReg])
  case dpdRefreshEnd =>
    intro s hawake hnow
    exact core_eq hawake (by simp [State.dpdRefreshEnd, hnow])

/-- A round begins at the frame boundary its trigger waited for (R192). -/
theorem State.mirRoundStart_of_trigger {s u : State} (hen : s.on F.MIR_CFG_EN = true) (htl : s.tlOn s.mirTl = true)
    (hframe : s.isFrame s.mirTl s.now = true) (hprism : s.prismOn = true) (htrig : s.mir.trigger = true)
    (hidle : s.on F.MIR_ROUND_BUSY = false) (hu : u = s.commitShadow .mir 4) :
    s.mirRoundStart.on F.MIR_ROUND_BUSY = true ∧ s.mirRoundStart.mir.trigger = false ∧ s.mirRoundStart.mir.startTime = s.now ∧
      s.mirRoundStart.mir.done = [] ∧ s.mirRoundStart.mir.probe = none ∧
      s.mirRoundStart.mir.lastFrame = some (tlPhase (s.off s.mirTl) s.now / frameTicks) ∧ s.mirRoundStart.mem = u.mem := by
  have hbusy (w : State) : ((w.setF F.MIR_ROUND_BUSY 1).bump F.MIR_COUNT_ROUNDS).on F.MIR_ROUND_BUSY = true := by
    rw [State.on, State.bump, State.bumpBy, State.f_setF_lo _ _ _ _ _ _ _ _ _ _ (by decide), State.f_setF_self]
    rfl
  rw [State.mirRoundStart, if_pos (by simp [hen, htl, hframe])]
  simp only [← hu, htrig, hidle, hprism, Bool.true_or, Bool.not_false, Bool.and_self, if_true, true_and]
  exact ⟨hbusy ((u.setF F.MIR_ROUND_NUMBER ((u.f F.MIR_ROUND_NUMBER + 1) % 65536)).setF F.MIR_ROUND_PROBED 0), rfl⟩

/-- Nothing eligible is left to probe. -/
theorem State.mirComplete {s : State} (h : ((List.range 64).all fun e => !s.eligible e || s.mir.done.contains e) = true) :
    ((List.range 64).any fun e => s.eligible e && !s.mir.done.contains e) = false := by
  rw [List.any_eq_false]
  intro e he hopen
  have hclosed := List.all_eq_true.mp h e he
  obtain ⟨helig, hdone⟩ := (Bool.and_eq_true ..).mp hopen
  rw [Bool.not_eq_true'] at hdone
  rw [helig, hdone] at hclosed
  cases hclosed

/-- Settles O21, command by command. -/
theorem mirrorCommandsComplete : Obligations.MirrorCommandsComplete := by
  refine ⟨?mirEnableWrite, ?mirStartWrite, ?mirRoundStart, ?mirProbe, ?mirCaptureWindowEnd, ?mirRecordsWrite, ?mirRoundEnd,
    ?mirSolveGo, ?mirCommitArm⟩
  case mirEnableWrite =>
    intro s u w hreach hcond hen happly htlOn hmirClash
    exact regCmd_eq hreach (by simp [State.mirEnableWrite, hcond, hen, happly, htlOn, hmirClash])
  case mirStartWrite =>
    rintro s u w hreach rfl
    exact regCmd_eq hreach (by rw [State.mirStartWrite, if_pos (bit_or31 _)])
  case mirRoundStart =>
    intro s u hawake hen htl hframe hprism htrig hidle hu
    exact ⟨_, core_eq hawake rfl, State.mirRoundStart_of_trigger hen htl hframe hprism htrig hidle hu⟩
  case mirProbe =>
    intro s e hawake hplan hruns hfree helig hair hguard hcap
    refine ⟨_, core_eq hawake rfl, ?_⟩
    rw [State.mirProbe]
    simp only [hplan]
    rw [if_pos (by simp [hruns, hfree, helig, hair, hguard, hcap])]
    refine ⟨rfl, ?_⟩
    dsimp only
    rw [SMap.get_set_self]
  case mirCaptureWindowEnd =>
    rintro s u p lost hawake hprobe hopen hdone hzs hclips hen rfl rfl
    refine core_eq hawake ?_
    have hfew : ¬16 < p.clips := by omega
    simp only [State.mirWindowEnd, hprobe]
    rw [if_pos ⟨hopen, hdone⟩]
    simp only [hzs, hfew, hen, decide_false, Bool.not_true, Bool.or_self, Bool.false_or, Bool.false_eq_true, if_false,
      List.append_nil, if_true]
  case mirRecordsWrite =>
    intro s u p hawake hprobe hclosed hobs hpairs hu
    refine core_eq hawake ?_
    simp only [State.mirRecords, hprobe, hclosed, hobs, hpairs, Bool.or_self, Bool.false_eq_true, if_true, if_false, ← hu]
  case mirRoundEnd =>
    intro s u hawake hruns htl hfree horder hall hu
    refine core_eq hawake ?_
    rw [State.mirRoundEnd, if_pos (by simp [hruns, htl, hfree, horder])]
    simp only [State.mirComplete hall, Bool.false_eq_true, if_false, ← hu]
  case mirSolveGo =>
    intro s u w hreach hended haborted hspoiled hidle haccept hbase hu
    refine regCmd_eq hreach ?_
    rw [State.mirSolve, if_neg (by simp [bit_or31, -Nat.reducePow]), if_neg (by simp [hended, haborted, hspoiled, hidle,
      -Nat.reducePow]),
      if_neg (by simp [haccept, -Nat.reducePow]), if_neg (by simp [hbase]), ← hu]
  case mirCommitArm =>
    intro s u hawake hwaiting hfree hhere hu harmed
    refine core_eq hawake ?_
    rw [State.mirCommitArm, if_pos (by simp [hwaiting, hfree, hhere])]
    simp only [← hu]
    exact if_pos harmed

end Sys2Proof.Machine

/-! ## Commands of the flows and of the placement engine (O22, O23) -/

namespace Sys2Proof.Machine

/-- A write of FLW.CTRL with a request makes the request and asks for an epoch (R203, R213). -/
theorem State.flowCtrlWrite_of_request {s u : State} {f v q : Nat} (hq : bits v 30 2 = q) (hu : u = s.writeReg .FLW_CTRL v f) :
    s.flowCtrlWrite f v = if q = 0 then u else
      (if q = 1 then u.admitReq f else if q = 2 then u.releaseReq f else u.suspendReq f).epochTrigger := by
  subst hq hu
  rfl

/-- Settles O22, command by command. -/
theorem flowRequestsComplete : Obligations.FlowRequestsComplete := by
  refine ⟨?admitRequest, ?releaseRequest, ?suspendRequest, ?flowReleaseDone, ?flowStart, ?moveEffective, ?flowLatency,
    ?patternWrite⟩
  case admitRequest =>
    intro s u f w hreach hu hstate
    refine regCmd_eq hreach ((State.flowCtrlWrite_of_request (bits30_1 _) hu).trans ?_)
    simp [State.admitReq, hstate]
  case releaseRequest =>
    intro s u v t f w hreach hu hstate hv ht
    refine regCmd_eq hreach ((State.flowCtrlWrite_of_request (bits30_2 _) hu).trans ?_)
    simp only [State.releaseReq, if_pos hstate, ← hv, ← ht, OfNat.ofNat_ne_zero, OfNat.ofNat_ne_one, if_false, if_true]
  case suspendRequest =>
    intro s u f w hreach hu hstate
    refine regCmd_eq hreach ((State.flowCtrlWrite_of_request (bits30_3 _) hu).trans ?_)
    simp [State.suspendReq, hstate, State.suspendFlow]
  case flowReleaseDone =>
    rintro s u f hawake hfState hinflight rfl
    exact core_eq hawake (by simp [State.flowReleaseDone, hfState, hinflight])
  case flowStart =>
    intro s f a hawake hstart hfState hrunning hflowBoundary hisIq
    exact core_eq hawake (by simp [State.flowStart, hstart, hfState, hrunning, hflowBoundary, hisIq, State.setLen])
  case moveEffective =>
    intro s f a p m hawake hmove hat_ hnow hto_
    exact core_eq hawake (by simp [State.moveEffective, hmove, hat_, hnow, hto_])
  case flowLatency =>
    intro s f d ds hawake hlates
    exact core_eq hawake (by simp [State.flowLatency, hlates])
  case patternWrite =>
    intro s b k x w hreach hfree
    exact regCmd_eq hreach (if_neg (by rcases hfree with h | h <;> simp [h]))

/-- Settles O23, command by command. -/
theorem placementCommandsComplete : Obligations.PlacementCommandsComplete := by
  refine ⟨?epochGo, ?epochGo2, ?eventEpoch, ?frameEpoch, ?epochWalkEnd⟩
  case epochGo =>
    intro s w hreach hplcOn hbusy
    exact regCmd_eq hreach (by simp [State.epochTrigger, hplcOn, hbusy, bit_or31, -Nat.reducePow])
  case epochGo2 =>
    intro s w hreach hplcOn hbusy
    exact regCmd_eq hreach (by simp [State.epochTrigger, hplcOn, hbusy, bit_or31, -Nat.reducePow])
  case eventEpoch =>
    intro s u v hawake hwalk hu hv
    refine core_eq hawake ?_
    rw [State.eventEpoch, if_pos hwalk, State.walkDecide]
    simp only [Bool.not_false, Bool.false_eq_true, if_false, ← hu, ← hv]
  case frameEpoch =>
    intro s t u v r m hawake hwalk hon htl hframe ht hidle hu hv hr hm
    refine ⟨_, core_eq hawake ?_, rfl⟩
    rw [State.frameEpoch, if_neg (by simp [hwalk]), if_pos (by simp [hon, htl, hframe])]
    simp only [hidle, Bool.false_eq_true, if_false, ← ht, State.walkDecide, Bool.not_true, if_true, ← hu, ← hv, ← hr, ← hm]
  case epochWalkEnd =>
    intro s t u v fr hawake hwalk ht hu hv hrerun
    refine core_eq hawake ?_
    have hstill : ((v.setF F.PLC_EPOCH_COUNT ((v.f F.PLC_EPOCH_COUNT + 1) % 65536)).setF F.PLC_EPOCH_BUSY 0).on F.PLC_EPOCH_RERUN
      = false := by
      rw [State.on, State.f_setF_lo _ _ _ _ _ _ _ _ _ _ (by decide), State.f_setF_lo _ _ _ _ _ _ _ _ _ _ (by decide)]
      exact hrerun
    simp only [State.epochWalkEnd, hwalk, ← ht, ← hu, ← hv, hstill, Bool.false_eq_true, if_false]

end Sys2Proof.Machine

/-! ## Packets received and sent on the link (O24, O25) -/

namespace Sys2Proof.Machine

theorem State.flowAt_of_carries {s : State} {o : Option Nat} {f : Nat} {a : Nat → Nat} (ho : o = some f)
    (hcarries : s.carries f (a f) = true) : s.flowAt o a = some f := by
  subst ho
  exact if_pos hcarries

/-- A packet that passes its checks on an awake device has its message's effect. -/
theorem exec_of_passes {s u t : State} {l : Fin 16} {age : Nat} {ws : List Word} {k : InKind} (hawake : s.awake = true)
    (hkind : inKind ws = k) (hpass : s.passes l ws = true) (hseen : u = s.seqSeen (l / 4) k ws)
    (heffect : u.accept (l / 4) (l % 4) age k ws = t) : (.next (s.core (s.receive k l age ws)) : Out) = .next t :=
  core_eq hawake ((receive_passes hkind hpass rfl hseen).trans heffect)

/-- A packet that passes checks 1 and 2 of R262 and names nothing the device supports is refused. -/
theorem State.receive_unsupported {s : State} {l age : Nat} {ws : List Word} (hkind : inKind ws = .unsupported)
    (hen : s.on F.LNK_CFG_EN (l / 4) = true) (hready : s.ready? l = true) (hlong : 3 ≤ ws.length) (hlength : lengthOk ws = true)
    (hcrc : pw ws (ws.length - 1) = lineCrc ws.dropLast) :
    s.receive .unsupported l age ws = s.refusePkt (l / 4) F.LNK_ERR0_UNSUPPORTED := by
  rw [State.receive, if_pos ⟨hkind, hen, hready⟩, State.packetIn, if_neg (by simp [hlength, hcrc, hlong]), if_pos hkind]

/-- Settles O24: each packet passes its checks, and its message has its effect. -/
theorem linkReceptionCompletes : Obligations.LinkReceptionCompletes := by
  refine ⟨?iqDataReceive, ?realTimeControlReceive, ?beamWriteReceive, ?mgmtReqReceive, ?timeSyncReceive, ?delayRequestReceive,
    ?remoteRequestReceive, ?delayResponseReceive, ?unsupportedPacketReceive⟩
  case iqDataReceive =>
    intro s u l age ws f hawake hkind hpass hseen hflow hcarries hport hopen hclose hheld
    refine exec_of_passes hawake hkind hpass hseen ?_
    have hearly := Nat.not_lt.mpr hopen
    have hlate := Nat.not_lt.mpr hclose
    have hat := State.flowAt_of_carries
      (a := fun g => u.airOf (u.fTl g) (u.namedSym g (bits (ew ws 1) 22 10) (bits (ew ws 1) 11 11))) hflow hcarries
    simp only [State.accept, State.iqReceive, hat, hport, State.iqArrive, hheld, hearly, hlate,
      Bool.false_eq_true, if_false]
  case realTimeControlReceive =>
    intro s u l age ws f hawake hkind hpass hseen hflow hcarries hport
    refine exec_of_passes hawake hkind hpass hseen ?_
    have hat := State.flowAt_of_carries
      (a := fun g => u.airOf (u.fTl g) (u.namedSym g (bits (ew ws 2) 22 10) (bits (ew ws 2) 11 11))) hflow hcarries
    simp only [State.accept, State.rtcReceive, hat, hport, Bool.false_eq_true, if_false]
  case beamWriteReceive =>
    intro s u l age ws f hawake hkind hpass hseen hflow hcarries hport hdata hpermitted hhere
    refine exec_of_passes hawake hkind hpass hseen ?_
    have hat := State.flowAt_of_carries (a := fun _ => u.now) hflow hcarries
    simp only [State.accept, State.beamReceive, hat, hport, hdata, hpermitted, hhere, Bool.not_true, Bool.false_eq_true, if_false]
  case mgmtReqReceive =>
    intro s u v l age ws f h hawake hkind hpass hseen hflow hcarries hport hhead hroom hv
    refine exec_of_passes hawake hkind hpass hseen ?_
    have hat := State.flowAt_of_carries (a := fun _ => u.now) hflow hcarries
    simp only [State.accept, State.mgmtReceive, hat, hport, ← hhead, hroom, ← hv, Bool.false_eq_true, if_false]
  case timeSyncReceive =>
    intro s u l age ws hawake hkind hpass hseen hrole hlane
    exact exec_of_passes hawake hkind hpass hseen (if_pos ⟨hrole, hlane⟩)
  case delayRequestReceive =>
    intro s u l age ws hawake hkind hpass hseen
    refine exec_of_passes hawake hkind hpass hseen ?_
    rfl
  case remoteRequestReceive =>
    intro s u l age ws hawake hkind hpass hseen hopen
    refine exec_of_passes hawake hkind hpass hseen ?_
    exact if_pos hopen
  case delayResponseReceive =>
    intro s u l age ws t3 t1 t2 hawake hkind hpass hseen hdep hsync hid hintime hrole hlane
    refine exec_of_passes hawake hkind hpass hseen ?_
    simp only [State.accept, State.delayRspReceive, hdep, hsync, hid, hintime, hrole, hlane, ne_eq, not_true_eq_false, and_self,
      if_false, if_true]
  case unsupportedPacketReceive =>
    intro s l age ws hawake hkind hen hready hlong hlength hcrc
    exact core_eq hawake (State.receive_unsupported hkind hen hready hlong hlength hcrc)

/-- Settles O25, command by command. -/
theorem linkTransmissionCompletes : Obligations.LinkTransmissionCompletes := by
  refine ⟨?packetTransmit, ?rxIqPacketSend, ?capturePost, ?mgmtPost, ?delayMeasureGo, ?timeSyncTimer, ?placementNoticeSend,
    ?delayResponseTimeout, ?eventModTimer⟩
  case packetTransmit =>
    intro s l x m hawake hportOpen hready htxLpi hcur hwake hpick hport hbpHeld
    exact core_eq hawake (by simp [State.packetTransmit, hportOpen, hready, htxLpi, hcur, hwake, hpick, hport, hbpHeld])
  case rxIqPacketSend =>
    intro s u v f idx n l q xs hawake hin hmay hdeal hmore hxs hv
    refine core_eq hawake ?_
    have hnotLast : ¬packetsOf (s.symSamples f idx) ≤ (s.flow f).rxPkt + 1 := by omega
    simp only [State.rxIqSend, hin, hmay, hdeal, hnotLast, decide_false, Bool.not_true, Bool.false_eq_true, if_false,
      Option.bind_none,
      Option.map_none, List.map_map]
    rw [hv, hxs]
    rfl
  case capturePost =>
    intro s u p w f hreach hu hf hactive htype hcarries hfree hlanes
    refine regCmd_eq hreach ?_
    rw [State.capPostWrite, if_neg (by simp [bit_or31, -Nat.reducePow])]
    simp only [← hu, hf, hactive, htype, hcarries, hfree, hlanes, and_self, if_true, if_false]
  case mgmtPost =>
    intro s u p w hreach hu hfree hopen
    refine regCmd_eq hreach ?_
    simp only [State.mgmtPostWrite, ← hu, bit_or31, hfree, hopen, Bool.not_true, Bool.or_self, Bool.false_eq_true, if_false]
  case delayMeasureGo =>
    intro s p w hreach hportOpen
    exact regCmd_eq hreach (by simp [State.dmCtrlWrite, hportOpen, bit_or31, State.askDelay, -Nat.reducePow])
  case timeSyncTimer =>
    intro s p hawake hportOpen hrole hsyncAt
    exact core_eq hawake (by simp [State.timeSyncTimer, hportOpen, hrole, hsyncAt])
  case placementNoticeSend =>
    rintro s u v w f m e hawake hmove hat_ hsent hdue rfl rfl rfl
    exact core_eq hawake (by simp [State.noticeSend, hmove, hat_, hsent, hdue])
  case delayResponseTimeout =>
    intro s p t3 hawake hdep helapsed
    exact core_eq hawake (by simp [State.delayTimeout, hdep, helapsed, State.delayOver])
  case eventModTimer =>
    intro s p hdusk hdark hentry htimer hdue hgdis
    have hshallow : ¬2 ≤ s.power.entry := by omega
    exact congrArg Host.Outcome.next
      (by simp [State.eventModOver, State.eventModTimer, hdusk, hdark, hshallow, htimer, hdue, hgdis])

end Sys2Proof.Machine

/-! ## Bring-up, test and low-power idle of the lanes (O26, O27) -/

namespace Sys2Proof.Machine

/-- A skew within one step of the last and within the limit stands, and the lane goes on (R276). -/
theorem State.skewMeasured_of_settled {s : State} {l x v y : Nat} (hstage : (s.lane l).stage = 6)
    (hintime : s.overLimit 6 (s.lane l).at_ = false) (hv : v = if s.otherDeskew l then x else 0) (hlast : (s.lane l).skew = some y)
    (hup : v ≤ y + 1) (hdown : y ≤ v + 1) (hlimit : max v y ≤ s.skewLimit (l / 4)) :
    s.skewMeasured l x = ((s.setF F.LANE_STATE_SKEW v (l / 4) (l % 4)).setLane l { s.lane l with skew := some v }).enter l 7 := by
  have hagree : skewAgree v (some y) = true := by simp [skewAgree, hup, hdown]
  rw [State.skewMeasured, if_pos (by omega), if_pos hstage]
  simp only [← hv, hlast, Option.getD_some]
  exact if_pos (by simp [State.inStage, hstage, hintime, hagree, hlimit])

/-- Settles O26, command by command. -/
theorem laneBringUpCompletes : Obligations.LaneBringUpCompletes := by
  refine ⟨?portEnable, ?portDisable, ?laneStageEnd, ?laneStageEnd2, ?laneStageEnd3, ?laneStageEnd4, ?laneStageEnd5,
    ?laneStageEnd6, ?laneStageEnd7, ?laneTrainFail, ?laneIdleHoldEnd, ?laneReady, ?laneDown, ?laneRetrain, ?equaliserFreezeWrite,
    ?dfeTapWrite, ?characterError⟩
  case portEnable =>
    rintro s u p w hreach rfl hen hen2
    exact regCmd_eq hreach (by simp [State.portCfgWrite, hen, hen2, -Nat.reducePow])
  case portDisable =>
    rintro s u p w hreach rfl hen hen2
    exact regCmd_eq hreach (by simp [State.portCfgWrite, hen, hen2, -Nat.reducePow])
  case laneStageEnd =>
    intro s l hawake hinRx
    exact core_eq hawake (by simp [State.laneStageEnd, hinRx])
  case laneStageEnd2 =>
    intro s l hawake hinRx
    exact core_eq hawake (by simp [State.laneStageEnd, hinRx])
  case laneStageEnd3 =>
    intro s l hawake hinRx
    exact core_eq hawake (by simp [State.laneStageEnd, hinRx])
  case laneStageEnd4 =>
    intro s l inv hawake hinRx
    exact core_eq hawake (by simp [State.laneStageEnd, hinRx])
  case laneStageEnd5 =>
    intro s l x v y hawake hstage hintime hv hlast hup hdown hlimit
    exact core_eq hawake (State.skewMeasured_of_settled hstage hintime hv hlast hup hdown hlimit)
  case laneStageEnd6 =>
    intro s l k x y hawake hinRx
    exact core_eq hawake (by simp [State.laneStageEnd, hinRx])
  case laneStageEnd7 =>
    intro s l hawake hinStage
    exact core_eq hawake (by simp [State.laneStageEnd, hinStage])
  case laneTrainFail =>
    intro s l hawake hlane hstage hoverLimit
    exact core_eq hawake (by simp [State.trainFail, hlane, hstage, hoverLimit])
  case laneIdleHoldEnd =>
    intro s l t hawake hhold hel25
    exact core_eq hawake (by simp [State.holdEnd, hhold, hel25])
  case laneReady =>
    rintro s u l hawake hstage hsent hu hquiet
    refine core_eq hawake ?_
    rw [State.laneReadyNow, if_pos (by simp [hstage, hsent])]
    simp only [← hu]
    exact if_neg (by rcases hquiet with h | h <;> simp [h])
  case laneDown =>
    intro s l c hawake hrxLpi hready hcauseHolds
    exact core_eq hawake (by simp [State.laneDownFor, hrxLpi, hready, hcauseHolds, State.laneDown])
  case laneRetrain =>
    intro s l w hreach
    exact regCmd_eq hreach (by simp [State.laneCtrlWrite, bit_or31, -Nat.reducePow])
  case equaliserFreezeWrite =>
    intro s l w hreach
    exact regCmd_eq hreach (by simp [State.laneCtrlWrite, bit_mod31, -Nat.reducePow])
  case dfeTapWrite =>
    intro s l j w hreach hfrz
    exact regCmd_eq hreach (by simp [State.dfeTapWrite, hfrz])
  case characterError =>
    intro s l hawake hen hwidth
    exact core_eq hawake (by simp [State.characterError, hen, hwidth])

/-- Settles O27, command by command. -/
theorem laneTestAndIdleCommandsComplete : Obligations.LaneTestAndIdleCommandsComplete := by
  refine ⟨?prbsCtrlWrite, ?prbsLock, ?prbsLockLoss, ?injectOne, ?injectRate, ?eyeMeasureGo, ?eyeMeasureDone, ?lpiEntry,
    ?lpiReceive, ?lpiWake, ?lpiWakeDone, ?laneWakeFail⟩
  case prbsCtrlWrite =>
    rintro s u l w hreach hen rfl hchk hchk2 hstageOf
    exact regCmd_eq hreach (by simp [State.prbsCtrlWrite, hen, hchk, hchk2, hstageOf])
  case prbsLock =>
    intro s l hawake hstageOf hchk
    exact core_eq hawake (by simp [State.prbsLock, hstageOf, hchk])
  case prbsLockLoss =>
    intro s l hawake hlock hprbsLost
    exact core_eq hawake (by simp [State.prbsLockLoss, hlock, hprbsLost])
  case injectOne =>
    intro s u l w hreach hu hrate hsends
    refine regCmd_eq hreach ?_
    simp only [State.injectWrite, ← hu, hrate, bit_or31, hsends, if_true, Bool.and_self]
  case injectRate =>
    intro s l hawake hlog2 hlog22
    exact core_eq hawake (by simp [State.injectRate, hlog2, hlog22])
  case eyeMeasureGo =>
    intro s u l w hreach hidle hready hawakeRx hu
    refine regCmd_eq hreach ?_
    simp only [State.eyeCtrlWrite, ← hu, bit_or31, hidle, hready, hawakeRx, Bool.not_true, Bool.not_false, Bool.or_self,
      Bool.and_self,
      Bool.true_or, Bool.false_eq_true, if_false, if_true]
  case eyeMeasureDone =>
    intro s l n hawake hbusy heyeScan heyeDwelt
    exact core_eq hawake (by simp [State.eyeDone, hbusy, heyeScan, heyeDwelt])
  case lpiEntry =>
    intro s l hawake hready htxLpi hcur hwake hqueuedFor hen hsendsOn hdelay
    exact core_eq hawake (by simp [State.lpiEntry, hready, htxLpi, hcur, hwake, hqueuedFor, hen, hsendsOn, hdelay])
  case lpiReceive =>
    intro s l hawake hready
    exact core_eq hawake (by simp [State.lpiReceive, hready])
  case lpiWake =>
    intro s l hawake htxLpi hqueuedFor
    exact core_eq hawake (by simp [State.lpiWake, htxLpi, hqueuedFor])
  case lpiWakeDone =>
    intro s l t hawake hwake hel25
    exact core_eq hawake (by simp [State.lpiWakeDone, hwake, hel25])
  case laneWakeFail =>
    intro s l hawake hready hrxLpi
    exact core_eq hawake (by simp [State.laneWakeFail, hready, hrxLpi, State.laneDown])

end Sys2Proof.Machine

/-! ## Operations of the engines that compute (O28, O29) -/

namespace Sys2Proof.Machine

/-- An operation that acts answers what it does to the state in which its slot is used. -/
theorem op_eq {s u t : State} {n : Nat} {x : Slot} {ds : List Nat} {act : State → State} (h : s.mayOp n x ds = true)
    (hu : u = s.used n x) (ht : act u = t) : (.next (s.op n x ds act) : Out) = .next t := by
  subst hu ht
  exact congrArg Host.Outcome.next (State.op_may h act)

/-- An operation on its engine alone answers what it does to that engine. -/
theorem opE_eq {s u : State} {e : Engine} {n : Nat} {x : Slot} {ds : List Nat} {f : Engine → Engine} (h : s.mayOp n x ds = true)
    (hu : u = s.used n x) (he : e = u.eng n) : (.next (s.opE n x ds f) : Out) = .next (u.setEng n (f e)) := by
  subst hu he
  exact congrArg Host.Outcome.next (State.opE_may h f)

/-- Settles O28: what each operation does is the equation of its command. -/
theorem engineMultiplySlotCompletes : Obligations.EngineMultiplySlotCompletes := by
  refine ⟨?mpy, ?mac, ?msu, ?cmpy, ?cmac, ?cmacj, ?clra, ?movda, ?adda, ?suba, ?nega, ?shaLeft, ?shaOver, ?shaRight⟩
  case mpy =>
    intro s u e n sl t v hmay hu he
    exact opE_eq hmay hu he
  case mac =>
    intro s u e n sl t v hmay hu he
    exact opE_eq hmay hu he
  case msu =>
    intro s u e n sl t v hmay hu he
    exact opE_eq hmay hu he
  case cmpy =>
    intro s u e n k x y hmay hu he
    exact opE_eq hmay hu he
  case cmac =>
    intro s u e n k x y hmay hu he
    exact opE_eq hmay hu he
  case cmacj =>
    intro s u e n k x y hmay hu he
    exact opE_eq hmay hu he
  case clra =>
    intro s u e n sl k hmay hu he
    exact opE_eq hmay hu he
  case movda =>
    intro s u e n sl k j hmay hu he
    exact opE_eq hmay hu he
  case adda =>
    intro s u e n sl k j hmay hu he
    exact opE_eq hmay hu he
  case suba =>
    intro s u e n sl k j hmay hu he
    exact opE_eq hmay hu he
  case nega =>
    intro s u e n sl k hmay hu he
    exact opE_eq hmay hu he
  case shaLeft =>
    intro s u e n sl k sh hmay hu he hleft hfits
    refine op_eq hmay hu ?_
    rw [State.sha, if_pos hleft, ← he, if_neg (by simp [hfits])]
  case shaOver =>
    intro s u e n sl k sh hmay hu he hleft hover
    refine op_eq hmay hu ?_
    rw [State.sha, if_pos hleft, ← he, if_pos hover]
  case shaRight =>
    intro s u e n sl k sh m x hmay hu he hright hm hx
    refine op_eq hmay hu ?_
    simp only [State.sha, if_neg hright, ← he, ← hm, ← hx]

/-- Settles O29: what each operation does is the equation of its command. -/
theorem engineControlArithmeticCompletes : Obligations.EngineControlArithmeticCompletes := by
  refine ⟨?mva, ?addOp, ?adds, ?subOp, ?cmp, ?andOp, ?orOp, ?xorOp, ?shlInside, ?shlBeyond, ?shrInside, ?shrBeyond, ?normOp,
    ?movOp, ?movi, ?movp, ?setb, ?setl, ?setm, ?setcc, ?setwin⟩
  case mva =>
    intro s u e n j k hmay hu he
    exact opE_eq hmay hu he
  case addOp =>
    intro s u e n j a b hmay hu he
    exact opE_eq hmay hu he
  case adds =>
    intro s u e n j a b hmay hu he
    exact opE_eq hmay hu he
  case subOp =>
    intro s u e n j a b hmay hu he
    exact opE_eq hmay hu he
  case cmp =>
    intro s u e n a b hmay hu he
    exact opE_eq hmay hu he
  case andOp =>
    intro s u e n j a b hmay hu he
    exact opE_eq hmay hu he
  case orOp =>
    intro s u e n j a b hmay hu he
    exact opE_eq hmay hu he
  case xorOp =>
    intro s u e n j a b hmay hu he
    exact opE_eq hmay hu he
  case shlInside =>
    intro s u e n j a k hmay hu he hinside
    exact (opE_eq hmay hu he).trans (by simp only [if_pos hinside])
  case shlBeyond =>
    intro s u e n j a k hmay hu he hbeyond
    exact (opE_eq hmay hu he).trans (by simp only [if_neg hbeyond])
  case shrInside =>
    intro s u e n j a k hmay hu he hinside
    exact (opE_eq hmay hu he).trans (by simp only [if_pos hinside])
  case shrBeyond =>
    intro s u e n j a k hmay hu he hbeyond
    exact (opE_eq hmay hu he).trans (by simp only [if_neg hbeyond])
  case normOp =>
    intro s u e n j k hmay hu he
    exact opE_eq hmay hu he
  case movOp =>
    intro s u e n j a hmay hu he
    exact opE_eq hmay hu he
  case movi =>
    intro s u e n j v hmay hu he
    exact opE_eq hmay hu he
  case movp =>
    intro s u e n k v hmay hu he
    exact opE_eq hmay hu he
  case setb =>
    intro s u e n k v hmay hu he
    exact opE_eq hmay hu he
  case setl =>
    intro s u e n k v hmay hu he
    exact opE_eq hmay hu he
  case setm =>
    intro s u e n k v hmay hu he
    exact opE_eq hmay hu he
  case setcc =>
    intro s u e n v hmay hu he
    exact opE_eq hmay hu he
  case setwin =>
    intro s u e n w v hmay hu he
    exact opE_eq hmay hu he

end Sys2Proof.Machine

/-! ## Operations of the engines on their flow of control and on memory (O30, O31) -/

namespace Sys2Proof.Machine

/-- A branch that the decoding of its bundle announced answers what it does to its engine. -/
theorem branchOp_eq {s u : State} {e g : Engine} {n : Nat} {ds : List Nat} {f : Engine → Engine} (h : s.mayOp n .long ds = true)
    (hslots : bit (s.eng n).slots 4 = true) (hu : u = s.used n .long) (he : e = u.eng n) (hg : f e = g) :
    (.next (s.branchOp n ds f) : Out) = .next (u.setEng n g) := by
  subst hu he hg
  exact congrArg Host.Outcome.next (State.branchOp_may h hslots f)

/-- FENCE, and CKPT and JOBEND in the main set, ask for their drain (R311, R316). -/
theorem State.drainOp_of_allowed {u : State} {e : Engine} {n : Nat} {w : Stall} {inMain : Bool} (he : e = u.eng n)
    (hmain : (inMain && e.set_ != 0) = false) : u.drainOp n w inMain = u.setEng n { e with sync := w } := by
  subst he
  simp only [State.drainOp, hmain, Bool.false_eq_true, if_false]

/-- Settles O30, operation by operation. -/
theorem engineControlFlowCompletes : Obligations.EngineControlFlowCompletes := by
  refine ⟨?br, ?brcc, ?call, ?retOp, ?loopOp, ?reti, ?sig, ?claimOp, ?complete, ?fence, ?ckpt, ?jobend⟩
  case br =>
    intro s u e n t hmay hslots hu he
    exact branchOp_eq hmay hslots hu he (by simp [Engine.branchTo, Nat.mod_eq_of_lt t.isLt])
  case brcc =>
    intro s u e n c want t hmay hslots hu he
    exact branchOp_eq hmay hslots hu he (by simp [Engine.branchTo, Nat.mod_eq_of_lt t.isLt])
  case call =>
    intro s u e n t hmay hslots hu he
    exact branchOp_eq hmay hslots hu he (by simp [Engine.branchTo, Nat.mod_eq_of_lt t.isLt])
  case retOp =>
    intro s u e n hmay hslots hu he
    exact branchOp_eq hmay hslots hu he (by simp [Engine.branchTo])
  case loopOp =>
    intro s u e n k hk hmay hu he hke hfree
    refine op_eq (hk ▸ hmay) hu ?_
    simp only [State.loopOp, ← he, ← hke, hfree, Bool.false_eq_true, if_false]
  case reti =>
    intro s u e g n hmay hu he hset hg
    refine op_eq hmay hu ?_
    simp only [State.retiOp, ← he, if_neg hset, ← hg]
  case sig =>
    intro s n hmay
    exact op_eq hmay rfl rfl
  case claimOp =>
    intro s u t n j hmay hu ht
    refine op_eq hmay hu ?_
    simp only [← ht]
  case complete =>
    intro s u n j hmay hu
    exact op_eq hmay hu rfl
  case fence =>
    intro s u e n hmay hu he
    exact op_eq hmay hu (State.drainOp_of_allowed he rfl)
  case ckpt =>
    intro s u e n step hmay hu he hmain
    exact op_eq hmay hu (State.drainOp_of_allowed he hmain)
  case jobend =>
    intro s u e n hmay hu he hmain
    exact op_eq hmay hu (State.drainOp_of_allowed he hmain)

/-- Aligned accesses of one load: local parts are read at once, window parts are waited for (R302). -/
theorem State.load_of_aligned {u v : State} {e : Engine} {n align : Nat} {xs : List (Nat × LoadPart)} {us : List (Addr × Option Nat)}
    (halign : ∀ x ∈ xs, x.1 % align = 0) (he : e = u.eng n) (hv : v = u.setEng n (us.foldl (fun e u => e.upd u.1 u.2) e)) :
    u.load n align xs us =
      if (xs.filter (fun x => windowed x.1)).map (·.2) = [] then
        (xs.filter (fun x => !windowed x.1)).foldl (fun s x => s.loadLocal n x.2) (v.bankStall n xs)
      else
        ((xs.filter (fun x => !windowed x.1)).foldl (fun s x => s.loadLocal n x.2) (v.bankStall n xs)).setEng n
          { ((xs.filter (fun x => !windowed x.1)).foldl (fun s x => s.loadLocal n x.2) (v.bankStall n xs)).eng n with
            stall := .load ((xs.filter (fun x => windowed x.1)).map (·.2)), stallAt := u.elapsed } := by
  have hnone : xs.find? (fun x => x.1 % align != 0) = none := by
    rw [List.find?_eq_none]
    intro x hx
    simp [halign x hx]
  subst he hv
  rw [State.load, hnone]

section
variable {s u v : State} {e : Engine} {n size align form : Nat} {regs : List Nat} {a : Addr} {x : Nat × Option Nat} {y : LoadPart}

/-- A load of an aligned local address queues its values. -/
theorem loadOp_local (hmay : s.mayOp n .ls (regs ++ addrDest a) = true) (hu : u = s.used n .ls) (he : e = u.eng n)
    (hx : x = e.address a size) (hv : v = u.setEng n (e.upd a x.2))
    (hy : y = { addr := e.fabricAddr n x.1, size := size, form := form, regs := regs }) (halign : x.1 % align = 0)
    (hlocal : windowed x.1 = false) : (.next (s.loadOp n a size align form regs) : Out) = .next (v.loadLocal n y) := by
  refine op_eq hmay hu ?_
  simp only [← he, ← hx, ← hy]
  rw [State.load_of_aligned (xs := [(x.1, y)]) (us := [(a, x.2)]) (by simpa using halign) he hv]
  simp [hlocal, State.bankStall]

/-- A load of an aligned window address waits for its data. -/
theorem loadOp_window (hmay : s.mayOp n .ls (regs ++ addrDest a) = true) (hu : u = s.used n .ls) (he : e = u.eng n)
    (hx : x = e.address a size) (hv : v = u.setEng n (e.upd a x.2))
    (hy : y = { addr := e.fabricAddr n x.1, size := size, form := form, regs := regs }) (halign : x.1 % align = 0)
    (hwindow : windowed x.1 = true) : (.next (s.loadOp n a size align form regs) : Out) =
      .next (v.setEng n { v.eng n with stall := .load [y], stallAt := u.elapsed }) := by
  refine op_eq hmay hu ?_
  simp only [← he, ← hx, ← hy]
  rw [State.load_of_aligned (xs := [(x.1, y)]) (us := [(a, x.2)]) (by simpa using halign) he hv]
  simp [hwindow, State.bankStall]

/-- A store to an aligned address joins the write buffer. -/
theorem storeOp_eq {g : Engine} {f : Engine → List Byte} {sv : Engine → Option Nat} {bs d : List Byte}
    (hmay : s.mayOp n .ls (addrDest a) = true) (hu : u = s.used n .ls) (he : e = u.eng n) (hx : x = e.address a size)
    (halign : x.1 % align = 0) (hbs : bs = f e) (hd : d = if windowed x.1 then bs else bs.take (0x80000 - x.1))
    (hg : g = (e.upd a x.2).pushStore { addr := e.fabricAddr n x.1, bytes := d, window := windowed x.1 }) :
    (.next (s.storeOp n a size align f sv) : Out) =
      .next (u.setEng n (if (sv e).isSome then g.result rNone 0 1 (sv e) else g)) := by
  refine op_eq hmay hu ?_
  simp only [← he, ← hx, halign, ← hbs, ← hd, ← hg, ne_eq, not_true_eq_false, if_false]

end

/-- Settles O31: the loads and the stores go through one equation each. -/
theorem engineMemorySlotCompletes : Obligations.EngineMemorySlotCompletes := by
  refine ⟨?ld, ?ldWindow, ?ldh, ?ldhWindow, ?ld2, ?ld2Window, ?ldk, ?ldkWindow, ?ldp, ?ldpWindow, ?ldxLocal, ?ldxWindow,
    ?ldxFirstWindow, ?ldxSecondWindow, ?st, ?sth, ?st2, ?stk, ?sta⟩
  case ld =>
    intro s u v e n j a x y hmay hu he hx hv hy halign hlocal
    exact loadOp_local hmay hu he hx hv hy halign hlocal
  case ldWindow =>
    intro s u v e n j a x y hmay hu he hx hv hy halign hwindow
    exact loadOp_window hmay hu he hx hv hy halign hwindow
  case ldh =>
    intro s u v e n j a x y hmay hu he hx hv hy halign hlocal
    exact loadOp_local hmay hu he hx hv hy halign hlocal
  case ldhWindow =>
    intro s u v e n j a x y hmay hu he hx hv hy halign hwindow
    exact loadOp_window hmay hu he hx hv hy halign hwindow
  case ld2 =>
    intro s u v e n k a x y hmay hu he hx hv hy halign hlocal
    exact loadOp_local hmay hu he hx hv hy halign hlocal
  case ld2Window =>
    intro s u v e n k a x y hmay hu he hx hv hy halign hwindow
    exact loadOp_window hmay hu he hx hv hy halign hwindow
  case ldk =>
    intro s u v e n k a x y hmay hu he hx hv hy halign hlocal
    exact loadOp_local hmay hu he hx hv hy halign hlocal
  case ldkWindow =>
    intro s u v e n k a x y hmay hu he hx hv hy halign hwindow
    exact loadOp_window hmay hu he hx hv hy halign hwindow
  case ldp =>
    intro s u v e n k a x y hmay hu he hx hv hy halign hlocal
    exact loadOp_local hmay hu he hx hv hy halign hlocal
  case ldpWindow =>
    intro s u v e n k a x y hmay hu he hx hv hy halign hwindow
    exact loadOp_window hmay hu he hx hv hy halign hwindow
  case ldxLocal =>
    intro s u v e n k l a b x y p q hmay hu he hx hy hv hp hq hax hay hlx hly 
    refine op_eq hmay hu ?_
    simp only [← he, ← hx, ← hy, ← hp, ← hq]
    rw [State.load_of_aligned (xs := [(x.1, p), (y.1, q)]) (us := [(a, x.2), (b, y.2)]) (by simp [hax, hay]) he hv]
    simp [hlx, hly, State.bankStall]
  case ldxWindow =>
    intro s u v e n k l a b x y p q hmay hu he hx hy hv hp hq hax hay hwx hwy 
    refine op_eq hmay hu ?_
    simp only [← he, ← hx, ← hy, ← hp, ← hq]
    rw [State.load_of_aligned (xs := [(x.1, p), (y.1, q)]) (us := [(a, x.2), (b, y.2)]) (by simp [hax, hay]) he hv]
    simp [hwx, hwy, State.bankStall]
  case ldxFirstWindow =>
    intro s u v t e n k l a b x y p q hmay hu he hx hy hv hp hq hax hay hwx hly ht
    refine op_eq hmay hu ?_
    simp only [← he, ← hx, ← hy, ← hp, ← hq]
    rw [State.load_of_aligned (xs := [(x.1, p), (y.1, q)]) (us := [(a, x.2), (b, y.2)]) (by simp [hax, hay]) he hv]
    simp [hwx, hly, State.bankStall, ← ht]
  case ldxSecondWindow =>
    intro s u v t e n k l a b x y p q hmay hu he hx hy hv hp hq hax hay hlx hwy ht
    refine op_eq hmay hu ?_
    simp only [← he, ← hx, ← hy, ← hp, ← hq]
    rw [State.load_of_aligned (xs := [(x.1, p), (y.1, q)]) (us := [(a, x.2), (b, y.2)]) (by simp [hax, hay]) he hv]
    simp [hlx, hwy, State.bankStall, ← ht]
  case st =>
    intro s u e g n j a x bs d hmay hu he hx halign hbs hd hg
    exact storeOp_eq hmay hu he hx halign hbs hd hg
  case sth =>
    intro s u e g n j a x bs d hmay hu he hx halign hbs hd hg
    exact storeOp_eq hmay hu he hx halign hbs hd hg
  case st2 =>
    intro s u e g n k a x bs d hmay hu he hx halign hbs hd hg
    exact storeOp_eq hmay hu he hx halign hbs hd hg
  case stk =>
    intro s u e g n k a x bs d hmay hu he hx halign hbs hd hg
    exact storeOp_eq hmay hu he hx halign hbs hd hg
  case sta =>
    intro s u e g n k a x bs d hmay hu he hx halign hbs hd hg
    exact storeOp_eq hmay hu he hx halign hbs hd hg

end Sys2Proof.Machine

/-! ## Events of the engines, caches, DMA channels and event lines (O32 to O36) -/

namespace Sys2Proof.Machine

theorem bit_or29 (x : Nat) : bit (x ||| 2 ^ 29) 29 = true := by
  rw [bit_testBit, Nat.testBit_or, Nat.testBit_two_pow_self, Bool.or_true]

/-- A job due on a running engine with room in its queue joins it (R313, R314). -/
theorem State.jobDue_of_room {s : State} {n : Nat} (j : Job) (hhere : s.absent n = false) (hruns : s.on F.SE_STATUS_FAULTED n = false)
    (hroom : (s.eng n).queue.length < 16) : s.jobDue n j = s.setEng n { s.eng n with queue := (s.eng n).queue ++ [j] } := by
  simp only [State.jobDue, hhere, hruns, Nat.not_le.mpr hroom, Bool.false_eq_true, if_false]

/-- Settles O32, event by event. -/
theorem engineJobEventsComplete : Obligations.EngineJobEventsComplete := by
  refine ⟨?hostJobPost, ?flowJobDue, ?flowJobDueOther, ?jobStart, ?engineAbort, ?engineRestart, ?jobWatchdog, ?resultWriteback,
    ?bundleIssue, ?engineEventEntry, ?drainFence, ?drainCkpt, ?drainJobend, ?drainAbort, ?windowLoadData, ?storeRetire,
    ?storeRetireWindow, ?storeErrorResponse⟩
  case hostJobPost =>
    intro s t n w hreach ht hfree hhere htHere hruns hroom
    refine regCmd_eq hreach ?_
    rw [State.sePostWrite]
    simp only [← ht, bit_or31, hfree, Bool.not_false, Bool.and_self, if_true]
    exact State.jobDue_of_room _ htHere hruns hroom
  case flowJobDue =>
    intro s t f m p j hawake hengine hiq hnext hp hj ht hhere hruns hroom
    refine core_eq hawake ?_
    rw [State.flowJobDue, if_pos hengine, if_pos hiq, hnext]
    simp only [← ht, ← hp, ← hj]
    exact State.jobDue_of_room j hhere hruns hroom
  case flowJobDueOther =>
    intro s t f k m p j hawake hengine hiq hk hm hair hp hj ht hhere hruns hroom
    refine core_eq hawake ?_
    rw [State.flowJobDue, if_pos hengine, if_neg (by simp [hiq])]
    simp only [← hk, ← hm, hair, if_true, ← ht, ← hp, ← hj]
    exact State.jobDue_of_room j hhere hruns hroom
  case jobStart =>
    rintro s e n j js hawake rfl hqueue hengIdle hjobHeld
    exact core_eq hawake (by simp [State.jobStart, hqueue, hengIdle, hjobHeld])
  case engineAbort =>
    intro s t n w hreach ht hjob hruns
    refine regCmd_eq hreach ?_
    rw [State.seCtrlWrite, ← ht, if_pos (bit_or29 _)]
    simp only [State.abortAsk, hjob, hruns]
    rfl
  case engineRestart =>
    intro s t n w hreach hfaulted ht
    refine regCmd_eq hreach ?_
    simp only [State.seStatusWrite, ← ht, bit_or29, hfaulted, Bool.and_self, if_true]
  case jobWatchdog =>
    intro s n f idx frame sym k hawake hjob hlate hruns
    refine core_eq hawake ?_
    simp only [State.jobWatchdog, hjob, if_pos hlate, State.abortAsk, hruns]
    rfl
  case resultWriteback =>
    intro s n hawake hopen_
    exact core_eq hawake (by simp [State.bundleEnd, hopen_])
  case bundleIssue =>
    intro s t u e n b c ir hawake ht he hissue hir hc hu hlegal
    refine core_eq hawake ?_
    simp only [State.bundleIssue, ← ht, ← he, hissue, if_true, State.bundleFetch, ← hir, ← hc, ← hu, hlegal, Bool.false_eq_true,
      if_false]
  case engineEventEntry =>
    intro s t n hawake ht hdue
    refine core_eq hawake ?_
    simp only [State.eventEntry, ← ht, hdue, if_true]
  case drainFence =>
    intro s n hawake hisEmpty hsync
    exact core_eq hawake (by simp [State.drained, hisEmpty, hsync])
  case drainCkpt =>
    intro s n step hawake hisEmpty hsync
    exact core_eq hawake (by simp [State.drained, hisEmpty, hsync])
  case drainJobend =>
    intro s n hawake hisEmpty hsync
    exact core_eq hawake (by simp [State.drained, hisEmpty, hsync])
  case drainAbort =>
    intro s n hawake hisEmpty hsync
    exact core_eq hawake (by simp [State.drained, hisEmpty, hsync])
  case windowLoadData =>
    intro s n ecc xs hawake hstall hfaulted
    exact core_eq hawake (by simp [State.windowData, hstall, hfaulted])
  case storeRetire =>
    intro s n b bs hawake hbuf habsent hwindow
    exact core_eq hawake (by simp [State.storeRetire, hbuf, habsent, hwindow])
  case storeRetireWindow =>
    intro s t u n b bs v c y hawake hbuf hhere hwindow hv ht haccess
    refine core_eq hawake ?_
    simp only [State.storeRetire, hbuf, hhere, hwindow, Bool.false_eq_true, if_false, if_true, ← hv, ← ht, haccess]
  case storeErrorResponse =>
    intro s n a as hawake herrs hfaulted
    exact core_eq hawake (by simp [State.storeError, herrs, hfaulted])

/-- Settles O33, operation by operation. -/
theorem cacheAndFenceCommandsComplete : Obligations.CacheAndFenceCommandsComplete := by
  refine ⟨?dclean, ?dinv, ?dflush, ?dcleanAll, ?dflushAll, ?icinvAll, ?lanternFence⟩
  case dclean =>
    intro s a n hawake
    exact core_eq hawake (by simp [State.lcSet])
  case dinv =>
    intro s a n hawake
    exact core_eq hawake rfl
  case dflush =>
    rintro s u a n hawake rfl
    exact core_eq hawake rfl
  case dcleanAll =>
    intro s hawake
    exact core_eq hawake (by simp [State.cleanIf])
  case dflushAll =>
    rintro s u hawake rfl
    refine core_eq hawake ?_
    simp [State.dflushAll, State.invIf, SMap.drop]
  case icinvAll =>
    intro s hawake
    exact core_eq hawake (by simp [])
  case lanternFence =>
    intro s hawake hlanternBusy
    exact core_eq hawake (by simp [State.lanternFence, hlanternBusy])

/-- Settles O34, command by command. -/
theorem fabricCommandsComplete : Obligations.FabricCommandsComplete := by
  refine ⟨?fabricAccess, ?compatWindowAccess, ?fabricGrant, ?mramRead, ?mramWrite, ?mramPageMove⟩
  case fabricAccess =>
    rintro s n k a len x e p hawake hpermitted habsentAt hcond rfl
    exact core_eq hawake (by simp [State.fabricAccess, hpermitted, habsentAt, hcond])
  case compatWindowAccess =>
    rintro s n k a x p hawake hpermitted habsentAt hcond rfl
    exact core_eq hawake (by simp [State.fabricAccess, hpermitted, habsentAt, hcond])
  case fabricGrant =>
    intro s p r hawake hnextGrant hget hdelayFor
    exact core_eq hawake (by simp [State.fabricGrant, hnextGrant, hget, hdelayFor])
  case mramRead =>
    intro s t e r code v hawake hmramNext hmemRead
    exact core_eq hawake (by simp [State.mramRead, hmramNext, hmemRead])
  case mramWrite =>
    intro s r hawake hmramNext hpageWorn
    exact core_eq hawake (by simp [State.mramWrite, hmramNext, hpageWorn])
  case mramPageMove =>
    rintro s u p q hawake hfab rfl
    exact core_eq hawake (by simp [State.pageMoved, hfab])

theorem bit_or30 (x : Nat) : bit (x ||| 2 ^ 30) 30 = true := by
  rw [bit_testBit, Nat.testBit_or, Nat.testBit_two_pow_self, Bool.or_true]

/-- Settles O35, command by command. -/
theorem dmaCommandsComplete : Obligations.DmaCommandsComplete := by
  refine ⟨?dmaDoorbell, ?dmaStop, ?dmaStopBusy, ?dmaResume, ?dmaDescriptorStart, ?dmaDescriptorEnd, ?dmaError⟩
  case dmaDoorbell =>
    intro s c w hreach hlength
    exact regCmd_eq hreach (by simp [State.doorbellWrite, hlength])
  case dmaStop =>
    intro s c w hreach hcond hcause hdesc
    exact regCmd_eq hreach (by simp [State.chCtrlWrite, hcond, hcause, hdesc, State.chCtrlWrite, State.dmaStop, bit_or31,
      -Nat.reducePow])
  case dmaStopBusy =>
    intro s c w hreach hcond hcause hdesc
    exact regCmd_eq hreach (by simp [State.chCtrlWrite, hcond, hcause, hdesc, State.chCtrlWrite, State.dmaStop, bit_or31,
      -Nat.reducePow])
  case dmaResume =>
    intro s u c w d hreach hgo hstopped hd hu
    refine regCmd_eq hreach ?_
    simp only [State.chCtrlWrite, bit_or30, hgo, if_true, Bool.false_eq_true, if_false, State.dmaResume, if_pos hstopped, ← hd, ←
      hu]
    rfl
  case dmaDescriptorStart =>
    rintro s u c bad a code err ws hawake hdmaNext hdmaReady hdmaWords rfl
    exact core_eq hawake (by simp [State.dmaStart, hdmaNext, hdmaReady, hdmaWords])
  case dmaDescriptorEnd =>
    rintro s t u v c ws hawake hdesc rfl hdmaC hdmaW7 rfl
    exact core_eq hawake (by simp [State.dmaEnd, hdesc, hdmaC, hdmaW7])
  case dmaError =>
    rintro s t c bad ws hawake hdesc rfl hdmaC
    exact core_eq hawake (by simp [State.dmaError, hdesc, hdmaC])

/-- Enabling lines of which none new is asserted sets no pending bit (R353). -/
theorem State.evEnWrite_of_quiet {s u : State} {t wd v : Nat}
    (hu : u = s.writeReg .EVC_EN (if wd = 31 then v % 2 ^ 31 else v) t wd)
    (hquiet : ∀ b < 32, bit (u.f F.EVC_EN_EN t wd) b = true → bit (s.f F.EVC_EN_EN t wd) b = false → u.asserted (32 * wd + b) = false) :
    s.evEnWrite t wd v = u.actAgain t := by
  have hnone : (((idxWhere 32 fun b => bit (u.f F.EVC_EN_EN t wd) b && !bit (s.f F.EVC_EN_EN t wd) b).map fun b => 32 * wd + b).filter
      u.asserted) = [] := by
    rw [List.filter_eq_nil_iff]
    intro l hl
    obtain ⟨b, hb, rfl⟩ := List.mem_map.mp hl
    obtain ⟨hlt, hnew⟩ := List.mem_filter.mp hb
    obtain ⟨hon, hwas⟩ := (Bool.and_eq_true ..).mp hnew
    simp [hquiet b (List.mem_range.mp hlt) hon (by simpa using hwas)]
  subst hu
  simp only [State.evEnWrite, hnone, List.foldl_nil]

/-- Settles O36, command by command. -/
theorem eventCommandsComplete : Obligations.EventCommandsComplete := by
  refine ⟨?eventPulse, ?eventLevelAssert, ?eventLevelDeassert, ?eventEnableWrite, ?eventClaim, ?eventComplete,
    ?eventCompleteAsserted, ?gdisWrite, ?softwareLineSet, ?alertClear⟩
  case eventPulse =>
    intro s l hawake hcond
    exact core_eq hawake (by simp [State.eventPulse, hcond])
  case eventLevelAssert =>
    intro s l hawake hcond
    exact core_eq hawake (by simp [State.eventLevel, hcond])
  case eventLevelDeassert =>
    intro s l hawake hcond
    exact core_eq hawake (by simp [State.eventLevel, hcond])
  case eventEnableWrite =>
    intro s u t wd w hreach hu hquiet
    exact regCmd_eq hreach (State.evEnWrite_of_quiet hu hquiet)
  case eventClaim =>
    intro s l hreach hbestLine
    exact regCmd_eq hreach (by simp [State.claim, State.claimLine, hbestLine])
  case eventComplete =>
    intro s w l hreach hcond hevSvc hasserted
    exact regCmd_eq hreach (by simp [State.complete, hcond, hevSvc, hasserted])
  case eventCompleteAsserted =>
    intro s w l hreach hcond hevSvc hasserted
    exact regCmd_eq hreach (by simp [State.complete, hcond, hevSvc, hasserted])
  case gdisWrite =>
    intro s w hreach
    exact regCmd_eq hreach (by simp [State.gdisWrite])
  case softwareLineSet =>
    intro s w l hreach hcond hcond2 hcond3
    exact regCmd_eq hreach (by simp [State.swSet, hcond, hcond2, hcond3])
  case alertClear =>
    intro s w l hreach hl hfallen
    subst hl
    exact regCmd_eq hreach (if_neg (by rw [hfallen]; decide))

end Sys2Proof.Machine

/-! ## Housekeeping, clocks, supply and power states (O37 to O40) -/

namespace Sys2Proof.Machine

/-- A write of `HKA[k].CTRL` to an enabled converter, by its trigger bits (R369 to R372). -/
theorem State.hkaCtrlWrite_of_on {s u : State} {k v : Nat} (hon : s.on F.HKA_CTRL_EN k = true) (hen : bit v 31 = true)
    (hu : u = s.writeReg .HKA_CTRL v k) :
    s.hkaCtrlWrite k v =
      (let s3 := if bit v 29 && !u.on F.HKA_INJ_ITRIG k then u.hkInjTrig k else u
       let s4 := if bit v 30 then s3.hkCalReq k else s3
       if bit v 28 && s4.f F.HKA_CTRL_TRIG k == 0 then s4.hkRegTrig k else s4) := by
  simp only [State.hkaCtrlWrite, hon, hen, ← hu, if_true]

/-- Settles O37, command by command. -/
theorem housekeepingCommandsComplete : Obligations.HousekeepingCommandsComplete := by
  refine ⟨?hkEnable, ?seqGo, ?injGo, ?calGo, ?hkTriggerTimer, ?hkTriggerTimer2, ?hkInjTriggerTimer, ?conversionComplete,
    ?conversionComplete2, ?injectedComplete, ?injectedComplete2, ?hkCalTimer, ?hkCalEnd, ?hkCalEnd2, ?pwmEdge, ?pwmPeriodEnd,
    ?pwmPeriodEnd2⟩
  case hkEnable =>
    intro s k w u hreach hoff h30 h29 h28 hu
    refine regCmd_eq hreach ?_
    simp only [State.hkaCtrlWrite, ← hu, hoff, bit_force_self, h30, h29, h28, Bool.false_and, Bool.false_eq_true, if_true,
      if_false]
  case seqGo =>
    intro s u k w hreach h31 h30 h29 hon hu htrig hruns hpass hwait
    refine regCmd_eq hreach ?_
    rw [State.hkaCtrlWrite_of_on hon ((bit_force (by decide)).trans h31) hu]
    simp only [bit_force (by decide : 28 ≠ 30), bit_force (by decide : 28 ≠ 29), bit_force_self, h30, h29, Bool.false_and,
      Bool.false_eq_true, if_false, htrig, beq_self_eq_true, Bool.and_self, if_true]
    simp only [State.hkRegTrig, hruns, hpass, hwait, Bool.not_true, Bool.or_self, Bool.false_eq_true, if_false]
  case injGo =>
    intro s u k w hreach h31 h30 h28 hon hu hsw hruns hfree hch
    have hcross : (u.f F.HKA_INJ_ICH k == 31) = false := by simpa using hch
    refine regCmd_eq hreach ?_
    rw [State.hkaCtrlWrite_of_on hon ((bit_force (by decide)).trans h31) hu]
    simp only [bit_force (by decide : 29 ≠ 30), bit_force (by decide : 29 ≠ 28), bit_force_self, h30, h28, hsw, Bool.not_false,
      Bool.and_self, Bool.false_and, Bool.false_eq_true, if_true, if_false]
    simp only [State.hkInjTrig, hruns, hfree, hcross, Bool.not_true, Bool.false_and, Bool.or_self, Bool.false_eq_true, if_false]
  case calGo =>
    intro s u k w hreach h31 h29 h28 hon hu hruns hcal
    refine regCmd_eq hreach ?_
    rw [State.hkaCtrlWrite_of_on hon ((bit_force (by decide)).trans h31) hu]
    simp only [bit_force (by decide : 30 ≠ 29), bit_force (by decide : 30 ≠ 28), bit_force_self, h29, h28, Bool.false_and,
      Bool.false_eq_true, if_true, if_false]
    simp only [State.hkCalReq, hruns, hcal, Bool.not_true, Bool.or_self, Bool.false_eq_true, if_false]
  case hkTriggerTimer =>
    intro s k t hawake hhkOn htrig htimer hel25
    exact core_eq hawake (by simp [State.hkTriggerTimer, hhkOn, htrig, htimer, hel25])
  case hkTriggerTimer2 =>
    intro s k t ts hawake hhkOn htrig hregDelay hel25
    exact core_eq hawake (by simp [State.hkTriggerTimer, hhkOn, htrig, hregDelay, hel25])
  case hkInjTriggerTimer =>
    intro s k t ts hawake hhkOn hinjDelay hel25
    exact core_eq hawake (by simp [State.hkInjTriggerTimer, hhkOn, hinjDelay, hel25])
  case conversionComplete =>
    rintro s u v k c d o hawake hconv hdue hhkOn rfl rfl rfl hentry
    exact core_eq hawake (by simp [State.conversionComplete, hconv, hdue, hhkOn, hentry])
  case conversionComplete2 =>
    rintro s u v k c d o hawake hconv hdue hhkOn rfl rfl rfl hentry
    exact core_eq hawake (by simp [State.conversionComplete, hconv, hdue, hhkOn, hentry])
  case injectedComplete =>
    rintro s k c d x o hawake hinj hdue hhkOn hxchk rfl
    exact core_eq hawake (by simp [State.injectedComplete, hinj, hdue, hhkOn, hxchk])
  case injectedComplete2 =>
    intro s c d x hawake hinj hdue hhkOn hxchk
    exact core_eq hawake (by simp [State.injectedComplete, hinj, hdue, hhkOn, hxchk])
  case hkCalTimer =>
    intro s k t hawake hcalTimer hel25 hms hhkOn
    exact core_eq hawake (by simp [State.hkCalTimer, hcalTimer, hel25, hms, hhkOn])
  case hkCalEnd =>
    intro s k hawake hcal hdue
    exact core_eq hawake (by simp [State.hkCalEnd, hcal, hdue])
  case hkCalEnd2 =>
    intro s k hawake hcal hdue
    exact core_eq hawake (by simp [State.hkCalEnd, hcal, hdue])
  case pwmEdge =>
    rintro s n v hawake hrun rfl hpwmG habsent
    exact core_eq hawake (by simp [State.pwmEdge, hrun, hpwmG, habsent])
  case pwmPeriodEnd =>
    intro s n hawake hrun hperiod habsent hen
    exact core_eq hawake (by simp [State.pwmPeriodEnd, hrun, hperiod, habsent, hen])
  case pwmPeriodEnd2 =>
    intro s n hawake hrun hperiod habsent hen
    exact core_eq hawake (by simp [State.pwmPeriodEnd, hrun, hperiod, habsent, hen])

/-- Settles O38, command by command. -/
theorem clockCommandsComplete : Obligations.ClockCommandsComplete := by
  refine ⟨?pllStart, ?pllLock, ?pllLock2, ?pllLock3, ?pllLock4, ?pllLock5, ?pllLockLoss, ?pllLockLoss2, ?pllLockLoss3,
    ?pllLockLoss4, ?pllLockLoss5, ?syncEdge, ?syncEdge2, ?syncMissed, ?slewStep, ?slewStep2, ?holdover, ?clkoutCfgWrite,
    ?refclkLoss, ?crystalStop⟩
  case pllStart =>
    intro s w hreach
    exact regCmd_eq hreach (by simp [State.writeReg, -Nat.reducePow])
  case pllLock =>
    intro s hawake hen
    exact core_eq hawake (by simp [State.pllLock, hen])
  case pllLock2 =>
    intro s hawake hen
    exact core_eq hawake (by simp [State.pllLock, hen])
  case pllLock3 =>
    intro s hawake hen
    exact core_eq hawake (by simp [State.pllLock, hen])
  case pllLock4 =>
    intro s p hawake hen
    exact core_eq hawake (by simp [State.pllLock, hen])
  case pllLock5 =>
    intro s m hawake hen heffect hrelock
    exact core_eq hawake (by simp [State.pllLock, hen, heffect, hrelock])
  case pllLockLoss =>
    intro s hawake
    exact core_eq hawake (by simp [State.pllLoss])
  case pllLockLoss2 =>
    intro s hawake
    exact core_eq hawake (by simp [State.pllLoss])
  case pllLockLoss3 =>
    intro s hawake
    exact core_eq hawake (by simp [State.pllLoss])
  case pllLockLoss4 =>
    intro s p hawake
    exact core_eq hawake (by simp [State.pllLoss])
  case pllLockLoss5 =>
    intro s m hawake
    exact core_eq hawake (by simp [State.pllLoss])
  case syncEdge =>
    intro s r x hup hquiet hedge hmode hshot
    have hact : (r == s.on F.CLK_SYNC_CFG_EDGE) = false := by simpa using hedge
    refine congrArg Host.Outcome.next ?_
    simp only [State.syncEdge, hact, hup, hmode, hshot, Bool.false_eq_true, if_false]
    exact if_neg (Nat.not_le.mpr hquiet)
  case syncEdge2 =>
    intro s r x hup hedge hmode hshot hquiet
    have hact : (r == s.on F.CLK_SYNC_CFG_EDGE) = false := by simpa using hedge
    refine congrArg Host.Outcome.next ?_
    simp only [State.syncEdge, hact, hup, hmode, hshot, Bool.false_eq_true, if_true, if_false]
    exact if_neg (Nat.not_le.mpr hquiet)
  case syncMissed =>
    rintro s t hawake hmode hphase rfl hwin
    exact core_eq hawake (by simp [State.syncMissed, hmode, hphase, hwin])
  case slewStep =>
    intro s hawake hstepDue hclk
    exact core_eq hawake (by simp [State.slewStep, hstepDue, hclk])
  case slewStep2 =>
    intro s hawake hstepDue hclk
    exact core_eq hawake (by simp [State.slewStep, hstepDue, hclk])
  case holdover =>
    intro s hawake hstate hclk
    exact core_eq hawake (by simp [State.holdover, hstate, hclk])
  case clkoutCfgWrite =>
    rintro s u w hreach rfl hclk
    exact regCmd_eq hreach (by simp [State.clkoutWrite, hclk])
  case refclkLoss =>
    intro s
    rfl
  case crystalStop =>
    intro s
    rfl

/-- Settles O39, command by command. -/
theorem supplyAndWakeCommandsComplete : Obligations.SupplyAndWakeCommandsComplete := by
  refine ⟨?perfLevelRequest, ?avsTargetReached, ?avsTimeout, ?avsBusError, ?avsLoopInterval, ?avsLoopInterval2, ?wakeEvent,
    ?wakeEvent2, ?pwrTimerMatch, ?moderationTimerExpiry, ?rxLpiExit⟩
  case perfLevelRequest =>
    intro s u v w hreach hu hentry hup hidle hsettled hnew hv hnodrive
    refine regCmd_eq hreach ?_
    have hnow : ¬(2 ≤ u.power.entry ∨ u.asleep = true) := by simp [hup, hentry]
    simp only [State.perfWrite, ← hu, if_neg hnow]
    simp only [State.levelStart, hidle, hsettled, Bool.not_true, Bool.or_self, Bool.false_eq_true, if_false, if_neg hnew, ← hv,
      hnodrive]
  case avsTargetReached =>
    intro s u l hawake hl hu
    refine core_eq hawake ?_
    simp only [State.avsReached, hl, ← hu, State.levelEnd]
  case avsTimeout =>
    intro s l hawake hpower helapsed
    exact core_eq hawake (by simp [State.avsTimeout, hpower, helapsed])
  case avsBusError =>
    intro s r hawake hen
    exact core_eq hawake (by simp [State.avsBusError, hen])
  case avsLoopInterval =>
    intro s t u m hawake hloop hidle hready hdue ht hlow hstep
    have hgo : ¬(!s.on F.PWR_AVS_CFG_LOOP_EN || s.on F.PWR_PERF_BUSY || s.power.loopWait || !s.loopDue) = true := by
      simp [hloop, hidle, hready, hdue]
    subst ht
    refine core_eq hawake ((if_neg hgo).trans ((if_pos hlow).trans ?_))
    rw [hstep]
  case avsLoopInterval2 =>
    rintro s t m hawake hen hbusy hpower hloopDue rfl htarget htarget2
    exact core_eq hawake (by simp [State.avsInterval, hen, hbusy, hpower, hloopDue, htarget, htarget2])
  case wakeEvent =>
    intro s n harmed hxtal hasleep hentry hacts hidle
    refine congrArg Host.Outcome.next ?_
    simp only [State.wakeEvent, harmed, hxtal, if_neg (Nat.not_le.mpr hentry), hasleep, hacts, hidle, Bool.not_true,
      Bool.not_false, Bool.or_self, Bool.and_self,
      Bool.false_eq_true, if_true, if_false]
  case wakeEvent2 =>
    intro s n harmed hxtal hentry hacts
    refine congrArg Host.Outcome.next ?_
    simp only [State.wakeEvent, harmed, hxtal, if_pos hentry, hacts, Bool.not_true, Bool.or_self, Bool.false_eq_true, if_true,
      if_false]
  case pwrTimerMatch =>
    intro s hcount hfresh hxtal hup
    have hup' : State.asleep { s with power := { s.power with matched := true } } = false := hup
    refine congrArg Host.Outcome.next ?_
    rw [State.timerMatch, if_pos ⟨hcount, hfresh, hxtal⟩]
    simp only [hup', Bool.false_eq_true, if_false]
  case moderationTimerExpiry =>
    intro s u t hover hup ht hu
    have hother : ¬(t.val = 0 ∧ 2 ≤ s.power.entry) := fun h => ht h.1
    refine congrArg Host.Outcome.next ?_
    rw [State.modExpire, if_pos hover]
    simp only [hup, Bool.false_eq_true, if_false, ← hu, if_neg hother]
  case rxLpiExit =>
    intro s l hready hlpi
    refine congrArg Host.Outcome.next ?_
    simp only [State.rxLpiExit, hready, hlpi, Bool.and_self, if_true]

/-- Settles O40, command by command. -/
theorem powerEntryAndWakeCommandsComplete : Obligations.PowerEntryAndWakeCommandsComplete := by
  refine ⟨?powerModeWrite, ?wfi, ?wfi2, ?dmaQuiesceTimeout, ?linkIdleTimeout, ?busIdleTimeout, ?powerSwitchesOpen, ?wakeComplete,
    ?wakeStepTimeout, ?holdRelease, ?wakeFailAck⟩
  case powerModeWrite =>
    intro s w hreach hdusk hdark
    refine regCmd_eq hreach ?_
    rw [State.modeWrite, if_neg]
    rintro (⟨hm, hnone⟩ | ⟨hm, hnone⟩)
    · exact hdusk.elim (· hm) (· hnone)
    · exact hdark.elim (· hm) (· hnone)
  case wfi =>
    intro s u hawake hidle hbright hfree hmode hu hchecks
    refine core_eq hawake ?_
    have hgo : ¬(s.power.entry ≠ 0 ∨ s.power.st ≠ .bright ∨ s.boot.lanternHeld = true) := by simp [hidle, hbright, hfree]
    have hdeep : s.f F.PWR_MODE_MODE ≠ 0 ∧ s.f F.PWR_MODE_MODE ≠ 1 := by omega
    subst hu
    refine (if_neg hgo).trans ((if_neg hdeep.1).trans ((if_neg hdeep.2).trans ?_))
    rw [hchecks]
    rfl
  case wfi2 =>
    intro s hawake hpower hpower2 hboot hmode hpresented
    exact core_eq hawake (by simp [State.wfiGo, hpower, hpower2, hboot, hmode, hpresented])
  case dmaQuiesceTimeout =>
    rintro s u c hawake rfl hdmaBusy hpower hpower2 hcheckAge
    exact core_eq hawake (by simp [State.dmaTimeout, hdmaBusy, hpower, hpower2, hcheckAge])
  case linkIdleTimeout =>
    rintro s u p hawake rfl hrange hpower hpower2 hcheckAge
    exact core_eq hawake (by simp [State.linkTimeout, hrange, hpower, hpower2, hcheckAge])
  case busIdleTimeout =>
    intro s u b hawake hu hentry hpassed hage
    refine core_eq hawake ?_
    have hdeep : u.power.entry ≠ 1 := by omega
    simp only [State.busTimeout, ← hu, if_neg hdeep, if_pos (And.intro hentry (And.intro hpassed hage))]
  case powerSwitchesOpen =>
    rintro s u hawake rfl hpower hpower2 hfab hfab2
    exact core_eq hawake (by simp [State.switchesOpen, hpower, hpower2, hfab, hfab2])
  case wakeComplete =>
    intro s b hasleep hwaking hxtal hlatch
    refine congrArg Host.Outcome.next ?_
    simp only [State.wakeComplete, hasleep, hwaking, hxtal, decide_eq_true hlatch, Bool.and_self, if_true]
  case wakeStepTimeout =>
    intro s x hasleep hwaking hxtal hlatch htry hlate
    refine congrArg Host.Outcome.next ?_
    simp only [State.wakeStepTimeout, hasleep, hwaking, hxtal, decide_eq_true hlatch, hlate, Bool.and_self, if_true, if_pos htry]
  case holdRelease =>
    intro s w hreach hnoack
    have hack : (bit (w.toNat ||| 2 ^ 30) 31 && s.on F.PWR_WAKE_STATUS_WAKE_FAIL_SEEN) = false := by
      rcases hnoack with h | h <;> simp only [h, Bool.false_and, Bool.and_false]
    refine regCmd_eq hreach ?_
    simp only [State.wakeStatusWrite, hack, bit_or30, Bool.false_eq_true, if_true, if_false]
  case wakeFailAck =>
    intro s u w hreach hseen hrelease hu
    refine regCmd_eq hreach ?_
    simp only [State.wakeStatusWrite, ← hu, hseen, bit_or31, hrelease, Bool.and_self, Bool.false_eq_true, if_true, if_false]

end Sys2Proof.Machine

/-! ## Boot, faults, resets, the service port and the registers (O41 to O43) -/

namespace Sys2Proof.Machine

/-- The ROM runs where neither a reset nor a sleep nor the hold of Lantern stops it (R441). -/
theorem State.bootRun_of_runs {s : State} (sel : Nat) (found : Bool) (flash : FlashPart) (a b : FlashImage) (hup : s.inReset = false)
    (hawake : s.asleep = false) (hrom : s.romRuns = true) (hfree : s.boot.lanternHeld = false) :
    s.bootRun sel found flash a b =
      (let u := s.noteWakeFail.setF F.SYS_BOOT_STATUS_BOOT_SEL sel
       if sel = 3 then ((u.skipNote false).skipNote true).lockDown 2
       else (if sel = 2 then u.skipNote true else u).bootTry (FlashPart.half flash) a b found false (bootOrder sel)) := by
  simp only [State.bootRun, hup, hawake, hrom, hfree, Bool.not_true, Bool.or_self, Bool.false_eq_true, if_false]

/-- With `BOOT_SEL` 0 image A is tried first and image B after it (R442). -/
theorem State.bootRun_zero {s u : State} (found : Bool) (flash : FlashPart) (a b : FlashImage) (hup : s.inReset = false)
    (hawake : s.asleep = false) (hrom : s.romRuns = true) (hfree : s.boot.lanternHeld = false)
    (hu : u = s.noteWakeFail.setF F.SYS_BOOT_STATUS_BOOT_SEL 0) :
    s.bootRun 0 found flash a b = u.bootTry (FlashPart.half flash) a b found false [false, true] := by
  rw [State.bootRun_of_runs 0 found flash a b hup hawake hrom hfree]
  simp only [OfNat.zero_ne_ofNat, if_false, bootOrder, ← hu]

section BootTry
variable {s : State} {half : Nat} {a b : FlashImage} {found fallback k : Bool} {ks : List Bool} {t : Tried}

/-- An image that passes every check is run, and no other is tried (R442). -/
theorem State.bootTry_of_passed (ht : t = s.tryImage (if k then b else a) half found) (hok : t.code = 0) :
    s.bootTry half a b found fallback (k :: ks) = t.s.bootDone k (if k then b else a) fallback := by
  subst ht
  exact if_pos hok

/-- After an image that fails, the next of the order is tried from what the attempt leaves (R445). -/
theorem State.bootTry_of_failed (ht : t = s.tryImage (if k then b else a) half found) (hfail : t.code ≠ 0) :
    s.bootTry half a b found fallback (k :: ks) = ((t.s.failNote k t).undo s).bootTry half a b true true ks := by
  subst ht
  exact if_neg hfail

end BootTry

/-- Settles O41, command by command. -/
theorem bootAndSealCommandsComplete : Obligations.BootAndSealCommandsComplete := by
  refine ⟨?bootSequence, ?bootSequence2, ?reload, ?sealWrite, ?sealForced⟩
  case bootSequence =>
    intro s u v found half a b t r hup hawake hrom hfree hu ht hv hr
    refine congrArg Host.Outcome.next ((State.bootRun_zero found half a b hup hawake hrom hfree hu).trans ?_)
    by_cases hfirst : t.code = 0
    · rw [State.bootTry_of_passed ht hfirst, if_pos hfirst, if_neg Bool.false_ne_true]
    · rw [State.bootTry_of_failed ht hfirst, ← hv, if_neg hfirst]
      by_cases hsecond : r.code = 0
      · rw [State.bootTry_of_passed hr hsecond, if_pos hsecond, if_pos rfl]
      · rw [State.bootTry_of_failed hr hsecond, if_neg hsecond, State.bootTry]
  case bootSequence2 =>
    intro s u found half a b hup hawake hrom hfree hu
    subst hu
    exact congrArg Host.Outcome.next (State.bootRun_of_runs _ found half a b hup hawake hrom hfree)
  case reload =>
    intro s t x c r hheld hawake hup hfree hstate ht hc hr
    have hgo : (s.held && !s.asleep && !s.inReset && !s.boot.lanternHeld && s.f F.SYS_BOOT_STATUS_STATE == 1) = true := by
      simp only [hheld, hawake, hup, hfree, hstate, Bool.not_false, Bool.and_self, beq_self_eq_true]
    refine congrArg Host.Outcome.next ((if_pos hgo).trans ?_)
    simp only [← ht, ← hc, ← hr]
    by_cases h : r.code = 0
    · rw [if_pos h, if_pos h, h]
    · rw [if_neg h, if_neg h]
  case sealWrite =>
    intro s w hreach
    exact regCmd_eq hreach (if_pos (bit_or31 _))
  case sealForced =>
    intro s t hawake hboot helapsed
    exact core_eq hawake (by simp [State.sealForced, hboot, helapsed])

/-- Settles O42, command by command. -/
theorem faultAndResetCommandsComplete : Obligations.FaultAndResetCommandsComplete := by
  refine ⟨?keyFuseProgram, ?fuseProgramDone, ?fuseProgramDone2, ?ledgerAck, ?mailboxDoor, ?ptbEnable, ?ptbDisable, ?bpHoldStart,
    ?bpHoldEnd, ?domainReset, ?domainResetDone, ?domainResetDone2, ?powerOnReset, ?pinReset, ?pinReset2, ?softwareReset⟩
  case keyFuseProgram =>
    intro s u w hreach hok hu
    refine regCmd_eq hreach ?_
    simp only [State.keyFuseWrite, bit_or31, Bool.true_eq_false, if_false, hok, if_true, ← hu]
  case fuseProgramDone =>
    intro s hbusy
    exact congrArg Host.Outcome.next (by simp [State.fuseDone, hbusy])
  case fuseProgramDone2 =>
    intro s hbusy
    exact congrArg Host.Outcome.next (by simp [State.fuseDone, hbusy])
  case ledgerAck =>
    intro s w x hreach hx hseq
    refine regCmd_eq hreach (if_pos ?_)
    exact List.any_eq_true.mpr ⟨x, hx, beq_iff_eq.mpr hseq⟩
  case mailboxDoor =>
    intro s w hreach hlow hhigh
    exact regCmd_eq hreach (if_pos ⟨hlow, hhigh⟩)
  case ptbEnable =>
    intro s u w hreach hkey hoff hu
    refine regCmd_eq hreach ?_
    simp only [State.ptbCtrlWrite, bit_or31, if_true, if_pos (And.intro hkey hoff), ← hu]
  case ptbDisable =>
    intro s w hreach
    exact regCmd_eq hreach (if_neg (by rw [bit_mod31]; decide))
  case bpHoldStart =>
    intro s b hawake hbpOn hbpPeriod hhold hget
    exact core_eq hawake (by simp [State.bpStart, hbpOn, hbpPeriod, hhold, hget])
  case bpHoldEnd =>
    rintro s u b hawake hbpOver rfl
    exact core_eq hawake (by simp [State.bpEnd, hbpOver])
  case domainReset =>
    intro s u v w n d hreach hu hd hentry hdomain hhere hv
    refine regCmd_eq hreach ?_
    simp only [State.domResetWrite, ← hu, ← hd, bit_or31, Bool.not_true, Bool.false_eq_true, if_false, if_neg (Nat.not_le.mpr
      hentry)]
    have hgo : ¬(20 < d ∨ u.absent d = true) := by simp [hhere, hdomain]
    simp only [State.domainGo, if_neg hgo, ← hv]
  case domainResetDone =>
    rintro s u d hawake habsent rfl hcond hcond2
    exact core_eq hawake (by simp [State.domainDone, habsent, hcond, hcond2])
  case domainResetDone2 =>
    rintro s u hawake habsent rfl
    exact core_eq hawake (by simp [State.domainDone, habsent])
  case powerOnReset =>
    intro s r
    exact congrArg Host.Outcome.next (by simp [State.powerOn])
  case pinReset =>
    intro s hboot
    exact congrArg Host.Outcome.next (by simp [State.pinReset, hboot])
  case pinReset2 =>
    intro s
    exact congrArg Host.Outcome.next (by simp [State.pinReset])
  case softwareReset =>
    intro s w hreach hkey hgo hfree
    have hask : s.resetAsk w.toNat = { s with boot := { s.boot with resetAt := some (s.elapsed, reasonOf w.toNat) } } :=
      if_pos ⟨hkey, hgo, hfree⟩
    rw [exec, execSoftwareReset, hask, State.regCmd_reach hreach]
    rfl

/-- The service port takes a command where none is under way and the device is out of reset (R476). -/
theorem State.svcIdle_of_none {s : State} (hop : s.svc.op = none) (hup : s.inReset = false) : s.svcIdle = true := by
  simp only [State.svcIdle, hop, hup, Option.isNone_none, Bool.not_false, Bool.and_self]

/-- A read at an address that can be reached answers the value of its register (R9). -/
theorem State.readCmd_reach {s : State} {a : Nat} {ok : Bool} (rd : Nat) (h : s.reach a = true) (hok : ok = true) :
    s.readCmd rd a ok = .next ((s.regRead rd a).2.answer rd 0 (s.regRead rd a).1) := by
  simp only [State.reach, Bool.and_eq_true, Bool.not_eq_true'] at h
  obtain ⟨hup, habsent⟩ := h
  simp only [State.readCmd, hup, habsent, hok, Bool.not_true, Bool.or_self, Bool.false_eq_true, if_false]

/-- Settles O43, command by command. -/
theorem serviceAndRegisterCommandsComplete : Obligations.ServiceAndRegisterCommandsComplete := by
  refine ⟨?readReq, ?readData, ?svcWrite, ?svcStatus, ?svcBadCommand, ?svcWordDone, ?jtagAccess, ?extest, ?clamp, ?registerWrite,
    ?readClear, ?lowWordRead, ?holdingRegisterExpire, ?proxyWrite, ?deviceTimeTick⟩
  case readReq =>
    intro s a n hop hup
    exact congrArg Host.Outcome.next (if_pos (State.svcIdle_of_none hop hup))
  case readData =>
    intro s hop hup
    exact congrArg Host.Outcome.next (if_pos (State.svcIdle_of_none hop hup))
  case svcWrite =>
    intro s a ws hop hup hws
    refine congrArg Host.Outcome.next ?_
    simp only [State.svcWrite, State.svcIdle_of_none hop hup, List.isEmpty_eq_false_iff.mpr (mt List.map_eq_nil_iff.mp hws),
      Bool.not_false,
      Bool.and_self, if_true, List.length_map]
  case svcStatus =>
    intro s hup
    exact congrArg Host.Outcome.next (if_neg (by simp [hup]))
  case svcBadCommand =>
    intro s hop hup
    exact congrArg Host.Outcome.next (if_pos (State.svcIdle_of_none hop hup))
  case svcWordDone =>
    intro s t e o code v hup hop haccess
    refine congrArg Host.Outcome.next ?_
    rw [hup]
    simp only [Bool.false_eq_true, if_false, State.svcWord, hop, haccess]
  case jtagAccess =>
    intro s t wr a w e code v hup haccess
    refine congrArg Host.Outcome.next ?_
    rw [hup]
    simp only [Bool.false_eq_true, if_false, State.jtag, haccess]
  case extest =>
    intro s hstate
    exact congrArg Host.Outcome.next (by simp [State.scanOp, hstate])
  case clamp =>
    intro s hstate
    exact congrArg Host.Outcome.next (by simp [State.scanOp, hstate])
  case registerWrite =>
    intro s n a w hreach
    exact regCmd_eq hreach rfl
  case readClear =>
    intro s r a hreach hrc
    exact State.readCmd_reach _ hreach hrc
  case lowWordRead =>
    intro s r a hreach hlow
    exact State.readCmd_reach _ hreach hlow
  case holdingRegisterExpire =>
    intro s r h hholding helapsed
    exact congrArg Host.Outcome.next (by simp [State.holdExpire, hholding, helapsed])
  case proxyWrite =>
    intro s n w hreach hwrite
    exact regCmd_eq hreach (by simp [State.proxyWrite, hwrite])
  case deviceTimeTick =>
    intro s u x hu
    subst hu
    rfl

end Sys2Proof.Machine
